-- ==== Sys2Proof/Word.lean ====
section
/-! DEFINITION. The word types of the CP8425: bytes, the 32-bit words of the host port and the registers, and the
64-bit words of its memories (R8, R44, R419). -/

namespace Sys2Proof

/-- One byte of a memory record (R8). -/
abbrev Byte := BitVec 8

/-- A register or a word of the host port. -/
abbrev Word := BitVec 32

/-- The data of one ECC word (R419). -/
abbrev DWord := BitVec 64

/-- A channel number, 0 to 7 (R17). -/
abbrev Ch := Fin 8

end Sys2Proof
end

