-- ==== Sys2Proof/Syntax.lean ====
section
/-! DEFINITION. The commands of the CP8425: one constructor per row of spec/opcode_table.json.  Operands name what a
command acts on (channel, host lane, mailbox, register) and, for an event, what the part measured or received. -/

namespace Sys2Proof

/-- The primary and the secondary host port (R34, R36). -/
inductive Port where
  | primary | secondary
deriving DecidableEq, Repr

/-- Whom a transaction addresses: a port and, on an I2C port, the 7-bit address that follows START (R35, R41; an SPI port has
none and ignores it). -/
structure PortCall where
  port : Port
  i2c : BitVec 7
deriving DecidableEq, Repr

/-- Where a transaction ended (R42): whole, or inside its command byte, its address or a data word. -/
inductive Framing where
  | whole | inCommand | inAddress | inWord
deriving DecidableEq, Repr

/-- A mailbox (R114). -/
inductive Box where
  | h2m (k : Fin 4) | m2h (k : Fin 4)
  | m2w (n : Ch) (j : Fin 2) | w2m (n : Ch) (j : Fin 2)
deriving DecidableEq, Repr

/-- Why a processor traps (R112). -/
inductive TrapCause where
  | illegal | busError | uncorrectable
deriving DecidableEq, Repr

/-- The rails whose loss raises RAIL_FAULT (R79). -/
inductive Rail where
  | vdda | vddh | vddo
deriving DecidableEq, Repr

/-- The scope of a command that a channel page and a device page share: a channel's memories or the device's. -/
inductive Scope where
  | ch (n : Ch) | dev
deriving DecidableEq, Repr

/-- The coefficient a training request selects: one of the standard five, c(-3) to c(1), or a reserved select value,
which EXT.SEL_CODE may give to c(2) (R143, R147). -/
inductive CoefSel where
  | std (i : Fin 5) | code (c : BitVec 3)
deriving DecidableEq, Repr

/-- A training request as the responder receives it (R144). -/
inductive TrainReq where
  | hold
  | step (sel : CoefSel) (up : Bool)
  | preset (p : Fin 3)
deriving DecidableEq, Repr

/-- A training frame of the far end: its request, and whether its status says that its receiver is ready (R143). -/
structure TrainFrame where
  req : TrainReq
  farReady : Bool
deriving DecidableEq, Repr

/-- A fall of a host lane's signal: the lane, and whether it lasts 2 µs (R142). -/
structure SigFall where
  l : Fin 2
  long : Bool
deriving DecidableEq, Repr

/-- The parity checker that failed: its channel and its code in INJECT.TARGET (R175, R224, R251, R323, R342); of a host lane, the
lane and the code (R155). -/
structure Checker (k : Nat) where
  n : Ch
  code : Fin k
deriving DecidableEq, Repr
structure LaneChecker where
  l : Fin 2
  code : Fin 3
deriving DecidableEq, Repr

/-- The line's amplitude in mV (R203), and for how many µs it has been so. -/
structure LineLevel where
  n : Ch
  mv : Nat
deriving DecidableEq, Repr
structure LineLoss where
  n : Ch
  mv : Nat
  us : Nat
deriving DecidableEq, Repr

/-- The RMS and the mean of the phase error in a window (R235). -/
structure PhaseErr where
  rms : Nat
  mean : Int
deriving DecidableEq, Repr

/-- An update of a host lane's equalisers (R141): the signs for its 24 FFE taps and its DFE tap, and where a Dresser step on
one of the lane's sub-converter trims is near, the words from that step to the update, negative before it. -/
structure HostLms where
  signs : List Int
  dress : Option Int
deriving DecidableEq, Repr

/-- Why a lane leaves DATA (R151). -/
inductive LockCause where
  | signal | cdr | marker
deriving DecidableEq, Repr

/-- What a marker hunter sees in one period (R158, R161): the bit offset at which the best marker stands, how many bits
of its fixed bytes differ from the standard's, the FEC lane set it names (1 the set of HL2n or the single set of the
rate, 2 the set of HL2n+1, any other number no such set), and in P the skew of the lanes in UI, negative when HL2n+1
is the later. -/
structure Marker where
  offset : Nat
  badBits : Nat
  lanes : Nat
  skew : Int
deriving DecidableEq, Repr

/-- A codeword as a side's decoder meets it (R167): its 544 symbols as received, and the codeword that a successful decode
comes to. -/
structure Codeword where
  rx : List Nat
  code : List Nat
deriving DecidableEq, Repr

/-- What the converters deliver in an ADC cycle (R200, R219): the active bank (0 A, 1 B) and the samples of both banks, by
sub-converter. -/
structure AdcWord where
  bank : Nat
  a : List Byte
  b : List Byte
deriving DecidableEq, Repr

/-- The record of an ended capture (R219 to R222): the word that holds its oldest sample, its samples where the end was
not the planned one, the capture index at which each epoch kept starts (0 or less before the oldest sample), and the ADC
words from the first stored one on, oldest first. -/
structure CapRecord where
  start : Nat
  count : Nat
  starts : List Int
  words : List AdcWord
deriving DecidableEq, Repr

/-- The measurements of an equaliser window of 2^20 symbols (R243, R248): the symbols decided at each level, the
transitions, the variance of y at each level in 2^-32 of the square of half the level spacing, the level means in 1/256
outer level, and the stages that saturated (SAT_FLAGS bits [1:0] and [5:4]). -/
structure EqWindow where
  occ : List Nat
  trans : Nat
  vars : List Nat
  means : List Int
  sat : BitVec 6
deriving DecidableEq, Repr

/-- The symbols of a codeword: 544 of 10 bits. -/
def symbolsOk (l : List Nat) : Bool := l.length == 544 && l.all fun v => decide (v < 1024)

/-- One block as EQ hands it to the Bolter (R239, R255): the equalised value of the symbol before it, and the 64
decisions and equalised values of its symbols, in units of 1/32 of the outer level. -/
structure SoftBlock where
  prev : Int
  gray : List (Fin 4)
  values : List Int
deriving DecidableEq, Repr

/-- A block, and the place of its first message bit in the line side's codeword (R167). -/
structure PlacedBlock where
  block : SoftBlock
  pos : Nat
deriving DecidableEq, Repr

/-- A word that failed in a march slice and the 72 bits its last write left: data and syndrome (R435). -/
structure MarchFail where
  word : Nat
  data : Nat
  syn : BitVec 8
deriving DecidableEq, Repr

/-- The engine of a memory page whose control shows a parity error: the march engine with the word in progress and
whether it holds its complement (R439, R537). -/
inductive MemEngine where
  | scrubber
  | march (word : Nat) (complemented : Bool)
  | writeBack
deriving DecidableEq, Repr

/-- The engine's INJECT.TARGET code (R439). -/
def MemEngine.target : MemEngine → Nat
  | .scrubber => 0
  | .march _ _ => 1
  | .writeBack => 2

/-- How far a trim step goes in one command (R276): only to its announcement or decision, after which it is in flight, or
to its effect. -/
inductive StepPart where
  | announced | carriedOut
deriving DecidableEq, Repr

/-- A Dresser estimate (R279): a trim index and the change its trim needs, in quarter-codes. -/
structure TrimError where
  index : Nat
  quarters : Int
deriving DecidableEq, Repr

/-- A Millrace payload block as decoded (R306, R307): the payload bytes and the four CRC bytes, the time since the first
sync chirp began at the balls in 1/65,536 ns, the RSSI in 1/4 dB and the far clock's offset in 1/16 ppm. -/
structure MrPayload where
  bytes : List Byte
  back : Nat
  rssi : Int
  ppm : Int
deriving DecidableEq, Repr

/-- The Millrace word that shows a parity error (R323): a word of queue entry `k`, of a slot (0 ECHO_RSP, 1 BEACON,
2 ECHO_REQ) or of FIFO entry `k`. -/
inductive MrWord where
  | queue (k : Nat) | slot (k : Fin 3) | fifo (k : Nat)
deriving DecidableEq, Repr

/-- The relay word that shows a parity error (R323): a table entry or an entry of the duplicate cache. -/
inductive RelayWord where
  | table (e : Fin 64) | cache (k : Nat)
deriving DecidableEq, Repr

/-- A frame as Tally receives it (R364 to R366): its bytes from the destination address to the last byte of the FCS, whether
the copy stopped before its terminate block, for an errored frame the byte positions in error, and how many words of each
row a sweep in progress has cleared when the frame ends (R371). -/
structure TallyFrame where
  bytes : List Byte
  truncated : Bool
  errors : Option (List Nat)
  swept : Nat
deriving DecidableEq, Repr

/-- Where a firmware command that takes time stands (R128): begun, or finished, after a time in ms where the answer states
one. -/
inductive FwPart where
  | start
  | finish (ms : Nat)
deriving DecidableEq, Repr

/-- The commands, in the order of spec/opcode_table.json.  `n` is a channel, `l` a host lane (0 HL2n, 1 HL2n+1), `req` a
requester ID (R70), `x` the scope of a page. -/
inductive Instr where
  | hostRead (call : PortCall) (low : BitVec 6) (addr : BitVec 24) (count : Nat) (framing : Framing) (late : List Nat)
  | hostWrite (call : PortCall) (low : BitVec 6) (addr : BitVec 24) (data : List Word) (framing : Framing)
      (drains : List Nat)
  | statusCommand (call : PortCall) (low : BitVec 6) (framing : Framing)
  | readId (call : PortCall) (low : BitVec 6) (framing : Framing)
  | writeBufferDrain (port : Port)
  | registerWrite (a : Nat) (data : Word) (req : Nat)
  | wsHeldAccept (page : Nat)
  | powerOn (straps : BitVec 4)
  | resetNAssert
  | resetNRelease (straps : BitVec 4)
  | brownout (vddio deep : Bool)
  | railFault (r : Rail)
  | refclkLoss
  | refclkReturn
  | bootStart (ok : Bool)
  | devPllLock (us : Nat)
  | devPllLockRetry
  | devPllUnlock
  | romCheckDone (romOk memOk : Bool)
  | authenticate
  | authComplete
  | firmwareTrialAll
  | trialAll
  | trialAllEnd
  | commit
  | otpProgram
  | blockingEnd (stuck : BitVec 64)
  | blockOverrun
  | swreset (key : Word)
  | softwareReset
  | chReset (n : Ch)
  | chResetComplete (n : Ch)
  | millerReset
  | millerRestart
  | millerWatchdogExpiry (after : Nat)
  | millerTrap (c : TrapCause) (after : Nat)
  | fwReady (lost : Bool)
  | wrightWatchdogExpiry (n : Ch) (after : Nat)
  | wrightTrap (n : Ch) (c : TrapCause) (after : Nat)
  | wrightRestart (n : Ch)
  | wrightImageCopyDone (n : Ch) (image : List DWord)
  | mbxPayloadWrite (b : Box) (i : Fin 16) (data : Word) (req : Nat)
  | mbxRing (b : Box) (req : Nat)
  | mbxTake (b : Box) (req : Nat)
  | mbxAgeTick (b : Box)
  | hostEpochWrite (data : Word)
  | responsePost (k : Fin 4)
  | heldCommandStart (k : Fin 4)
  | m2wAgeTimeout (n : Ch) (j : Fin 2)
  | ping (k : Fin 4)
  | fwInfo (k : Fin 4)
  | chPower (k : Fin 4) (part : FwPart)
  | chBringup (k : Fin 4) (part : FwPart)
  | hostRetrain (k : Fin 4) (part : FwPart)
  | dressPass (k : Fin 4) (part : FwPart)
  | trialCh (k : Fin 4) (part : FwPart)
  | trialStatus (k : Fin 4)
  | mrSend (k : Fin 4)
  | scrub (k : Fin 4) (part : FwPart)
  | memTest (k : Fin 4) (part : FwPart)
  | restartWright (k : Fin 4) (part : FwPart)
  | modeApplyGo (n : Ch)
  | modeDone (n : Ch)
  | chPllLockTimeout (n : Ch)
  | chPllUnlock (n : Ch)
  | holdoverExit (n : Ch)
  | xingSlip (n : Ch) (x : Fin 5) (fill : Nat)
  | hostSigDetect (n : Ch) (l : Fin 2)
  | hostSigFall (n : Ch) (fall : SigFall)
  | cdrLock (n : Ch) (l : Fin 2) (ppm : Int)
  | frameLock (n : Ch) (l : Fin 2) (inverted farAdv : Bool)
  | trainRequestReceived (n : Ch) (l : Fin 2) (frame : TrainFrame)
  | trainMeasurement (n : Ch) (l : Fin 2) (snr clipped : Nat) (taps : List Int) (dfe : Int)
  | trainNoresp (n : Ch) (l : Fin 2)
  | trainDone (n : Ch) (l : Fin 2) (ms : Nat)
  | trainTimeout (n : Ch) (l : Fin 2)
  | autoRetrainRetry (n : Ch) (l : Fin 2)
  | lockLost (n : Ch) (l : Fin 2) (cause : LockCause)
  | retrain (n : Ch) (l : Fin 2)
  | txFirWrite (n : Ch) (l : Fin 2) (hi : Bool) (data : Word)
  | hostGuardWindow (n : Ch) (l : Fin 2) (occ : List Nat) (snr clipped : Nat) (signs : List (List Int))
      (dress : List (Option Int))
  | laneFsmPar (n : Ch) (c : LaneChecker)
  | markerPeriod (n : Ch) (h : Fin 3) (m : Marker)
  | slipGo (n : Ch) (side : Fin 2) (bits : BitVec 4)
  | slipApply (n : Ch)
  | manualSwitch (n : Ch)
  | codewordDecode (n : Ch) (d : Fin 2) (msg parity code : List Nat)
  | serWindowEnd (n : Ch) (d : Fin 2)
  | hfecClrCnt (n : Ch)
  | hfecFsmPar (c : Checker 4)
  | leadEnd (n : Ch)
  | rampUpEnd (n : Ch)
  | rampDownEnd (n : Ch)
  | lagEnd (n : Ch)
  | firApply (n : Ch)
  | nlLoad (n : Ch)
  | nlBankSwitch (n : Ch)
  | nlParity (n : Ch) (path : Fin 256) (i : Fin 64)
  | dacSatWindow (n : Ch) (clipped : Nat)
  | txdisMismatch (n : Ch) (high : Bool)
  | ltxFsmPar (n : Ch)
  | sdRawRise (x : LineLevel)
  | sdRawFall (x : LineLoss)
  | gainMeasurement (n : Ch) (rms t : Nat)
  | gainAcqTimeout (n : Ch)
  | gainReacq (n : Ch)
  | reacqStep (n : Ch) (rms t : Nat)
  | rmsWindow (n : Ch) (rms : Nat)
  | gainModeWrite (n : Ch) (data : Word)
  | tandemWindow (n : Ch) (spur : Nat) (skew : Int)
  | plausWindow (n : Ch) (d : Nat)
  | plausTest (n : Ch)
  | plausTestEnd (n : Ch)
  | swap (n : Ch)
  | waitGuardTimeout (n : Ch)
  | bankSwapSwitch (n : Ch)
  | shadowEnWrite (n : Ch) (on : Bool)
  | capArm (n : Ch)
  | capTrigger (n : Ch) (stored : Nat)
  | capDone (n : Ch) (r : CapRecord)
  | capAbort (n : Ch)
  | clipWindow (n : Ch) (clipped : Nat)
  | lrxClrStats (n : Ch)
  | lrxFsmPar (c : Checker 3)
  | pfApply (n : Ch)
  | phaseErrWindow (n : Ch) (err : PhaseErr) (sat : BitVec 4) (lineIn : Nat)
  | timRange (n : Ch)
  | timReacq (n : Ch)
  | quickEqRefresh (n : Ch)
  | freqUpdate (n : Ch) (ppm : Int) (frac : BitVec 32)
  | deskewCoarseApply (n : Ch)
  | fineSlewStep (n : Ch)
  | timClrStats (n : Ch)
  | timFsmPar (c : Checker 2)
  | lmsUpdate (n : Ch) (ffe dfe levels : List Int)
  | dressNotice (n : Ch)
  | noticeEnd (n : Ch)
  | guardWindowEnd (n : Ch) (w : EqWindow)
  | guardLong (n : Ch)
  | eqRestart (n : Ch)
  | eyeStart (n : Ch)
  | eyePhaseEnd (n : Ch) (hits : List (Fin 256 × Nat))
  | eyeAbort (n : Ch)
  | eqClrStats (n : Ch)
  | eqFsmPar (c : Checker 3)
  | acqWindowEnd (n : Ch) (counts : List Nat)
  | lockWindowEnd (n : Ch) (zeros : Nat)
  | blockDecode (n : Ch) (b : PlacedBlock)
  | berWindowEnd (n : Ch)
  | boltClrCnt (n : Ch)
  | boltFsmPar (n : Ch)
  | dressCmdPass (n : Ch) (req : Nat)
  | dressCmdAbort (n : Ch) (byEn : Bool)
  | firstPassTrigger (n : Ch)
  | measureWindowEnd (n : Ch) (est : List TrimError) (wait : Nat)
  | trimStep (n : Ch) (part : StepPart) (wait : Nat)
  | deferTimeout (n : Ch)
  | dressFsmPar (n : Ch)
  | mrFrameStart (n : Ch)
  | mrFrameEnd (n : Ch)
  | mrTxAbort (n : Ch)
  | txFlush (n : Ch)
  | beaconDue (n : Ch)
  | echo (n : Ch)
  | preambleDetect (n : Ch)
  | syncDetect (n : Ch) (gain : BitVec 7)
  | rxNosync (n : Ch)
  | headerDecoded (n : Ch) (h : List Byte)
  | payloadDecoded (n : Ch) (p : MrPayload)
  | farLost (n : Ch)
  | rxPop (n : Ch)
  | dupExpire (k : Nat)
  | relayEntryWrite (n : Ch) (e : Fin 64) (data : Word)
  | mrFsmPar (c : Checker 2)
  | mrMemPar (n : Ch) (w : MrWord)
  | relayPar (n : Ch) (w : RelayWord)
  | gaugeTrigger (n : Ch)
  | gaugeTimerTrigger (n : Ch) (second : Bool)
  | entryComplete (n : Ch) (va vb : BitVec 16)
  | streamDue (n : Ch) (k : Fin 2)
  | streamResult (n : Ch) (k : Fin 2) (v : BitVec 16)
  | dieTempDue (n : Ch)
  | dieTempResult (n : Ch) (code : BitVec 14)
  | readbackDue (n : Ch) (d : Fin 3)
  | readbackResult (n : Ch) (d : Fin 3) (v : BitVec 16) (moved : Bool)
  | gaugeDiag (n : Ch)
  | diagDone (n : Ch) (v : BitVec 16)
  | gaugeClrStats (n : Ch)
  | gaugeFsmPar (c : Checker 2)
  | dacCfgWrite (n : Ch) (d : Fin 3) (data : Word)
  | dacDataPush (n : Ch) (d : Fin 3) (code : BitVec 16)
  | dacTick (n : Ch) (d : Fin 3)
  | clampPeriodEnd (n : Ch) (d : Fin 3)
  | voutnLost
  | outFsmPar (n : Ch)
  | kilnEnWrite (n : Ch) (on : Bool)
  | kilnTick (n : Ch)
  | kilnSat (n : Ch)
  | integWrite (n : Ch) (hi : Bool) (data : Word)
  | kilnFsmPar (n : Ch)
  | tallyFrame (n : Ch) (f : TallyFrame)
  | epochBoundary (n : Ch)
  | sweepDone (n : Ch)
  | scanPass (n : Ch)
  | spillRdWrite (n : Ch) (rd : BitVec 12)
  | tallyFlush (n : Ch)
  | flushDone (n : Ch)
  | tallySnap (n : Ch)
  | tallyQuery (n : Ch)
  | tallyInit (n : Ch)
  | initDone (n : Ch)
  | tallyClrCnt (n : Ch)
  | tallyFsmPar (n : Ch)
  | selectorWrite (x : Scope) (c : Fin 64) (range : Bool) (data : Word) (req : Nat)
  | counterPreset (x : Scope) (c : Fin 64) (hi : Bool) (data : Word)
  | counterLoRead (x : Scope) (c : Fin 64) (req : Nat)
  | timeNowRead (req : Nat)
  | timeSet
  | timeAdjust
  | ppsEdge (after : Nat)
  | ppsLoss
  | secondRollover
  | ppsOutPulseEnd
  | hopperBoundary (n : Ch)
  | hopperDump (n : Ch)
  | hopperLatch (n : Ch)
  | hopperWriteDone (n : Ch)
  | hopRdIdxWrite (n : Ch) (idx : Byte)
  | hopFsmPar (n : Ch)
  | cntSelPar (x : Scope) (c : Fin 64)
  | timePar
  | scrubGo (x : Scope)
  | scrubStop (x : Scope)
  | scrubPassEnd (x : Scope) (us : Nat)
  | eccWriteback (x : Scope) (k : Nat)
  | leakTick (x : Scope) (i : Fin 7)
  | marchGo (x : Scope)
  | marchSliceEnd (x : Scope) (fails : List MarchFail)
  | marchBudgetEnd (x : Scope)
  | memCtrlPar (x : Scope) (e : MemEngine)
  | faultCollect
  | logEntryWrite
  | faultClear (page : Nat) (data : Word)
  | fltEnWrite (page : Nat) (data : Word)
  | selfFault (x : Scope) (reg : Nat)
  | flogRdIdxWrite (idx : Byte)
  | trialGo (n : Ch)
  | trialSlicesStart (n : Ch)
  | trialSliceEnd (x : Scope) (pass : Bool) (fails : BitVec 7) (ms : Nat)
  | trialBudgetExpiry (x : Scope) (fails : BitVec 7) (ms : Nat)
  | trialRestoreEnd (n : Ch) (us : Nat)
  | devTrialGo (mask : BitVec 3)
  | trialFsmPar (n : Ch)
  | patCfgWrite (n : Ch) (u : Fin 6) (data : Word)
  | checkerLock (n : Ch) (c : Fin 3)
  | checkerLockLost (n : Ch) (c : Fin 3) (bits errs : Nat)
  | gateGo (n : Ch) (c : Fin 3)
  | gateOpen (n : Ch) (c : Fin 3)
  | gateClose (n : Ch) (c : Fin 3) (bits errs : Nat)
  | gateStop (n : Ch) (c : Fin 3)
  | patClr (n : Ch) (c : Fin 3)
  | errInj (n : Ch) (u : Fin 3)
  | patFsmPar (n : Ch)
  | jtagInstruction (i : BitVec 8)
  | trstNAssert
  | chPwrTarget (n : Ch) (target : BitVec 3) (req : Nat)
  | devPwrTarget (target : BitVec 4) (req : Nat)
  | controllerWait (x : Scope)
  | waitTimeout (x : Scope)
  | legComplete (x : Scope) (us waitUs : Nat)
  | chWakeCmd (n : Ch)
  | wakeTimerExpiry (x : Scope)
  | wakeReplay (x : Scope)
  | watchSampleStart (n : Ch)
  | watchSampleResult (n : Ch) (v : BitVec 16)
  | watchSampleEnd (n : Ch)
  | pwrClrStats (x : Scope)
  | pwrFsmPar (n : Ch)
  | pwrSeqPar
  | sensUpdate (complex : Option (BitVec 16))
  | clrPeak
  | capPreFilled (n : Ch)
  | coreOffsetUpdate (n : Ch) (tx rx : Int)
  | cdrPpmUpdate (n : Ch) (l : Fin 2) (ppm : Int)
  | chPllRelock (n : Ch)
  | voutnReturn
  | railReturn (r : Rail)
deriving DecidableEq, Repr

end Sys2Proof
end

