-- ==== Sys2Proof/Config.lean ====
section
/-! DEFINITION. What the spec leaves open: free values without a body, so that no proof can rest on one.  Each is
named in an entry of notes/assumptions. -/

namespace Sys2Proof.Config

/-- A fresh free value: the model draws number `k`, `k + 1`, ... in turn (State.draws); log entry 3. -/
opaque freeValue : Nat → Nat

/-- The nominal trim code that the part's ROM or OTP gives trim point `t` of channel `n` (R274 states no value); log entry 4. -/
opaque trimSeed : Nat → Nat → Int

/-- The die-temperature seed TCAL of channel `n`, held in OTP words 0 to 7 (R328, R100); log entry 4. -/
opaque tempSeed : Nat → Int

/-- OTP word `w` of the words 0 to 7 that manufacture programs (R100 states no layout); log entry 6. -/
opaque otpFactory : Nat → BitVec 32

/-- SHA-256 of a byte string (R90, FIPS 180): the spec names the standard; log entry 5. -/
opaque sha256 : List (BitVec 8) → List (BitVec 8)

/-- Whether an ECDSA P-256 signature verifies (R90, FIPS 186): key, signature, message; log entry 5. -/
opaque ecdsaVerifies : List (BitVec 8) → List (BitVec 8) → List (BitVec 8) → Bool

/-- Whether a sum that lies between two sixteenths of an LSB, given in 1/768 LSB, is kept as the upper one (R184 states no
direction); log entry 3. -/
opaque keepUp : Int → Bool

/-- A transcoded block of 257 bits marked invalid under the error-indication rule of IEEE 802.3 for the RS-FEC sublayer (R169
names the rule without its text); log entry 58. -/
opaque errorBlock : List Bool → List Bool

/-- The greatest magnitude in the number range of an arithmetic stage that R228 lets saturate: of TIM the stages of its SAT_FLAGS
bits, of EQ those of its bits from 16 on.  The spec states none of the ranges; log entry 39. -/
opaque numberLimit : Nat → Nat

/-- Tap `k` of phase `p` of the interpolator's prototype, which R227 keeps in ROM and does not list; log entry 39. -/
opaque interpTap : Nat → Nat → Int

/-- Symbol `k` of the SSPRQ sequence of IEEE 802.3, which R478 names and does not list; log entry 58. -/
opaque ssprq : Nat → Fin 4

end Sys2Proof.Config
end

