-- ==== Sys2Proof/Machine/Fields.lean ====
section
/-! DEFINITION. The register fields of the CP8425, one constant per field of the register tables of spec/
(chapters 01 to 21) and one per whole register: page base, offset, lowest bit and width.  A channel field is named
at channel 0; the accessors of Ops.lean add 0x2_0000 per channel (R60).  DPWR, DMEM, DCNT and DTRIAL are the device
pages DEV.PWR, DEV.MEM, DEV.CNT and DEV.TRIAL. -/

namespace Sys2Proof.Machine

/-- A bit field of a register: the page's base address (of channel 0 for a channel page), the register's offset in
the page, the field's lowest bit and its width. -/
structure Field where
  base : Nat
  off : Nat
  lo : Nat
  w : Nat
deriving DecidableEq, Repr

/-- Bit `i` of a field that the tables give as a bit array. -/
def Field.bit (f : Field) (i : Nat) : Field := { f with lo := f.lo + i, w := 1 }

/-- The same field in another page of the same layout (HLANE1 beside HLANE0, DEV.MEM beside CHn.MEM, ...). -/
def Field.inPage (f : Field) (b : Nat) : Field := { f with base := b }

/-- The whole register a field lies in. -/
def Field.whole (f : Field) : Field := { f with lo := 0, w := 32 }

namespace ID
def PAGE_ID : Field := ⟨0x0, 0, 0, 32⟩
def CTRL : Field := ⟨0x0, 4, 0, 32⟩
def STATUS : Field := ⟨0x0, 8, 0, 32⟩
def IRQ_RAW : Field := ⟨0x0, 0xC, 0, 32⟩
def IRQ_EN : Field := ⟨0x0, 0x10, 0, 32⟩
def IRQ_PEND : Field := ⟨0x0, 0x14, 0, 32⟩
def FLT_RAW : Field := ⟨0x0, 0x18, 0, 32⟩
def FLT_EN : Field := ⟨0x0, 0x1C, 0, 32⟩
def INJECT : Field := ⟨0x0, 0x20, 0, 32⟩
def INJECT_TARGET : Field := ⟨0x0, 0x20, 8, 8⟩
def INJECT_BUS_PAR : Field := ⟨0x0, 0x20, 4, 1⟩
def INJECT_FSM_PAR : Field := ⟨0x0, 0x20, 3, 1⟩
def INJECT_REG_PAR : Field := ⟨0x0, 0x20, 2, 1⟩
def INJECT_UE : Field := ⟨0x0, 0x20, 1, 1⟩
def INJECT_CE : Field := ⟨0x0, 0x20, 0, 1⟩
def BUSY : Field := ⟨0x0, 0x24, 0, 32⟩
def BUSY_TRIAL : Field := ⟨0x0, 0x24, 1, 1⟩
def BUSY_LONG_OP : Field := ⟨0x0, 0x24, 0, 1⟩
def DEVICE : Field := ⟨0x0, 0x40, 0, 32⟩
def DEVICE_PART : Field := ⟨0x0, 0x40, 16, 16⟩
def DEVICE_ORDER : Field := ⟨0x0, 0x40, 8, 8⟩
def REVISION : Field := ⟨0x0, 0x44, 0, 32⟩
def REVISION_MAJOR : Field := ⟨0x0, 0x44, 4, 4⟩
def REVISION_MINOR : Field := ⟨0x0, 0x44, 0, 4⟩
def FUSES : Field := ⟨0x0, 0x48, 0, 32⟩
def FUSES_TANDEM_OK : Field := ⟨0x0, 0x48, 3, 1⟩
def FUSES_MODES : Field := ⟨0x0, 0x48, 0, 3⟩
def UID_LO : Field := ⟨0x0, 0x4C, 0, 32⟩
def UID_HI : Field := ⟨0x0, 0x50, 0, 32⟩
def UID_HI_UID : Field := ⟨0x0, 0x50, 0, 16⟩
def CH_SUM : Field := ⟨0x0, 0x54, 0, 32⟩
def CH_SUM_DEV : Field := ⟨0x0, 0x54, 16, 16⟩
def CH_SUM_CH : Field := ⟨0x0, 0x54, 0, 8⟩
def SUM_EN : Field := ⟨0x0, 0x58, 0, 32⟩
def SUM_EN_DEV : Field := ⟨0x0, 0x58, 16, 16⟩
def SUM_EN_CH : Field := ⟨0x0, 0x58, 0, 8⟩
def PAGE_SUM (i : Nat) : Field := ⟨0x0, (0x5C + 0x4 * i), 0, 32⟩
def PAGE_SUM_PAGE (i : Nat) : Field := ⟨0x0, (0x5C + 0x4 * i), 0, 24⟩
end ID

namespace HOST
def PAGE_ID : Field := ⟨0x1000, 0, 0, 32⟩
def CTRL : Field := ⟨0x1000, 4, 0, 32⟩
def STATUS : Field := ⟨0x1000, 8, 0, 32⟩
def IRQ_RAW : Field := ⟨0x1000, 0xC, 0, 32⟩
def IRQ_OBS_ERR : Field := ⟨0x1000, 0xC, 2, 1⟩
def IRQ_HOST_ERR : Field := ⟨0x1000, 0xC, 1, 1⟩
def IRQ_BUSY_END : Field := ⟨0x1000, 0xC, 0, 1⟩
def IRQ_EN : Field := ⟨0x1000, 0x10, 0, 32⟩
def IRQ_PEND : Field := ⟨0x1000, 0x14, 0, 32⟩
def FLT_RAW : Field := ⟨0x1000, 0x18, 0, 32⟩
def FLT_BLOCK_OVERRUN : Field := ⟨0x1000, 0x18, 0, 1⟩
def FLT_EN : Field := ⟨0x1000, 0x1C, 0, 32⟩
def INJECT : Field := ⟨0x1000, 0x20, 0, 32⟩
def INJECT_TARGET : Field := ⟨0x1000, 0x20, 8, 8⟩
def INJECT_BUS_PAR : Field := ⟨0x1000, 0x20, 4, 1⟩
def INJECT_FSM_PAR : Field := ⟨0x1000, 0x20, 3, 1⟩
def INJECT_REG_PAR : Field := ⟨0x1000, 0x20, 2, 1⟩
def INJECT_UE : Field := ⟨0x1000, 0x20, 1, 1⟩
def INJECT_CE : Field := ⟨0x1000, 0x20, 0, 1⟩
def BUSY : Field := ⟨0x1000, 0x24, 0, 32⟩
def BUSY_TRIAL : Field := ⟨0x1000, 0x24, 1, 1⟩
def BUSY_LONG_OP : Field := ⟨0x1000, 0x24, 0, 1⟩
def STRAPS : Field := ⟨0x1000, 0x40, 0, 32⟩
def STRAPS_HOSTSEL : Field := ⟨0x1000, 0x40, 3, 1⟩
def STRAPS_ADDRSEL : Field := ⟨0x1000, 0x40, 0, 2⟩
def CFG : Field := ⟨0x1000, 0x44, 0, 32⟩
def CFG_OBS_PORT : Field := ⟨0x1000, 0x44, 8, 1⟩
def CFG_DUMMY : Field := ⟨0x1000, 0x44, 0, 2⟩
def ACCESS : Field := ⟨0x1000, 0x48, 0, 32⟩
def ACCESS_OBS_EN : Field := ⟨0x1000, 0x48, 0, 1⟩
def LAST_ERR : Field := ⟨0x1000, 0x4C, 0, 32⟩
def LAST_ERR_COUNT : Field := ⟨0x1000, 0x4C, 24, 8⟩
def LAST_ERR_DETAIL : Field := ⟨0x1000, 0x4C, 16, 8⟩
def LAST_ERR_CMD : Field := ⟨0x1000, 0x4C, 8, 3⟩
def LAST_ERR_CODE : Field := ⟨0x1000, 0x4C, 0, 3⟩
def LAST_ERR_ADDR : Field := ⟨0x1000, 0x50, 0, 32⟩
def LAST_ERR_ADDR_ADDR : Field := ⟨0x1000, 0x50, 0, 24⟩
def LAST_ERR_OBS : Field := ⟨0x1000, 0x54, 0, 32⟩
def LAST_ERR_OBS_COUNT : Field := ⟨0x1000, 0x54, 24, 8⟩
def LAST_ERR_OBS_DETAIL : Field := ⟨0x1000, 0x54, 16, 8⟩
def LAST_ERR_OBS_CMD : Field := ⟨0x1000, 0x54, 8, 3⟩
def LAST_ERR_OBS_CODE : Field := ⟨0x1000, 0x54, 0, 3⟩
def LAST_ERR_ADDR_OBS : Field := ⟨0x1000, 0x58, 0, 32⟩
def LAST_ERR_ADDR_OBS_ADDR : Field := ⟨0x1000, 0x58, 0, 24⟩
def STATUS_WORD : Field := ⟨0x1000, 0x5C, 0, 32⟩
def STATUS_WORD_CMD : Field := ⟨0x1000, 0x5C, 28, 4⟩
def STATUS_WORD_ELAPSED : Field := ⟨0x1000, 0x5C, 16, 12⟩
def STATUS_WORD_DEV_STATE : Field := ⟨0x1000, 0x5C, 8, 4⟩
def STATUS_WORD_STATUS : Field := ⟨0x1000, 0x5C, 0, 8⟩
def TXN_COUNT : Field := ⟨0x1000, 0x60, 0, 32⟩
def ERR_COUNT : Field := ⟨0x1000, 0x64, 0, 32⟩
end HOST

namespace CLK
def PAGE_ID : Field := ⟨0x2000, 0, 0, 32⟩
def CTRL : Field := ⟨0x2000, 4, 0, 32⟩
def STATUS : Field := ⟨0x2000, 8, 0, 32⟩
def STATUS_DEV_PLL_LOCK : Field := ⟨0x2000, 8, 1, 1⟩
def STATUS_REFCLK_OK : Field := ⟨0x2000, 8, 0, 1⟩
def IRQ_RAW : Field := ⟨0x2000, 0xC, 0, 32⟩
def IRQ_DEV_PLL_RELOCK : Field := ⟨0x2000, 0xC, 1, 1⟩
def IRQ_REFCLK_RETURN : Field := ⟨0x2000, 0xC, 0, 1⟩
def IRQ_EN : Field := ⟨0x2000, 0x10, 0, 32⟩
def IRQ_PEND : Field := ⟨0x2000, 0x14, 0, 32⟩
def FLT_RAW : Field := ⟨0x2000, 0x18, 0, 32⟩
def FLT_DEV_PLL_UNLOCK : Field := ⟨0x2000, 0x18, 1, 1⟩
def FLT_REFCLK_LOSS : Field := ⟨0x2000, 0x18, 0, 1⟩
def FLT_EN : Field := ⟨0x2000, 0x1C, 0, 32⟩
def INJECT : Field := ⟨0x2000, 0x20, 0, 32⟩
def INJECT_TARGET : Field := ⟨0x2000, 0x20, 8, 8⟩
def INJECT_BUS_PAR : Field := ⟨0x2000, 0x20, 4, 1⟩
def INJECT_FSM_PAR : Field := ⟨0x2000, 0x20, 3, 1⟩
def INJECT_REG_PAR : Field := ⟨0x2000, 0x20, 2, 1⟩
def INJECT_UE : Field := ⟨0x2000, 0x20, 1, 1⟩
def INJECT_CE : Field := ⟨0x2000, 0x20, 0, 1⟩
def BUSY : Field := ⟨0x2000, 0x24, 0, 32⟩
def BUSY_TRIAL : Field := ⟨0x2000, 0x24, 1, 1⟩
def BUSY_LONG_OP : Field := ⟨0x2000, 0x24, 0, 1⟩
def CH_PLL_SUM : Field := ⟨0x2000, 0x40, 0, 32⟩
def CH_PLL_SUM_LOCK : Field := ⟨0x2000, 0x40, 0, 8⟩
def REF_LOSS_COUNT : Field := ⟨0x2000, 0x44, 0, 32⟩
def REF_LOSS_COUNT_COUNT : Field := ⟨0x2000, 0x44, 0, 16⟩
def DEV_PLL_LOCK_TIME : Field := ⟨0x2000, 0x48, 0, 32⟩
def DEV_PLL_LOCK_TIME_US : Field := ⟨0x2000, 0x48, 0, 16⟩
end CLK

namespace BOOT
def PAGE_ID : Field := ⟨0x3000, 0, 0, 32⟩
def CTRL : Field := ⟨0x3000, 4, 0, 32⟩
def STATUS : Field := ⟨0x3000, 8, 0, 32⟩
def STATUS_STAGE : Field := ⟨0x3000, 8, 12, 4⟩
def STATUS_MILLER_RUN : Field := ⟨0x3000, 8, 8, 1⟩
def STATUS_AUTHENTICATED : Field := ⟨0x3000, 8, 4, 1⟩
def IRQ_RAW : Field := ⟨0x3000, 0xC, 0, 32⟩
def IRQ_HOLDING_ENTERED : Field := ⟨0x3000, 0xC, 4, 1⟩
def IRQ_SWRESET_KEY_BAD : Field := ⟨0x3000, 0xC, 3, 1⟩
def IRQ_STAGE_CHANGE : Field := ⟨0x3000, 0xC, 2, 1⟩
def IRQ_CMD_REFUSED : Field := ⟨0x3000, 0xC, 1, 1⟩
def IRQ_CMD_DONE : Field := ⟨0x3000, 0xC, 0, 1⟩
def IRQ_EN : Field := ⟨0x3000, 0x10, 0, 32⟩
def IRQ_PEND : Field := ⟨0x3000, 0x14, 0, 32⟩
def FLT_RAW : Field := ⟨0x3000, 0x18, 0, 32⟩
def FLT_RAIL_FAULT : Field := ⟨0x3000, 0x18, 0, 1⟩
def FLT_EN : Field := ⟨0x3000, 0x1C, 0, 32⟩
def INJECT : Field := ⟨0x3000, 0x20, 0, 32⟩
def INJECT_TARGET : Field := ⟨0x3000, 0x20, 8, 8⟩
def INJECT_BUS_PAR : Field := ⟨0x3000, 0x20, 4, 1⟩
def INJECT_FSM_PAR : Field := ⟨0x3000, 0x20, 3, 1⟩
def INJECT_REG_PAR : Field := ⟨0x3000, 0x20, 2, 1⟩
def INJECT_UE : Field := ⟨0x3000, 0x20, 1, 1⟩
def INJECT_CE : Field := ⟨0x3000, 0x20, 0, 1⟩
def BUSY : Field := ⟨0x3000, 0x24, 0, 32⟩
def BUSY_TRIAL : Field := ⟨0x3000, 0x24, 1, 1⟩
def BUSY_LONG_OP : Field := ⟨0x3000, 0x24, 0, 1⟩
def CMD : Field := ⟨0x3000, 0x40, 0, 32⟩
def CMD_CODE : Field := ⟨0x3000, 0x40, 0, 4⟩
def CMD_RESULT : Field := ⟨0x3000, 0x44, 0, 32⟩
def CMD_RESULT_CMD : Field := ⟨0x3000, 0x44, 28, 4⟩
def CMD_RESULT_RESULT : Field := ⟨0x3000, 0x44, 16, 8⟩
def CMD_RESULT_MS : Field := ⟨0x3000, 0x44, 0, 16⟩
def HOLD_CAUSE : Field := ⟨0x3000, 0x48, 0, 32⟩
def HOLD_CAUSE_MORE : Field := ⟨0x3000, 0x48, 31, 1⟩
def HOLD_CAUSE_SOURCE : Field := ⟨0x3000, 0x48, 16, 10⟩
def HOLD_CAUSE_CAUSE : Field := ⟨0x3000, 0x48, 0, 8⟩
def RESET_CAUSE : Field := ⟨0x3000, 0x4C, 0, 32⟩
def RESET_CAUSE_BROWNOUT : Field := ⟨0x3000, 0x4C, 3, 1⟩
def RESET_CAUSE_SOFTWARE : Field := ⟨0x3000, 0x4C, 2, 1⟩
def RESET_CAUSE_PIN : Field := ⟨0x3000, 0x4C, 1, 1⟩
def RESET_CAUSE_POWER_ON : Field := ⟨0x3000, 0x4C, 0, 1⟩
def SWRESET : Field := ⟨0x3000, 0x50, 0, 32⟩
def CH_RESET : Field := ⟨0x3000, 0x54, 0, 32⟩
def CH_RESET_CH : Field := ⟨0x3000, 0x54, 0, 8⟩
def MILLER_RESET : Field := ⟨0x3000, 0x58, 0, 32⟩
def MILLER_RESET_GO : Field := ⟨0x3000, 0x58, 0, 1⟩
def LAST_STOP : Field := ⟨0x3000, 0x5C, 0, 32⟩
def LAST_STOP_SOURCE : Field := ⟨0x3000, 0x5C, 16, 10⟩
def LAST_STOP_VALID : Field := ⟨0x3000, 0x5C, 0, 1⟩
def FW_VERSION : Field := ⟨0x3000, 0x60, 0, 32⟩
def SEC : Field := ⟨0x3000, 0x64, 0, 32⟩
def SEC_FLOOR : Field := ⟨0x3000, 0x64, 8, 8⟩
def SEC_IMAGE : Field := ⟨0x3000, 0x64, 0, 8⟩
def AUTH_ATTEMPTS : Field := ⟨0x3000, 0x68, 0, 32⟩
def AUTH_ATTEMPTS_COUNT : Field := ⟨0x3000, 0x68, 0, 8⟩
def MILLER_EPOCH : Field := ⟨0x3000, 0x6C, 0, 32⟩
def RAILS : Field := ⟨0x3000, 0x70, 0, 32⟩
def RAILS_VOUTN_PRESENT : Field := ⟨0x3000, 0x70, 5, 1⟩
def RAILS_OK : Field := ⟨0x3000, 0x70, 0, 5⟩
end BOOT

namespace DPWR
def PAGE_ID : Field := ⟨0x4000, 0, 0, 32⟩
def CTRL : Field := ⟨0x4000, 4, 0, 32⟩
def STATUS : Field := ⟨0x4000, 8, 0, 32⟩
def STATUS_WAKE_LATCHED : Field := ⟨0x4000, 8, 14, 1⟩
def STATUS_PHASE : Field := ⟨0x4000, 8, 8, 3⟩
def STATUS_TARGET_ACTIVE : Field := ⟨0x4000, 8, 4, 4⟩
def STATUS_STATE : Field := ⟨0x4000, 8, 0, 4⟩
def IRQ_RAW : Field := ⟨0x4000, 0xC, 0, 32⟩
def IRQ_BOUNCED : Field := ⟨0x4000, 0xC, 3, 1⟩
def IRQ_WAKE : Field := ⟨0x4000, 0xC, 2, 1⟩
def IRQ_REFUSED : Field := ⟨0x4000, 0xC, 1, 1⟩
def IRQ_DONE : Field := ⟨0x4000, 0xC, 0, 1⟩
def IRQ_EN : Field := ⟨0x4000, 0x10, 0, 32⟩
def IRQ_PEND : Field := ⟨0x4000, 0x14, 0, 32⟩
def FLT_RAW : Field := ⟨0x4000, 0x18, 0, 32⟩
def FLT_PWR_SEQ_PAR : Field := ⟨0x4000, 0x18, 0, 1⟩
def FLT_EN : Field := ⟨0x4000, 0x1C, 0, 32⟩
def INJECT : Field := ⟨0x4000, 0x20, 0, 32⟩
def INJECT_TARGET : Field := ⟨0x4000, 0x20, 8, 8⟩
def INJECT_BUS_PAR : Field := ⟨0x4000, 0x20, 4, 1⟩
def INJECT_FSM_PAR : Field := ⟨0x4000, 0x20, 3, 1⟩
def INJECT_REG_PAR : Field := ⟨0x4000, 0x20, 2, 1⟩
def INJECT_UE : Field := ⟨0x4000, 0x20, 1, 1⟩
def INJECT_CE : Field := ⟨0x4000, 0x20, 0, 1⟩
def BUSY : Field := ⟨0x4000, 0x24, 0, 32⟩
def BUSY_TRIAL : Field := ⟨0x4000, 0x24, 1, 1⟩
def BUSY_LONG_OP : Field := ⟨0x4000, 0x24, 0, 1⟩
def TARGET : Field := ⟨0x4000, 0x40, 0, 32⟩
def TARGET_STATE : Field := ⟨0x4000, 0x40, 0, 4⟩
def CMD : Field := ⟨0x4000, 0x44, 0, 32⟩
def CMD_CLR_STATS : Field := ⟨0x4000, 0x44, 1, 1⟩
def WAKE_EN : Field := ⟨0x4000, 0x48, 0, 32⟩
def WAKE_EN_EN : Field := ⟨0x4000, 0x48, 0, 6⟩
def WAKE_SRC : Field := ⟨0x4000, 0x4C, 0, 32⟩
def WAKE_SRC_SRC : Field := ⟨0x4000, 0x4C, 0, 6⟩
def WAKE_TIMER : Field := ⟨0x4000, 0x50, 0, 32⟩
def WAKE_TIMER_MS : Field := ⟨0x4000, 0x50, 0, 16⟩
def REFUSALS : Field := ⟨0x4000, 0x68, 0, 32⟩
def LAST_REFUSAL : Field := ⟨0x4000, 0x6C, 0, 32⟩
def LAST_REFUSAL_MASK : Field := ⟨0x4000, 0x6C, 16, 16⟩
def LAST_REFUSAL_TARGET : Field := ⟨0x4000, 0x6C, 12, 3⟩
def LAST_REFUSAL_CODE : Field := ⟨0x4000, 0x6C, 0, 4⟩
def ENTRIES : Field := ⟨0x4000, 0x70, 0, 32⟩
def BOUNCES : Field := ⟨0x4000, 0x74, 0, 32⟩
def BOUNCES_COUNT : Field := ⟨0x4000, 0x74, 16, 16⟩
def BOUNCES_LAST_US : Field := ⟨0x4000, 0x74, 0, 16⟩
def TRANSITION_US : Field := ⟨0x4000, 0x78, 0, 32⟩
def REFUSER_COUNT (i : Nat) : Field := ⟨0x4000, (0x80 + 0x4 * i), 0, 32⟩
def REFUSER_COUNT_COUNT (i : Nat) : Field := ⟨0x4000, (0x80 + 0x4 * i), 0, 16⟩
def CH_STATE : Field := ⟨0x4000, 0xC0, 0, 32⟩
def CH_STATE_STATE : Field := ⟨0x4000, 0xC0, 0, 24⟩
end DPWR

namespace MBX
def PAGE_ID : Field := ⟨0x5000, 0, 0, 32⟩
def CTRL : Field := ⟨0x5000, 4, 0, 32⟩
def STATUS : Field := ⟨0x5000, 8, 0, 32⟩
def IRQ_RAW : Field := ⟨0x5000, 0xC, 0, 32⟩
def IRQ_SPURIOUS : Field := ⟨0x5000, 0xC, 8, 4⟩
def IRQ_TAKEN : Field := ⟨0x5000, 0xC, 4, 4⟩
def IRQ_MSG : Field := ⟨0x5000, 0xC, 0, 4⟩
def IRQ_EN : Field := ⟨0x5000, 0x10, 0, 32⟩
def IRQ_PEND : Field := ⟨0x5000, 0x14, 0, 32⟩
def FLT_RAW : Field := ⟨0x5000, 0x18, 0, 32⟩
def FLT_MBX_PARITY : Field := ⟨0x5000, 0x18, 0, 1⟩
def FLT_EN : Field := ⟨0x5000, 0x1C, 0, 32⟩
def INJECT : Field := ⟨0x5000, 0x20, 0, 32⟩
def INJECT_TARGET : Field := ⟨0x5000, 0x20, 8, 8⟩
def INJECT_BUS_PAR : Field := ⟨0x5000, 0x20, 4, 1⟩
def INJECT_FSM_PAR : Field := ⟨0x5000, 0x20, 3, 1⟩
def INJECT_REG_PAR : Field := ⟨0x5000, 0x20, 2, 1⟩
def INJECT_UE : Field := ⟨0x5000, 0x20, 1, 1⟩
def INJECT_CE : Field := ⟨0x5000, 0x20, 0, 1⟩
def BUSY : Field := ⟨0x5000, 0x24, 0, 32⟩
def BUSY_TRIAL : Field := ⟨0x5000, 0x24, 1, 1⟩
def BUSY_LONG_OP : Field := ⟨0x5000, 0x24, 0, 1⟩
def HOST_EPOCH : Field := ⟨0x5000, 0x40, 0, 32⟩
def SUMMARY : Field := ⟨0x5000, 0x44, 0, 32⟩
def SUMMARY_M2H_FULL : Field := ⟨0x5000, 0x44, 4, 4⟩
def SUMMARY_H2M_FULL : Field := ⟨0x5000, 0x44, 0, 4⟩
end MBX

namespace MILLER
def PAGE_ID : Field := ⟨0x6000, 0, 0, 32⟩
def CTRL : Field := ⟨0x6000, 4, 0, 32⟩
def STATUS : Field := ⟨0x6000, 8, 0, 32⟩
def STATUS_CORE : Field := ⟨0x6000, 8, 0, 3⟩
def IRQ_RAW : Field := ⟨0x6000, 0xC, 0, 32⟩
def IRQ_FW_READY : Field := ⟨0x6000, 0xC, 1, 1⟩
def IRQ_RESTART : Field := ⟨0x6000, 0xC, 0, 1⟩
def IRQ_EN : Field := ⟨0x6000, 0x10, 0, 32⟩
def IRQ_PEND : Field := ⟨0x6000, 0x14, 0, 32⟩
def FLT_RAW : Field := ⟨0x6000, 0x18, 0, 32⟩
def FLT_MILLER_RESTART_REPEAT : Field := ⟨0x6000, 0x18, 1, 1⟩
def FLT_MILLER_RESTART : Field := ⟨0x6000, 0x18, 0, 1⟩
def FLT_EN : Field := ⟨0x6000, 0x1C, 0, 32⟩
def INJECT : Field := ⟨0x6000, 0x20, 0, 32⟩
def INJECT_TARGET : Field := ⟨0x6000, 0x20, 8, 8⟩
def INJECT_BUS_PAR : Field := ⟨0x6000, 0x20, 4, 1⟩
def INJECT_FSM_PAR : Field := ⟨0x6000, 0x20, 3, 1⟩
def INJECT_REG_PAR : Field := ⟨0x6000, 0x20, 2, 1⟩
def INJECT_UE : Field := ⟨0x6000, 0x20, 1, 1⟩
def INJECT_CE : Field := ⟨0x6000, 0x20, 0, 1⟩
def BUSY : Field := ⟨0x6000, 0x24, 0, 32⟩
def BUSY_TRIAL : Field := ⟨0x6000, 0x24, 1, 1⟩
def BUSY_LONG_OP : Field := ⟨0x6000, 0x24, 0, 1⟩
def RESTART : Field := ⟨0x6000, 0x40, 0, 32⟩
def RESTART_COUNT : Field := ⟨0x6000, 0x40, 16, 8⟩
def RESTART_CAUSE : Field := ⟨0x6000, 0x40, 0, 8⟩
def HEARTBEAT : Field := ⟨0x6000, 0x44, 0, 32⟩
def FW_STATE : Field := ⟨0x6000, 0x48, 0, 32⟩
def FW_STATE_STATE : Field := ⟨0x6000, 0x48, 0, 8⟩
def WDOG : Field := ⟨0x6000, 0x4C, 0, 32⟩
def WDOG_MS : Field := ⟨0x6000, 0x4C, 0, 16⟩
def INFLIGHT : Field := ⟨0x6000, 0x50, 0, 32⟩
def INFLIGHT_H2M : Field := ⟨0x6000, 0x50, 0, 4⟩
end MILLER

namespace SLUICE
def PAGE_ID : Field := ⟨0x7000, 0, 0, 32⟩
def CTRL : Field := ⟨0x7000, 4, 0, 32⟩
def STATUS : Field := ⟨0x7000, 8, 0, 32⟩
def STATUS_MAX_CLASS : Field := ⟨0x7000, 8, 6, 2⟩
def STATUS_SELF_FAULT : Field := ⟨0x7000, 8, 4, 1⟩
def STATUS_FAULT_PIN : Field := ⟨0x7000, 8, 3, 1⟩
def STATUS_ANY : Field := ⟨0x7000, 8, 1, 1⟩
def STATUS_SHUT : Field := ⟨0x7000, 8, 0, 1⟩
def IRQ_RAW : Field := ⟨0x7000, 0xC, 0, 32⟩
def IRQ_DEVICE_STOP : Field := ⟨0x7000, 0xC, 3, 1⟩
def IRQ_CHANNEL_STOP : Field := ⟨0x7000, 0xC, 2, 1⟩
def IRQ_DEGRADE : Field := ⟨0x7000, 0xC, 1, 1⟩
def IRQ_NOTICE : Field := ⟨0x7000, 0xC, 0, 1⟩
def IRQ_EN : Field := ⟨0x7000, 0x10, 0, 32⟩
def IRQ_PEND : Field := ⟨0x7000, 0x14, 0, 32⟩
def FLT_RAW : Field := ⟨0x7000, 0x18, 0, 32⟩
def FLT_REG_PAR : Field := ⟨0x7000, 0x18, 1, 1⟩
def FLT_BUS_PAR : Field := ⟨0x7000, 0x18, 0, 1⟩
def FLT_EN : Field := ⟨0x7000, 0x1C, 0, 32⟩
def INJECT : Field := ⟨0x7000, 0x20, 0, 32⟩
def INJECT_BUS_PAR : Field := ⟨0x7000, 0x20, 4, 1⟩
def INJECT_FSM_PAR : Field := ⟨0x7000, 0x20, 3, 1⟩
def INJECT_REG_PAR : Field := ⟨0x7000, 0x20, 2, 1⟩
def INJECT_UE : Field := ⟨0x7000, 0x20, 1, 1⟩
def INJECT_CE : Field := ⟨0x7000, 0x20, 0, 1⟩
def BUSY : Field := ⟨0x7000, 0x24, 0, 32⟩
def BUSY_TRIAL : Field := ⟨0x7000, 0x24, 1, 1⟩
def BUSY_LONG_OP : Field := ⟨0x7000, 0x24, 0, 1⟩
def CFG : Field := ⟨0x7000, 0x40, 0, 32⟩
def CFG_FAULT_PIN_MIN : Field := ⟨0x7000, 0x40, 0, 2⟩
def CH_SUM : Field := ⟨0x7000, 0x44, 0, 32⟩
def CH_SUM_DEV : Field := ⟨0x7000, 0x44, 16, 16⟩
def CH_SUM_CH : Field := ⟨0x7000, 0x44, 0, 8⟩
def CH_SAFE : Field := ⟨0x7000, 0x48, 0, 32⟩
def CH_SAFE_SAFE : Field := ⟨0x7000, 0x48, 0, 8⟩
def SELF : Field := ⟨0x7000, 0x4C, 0, 32⟩
def SELF_VALID : Field := ⟨0x7000, 0x4C, 31, 1⟩
def SELF_SOURCE : Field := ⟨0x7000, 0x4C, 16, 10⟩
def SELF_REG : Field := ⟨0x7000, 0x4C, 0, 8⟩
def CLASS_COUNT0 : Field := ⟨0x7000, 0x50, 0, 32⟩
def CLASS_COUNT0_DEGRADE : Field := ⟨0x7000, 0x50, 16, 16⟩
def CLASS_COUNT0_NOTICE : Field := ⟨0x7000, 0x50, 0, 16⟩
def CLASS_COUNT1 : Field := ⟨0x7000, 0x54, 0, 32⟩
def CLASS_COUNT1_DEVICE_STOP : Field := ⟨0x7000, 0x54, 16, 16⟩
def CLASS_COUNT1_CHANNEL_STOP : Field := ⟨0x7000, 0x54, 0, 16⟩
def CLASS (i : Nat) : Field := ⟨0x7000, (0x100 + 0x4 * i), 0, 32⟩
end SLUICE

namespace FLOG
def PAGE_ID : Field := ⟨0x8000, 0, 0, 32⟩
def CTRL : Field := ⟨0x8000, 4, 0, 32⟩
def STATUS : Field := ⟨0x8000, 8, 0, 32⟩
def STATUS_PROTECTED : Field := ⟨0x8000, 8, 0, 1⟩
def IRQ_RAW : Field := ⟨0x8000, 0xC, 0, 32⟩
def IRQ_RD_BAD : Field := ⟨0x8000, 0xC, 4, 1⟩
def IRQ_DROPPED : Field := ⟨0x8000, 0xC, 3, 1⟩
def IRQ_LAPPED : Field := ⟨0x8000, 0xC, 2, 1⟩
def IRQ_LEVEL : Field := ⟨0x8000, 0xC, 1, 1⟩
def IRQ_ENTRY : Field := ⟨0x8000, 0xC, 0, 1⟩
def IRQ_EN : Field := ⟨0x8000, 0x10, 0, 32⟩
def IRQ_PEND : Field := ⟨0x8000, 0x14, 0, 32⟩
def FLT_RAW : Field := ⟨0x8000, 0x18, 0, 32⟩
def FLT_EN : Field := ⟨0x8000, 0x1C, 0, 32⟩
def INJECT : Field := ⟨0x8000, 0x20, 0, 32⟩
def INJECT_TARGET : Field := ⟨0x8000, 0x20, 8, 8⟩
def INJECT_BUS_PAR : Field := ⟨0x8000, 0x20, 4, 1⟩
def INJECT_FSM_PAR : Field := ⟨0x8000, 0x20, 3, 1⟩
def INJECT_REG_PAR : Field := ⟨0x8000, 0x20, 2, 1⟩
def INJECT_UE : Field := ⟨0x8000, 0x20, 1, 1⟩
def INJECT_CE : Field := ⟨0x8000, 0x20, 0, 1⟩
def BUSY : Field := ⟨0x8000, 0x24, 0, 32⟩
def BUSY_TRIAL : Field := ⟨0x8000, 0x24, 1, 1⟩
def BUSY_LONG_OP : Field := ⟨0x8000, 0x24, 0, 1⟩
def CFG : Field := ⟨0x8000, 0x40, 0, 32⟩
def CFG_LEVEL : Field := ⟨0x8000, 0x40, 0, 9⟩
def WR_IDX : Field := ⟨0x8000, 0x44, 0, 32⟩
def WR_IDX_IDX : Field := ⟨0x8000, 0x44, 0, 8⟩
def RD_IDX : Field := ⟨0x8000, 0x48, 0, 32⟩
def RD_IDX_IDX : Field := ⟨0x8000, 0x48, 0, 8⟩
def FILL : Field := ⟨0x8000, 0x4C, 0, 32⟩
def FILL_LAPPED : Field := ⟨0x8000, 0x4C, 31, 1⟩
def FILL_COUNT : Field := ⟨0x8000, 0x4C, 0, 9⟩
def SEQ_NEXT : Field := ⟨0x8000, 0x50, 0, 32⟩
def COUNTS : Field := ⟨0x8000, 0x54, 0, 32⟩
def COUNTS_LAPPED : Field := ⟨0x8000, 0x54, 16, 16⟩
def COUNTS_DROPPED : Field := ⟨0x8000, 0x54, 0, 16⟩
def VIEW_BASE : Field := ⟨0x8000, 0x58, 0, 32⟩
def VIEW_BASE_IDX : Field := ⟨0x8000, 0x58, 0, 8⟩
def ENTRY (i : Nat) : Field := ⟨0x8000, (0x800 + 0x4 * i), 0, 32⟩
end FLOG

namespace TIME
def PAGE_ID : Field := ⟨0x9000, 0, 0, 32⟩
def CTRL : Field := ⟨0x9000, 4, 0, 32⟩
def CTRL_PPS_OUT_EN : Field := ⟨0x9000, 4, 2, 1⟩
def CTRL_ALIGN_EN : Field := ⟨0x9000, 4, 1, 1⟩
def STATUS : Field := ⟨0x9000, 8, 0, 32⟩
def STATUS_NEXT_ARMED : Field := ⟨0x9000, 8, 3, 1⟩
def STATUS_VALID : Field := ⟨0x9000, 8, 2, 1⟩
def STATUS_PPS_STATE : Field := ⟨0x9000, 8, 0, 2⟩
def IRQ_RAW : Field := ⟨0x9000, 0xC, 0, 32⟩
def IRQ_PPS_GLITCH : Field := ⟨0x9000, 0xC, 4, 1⟩
def IRQ_STEPPED : Field := ⟨0x9000, 0xC, 3, 1⟩
def IRQ_PPS_LOSS : Field := ⟨0x9000, 0xC, 2, 1⟩
def IRQ_PPS_FOUND : Field := ⟨0x9000, 0xC, 1, 1⟩
def IRQ_PPS_EDGE : Field := ⟨0x9000, 0xC, 0, 1⟩
def IRQ_EN : Field := ⟨0x9000, 0x10, 0, 32⟩
def IRQ_PEND : Field := ⟨0x9000, 0x14, 0, 32⟩
def FLT_RAW : Field := ⟨0x9000, 0x18, 0, 32⟩
def FLT_TIME_PAR : Field := ⟨0x9000, 0x18, 2, 1⟩
def FLT_PPS_WINDOW : Field := ⟨0x9000, 0x18, 1, 1⟩
def FLT_PPS_LOSS : Field := ⟨0x9000, 0x18, 0, 1⟩
def FLT_EN : Field := ⟨0x9000, 0x1C, 0, 32⟩
def INJECT : Field := ⟨0x9000, 0x20, 0, 32⟩
def INJECT_TARGET : Field := ⟨0x9000, 0x20, 8, 8⟩
def INJECT_BUS_PAR : Field := ⟨0x9000, 0x20, 4, 1⟩
def INJECT_FSM_PAR : Field := ⟨0x9000, 0x20, 3, 1⟩
def INJECT_REG_PAR : Field := ⟨0x9000, 0x20, 2, 1⟩
def INJECT_UE : Field := ⟨0x9000, 0x20, 1, 1⟩
def INJECT_CE : Field := ⟨0x9000, 0x20, 0, 1⟩
def BUSY : Field := ⟨0x9000, 0x24, 0, 32⟩
def BUSY_TRIAL : Field := ⟨0x9000, 0x24, 1, 1⟩
def BUSY_LONG_OP : Field := ⟨0x9000, 0x24, 0, 1⟩
def NOW0 : Field := ⟨0x9000, 0x40, 0, 32⟩
def NOW1 : Field := ⟨0x9000, 0x44, 0, 32⟩
def NOW2 : Field := ⟨0x9000, 0x48, 0, 32⟩
def SET0 : Field := ⟨0x9000, 0x4C, 0, 32⟩
def SET1 : Field := ⟨0x9000, 0x50, 0, 32⟩
def SET2 : Field := ⟨0x9000, 0x54, 0, 32⟩
def ADJ : Field := ⟨0x9000, 0x58, 0, 32⟩
def CMD : Field := ⟨0x9000, 0x5C, 0, 32⟩
def CMD_ADJUST : Field := ⟨0x9000, 0x5C, 1, 1⟩
def CMD_SET : Field := ⟨0x9000, 0x5C, 0, 1⟩
def RATE : Field := ⟨0x9000, 0x60, 0, 32⟩
def NEXT_SEC_LO : Field := ⟨0x9000, 0x64, 0, 32⟩
def NEXT_SEC_HI : Field := ⟨0x9000, 0x68, 0, 32⟩
def NEXT_SEC_HI_ARM : Field := ⟨0x9000, 0x68, 31, 1⟩
def NEXT_SEC_HI_SEC : Field := ⟨0x9000, 0x68, 0, 16⟩
def PPS_ERR : Field := ⟨0x9000, 0x6C, 0, 32⟩
def PPS_CAP0 : Field := ⟨0x9000, 0x70, 0, 32⟩
def PPS_CAP1 : Field := ⟨0x9000, 0x74, 0, 32⟩
def PPS_CAP2 : Field := ⟨0x9000, 0x78, 0, 32⟩
def PPS_CFG : Field := ⟨0x9000, 0x7C, 0, 32⟩
def PPS_CFG_WINDOW_US : Field := ⟨0x9000, 0x7C, 16, 16⟩
def PPS_CFG_WIDTH_US : Field := ⟨0x9000, 0x7C, 0, 16⟩
def EDGES : Field := ⟨0x9000, 0x80, 0, 32⟩
def PPS_COUNTS : Field := ⟨0x9000, 0x84, 0, 32⟩
def PPS_COUNTS_GLITCH : Field := ⟨0x9000, 0x84, 16, 16⟩
def PPS_COUNTS_LOSS_COUNT : Field := ⟨0x9000, 0x84, 0, 16⟩
end TIME

namespace DMEM
def PAGE_ID : Field := ⟨0xA000, 0, 0, 32⟩
def CTRL : Field := ⟨0xA000, 4, 0, 32⟩
def STATUS : Field := ⟨0xA000, 8, 0, 32⟩
def STATUS_WB_STOPPED : Field := ⟨0xA000, 8, 5, 1⟩
def STATUS_MARCH_STOPPED : Field := ⟨0xA000, 8, 4, 1⟩
def STATUS_SCRUB_STOPPED : Field := ⟨0xA000, 8, 3, 1⟩
def STATUS_MARCH_BUSY : Field := ⟨0xA000, 8, 2, 1⟩
def STATUS_SCRUB_CONT : Field := ⟨0xA000, 8, 1, 1⟩
def STATUS_SCRUB_BUSY : Field := ⟨0xA000, 8, 0, 1⟩
def IRQ_RAW : Field := ⟨0xA000, 0xC, 0, 32⟩
def IRQ_CE_EACH : Field := ⟨0xA000, 0xC, 16, 7⟩
def IRQ_CE_BUCKET : Field := ⟨0xA000, 0xC, 8, 7⟩
def IRQ_MARCH_DONE : Field := ⟨0xA000, 0xC, 4, 1⟩
def IRQ_SCRUB_ABORTED : Field := ⟨0xA000, 0xC, 3, 1⟩
def IRQ_SCRUB_REFUSED : Field := ⟨0xA000, 0xC, 2, 1⟩
def IRQ_SCRUB_DONE : Field := ⟨0xA000, 0xC, 1, 1⟩
def IRQ_EN : Field := ⟨0xA000, 0x10, 0, 32⟩
def IRQ_PEND : Field := ⟨0xA000, 0x14, 0, 32⟩
def FLT_RAW : Field := ⟨0xA000, 0x18, 0, 32⟩
def FLT_MEM_CTRL_PAR : Field := ⟨0xA000, 0x18, 4, 1⟩
def FLT_MARCH_FAIL : Field := ⟨0xA000, 0x18, 3, 1⟩
def FLT_MEM_CE_RATE : Field := ⟨0xA000, 0x18, 2, 1⟩
def FLT_LATENT_UE : Field := ⟨0xA000, 0x18, 1, 1⟩
def FLT_MEM_UE : Field := ⟨0xA000, 0x18, 0, 1⟩
def FLT_EN : Field := ⟨0xA000, 0x1C, 0, 32⟩
def INJECT : Field := ⟨0xA000, 0x20, 0, 32⟩
def INJECT_TARGET : Field := ⟨0xA000, 0x20, 8, 8⟩
def INJECT_BUS_PAR : Field := ⟨0xA000, 0x20, 4, 1⟩
def INJECT_FSM_PAR : Field := ⟨0xA000, 0x20, 3, 1⟩
def INJECT_REG_PAR : Field := ⟨0xA000, 0x20, 2, 1⟩
def INJECT_UE : Field := ⟨0xA000, 0x20, 1, 1⟩
def INJECT_CE : Field := ⟨0xA000, 0x20, 0, 1⟩
def BUSY : Field := ⟨0xA000, 0x24, 0, 32⟩
def BUSY_TRIAL : Field := ⟨0xA000, 0x24, 1, 1⟩
def BUSY_LONG_OP : Field := ⟨0xA000, 0x24, 0, 1⟩
def SCRUB_CFG : Field := ⟨0xA000, 0x40, 0, 32⟩
def SCRUB_CFG_CONT : Field := ⟨0xA000, 0x40, 8, 1⟩
def SCRUB_CFG_MEM : Field := ⟨0xA000, 0x40, 0, 5⟩
def SCRUB_START : Field := ⟨0xA000, 0x44, 0, 32⟩
def SCRUB_START_OFFSET : Field := ⟨0xA000, 0x44, 0, 24⟩
def SCRUB_LEN : Field := ⟨0xA000, 0x48, 0, 32⟩
def SCRUB_LEN_BYTES : Field := ⟨0xA000, 0x48, 0, 24⟩
def SCRUB_CMD : Field := ⟨0xA000, 0x4C, 0, 32⟩
def SCRUB_CMD_STOP : Field := ⟨0xA000, 0x4C, 1, 1⟩
def SCRUB_CMD_GO : Field := ⟨0xA000, 0x4C, 0, 1⟩
def SCRUB_WORDS : Field := ⟨0xA000, 0x50, 0, 32⟩
def SCRUB_CE : Field := ⟨0xA000, 0x54, 0, 32⟩
def SCRUB_UE : Field := ⟨0xA000, 0x58, 0, 32⟩
def SCRUB_POISON : Field := ⟨0xA000, 0x5C, 0, 32⟩
def SCRUB_FIRST_UE : Field := ⟨0xA000, 0x60, 0, 32⟩
def SCRUB_FIRST_UE_VALID : Field := ⟨0xA000, 0x60, 31, 1⟩
def SCRUB_FIRST_UE_OFFSET : Field := ⟨0xA000, 0x60, 0, 24⟩
def SCRUB_LAST_UE : Field := ⟨0xA000, 0x64, 0, 32⟩
def SCRUB_LAST_UE_VALID : Field := ⟨0xA000, 0x64, 31, 1⟩
def SCRUB_LAST_UE_OFFSET : Field := ⟨0xA000, 0x64, 0, 24⟩
def SCRUB_US : Field := ⟨0xA000, 0x68, 0, 32⟩
def SCRUB_PASSES : Field := ⟨0xA000, 0x6C, 0, 32⟩
def MARCH_START : Field := ⟨0xA000, 0x70, 0, 32⟩
def MARCH_START_OFFSET : Field := ⟨0xA000, 0x70, 0, 24⟩
def MARCH_LEN : Field := ⟨0xA000, 0x74, 0, 32⟩
def MARCH_LEN_BYTES : Field := ⟨0xA000, 0x74, 0, 24⟩
def MARCH_CMD : Field := ⟨0xA000, 0x78, 0, 32⟩
def MARCH_CMD_GO : Field := ⟨0xA000, 0x78, 0, 1⟩
def MARCH_BUDGET : Field := ⟨0xA000, 0x7C, 0, 32⟩
def MARCH_BUDGET_US : Field := ⟨0xA000, 0x7C, 0, 10⟩
def MARCH_RESULT : Field := ⟨0xA000, 0x80, 0, 32⟩
def MARCH_RESULT_RESULT : Field := ⟨0xA000, 0x80, 29, 3⟩
def MARCH_RESULT_FAIL_OFFSET : Field := ⟨0xA000, 0x80, 0, 24⟩
def PIN_BASE (i : Nat) : Field := ⟨0xA000, (0x84 + 0x8 * i), 0, 32⟩
def PIN_BASE_OFFSET (i : Nat) : Field := ⟨0xA000, (0x84 + 0x8 * i), 0, 24⟩
def PIN_LEN (i : Nat) : Field := ⟨0xA000, (0x88 + 0x8 * i), 0, 32⟩
def PIN_LEN_BYTES (i : Nat) : Field := ⟨0xA000, (0x88 + 0x8 * i), 0, 24⟩
def B_CFG (i : Nat) : Field := ⟨0xA000, (0x100 + 0x40 * i), 0, 32⟩
def B_CFG_LEGACY4106 (i : Nat) : Field := ⟨0xA000, (0x100 + 0x40 * i), 31, 1⟩
def B_CFG_LEAK_US (i : Nat) : Field := ⟨0xA000, (0x100 + 0x40 * i), 0, 20⟩
def B_THRESH (i : Nat) : Field := ⟨0xA000, (0x104 + 0x40 * i), 0, 32⟩
def B_THRESH_COUNT (i : Nat) : Field := ⟨0xA000, (0x104 + 0x40 * i), 0, 16⟩
def B_BUCKET (i : Nat) : Field := ⟨0xA000, (0x108 + 0x40 * i), 0, 32⟩
def B_BUCKET_LEVEL (i : Nat) : Field := ⟨0xA000, (0x108 + 0x40 * i), 0, 16⟩
def B_OVF_COUNT (i : Nat) : Field := ⟨0xA000, (0x10C + 0x40 * i), 0, 32⟩
def B_CE_TOTAL (i : Nat) : Field := ⟨0xA000, (0x110 + 0x40 * i), 0, 32⟩
def B_UE_TOTAL (i : Nat) : Field := ⟨0xA000, (0x114 + 0x40 * i), 0, 32⟩
def B_POISON_READS (i : Nat) : Field := ⟨0xA000, (0x118 + 0x40 * i), 0, 32⟩
def B_LAST_CE (i : Nat) : Field := ⟨0xA000, (0x11C + 0x40 * i), 0, 32⟩
def B_LAST_CE_REQ (i : Nat) : Field := ⟨0xA000, (0x11C + 0x40 * i), 28, 4⟩
def B_LAST_CE_PRIV (i : Nat) : Field := ⟨0xA000, (0x11C + 0x40 * i), 27, 1⟩
def B_LAST_CE_POISON (i : Nat) : Field := ⟨0xA000, (0x11C + 0x40 * i), 26, 1⟩
def B_LAST_CE_OFFSET (i : Nat) : Field := ⟨0xA000, (0x11C + 0x40 * i), 0, 24⟩
def B_LAST_UE (i : Nat) : Field := ⟨0xA000, (0x120 + 0x40 * i), 0, 32⟩
def B_LAST_UE_REQ (i : Nat) : Field := ⟨0xA000, (0x120 + 0x40 * i), 28, 4⟩
def B_LAST_UE_PRIV (i : Nat) : Field := ⟨0xA000, (0x120 + 0x40 * i), 27, 1⟩
def B_LAST_UE_POISON (i : Nat) : Field := ⟨0xA000, (0x120 + 0x40 * i), 26, 1⟩
def B_LAST_UE_OFFSET (i : Nat) : Field := ⟨0xA000, (0x120 + 0x40 * i), 0, 24⟩
def B_WB_DROP (i : Nat) : Field := ⟨0xA000, (0x124 + 0x40 * i), 0, 32⟩
def B_WB_DROP_COUNT (i : Nat) : Field := ⟨0xA000, (0x124 + 0x40 * i), 0, 16⟩
end DMEM

namespace DTRIAL
def PAGE_ID : Field := ⟨0xB000, 0, 0, 32⟩
def CTRL : Field := ⟨0xB000, 4, 0, 32⟩
def STATUS : Field := ⟨0xB000, 8, 0, 32⟩
def STATUS_JTAG_PINS : Field := ⟨0xB000, 8, 8, 1⟩
def STATUS_CUR : Field := ⟨0xB000, 8, 4, 4⟩
def STATUS_RUNNING : Field := ⟨0xB000, 8, 0, 1⟩
def IRQ_RAW : Field := ⟨0xB000, 0xC, 0, 32⟩
def IRQ_REFUSED : Field := ⟨0xB000, 0xC, 1, 1⟩
def IRQ_DONE : Field := ⟨0xB000, 0xC, 0, 1⟩
def IRQ_EN : Field := ⟨0xB000, 0x10, 0, 32⟩
def IRQ_PEND : Field := ⟨0xB000, 0x14, 0, 32⟩
def FLT_RAW : Field := ⟨0xB000, 0x18, 0, 32⟩
def FLT_DEV_TRIAL_FAIL : Field := ⟨0xB000, 0x18, 0, 1⟩
def FLT_EN : Field := ⟨0xB000, 0x1C, 0, 32⟩
def INJECT : Field := ⟨0xB000, 0x20, 0, 32⟩
def INJECT_TARGET : Field := ⟨0xB000, 0x20, 8, 8⟩
def INJECT_BUS_PAR : Field := ⟨0xB000, 0x20, 4, 1⟩
def INJECT_FSM_PAR : Field := ⟨0xB000, 0x20, 3, 1⟩
def INJECT_REG_PAR : Field := ⟨0xB000, 0x20, 2, 1⟩
def INJECT_UE : Field := ⟨0xB000, 0x20, 1, 1⟩
def INJECT_CE : Field := ⟨0xB000, 0x20, 0, 1⟩
def BUSY : Field := ⟨0xB000, 0x24, 0, 32⟩
def BUSY_LONG_OP : Field := ⟨0xB000, 0x24, 0, 1⟩
def CFG : Field := ⟨0xB000, 0x40, 0, 32⟩
def CFG_CH_LOG2 : Field := ⟨0xB000, 0x40, 16, 5⟩
def CFG_DEV_LOG2 : Field := ⟨0xB000, 0x40, 8, 5⟩
def CFG_GROUP : Field := ⟨0xB000, 0x40, 0, 2⟩
def CMD : Field := ⟨0xB000, 0x44, 0, 32⟩
def CMD_MASK : Field := ⟨0xB000, 0x44, 8, 3⟩
def CMD_GO : Field := ⟨0xB000, 0x44, 0, 1⟩
def RESULT : Field := ⟨0xB000, 0x48, 0, 32⟩
def RESULT_CH_RUN : Field := ⟨0xB000, 0x48, 24, 8⟩
def RESULT_CH_PASS : Field := ⟨0xB000, 0x48, 16, 8⟩
def RESULT_NO_SIG : Field := ⟨0xB000, 0x48, 6, 3⟩
def RESULT_SLICES : Field := ⟨0xB000, 0x48, 0, 6⟩
def ELAPSED_MS : Field := ⟨0xB000, 0x4C, 0, 32⟩
def ELAPSED_MS_MS : Field := ⟨0xB000, 0x4C, 0, 16⟩
end DTRIAL

namespace DCNT
def PAGE_ID : Field := ⟨0xC000, 0, 0, 32⟩
def CTRL : Field := ⟨0xC000, 4, 0, 32⟩
def CTRL_OBSERVE : Field := ⟨0xC000, 4, 1, 1⟩
def CTRL_EN : Field := ⟨0xC000, 4, 0, 1⟩
def STATUS : Field := ⟨0xC000, 8, 0, 32⟩
def STATUS_WRAP_ANY : Field := ⟨0xC000, 8, 8, 1⟩
def STATUS_CLK_CORE : Field := ⟨0xC000, 8, 0, 1⟩
def IRQ_RAW : Field := ⟨0xC000, 0xC, 0, 32⟩
def IRQ_WRAP : Field := ⟨0xC000, 0xC, 0, 1⟩
def IRQ_EN : Field := ⟨0xC000, 0x10, 0, 32⟩
def IRQ_PEND : Field := ⟨0xC000, 0x14, 0, 32⟩
def FLT_RAW : Field := ⟨0xC000, 0x18, 0, 32⟩
def FLT_DEV_CNT_PAR : Field := ⟨0xC000, 0x18, 0, 1⟩
def FLT_EN : Field := ⟨0xC000, 0x1C, 0, 32⟩
def INJECT : Field := ⟨0xC000, 0x20, 0, 32⟩
def INJECT_TARGET : Field := ⟨0xC000, 0x20, 8, 8⟩
def INJECT_BUS_PAR : Field := ⟨0xC000, 0x20, 4, 1⟩
def INJECT_FSM_PAR : Field := ⟨0xC000, 0x20, 3, 1⟩
def INJECT_REG_PAR : Field := ⟨0xC000, 0x20, 2, 1⟩
def INJECT_UE : Field := ⟨0xC000, 0x20, 1, 1⟩
def INJECT_CE : Field := ⟨0xC000, 0x20, 0, 1⟩
def BUSY : Field := ⟨0xC000, 0x24, 0, 32⟩
def BUSY_TRIAL : Field := ⟨0xC000, 0x24, 1, 1⟩
def BUSY_LONG_OP : Field := ⟨0xC000, 0x24, 0, 1⟩
def SEL (i : Nat) : Field := ⟨0xC000, (0x100 + 0x4 * i), 0, 32⟩
def SEL_REQ_MASK (i : Nat) : Field := ⟨0xC000, (0x100 + 0x4 * i), 16, 16⟩
def SEL_PRIV (i : Nat) : Field := ⟨0xC000, (0x100 + 0x4 * i), 14, 2⟩
def SEL_SIDE (i : Nat) : Field := ⟨0xC000, (0x100 + 0x4 * i), 10, 2⟩
def SEL_CLASS (i : Nat) : Field := ⟨0xC000, (0x100 + 0x4 * i), 0, 8⟩
def RANGE (i : Nat) : Field := ⟨0xC000, (0x200 + 0x4 * i), 0, 32⟩
def RANGE_HI (i : Nat) : Field := ⟨0xC000, (0x200 + 0x4 * i), 16, 16⟩
def RANGE_LO (i : Nat) : Field := ⟨0xC000, (0x200 + 0x4 * i), 0, 16⟩
def CNT_LO (i : Nat) : Field := ⟨0xC000, (0x400 + 0x10 * i), 0, 32⟩
def CNT_HI (i : Nat) : Field := ⟨0xC000, (0x404 + 0x10 * i), 0, 32⟩
def CNT_FLAGS (i : Nat) : Field := ⟨0xC000, (0x408 + 0x10 * i), 0, 32⟩
def CNT_FLAGS_WRAP (i : Nat) : Field := ⟨0xC000, (0x408 + 0x10 * i), 0, 1⟩
def WRAP_LO : Field := ⟨0xC000, 0x800, 0, 32⟩
end DCNT

namespace APER
def PAGE_ID : Field := ⟨0xD000, 0, 0, 32⟩
def CTRL : Field := ⟨0xD000, 4, 0, 32⟩
def STATUS : Field := ⟨0xD000, 8, 0, 32⟩
def IRQ_RAW : Field := ⟨0xD000, 0xC, 0, 32⟩
def IRQ_EN : Field := ⟨0xD000, 0x10, 0, 32⟩
def IRQ_PEND : Field := ⟨0xD000, 0x14, 0, 32⟩
def FLT_RAW : Field := ⟨0xD000, 0x18, 0, 32⟩
def FLT_EN : Field := ⟨0xD000, 0x1C, 0, 32⟩
def INJECT : Field := ⟨0xD000, 0x20, 0, 32⟩
def INJECT_TARGET : Field := ⟨0xD000, 0x20, 8, 8⟩
def INJECT_BUS_PAR : Field := ⟨0xD000, 0x20, 4, 1⟩
def INJECT_FSM_PAR : Field := ⟨0xD000, 0x20, 3, 1⟩
def INJECT_REG_PAR : Field := ⟨0xD000, 0x20, 2, 1⟩
def INJECT_UE : Field := ⟨0xD000, 0x20, 1, 1⟩
def INJECT_CE : Field := ⟨0xD000, 0x20, 0, 1⟩
def BUSY : Field := ⟨0xD000, 0x24, 0, 32⟩
def BUSY_TRIAL : Field := ⟨0xD000, 0x24, 1, 1⟩
def BUSY_LONG_OP : Field := ⟨0xD000, 0x24, 0, 1⟩
def SEL : Field := ⟨0xD000, 0x40, 0, 32⟩
def SEL_CH : Field := ⟨0xD000, 0x40, 8, 3⟩
def SEL_MEM : Field := ⟨0xD000, 0x40, 0, 5⟩
def BASE : Field := ⟨0xD000, 0x44, 0, 32⟩
def BASE_BLOCK : Field := ⟨0xD000, 0x44, 0, 3⟩
def OSEL : Field := ⟨0xD000, 0x48, 0, 32⟩
def OSEL_CH : Field := ⟨0xD000, 0x48, 8, 3⟩
def OSEL_MEM : Field := ⟨0xD000, 0x48, 0, 5⟩
def OBASE : Field := ⟨0xD000, 0x4C, 0, 32⟩
def OBASE_BLOCK : Field := ⟨0xD000, 0x4C, 0, 3⟩
end APER

namespace SENS
def PAGE_ID : Field := ⟨0xE000, 0, 0, 32⟩
def CTRL : Field := ⟨0xE000, 4, 0, 32⟩
def STATUS : Field := ⟨0xE000, 8, 0, 32⟩
def STATUS_BELOW : Field := ⟨0xE000, 8, 2, 1⟩
def STATUS_WARN : Field := ⟨0xE000, 8, 1, 1⟩
def STATUS_ABOVE : Field := ⟨0xE000, 8, 0, 1⟩
def IRQ_RAW : Field := ⟨0xE000, 0xC, 0, 32⟩
def IRQ_BELOW_GRADE : Field := ⟨0xE000, 0xC, 3, 1⟩
def IRQ_ABOVE_CLEAR : Field := ⟨0xE000, 0xC, 2, 1⟩
def IRQ_WARN : Field := ⟨0xE000, 0xC, 1, 1⟩
def IRQ_ABOVE : Field := ⟨0xE000, 0xC, 0, 1⟩
def IRQ_EN : Field := ⟨0xE000, 0x10, 0, 32⟩
def IRQ_PEND : Field := ⟨0xE000, 0x14, 0, 32⟩
def FLT_RAW : Field := ⟨0xE000, 0x18, 0, 32⟩
def FLT_TJ_ABOVE_GRADE : Field := ⟨0xE000, 0x18, 0, 1⟩
def FLT_EN : Field := ⟨0xE000, 0x1C, 0, 32⟩
def INJECT : Field := ⟨0xE000, 0x20, 0, 32⟩
def INJECT_BUS_PAR : Field := ⟨0xE000, 0x20, 4, 1⟩
def INJECT_FSM_PAR : Field := ⟨0xE000, 0x20, 3, 1⟩
def INJECT_REG_PAR : Field := ⟨0xE000, 0x20, 2, 1⟩
def INJECT_UE : Field := ⟨0xE000, 0x20, 1, 1⟩
def INJECT_CE : Field := ⟨0xE000, 0x20, 0, 1⟩
def BUSY : Field := ⟨0xE000, 0x24, 0, 32⟩
def BUSY_TRIAL : Field := ⟨0xE000, 0x24, 1, 1⟩
def BUSY_LONG_OP : Field := ⟨0xE000, 0x24, 0, 1⟩
def LIMITS : Field := ⟨0xE000, 0x40, 0, 32⟩
def LIMITS_UPPER : Field := ⟨0xE000, 0x40, 16, 16⟩
def LIMITS_LOWER : Field := ⟨0xE000, 0x40, 0, 16⟩
def CFG : Field := ⟨0xE000, 0x44, 0, 32⟩
def CFG_WARN : Field := ⟨0xE000, 0x44, 16, 16⟩
def CFG_HYST : Field := ⟨0xE000, 0x44, 0, 4⟩
def COMPLEX : Field := ⟨0xE000, 0x48, 0, 32⟩
def COMPLEX_VALID : Field := ⟨0xE000, 0x48, 31, 1⟩
def COMPLEX_C16 : Field := ⟨0xE000, 0x48, 0, 16⟩
def MAX : Field := ⟨0xE000, 0x4C, 0, 32⟩
def MAX_SRC : Field := ⟨0xE000, 0x4C, 16, 4⟩
def MAX_C16 : Field := ⟨0xE000, 0x4C, 0, 16⟩
def PEAK : Field := ⟨0xE000, 0x50, 0, 32⟩
def PEAK_SRC : Field := ⟨0xE000, 0x50, 16, 4⟩
def PEAK_C16 : Field := ⟨0xE000, 0x50, 0, 16⟩
def CMD : Field := ⟨0xE000, 0x54, 0, 32⟩
def CMD_CLR_PEAK : Field := ⟨0xE000, 0x54, 0, 1⟩
def ABOVE_S : Field := ⟨0xE000, 0x58, 0, 32⟩
def CH_TEMP (i : Nat) : Field := ⟨0xE000, (0x60 + 0x4 * i), 0, 32⟩
def CH_TEMP_VALID (i : Nat) : Field := ⟨0xE000, (0x60 + 0x4 * i), 31, 1⟩
def CH_TEMP_C16 (i : Nat) : Field := ⟨0xE000, (0x60 + 0x4 * i), 0, 16⟩
end SENS

namespace OTP
def PAGE_ID : Field := ⟨0xF000, 0, 0, 32⟩
def CTRL : Field := ⟨0xF000, 4, 0, 32⟩
def STATUS : Field := ⟨0xF000, 8, 0, 32⟩
def STATUS_PARTIAL : Field := ⟨0xF000, 8, 2, 1⟩
def STATUS_SHADOW_OK : Field := ⟨0xF000, 8, 1, 1⟩
def IRQ_RAW : Field := ⟨0xF000, 0xC, 0, 32⟩
def IRQ_EN : Field := ⟨0xF000, 0x10, 0, 32⟩
def IRQ_PEND : Field := ⟨0xF000, 0x14, 0, 32⟩
def FLT_RAW : Field := ⟨0xF000, 0x18, 0, 32⟩
def FLT_OTP_SHADOW_PAR : Field := ⟨0xF000, 0x18, 0, 1⟩
def FLT_EN : Field := ⟨0xF000, 0x1C, 0, 32⟩
def INJECT : Field := ⟨0xF000, 0x20, 0, 32⟩
def INJECT_TARGET : Field := ⟨0xF000, 0x20, 8, 8⟩
def INJECT_BUS_PAR : Field := ⟨0xF000, 0x20, 4, 1⟩
def INJECT_FSM_PAR : Field := ⟨0xF000, 0x20, 3, 1⟩
def INJECT_REG_PAR : Field := ⟨0xF000, 0x20, 2, 1⟩
def INJECT_UE : Field := ⟨0xF000, 0x20, 1, 1⟩
def INJECT_CE : Field := ⟨0xF000, 0x20, 0, 1⟩
def BUSY : Field := ⟨0xF000, 0x24, 0, 32⟩
def BUSY_TRIAL : Field := ⟨0xF000, 0x24, 1, 1⟩
def BUSY_LONG_OP : Field := ⟨0xF000, 0x24, 0, 1⟩
def PROG_ADDR : Field := ⟨0xF000, 0x40, 0, 32⟩
def PROG_ADDR_WORD : Field := ⟨0xF000, 0x40, 0, 6⟩
def PROG_DATA : Field := ⟨0xF000, 0x44, 0, 32⟩
def SUMMARY : Field := ⟨0xF000, 0x48, 0, 32⟩
def SUMMARY_SLOT_USABLE : Field := ⟨0xF000, 0x48, 16, 2⟩
def SUMMARY_FLOOR : Field := ⟨0xF000, 0x48, 0, 7⟩
def VALID : Field := ⟨0xF000, 0x4C, 0, 32⟩
def VALID_HI : Field := ⟨0xF000, 0x50, 0, 32⟩
def WORD (i : Nat) : Field := ⟨0xF000, (0x100 + 0x4 * i), 0, 32⟩
end OTP

namespace TOP
def PAGE_ID : Field := ⟨0x100000, 0, 0, 32⟩
def PAGE_ID_BLOCK : Field := ⟨0x100000, 0, 24, 8⟩
def PAGE_ID_INSTANCE : Field := ⟨0x100000, 0, 20, 4⟩
def PAGE_ID_VERSION : Field := ⟨0x100000, 0, 16, 4⟩
def CTRL : Field := ⟨0x100000, 4, 0, 32⟩
def CTRL_EN : Field := ⟨0x100000, 4, 0, 1⟩
def STATUS : Field := ⟨0x100000, 8, 0, 32⟩
def STATUS_REFUSE_REASON : Field := ⟨0x100000, 8, 12, 4⟩
def STATUS_HOST_LOCK_P : Field := ⟨0x100000, 8, 10, 1⟩
def STATUS_HOST_LOCK : Field := ⟨0x100000, 8, 9, 1⟩
def STATUS_HOLDOVER : Field := ⟨0x100000, 8, 8, 1⟩
def STATUS_ACTIVE_OUTER : Field := ⟨0x100000, 8, 5, 1⟩
def STATUS_ACTIVE_HOST_OPT : Field := ⟨0x100000, 8, 4, 1⟩
def STATUS_ACTIVE_MODE : Field := ⟨0x100000, 8, 2, 2⟩
def STATUS_MODE_REFUSED : Field := ⟨0x100000, 8, 1, 1⟩
def STATUS_MODE_ACTIVE : Field := ⟨0x100000, 8, 0, 1⟩
def IRQ_RAW : Field := ⟨0x100000, 0xC, 0, 32⟩
def IRQ_HOLDOVER_EXIT : Field := ⟨0x100000, 0xC, 4, 1⟩
def IRQ_HOLDOVER_ENTER : Field := ⟨0x100000, 0xC, 3, 1⟩
def IRQ_XING_SLIP : Field := ⟨0x100000, 0xC, 2, 1⟩
def IRQ_MODE_REFUSED : Field := ⟨0x100000, 0xC, 1, 1⟩
def IRQ_MODE_DONE : Field := ⟨0x100000, 0xC, 0, 1⟩
def IRQ_EN : Field := ⟨0x100000, 0x10, 0, 32⟩
def IRQ_PEND : Field := ⟨0x100000, 0x14, 0, 32⟩
def FLT_RAW : Field := ⟨0x100000, 0x18, 0, 32⟩
def FLT_CH_PLL_UNLOCK : Field := ⟨0x100000, 0x18, 1, 1⟩
def FLT_XING_SLIP : Field := ⟨0x100000, 0x18, 0, 1⟩
def FLT_EN : Field := ⟨0x100000, 0x1C, 0, 32⟩
def INJECT : Field := ⟨0x100000, 0x20, 0, 32⟩
def INJECT_TARGET : Field := ⟨0x100000, 0x20, 8, 8⟩
def INJECT_BUS_PAR : Field := ⟨0x100000, 0x20, 4, 1⟩
def INJECT_FSM_PAR : Field := ⟨0x100000, 0x20, 3, 1⟩
def INJECT_REG_PAR : Field := ⟨0x100000, 0x20, 2, 1⟩
def INJECT_UE : Field := ⟨0x100000, 0x20, 1, 1⟩
def INJECT_CE : Field := ⟨0x100000, 0x20, 0, 1⟩
def BUSY : Field := ⟨0x100000, 0x24, 0, 32⟩
def BUSY_TRIAL : Field := ⟨0x100000, 0x24, 1, 1⟩
def BUSY_LONG_OP : Field := ⟨0x100000, 0x24, 0, 1⟩
def MODE_CFG : Field := ⟨0x100000, 0x40, 0, 32⟩
def MODE_CFG_OUTER : Field := ⟨0x100000, 0x40, 8, 1⟩
def MODE_CFG_HOST_OPT : Field := ⟨0x100000, 0x40, 4, 1⟩
def MODE_CFG_MODE : Field := ⟨0x100000, 0x40, 0, 2⟩
def MODE_APPLY : Field := ⟨0x100000, 0x44, 0, 32⟩
def MODE_APPLY_GO : Field := ⟨0x100000, 0x44, 0, 1⟩
def CAPS : Field := ⟨0x100000, 0x48, 0, 32⟩
def CAPS_TANDEM_OK : Field := ⟨0x100000, 0x48, 3, 1⟩
def CAPS_MODES : Field := ⟨0x100000, 0x48, 0, 3⟩
def LAT_TX_PS : Field := ⟨0x100000, 0x4C, 0, 32⟩
def LAT_RX_PS : Field := ⟨0x100000, 0x50, 0, 32⟩
def XING_STATUS : Field := ⟨0x100000, 0x54, 0, 32⟩
def XING_STATUS_HOST_OUT1_SLIP : Field := ⟨0x100000, 0x54, 4, 1⟩
def XING_STATUS_HOST_OUT0_SLIP : Field := ⟨0x100000, 0x54, 3, 1⟩
def XING_STATUS_LINE_IN_SLIP : Field := ⟨0x100000, 0x54, 2, 1⟩
def XING_STATUS_HOST_IN1_SLIP : Field := ⟨0x100000, 0x54, 1, 1⟩
def XING_STATUS_HOST_IN0_SLIP : Field := ⟨0x100000, 0x54, 0, 1⟩
def CLK_STATUS : Field := ⟨0x100000, 0x58, 0, 32⟩
def CLK_STATUS_CORE_RX_LOCK : Field := ⟨0x100000, 0x58, 2, 1⟩
def CLK_STATUS_CORE_TX_LOCK : Field := ⟨0x100000, 0x58, 1, 1⟩
def CLK_STATUS_CH_PLL_LOCK : Field := ⟨0x100000, 0x58, 0, 1⟩
def CORE_TX_OFFSET : Field := ⟨0x100000, 0x5C, 0, 32⟩
def CORE_TX_OFFSET_PPM : Field := ⟨0x100000, 0x5C, 0, 16⟩
def CORE_RX_OFFSET : Field := ⟨0x100000, 0x60, 0, 32⟩
def CORE_RX_OFFSET_PPM : Field := ⟨0x100000, 0x60, 0, 16⟩
end TOP

namespace HL
def PAGE_ID (l : Nat) : Field := ⟨(0x101000 + 0x1000 * l), 0, 0, 32⟩
def CTRL (l : Nat) : Field := ⟨(0x101000 + 0x1000 * l), 4, 0, 32⟩
def CTRL_EN (l : Nat) : Field := ⟨(0x101000 + 0x1000 * l), 4, 0, 1⟩
def STATUS (l : Nat) : Field := ⟨(0x101000 + 0x1000 * l), 8, 0, 32⟩
def STATUS_FIR_BAD (l : Nat) : Field := ⟨(0x101000 + 0x1000 * l), 8, 19, 1⟩
def STATUS_GUARD_HOLD (l : Nat) : Field := ⟨(0x101000 + 0x1000 * l), 8, 18, 1⟩
def STATUS_RX_SAT (l : Nat) : Field := ⟨(0x101000 + 0x1000 * l), 8, 17, 1⟩
def STATUS_EXT_ACTIVE (l : Nat) : Field := ⟨(0x101000 + 0x1000 * l), 8, 16, 1⟩
def STATUS_POL_DETECTED (l : Nat) : Field := ⟨(0x101000 + 0x1000 * l), 8, 15, 1⟩
def STATUS_REMOTE_READY (l : Nat) : Field := ⟨(0x101000 + 0x1000 * l), 8, 14, 1⟩
def STATUS_LOCAL_READY (l : Nat) : Field := ⟨(0x101000 + 0x1000 * l), 8, 13, 1⟩
def STATUS_FRAME_LOCK (l : Nat) : Field := ⟨(0x101000 + 0x1000 * l), 8, 12, 1⟩
def STATUS_CDR_LOCK (l : Nat) : Field := ⟨(0x101000 + 0x1000 * l), 8, 11, 1⟩
def STATUS_SIG_DET (l : Nat) : Field := ⟨(0x101000 + 0x1000 * l), 8, 10, 1⟩
def STATUS_RATE (l : Nat) : Field := ⟨(0x101000 + 0x1000 * l), 8, 8, 2⟩
def STATUS_STATE (l : Nat) : Field := ⟨(0x101000 + 0x1000 * l), 8, 0, 4⟩
def IRQ_RAW (l : Nat) : Field := ⟨(0x101000 + 0x1000 * l), 0xC, 0, 32⟩
def IRQ_EXT_ABSENT (l : Nat) : Field := ⟨(0x101000 + 0x1000 * l), 0xC, 6, 1⟩
def IRQ_REQ_PROTOCOL_ERR (l : Nat) : Field := ⟨(0x101000 + 0x1000 * l), 0xC, 5, 1⟩
def IRQ_LOCK_LOST (l : Nat) : Field := ⟨(0x101000 + 0x1000 * l), 0xC, 4, 1⟩
def IRQ_TRAIN_FAIL (l : Nat) : Field := ⟨(0x101000 + 0x1000 * l), 0xC, 3, 1⟩
def IRQ_TRAIN_DONE (l : Nat) : Field := ⟨(0x101000 + 0x1000 * l), 0xC, 2, 1⟩
def IRQ_DATA_ENTER (l : Nat) : Field := ⟨(0x101000 + 0x1000 * l), 0xC, 1, 1⟩
def IRQ_SIG_DETECT (l : Nat) : Field := ⟨(0x101000 + 0x1000 * l), 0xC, 0, 1⟩
def IRQ_EN (l : Nat) : Field := ⟨(0x101000 + 0x1000 * l), 0x10, 0, 32⟩
def IRQ_PEND (l : Nat) : Field := ⟨(0x101000 + 0x1000 * l), 0x14, 0, 32⟩
def FLT_RAW (l : Nat) : Field := ⟨(0x101000 + 0x1000 * l), 0x18, 0, 32⟩
def FLT_LANE_FSM_PAR (l : Nat) : Field := ⟨(0x101000 + 0x1000 * l), 0x18, 3, 1⟩
def FLT_TRAIN_FAIL (l : Nat) : Field := ⟨(0x101000 + 0x1000 * l), 0x18, 2, 1⟩
def FLT_LOCK_LOST (l : Nat) : Field := ⟨(0x101000 + 0x1000 * l), 0x18, 1, 1⟩
def FLT_SIG_LOST (l : Nat) : Field := ⟨(0x101000 + 0x1000 * l), 0x18, 0, 1⟩
def FLT_EN (l : Nat) : Field := ⟨(0x101000 + 0x1000 * l), 0x1C, 0, 32⟩
def INJECT (l : Nat) : Field := ⟨(0x101000 + 0x1000 * l), 0x20, 0, 32⟩
def INJECT_TARGET (l : Nat) : Field := ⟨(0x101000 + 0x1000 * l), 0x20, 8, 8⟩
def INJECT_BUS_PAR (l : Nat) : Field := ⟨(0x101000 + 0x1000 * l), 0x20, 4, 1⟩
def INJECT_FSM_PAR (l : Nat) : Field := ⟨(0x101000 + 0x1000 * l), 0x20, 3, 1⟩
def INJECT_REG_PAR (l : Nat) : Field := ⟨(0x101000 + 0x1000 * l), 0x20, 2, 1⟩
def INJECT_UE (l : Nat) : Field := ⟨(0x101000 + 0x1000 * l), 0x20, 1, 1⟩
def INJECT_CE (l : Nat) : Field := ⟨(0x101000 + 0x1000 * l), 0x20, 0, 1⟩
def BUSY (l : Nat) : Field := ⟨(0x101000 + 0x1000 * l), 0x24, 0, 32⟩
def BUSY_TRIAL (l : Nat) : Field := ⟨(0x101000 + 0x1000 * l), 0x24, 1, 1⟩
def BUSY_LONG_OP (l : Nat) : Field := ⟨(0x101000 + 0x1000 * l), 0x24, 0, 1⟩
def CFG (l : Nat) : Field := ⟨(0x101000 + 0x1000 * l), 0x40, 0, 32⟩
def CFG_TX_SWING (l : Nat) : Field := ⟨(0x101000 + 0x1000 * l), 0x40, 14, 2⟩
def CFG_CDR_BW (l : Nat) : Field := ⟨(0x101000 + 0x1000 * l), 0x40, 12, 2⟩
def CFG_RX_POL_AUTO (l : Nat) : Field := ⟨(0x101000 + 0x1000 * l), 0x40, 6, 1⟩
def CFG_RX_POL (l : Nat) : Field := ⟨(0x101000 + 0x1000 * l), 0x40, 5, 1⟩
def CFG_TX_POL (l : Nat) : Field := ⟨(0x101000 + 0x1000 * l), 0x40, 4, 1⟩
def CFG_EXT_EN (l : Nat) : Field := ⟨(0x101000 + 0x1000 * l), 0x40, 2, 1⟩
def CFG_AUTO_RETRAIN (l : Nat) : Field := ⟨(0x101000 + 0x1000 * l), 0x40, 1, 1⟩
def CFG_TRAIN_EN (l : Nat) : Field := ⟨(0x101000 + 0x1000 * l), 0x40, 0, 1⟩
def CMD (l : Nat) : Field := ⟨(0x101000 + 0x1000 * l), 0x44, 0, 32⟩
def CMD_RETRAIN (l : Nat) : Field := ⟨(0x101000 + 0x1000 * l), 0x44, 0, 1⟩
def TRAIN_CFG (l : Nat) : Field := ⟨(0x101000 + 0x1000 * l), 0x48, 0, 32⟩
def TRAIN_CFG_TIMEOUT (l : Nat) : Field := ⟨(0x101000 + 0x1000 * l), 0x48, 24, 8⟩
def TRAIN_CFG_MAX_REQ (l : Nat) : Field := ⟨(0x101000 + 0x1000 * l), 0x48, 12, 10⟩
def TRAIN_CFG_SEED_LANE (l : Nat) : Field := ⟨(0x101000 + 0x1000 * l), 0x48, 8, 2⟩
def TRAIN_CFG_INIT_PRESET (l : Nat) : Field := ⟨(0x101000 + 0x1000 * l), 0x48, 0, 3⟩
def EXT (l : Nat) : Field := ⟨(0x101000 + 0x1000 * l), 0x4C, 0, 32⟩
def EXT_ADV_BIT (l : Nat) : Field := ⟨(0x101000 + 0x1000 * l), 0x4C, 4, 4⟩
def EXT_SEL_CODE (l : Nat) : Field := ⟨(0x101000 + 0x1000 * l), 0x4C, 0, 3⟩
def CTLE (l : Nat) : Field := ⟨(0x101000 + 0x1000 * l), 0x50, 0, 32⟩
def CTLE_DCGAIN (l : Nat) : Field := ⟨(0x101000 + 0x1000 * l), 0x50, 12, 4⟩
def CTLE_PEAK (l : Nat) : Field := ⟨(0x101000 + 0x1000 * l), 0x50, 0, 6⟩
def FFE_CFG (l : Nat) : Field := ⟨(0x101000 + 0x1000 * l), 0x54, 0, 32⟩
def FFE_CFG_CURSOR (l : Nat) : Field := ⟨(0x101000 + 0x1000 * l), 0x54, 11, 5⟩
def FFE_CFG_ADAPT_EN (l : Nat) : Field := ⟨(0x101000 + 0x1000 * l), 0x54, 8, 1⟩
def FFE_CFG_STEP (l : Nat) : Field := ⟨(0x101000 + 0x1000 * l), 0x54, 0, 4⟩
def TX_FIR0 (l : Nat) : Field := ⟨(0x101000 + 0x1000 * l), 0x58, 0, 32⟩
def TX_FIR0_C_M3 (l : Nat) : Field := ⟨(0x101000 + 0x1000 * l), 0x58, 16, 8⟩
def TX_FIR0_C_M2 (l : Nat) : Field := ⟨(0x101000 + 0x1000 * l), 0x58, 8, 8⟩
def TX_FIR0_C_M1 (l : Nat) : Field := ⟨(0x101000 + 0x1000 * l), 0x58, 0, 8⟩
def TX_FIR1 (l : Nat) : Field := ⟨(0x101000 + 0x1000 * l), 0x5C, 0, 32⟩
def TX_FIR1_C_P2 (l : Nat) : Field := ⟨(0x101000 + 0x1000 * l), 0x5C, 16, 8⟩
def TX_FIR1_C_P1 (l : Nat) : Field := ⟨(0x101000 + 0x1000 * l), 0x5C, 8, 8⟩
def TX_FIR1_C_0 (l : Nat) : Field := ⟨(0x101000 + 0x1000 * l), 0x5C, 0, 8⟩
def TX_FIR_ACTIVE0 (l : Nat) : Field := ⟨(0x101000 + 0x1000 * l), 0x60, 0, 32⟩
def TX_FIR_ACTIVE1 (l : Nat) : Field := ⟨(0x101000 + 0x1000 * l), 0x64, 0, 32⟩
def DFE (l : Nat) : Field := ⟨(0x101000 + 0x1000 * l), 0x68, 0, 32⟩
def DFE_TAP1 (l : Nat) : Field := ⟨(0x101000 + 0x1000 * l), 0x68, 0, 10⟩
def SNR (l : Nat) : Field := ⟨(0x101000 + 0x1000 * l), 0x6C, 0, 32⟩
def SNR_DB16 (l : Nat) : Field := ⟨(0x101000 + 0x1000 * l), 0x6C, 0, 16⟩
def CDR_STATUS (l : Nat) : Field := ⟨(0x101000 + 0x1000 * l), 0x70, 0, 32⟩
def CDR_STATUS_PPM (l : Nat) : Field := ⟨(0x101000 + 0x1000 * l), 0x70, 0, 16⟩
def TRAIN_RESULT (l : Nat) : Field := ⟨(0x101000 + 0x1000 * l), 0x74, 0, 32⟩
def TRAIN_RESULT_MS (l : Nat) : Field := ⟨(0x101000 + 0x1000 * l), 0x74, 20, 12⟩
def TRAIN_RESULT_REQ_SENT (l : Nat) : Field := ⟨(0x101000 + 0x1000 * l), 0x74, 10, 10⟩
def TRAIN_RESULT_REQ_RCVD (l : Nat) : Field := ⟨(0x101000 + 0x1000 * l), 0x74, 0, 10⟩
def COUNTS0 (l : Nat) : Field := ⟨(0x101000 + 0x1000 * l), 0x78, 0, 32⟩
def COUNTS0_TRAIN_COUNT (l : Nat) : Field := ⟨(0x101000 + 0x1000 * l), 0x78, 16, 16⟩
def COUNTS0_TRAIN_FAIL_COUNT (l : Nat) : Field := ⟨(0x101000 + 0x1000 * l), 0x78, 0, 16⟩
def COUNTS1 (l : Nat) : Field := ⟨(0x101000 + 0x1000 * l), 0x7C, 0, 32⟩
def COUNTS1_LOCK_LOST_COUNT (l : Nat) : Field := ⟨(0x101000 + 0x1000 * l), 0x7C, 16, 16⟩
def COUNTS1_NORESP_COUNT (l : Nat) : Field := ⟨(0x101000 + 0x1000 * l), 0x7C, 8, 8⟩
def COUNTS1_PROTO_ERR_COUNT (l : Nat) : Field := ⟨(0x101000 + 0x1000 * l), 0x7C, 0, 8⟩
def FFE_TAP (l : Nat) (i : Nat) : Field := ⟨(0x101000 + 0x1000 * l), (0x100 + 0x4 * i), 0, 32⟩
def FFE_TAP_COEF (l : Nat) (i : Nat) : Field := ⟨(0x101000 + 0x1000 * l), (0x100 + 0x4 * i), 0, 10⟩
end HL

namespace HFEC
def PAGE_ID : Field := ⟨0x103000, 0, 0, 32⟩
def CTRL : Field := ⟨0x103000, 4, 0, 32⟩
def CTRL_EN : Field := ⟨0x103000, 4, 0, 1⟩
def STATUS : Field := ⟨0x103000, 8, 0, 32⟩
def STATUS_SER_DEG_LINE : Field := ⟨0x103000, 8, 13, 1⟩
def STATUS_SER_DEG_HOST : Field := ⟨0x103000, 8, 12, 1⟩
def STATUS_LF_TO_HOST : Field := ⟨0x103000, 8, 11, 1⟩
def STATUS_LF_TO_LINE : Field := ⟨0x103000, 8, 10, 1⟩
def STATUS_LANE_SWAP : Field := ⟨0x103000, 8, 9, 1⟩
def STATUS_DESKEW_LOCK : Field := ⟨0x103000, 8, 8, 1⟩
def STATUS_LINE_ALIGN : Field := ⟨0x103000, 8, 4, 3⟩
def STATUS_HOST_ALIGN : Field := ⟨0x103000, 8, 0, 3⟩
def IRQ_RAW : Field := ⟨0x103000, 0xC, 0, 32⟩
def IRQ_ERASE_OVERFLOW : Field := ⟨0x103000, 0xC, 9, 1⟩
def IRQ_SER_DEGRADE : Field := ⟨0x103000, 0xC, 8, 1⟩
def IRQ_UNCORR_LINE : Field := ⟨0x103000, 0xC, 7, 1⟩
def IRQ_UNCORR_HOST : Field := ⟨0x103000, 0xC, 6, 1⟩
def IRQ_SLIP_REFUSED : Field := ⟨0x103000, 0xC, 5, 1⟩
def IRQ_SLIP_DONE : Field := ⟨0x103000, 0xC, 4, 1⟩
def IRQ_LINE_ALIGN_LOST : Field := ⟨0x103000, 0xC, 3, 1⟩
def IRQ_LINE_ALIGN_LOCK : Field := ⟨0x103000, 0xC, 2, 1⟩
def IRQ_HOST_ALIGN_LOST : Field := ⟨0x103000, 0xC, 1, 1⟩
def IRQ_HOST_ALIGN_LOCK : Field := ⟨0x103000, 0xC, 0, 1⟩
def IRQ_EN : Field := ⟨0x103000, 0x10, 0, 32⟩
def IRQ_PEND : Field := ⟨0x103000, 0x14, 0, 32⟩
def FLT_RAW : Field := ⟨0x103000, 0x18, 0, 32⟩
def FLT_HFEC_FSM_PAR : Field := ⟨0x103000, 0x18, 5, 1⟩
def FLT_SER_DEGRADE : Field := ⟨0x103000, 0x18, 4, 1⟩
def FLT_UNCORR_CW : Field := ⟨0x103000, 0x18, 3, 1⟩
def FLT_DESKEW_LOST : Field := ⟨0x103000, 0x18, 2, 1⟩
def FLT_ALIGN_LOST_LINE : Field := ⟨0x103000, 0x18, 1, 1⟩
def FLT_ALIGN_LOST_HOST : Field := ⟨0x103000, 0x18, 0, 1⟩
def FLT_EN : Field := ⟨0x103000, 0x1C, 0, 32⟩
def INJECT : Field := ⟨0x103000, 0x20, 0, 32⟩
def INJECT_TARGET : Field := ⟨0x103000, 0x20, 8, 8⟩
def INJECT_BUS_PAR : Field := ⟨0x103000, 0x20, 4, 1⟩
def INJECT_FSM_PAR : Field := ⟨0x103000, 0x20, 3, 1⟩
def INJECT_REG_PAR : Field := ⟨0x103000, 0x20, 2, 1⟩
def INJECT_UE : Field := ⟨0x103000, 0x20, 1, 1⟩
def INJECT_CE : Field := ⟨0x103000, 0x20, 0, 1⟩
def BUSY : Field := ⟨0x103000, 0x24, 0, 32⟩
def BUSY_TRIAL : Field := ⟨0x103000, 0x24, 1, 1⟩
def BUSY_LONG_OP : Field := ⟨0x103000, 0x24, 0, 1⟩
def CFG : Field := ⟨0x103000, 0x40, 0, 32⟩
def CFG_AM_TOL : Field := ⟨0x103000, 0x40, 20, 4⟩
def CFG_ERASURE_EN : Field := ⟨0x103000, 0x40, 16, 1⟩
def CFG_ERASE_MAX : Field := ⟨0x103000, 0x40, 8, 5⟩
def CFG_MANUAL_LINE : Field := ⟨0x103000, 0x40, 1, 1⟩
def CFG_MANUAL_HOST : Field := ⟨0x103000, 0x40, 0, 1⟩
def SLIP : Field := ⟨0x103000, 0x44, 0, 32⟩
def SLIP_GO : Field := ⟨0x103000, 0x44, 12, 1⟩
def SLIP_SIDE : Field := ⟨0x103000, 0x44, 8, 1⟩
def SLIP_BITS : Field := ⟨0x103000, 0x44, 0, 4⟩
def SER_CFG : Field := ⟨0x103000, 0x48, 0, 32⟩
def SER_CFG_THRESH : Field := ⟨0x103000, 0x48, 16, 16⟩
def SER_CFG_WINDOW : Field := ⟨0x103000, 0x48, 0, 5⟩
def ALIGN_POS_HOST : Field := ⟨0x103000, 0x4C, 0, 32⟩
def ALIGN_POS_HOST_PERIODS : Field := ⟨0x103000, 0x4C, 16, 16⟩
def ALIGN_POS_HOST_OFFSET : Field := ⟨0x103000, 0x4C, 0, 9⟩
def ALIGN_POS_LINE : Field := ⟨0x103000, 0x50, 0, 32⟩
def ALIGN_POS_LINE_PERIODS : Field := ⟨0x103000, 0x50, 16, 16⟩
def ALIGN_POS_LINE_OFFSET : Field := ⟨0x103000, 0x50, 0, 9⟩
def DESKEW : Field := ⟨0x103000, 0x54, 0, 32⟩
def DESKEW_LATE : Field := ⟨0x103000, 0x54, 15, 1⟩
def DESKEW_SKEW_UI : Field := ⟨0x103000, 0x54, 0, 14⟩
def LOSS_COUNT : Field := ⟨0x103000, 0x58, 0, 32⟩
def LOSS_COUNT_LINE : Field := ⟨0x103000, 0x58, 16, 16⟩
def LOSS_COUNT_HOST : Field := ⟨0x103000, 0x58, 0, 16⟩
def MISC_COUNT : Field := ⟨0x103000, 0x5C, 0, 32⟩
def MISC_COUNT_ERASE_OVERFLOW_COUNT : Field := ⟨0x103000, 0x5C, 16, 16⟩
def MISC_COUNT_SLIP_COUNT : Field := ⟨0x103000, 0x5C, 0, 16⟩
def CMD : Field := ⟨0x103000, 0x60, 0, 32⟩
def CMD_CLR_CNT : Field := ⟨0x103000, 0x60, 0, 1⟩
def D_CW_LO (d : Nat) : Field := ⟨0x103000, (0x100 + 0x100 * d), 0, 32⟩
def D_CW_HI (d : Nat) : Field := ⟨0x103000, (0x104 + 0x100 * d), 0, 32⟩
def D_CORR_LO (d : Nat) : Field := ⟨0x103000, (0x108 + 0x100 * d), 0, 32⟩
def D_CORR_HI (d : Nat) : Field := ⟨0x103000, (0x10C + 0x100 * d), 0, 32⟩
def D_UNCORR_LO (d : Nat) : Field := ⟨0x103000, (0x110 + 0x100 * d), 0, 32⟩
def D_UNCORR_HI (d : Nat) : Field := ⟨0x103000, (0x114 + 0x100 * d), 0, 32⟩
def D_SYM_LO (d : Nat) : Field := ⟨0x103000, (0x118 + 0x100 * d), 0, 32⟩
def D_SYM_HI (d : Nat) : Field := ⟨0x103000, (0x11C + 0x100 * d), 0, 32⟩
def D_ERASED_LO (d : Nat) : Field := ⟨0x103000, (0x120 + 0x100 * d), 0, 32⟩
def D_ERASED_HI (d : Nat) : Field := ⟨0x103000, (0x124 + 0x100 * d), 0, 32⟩
def D_BIN_LO (d : Nat) (i : Nat) : Field := ⟨0x103000, (0x140 + 0x100 * d + 0x8 * i), 0, 32⟩
def D_BIN_HI (d : Nat) (i : Nat) : Field := ⟨0x103000, (0x144 + 0x100 * d + 0x8 * i), 0, 32⟩
end HFEC

namespace LTX
def PAGE_ID : Field := ⟨0x104000, 0, 0, 32⟩
def CTRL : Field := ⟨0x104000, 4, 0, 32⟩
def CTRL_FORCE_DIS : Field := ⟨0x104000, 4, 1, 1⟩
def CTRL_EN : Field := ⟨0x104000, 4, 0, 1⟩
def STATUS : Field := ⟨0x104000, 8, 0, 32⟩
def STATUS_SAFE : Field := ⟨0x104000, 8, 11, 1⟩
def STATUS_ABRUPT : Field := ⟨0x104000, 8, 10, 1⟩
def STATUS_DITHER_ACTIVE : Field := ⟨0x104000, 8, 9, 1⟩
def STATUS_NL_BANK : Field := ⟨0x104000, 8, 8, 1⟩
def STATUS_FIR_BAD : Field := ⟨0x104000, 8, 7, 1⟩
def STATUS_FS_ACTIVE1 : Field := ⟨0x104000, 8, 6, 1⟩
def STATUS_FS_ACTIVE0 : Field := ⟨0x104000, 8, 5, 1⟩
def STATUS_POL_ACTIVE : Field := ⟨0x104000, 8, 4, 1⟩
def STATUS_PRECODE_ACTIVE : Field := ⟨0x104000, 8, 3, 1⟩
def STATUS_STATE : Field := ⟨0x104000, 8, 0, 3⟩
def IRQ_RAW : Field := ⟨0x104000, 0xC, 0, 32⟩
def IRQ_DAC_SAT : Field := ⟨0x104000, 0xC, 6, 1⟩
def IRQ_ABRUPT_STOP : Field := ⟨0x104000, 0xC, 5, 1⟩
def IRQ_NL_LOADED : Field := ⟨0x104000, 0xC, 4, 1⟩
def IRQ_FIR_REFUSED : Field := ⟨0x104000, 0xC, 3, 1⟩
def IRQ_FIR_APPLIED : Field := ⟨0x104000, 0xC, 2, 1⟩
def IRQ_OFF_REACHED : Field := ⟨0x104000, 0xC, 1, 1⟩
def IRQ_ON_REACHED : Field := ⟨0x104000, 0xC, 0, 1⟩
def IRQ_EN : Field := ⟨0x104000, 0x10, 0, 32⟩
def IRQ_PEND : Field := ⟨0x104000, 0x14, 0, 32⟩
def FLT_RAW : Field := ⟨0x104000, 0x18, 0, 32⟩
def FLT_LTX_FSM_PAR : Field := ⟨0x104000, 0x18, 3, 1⟩
def FLT_TXDIS_MISMATCH : Field := ⟨0x104000, 0x18, 2, 1⟩
def FLT_NL_PARITY : Field := ⟨0x104000, 0x18, 1, 1⟩
def FLT_DAC_SAT : Field := ⟨0x104000, 0x18, 0, 1⟩
def FLT_EN : Field := ⟨0x104000, 0x1C, 0, 32⟩
def INJECT : Field := ⟨0x104000, 0x20, 0, 32⟩
def INJECT_TARGET : Field := ⟨0x104000, 0x20, 8, 8⟩
def INJECT_BUS_PAR : Field := ⟨0x104000, 0x20, 4, 1⟩
def INJECT_FSM_PAR : Field := ⟨0x104000, 0x20, 3, 1⟩
def INJECT_REG_PAR : Field := ⟨0x104000, 0x20, 2, 1⟩
def INJECT_UE : Field := ⟨0x104000, 0x20, 1, 1⟩
def INJECT_CE : Field := ⟨0x104000, 0x20, 0, 1⟩
def BUSY : Field := ⟨0x104000, 0x24, 0, 32⟩
def BUSY_TRIAL : Field := ⟨0x104000, 0x24, 1, 1⟩
def BUSY_LONG_OP : Field := ⟨0x104000, 0x24, 0, 1⟩
def CFG : Field := ⟨0x104000, 0x40, 0, 32⟩
def CFG_OUTER_CODE : Field := ⟨0x104000, 0x40, 16, 8⟩
def CFG_DITHER_EN : Field := ⟨0x104000, 0x40, 9, 1⟩
def CFG_RAMP_SHAPE : Field := ⟨0x104000, 0x40, 8, 1⟩
def CFG_DAC_FS : Field := ⟨0x104000, 0x40, 4, 2⟩
def CFG_LISTEN_TX : Field := ⟨0x104000, 0x40, 3, 1⟩
def CFG_TXDIS_POL : Field := ⟨0x104000, 0x40, 2, 1⟩
def CFG_TX_POL : Field := ⟨0x104000, 0x40, 1, 1⟩
def CFG_PRECODE : Field := ⟨0x104000, 0x40, 0, 1⟩
def RAMP : Field := ⟨0x104000, 0x44, 0, 32⟩
def RAMP_TXDIS_LEAD : Field := ⟨0x104000, 0x44, 16, 12⟩
def RAMP_TX_RAMP : Field := ⟨0x104000, 0x44, 0, 12⟩
def LAG : Field := ⟨0x104000, 0x48, 0, 32⟩
def LAG_TXDIS_LAG : Field := ⟨0x104000, 0x48, 0, 8⟩
def FIR_CFG : Field := ⟨0x104000, 0x4C, 0, 32⟩
def FIR_CFG_MAIN : Field := ⟨0x104000, 0x4C, 0, 4⟩
def FIR_C (i : Nat) : Field := ⟨0x104000, (0x50 + 0x4 * i), 0, 32⟩
def FIR_C_COEF (i : Nat) : Field := ⟨0x104000, (0x50 + 0x4 * i), 0, 10⟩
def FIR_APPLY : Field := ⟨0x104000, 0x74, 0, 32⟩
def FIR_APPLY_GO : Field := ⟨0x104000, 0x74, 0, 1⟩
def NL_LOAD : Field := ⟨0x104000, 0x78, 0, 32⟩
def NL_LOAD_GO : Field := ⟨0x104000, 0x78, 0, 1⟩
def ENVELOPE : Field := ⟨0x104000, 0x7C, 0, 32⟩
def ENVELOPE_G : Field := ⟨0x104000, 0x7C, 0, 17⟩
def FIR_ACTIVE (i : Nat) : Field := ⟨0x104000, (0x80 + 0x4 * i), 0, 32⟩
def FIR_ACTIVE_COEF (i : Nat) : Field := ⟨0x104000, (0x80 + 0x4 * i), 0, 10⟩
def FIR_MAIN_ACTIVE : Field := ⟨0x104000, 0xA4, 0, 32⟩
def FIR_MAIN_ACTIVE_MAIN : Field := ⟨0x104000, 0xA4, 0, 4⟩
def SAT_CFG : Field := ⟨0x104000, 0xA8, 0, 32⟩
def SAT_CFG_THRESH : Field := ⟨0x104000, 0xA8, 0, 16⟩
def SAT_COUNT : Field := ⟨0x104000, 0xAC, 0, 32⟩
def COUNTS : Field := ⟨0x104000, 0xB0, 0, 32⟩
def COUNTS_RAMP_UP : Field := ⟨0x104000, 0xB0, 16, 16⟩
def COUNTS_ABRUPT : Field := ⟨0x104000, 0xB0, 0, 16⟩
def NL_ENTRY (i : Nat) : Field := ⟨0x104000, (0x100 + 0x4 * i), 0, 32⟩
def NL_ENTRY_CORR (i : Nat) : Field := ⟨0x104000, (0x100 + 0x4 * i), 0, 8⟩
def NL_ACTIVE (i : Nat) : Field := ⟨0x104000, (0x200 + 0x4 * i), 0, 32⟩
def NL_ACTIVE_CORR (i : Nat) : Field := ⟨0x104000, (0x200 + 0x4 * i), 0, 8⟩
end LTX

namespace LRX
def PAGE_ID : Field := ⟨0x105000, 0, 0, 32⟩
def CTRL : Field := ⟨0x105000, 4, 0, 32⟩
def CTRL_EN : Field := ⟨0x105000, 4, 0, 1⟩
def STATUS : Field := ⟨0x105000, 8, 0, 32⟩
def STATUS_GAIN_EPOCH : Field := ⟨0x105000, 8, 16, 16⟩
def STATUS_CAP_BUSY : Field := ⟨0x105000, 8, 15, 1⟩
def STATUS_LOS : Field := ⟨0x105000, 8, 14, 1⟩
def STATUS_SHADOW_PWR : Field := ⟨0x105000, 8, 13, 1⟩
def STATUS_PLAUS_OK : Field := ⟨0x105000, 8, 12, 1⟩
def STATUS_SWAP_STATE : Field := ⟨0x105000, 8, 9, 3⟩
def STATUS_ACTIVE_BANK : Field := ⟨0x105000, 8, 8, 1⟩
def STATUS_BANK_MODE : Field := ⟨0x105000, 8, 6, 2⟩
def STATUS_GAIN_RAIL : Field := ⟨0x105000, 8, 5, 1⟩
def STATUS_SIG_DET : Field := ⟨0x105000, 8, 4, 1⟩
def STATUS_SD_RAW : Field := ⟨0x105000, 8, 3, 1⟩
def STATUS_GAIN_STATE : Field := ⟨0x105000, 8, 0, 3⟩
def IRQ_RAW : Field := ⟨0x105000, 0xC, 0, 32⟩
def IRQ_PLAUS_TEST_DONE : Field := ⟨0x105000, 0xC, 10, 1⟩
def IRQ_EPOCH_FULL : Field := ⟨0x105000, 0xC, 9, 1⟩
def IRQ_CAP_DONE : Field := ⟨0x105000, 0xC, 8, 1⟩
def IRQ_SWAP_ABORTED : Field := ⟨0x105000, 0xC, 7, 1⟩
def IRQ_SWAP_REFUSED : Field := ⟨0x105000, 0xC, 6, 1⟩
def IRQ_SWAP_DONE : Field := ⟨0x105000, 0xC, 5, 1⟩
def IRQ_GAIN_DRIFT : Field := ⟨0x105000, 0xC, 4, 1⟩
def IRQ_GAIN_RAIL : Field := ⟨0x105000, 0xC, 3, 1⟩
def IRQ_GAIN_FROZEN : Field := ⟨0x105000, 0xC, 2, 1⟩
def IRQ_SIG_LOSS : Field := ⟨0x105000, 0xC, 1, 1⟩
def IRQ_SIG_DETECT : Field := ⟨0x105000, 0xC, 0, 1⟩
def IRQ_EN : Field := ⟨0x105000, 0x10, 0, 32⟩
def IRQ_PEND : Field := ⟨0x105000, 0x14, 0, 32⟩
def FLT_RAW : Field := ⟨0x105000, 0x18, 0, 32⟩
def FLT_LRX_FSM_PAR : Field := ⟨0x105000, 0x18, 4, 1⟩
def FLT_ADC_OVERRANGE : Field := ⟨0x105000, 0x18, 3, 1⟩
def FLT_TANDEM_MISMATCH : Field := ⟨0x105000, 0x18, 2, 1⟩
def FLT_SHADOW_IMPLAUSIBLE : Field := ⟨0x105000, 0x18, 1, 1⟩
def FLT_LINE_SIG_LOST : Field := ⟨0x105000, 0x18, 0, 1⟩
def FLT_EN : Field := ⟨0x105000, 0x1C, 0, 32⟩
def INJECT : Field := ⟨0x105000, 0x20, 0, 32⟩
def INJECT_TARGET : Field := ⟨0x105000, 0x20, 8, 8⟩
def INJECT_BUS_PAR : Field := ⟨0x105000, 0x20, 4, 1⟩
def INJECT_FSM_PAR : Field := ⟨0x105000, 0x20, 3, 1⟩
def INJECT_REG_PAR : Field := ⟨0x105000, 0x20, 2, 1⟩
def INJECT_UE : Field := ⟨0x105000, 0x20, 1, 1⟩
def INJECT_CE : Field := ⟨0x105000, 0x20, 0, 1⟩
def BUSY : Field := ⟨0x105000, 0x24, 0, 32⟩
def BUSY_TRIAL : Field := ⟨0x105000, 0x24, 1, 1⟩
def BUSY_LONG_OP : Field := ⟨0x105000, 0x24, 0, 1⟩
def GAIN_CFG : Field := ⟨0x105000, 0x40, 0, 32⟩
def GAIN_CFG_LISTEN_CODE : Field := ⟨0x105000, 0x40, 24, 7⟩
def GAIN_CFG_INIT_CODE : Field := ⟨0x105000, 0x40, 16, 7⟩
def GAIN_CFG_MAN_CODE : Field := ⟨0x105000, 0x40, 8, 7⟩
def GAIN_CFG_MODE : Field := ⟨0x105000, 0x40, 0, 2⟩
def AGC_CFG : Field := ⟨0x105000, 0x44, 0, 32⟩
def AGC_CFG_DRIFT_DB : Field := ⟨0x105000, 0x44, 16, 4⟩
def AGC_CFG_TARGET : Field := ⟨0x105000, 0x44, 0, 8⟩
def SD_CFG : Field := ⟨0x105000, 0x48, 0, 32⟩
def SD_CFG_LOS_POL : Field := ⟨0x105000, 0x48, 16, 1⟩
def SD_CFG_LOS_HOLD : Field := ⟨0x105000, 0x48, 8, 8⟩
def SD_CFG_SD_ON : Field := ⟨0x105000, 0x48, 0, 4⟩
def GAIN : Field := ⟨0x105000, 0x4C, 0, 32⟩
def GAIN_ACQ_TIME : Field := ⟨0x105000, 0x4C, 20, 12⟩
def GAIN_FROZEN_CODE : Field := ⟨0x105000, 0x4C, 8, 7⟩
def GAIN_CODE : Field := ⟨0x105000, 0x4C, 0, 7⟩
def BANK_CFG : Field := ⟨0x105000, 0x50, 0, 32⟩
def BANK_CFG_SETTLE : Field := ⟨0x105000, 0x50, 12, 4⟩
def BANK_CFG_VERIFY : Field := ⟨0x105000, 0x50, 8, 4⟩
def BANK_CFG_SWAP_AUTO : Field := ⟨0x105000, 0x50, 1, 1⟩
def BANK_CFG_SHADOW_EN : Field := ⟨0x105000, 0x50, 0, 1⟩
def PLAUS_CFG : Field := ⟨0x105000, 0x54, 0, 32⟩
def PLAUS_CFG_COUNT : Field := ⟨0x105000, 0x54, 16, 4⟩
def PLAUS_CFG_THRESH : Field := ⟨0x105000, 0x54, 0, 16⟩
def PLAUS_D : Field := ⟨0x105000, 0x58, 0, 32⟩
def PLAUS_D_MAX : Field := ⟨0x105000, 0x58, 16, 16⟩
def PLAUS_D_LAST : Field := ⟨0x105000, 0x58, 0, 16⟩
def PLAUS_STAT : Field := ⟨0x105000, 0x5C, 0, 32⟩
def PLAUS_STAT_FAIL_WINDOWS : Field := ⟨0x105000, 0x5C, 16, 16⟩
def PLAUS_STAT_TEST_RESULT : Field := ⟨0x105000, 0x5C, 0, 2⟩
def CMD : Field := ⟨0x105000, 0x60, 0, 32⟩
def CMD_CLR_STATS : Field := ⟨0x105000, 0x60, 3, 1⟩
def CMD_PLAUS_TEST : Field := ⟨0x105000, 0x60, 2, 1⟩
def CMD_GAIN_REACQ : Field := ⟨0x105000, 0x60, 1, 1⟩
def CMD_SWAP : Field := ⟨0x105000, 0x60, 0, 1⟩
def SWAP_INFO : Field := ⟨0x105000, 0x64, 0, 32⟩
def SWAP_INFO_REASON : Field := ⟨0x105000, 0x64, 20, 4⟩
def SWAP_INFO_COUNT : Field := ⟨0x105000, 0x64, 0, 16⟩
def SWAP_FAILS : Field := ⟨0x105000, 0x68, 0, 32⟩
def SWAP_FAILS_ABORTED : Field := ⟨0x105000, 0x68, 16, 16⟩
def SWAP_FAILS_REFUSED : Field := ⟨0x105000, 0x68, 0, 16⟩
def TANDEM_EST : Field := ⟨0x105000, 0x6C, 0, 32⟩
def TANDEM_EST_SKEW_FS : Field := ⟨0x105000, 0x6C, 16, 16⟩
def TANDEM_EST_SPUR : Field := ⟨0x105000, 0x6C, 0, 16⟩
def TANDEM_CFG : Field := ⟨0x105000, 0x70, 0, 32⟩
def TANDEM_CFG_SPUR_MIN : Field := ⟨0x105000, 0x70, 0, 16⟩
def CLIP_CFG : Field := ⟨0x105000, 0x74, 0, 32⟩
def CLIP_CFG_THRESH : Field := ⟨0x105000, 0x74, 0, 16⟩
def CLIP_COUNT : Field := ⟨0x105000, 0x78, 0, 32⟩
def RMS : Field := ⟨0x105000, 0x7C, 0, 32⟩
def RMS_RMS : Field := ⟨0x105000, 0x7C, 0, 16⟩
def CAP_CTRL : Field := ⟨0x105000, 0x80, 0, 32⟩
def CAP_CTRL_ABORT : Field := ⟨0x105000, 0x80, 1, 1⟩
def CAP_CTRL_ARM : Field := ⟨0x105000, 0x80, 0, 1⟩
def CAP_CFG : Field := ⟨0x105000, 0x84, 0, 32⟩
def CAP_CFG_DECIM : Field := ⟨0x105000, 0x84, 12, 4⟩
def CAP_CFG_PRE : Field := ⟨0x105000, 0x84, 8, 3⟩
def CAP_CFG_TRIG : Field := ⟨0x105000, 0x84, 4, 3⟩
def CAP_CFG_SRC : Field := ⟨0x105000, 0x84, 0, 2⟩
def CAP_STATUS : Field := ⟨0x105000, 0x88, 0, 32⟩
def CAP_STATUS_STATE : Field := ⟨0x105000, 0x88, 24, 3⟩
def CAP_STATUS_COUNT : Field := ⟨0x105000, 0x88, 0, 19⟩
def CAP_START : Field := ⟨0x105000, 0x8C, 0, 32⟩
def CAP_START_WORD : Field := ⟨0x105000, 0x8C, 0, 15⟩
def CAP_TRIG_POS : Field := ⟨0x105000, 0x90, 0, 32⟩
def CAP_TRIG_POS_INDEX : Field := ⟨0x105000, 0x90, 0, 18⟩
def CAP_TS_NS : Field := ⟨0x105000, 0x94, 0, 32⟩
def CAP_TS_SEC : Field := ⟨0x105000, 0x98, 0, 32⟩
def CAP_EPOCHS : Field := ⟨0x105000, 0x9C, 0, 32⟩
def CAP_EPOCHS_ENTRIES : Field := ⟨0x105000, 0x9C, 0, 7⟩
def EPOCH_A (i : Nat) : Field := ⟨0x105000, (0x400 + 0x8 * i), 0, 32⟩
def EPOCH_A_TYPE (i : Nat) : Field := ⟨0x105000, (0x400 + 0x8 * i), 31, 1⟩
def EPOCH_A_BANK (i : Nat) : Field := ⟨0x105000, (0x400 + 0x8 * i), 30, 1⟩
def EPOCH_A_CODE (i : Nat) : Field := ⟨0x105000, (0x400 + 0x8 * i), 18, 7⟩
def EPOCH_A_START (i : Nat) : Field := ⟨0x105000, (0x400 + 0x8 * i), 0, 18⟩
def EPOCH_B (i : Nat) : Field := ⟨0x105000, (0x404 + 0x8 * i), 0, 32⟩
def EPOCH_B_GAIN_EPOCH (i : Nat) : Field := ⟨0x105000, (0x404 + 0x8 * i), 0, 16⟩
end LRX

namespace TIM
def PAGE_ID : Field := ⟨0x106000, 0, 0, 32⟩
def CTRL : Field := ⟨0x106000, 4, 0, 32⟩
def CTRL_EN : Field := ⟨0x106000, 4, 0, 1⟩
def STATUS : Field := ⟨0x106000, 8, 0, 32⟩
def STATUS_BW_ACTIVE : Field := ⟨0x106000, 8, 8, 4⟩
def STATUS_FINE_SLEWING : Field := ⟨0x106000, 8, 6, 1⟩
def STATUS_RANGE_CLAMP : Field := ⟨0x106000, 8, 5, 1⟩
def STATUS_TIM_LOCK : Field := ⟨0x106000, 8, 4, 1⟩
def STATUS_LOOP_STATE : Field := ⟨0x106000, 8, 0, 3⟩
def IRQ_RAW : Field := ⟨0x106000, 0xC, 0, 32⟩
def IRQ_DESKEW_JUMP : Field := ⟨0x106000, 0xC, 4, 1⟩
def IRQ_DESKEW_APPLIED : Field := ⟨0x106000, 0xC, 3, 1⟩
def IRQ_SAT : Field := ⟨0x106000, 0xC, 2, 1⟩
def IRQ_LOCK_LOST : Field := ⟨0x106000, 0xC, 1, 1⟩
def IRQ_LOCK : Field := ⟨0x106000, 0xC, 0, 1⟩
def IRQ_EN : Field := ⟨0x106000, 0x10, 0, 32⟩
def IRQ_PEND : Field := ⟨0x106000, 0x14, 0, 32⟩
def FLT_RAW : Field := ⟨0x106000, 0x18, 0, 32⟩
def FLT_TIM_FSM_PAR : Field := ⟨0x106000, 0x18, 2, 1⟩
def FLT_TIM_RANGE : Field := ⟨0x106000, 0x18, 1, 1⟩
def FLT_TIM_LOCK_LOST : Field := ⟨0x106000, 0x18, 0, 1⟩
def FLT_EN : Field := ⟨0x106000, 0x1C, 0, 32⟩
def INJECT : Field := ⟨0x106000, 0x20, 0, 32⟩
def INJECT_TARGET : Field := ⟨0x106000, 0x20, 8, 8⟩
def INJECT_BUS_PAR : Field := ⟨0x106000, 0x20, 4, 1⟩
def INJECT_FSM_PAR : Field := ⟨0x106000, 0x20, 3, 1⟩
def INJECT_REG_PAR : Field := ⟨0x106000, 0x20, 2, 1⟩
def INJECT_UE : Field := ⟨0x106000, 0x20, 1, 1⟩
def INJECT_CE : Field := ⟨0x106000, 0x20, 0, 1⟩
def BUSY : Field := ⟨0x106000, 0x24, 0, 32⟩
def BUSY_TRIAL : Field := ⟨0x106000, 0x24, 1, 1⟩
def BUSY_LONG_OP : Field := ⟨0x106000, 0x24, 0, 1⟩
def LOOP_CFG : Field := ⟨0x106000, 0x40, 0, 32⟩
def LOOP_CFG_GUARD_BW : Field := ⟨0x106000, 0x40, 8, 4⟩
def LOOP_CFG_ACQ_BW : Field := ⟨0x106000, 0x40, 4, 4⟩
def LOOP_CFG_BW : Field := ⟨0x106000, 0x40, 0, 4⟩
def LOCK_CFG : Field := ⟨0x106000, 0x44, 0, 32⟩
def LOCK_CFG_UNLOCK_THR : Field := ⟨0x106000, 0x44, 8, 8⟩
def LOCK_CFG_LOCK_THR : Field := ⟨0x106000, 0x44, 0, 8⟩
def NCO_NOM : Field := ⟨0x106000, 0x48, 0, 32⟩
def FREQ : Field := ⟨0x106000, 0x4C, 0, 32⟩
def FREQ_PHASE : Field := ⟨0x106000, 0x4C, 16, 6⟩
def FREQ_PPM : Field := ⟨0x106000, 0x4C, 0, 16⟩
def DESKEW : Field := ⟨0x106000, 0x50, 0, 32⟩
def DESKEW_FINE : Field := ⟨0x106000, 0x50, 8, 6⟩
def DESKEW_COARSE : Field := ⟨0x106000, 0x50, 0, 8⟩
def DESKEW_ACTIVE : Field := ⟨0x106000, 0x54, 0, 32⟩
def DESKEW_ACTIVE_FINE : Field := ⟨0x106000, 0x54, 8, 6⟩
def DESKEW_ACTIVE_COARSE : Field := ⟨0x106000, 0x54, 0, 8⟩
def FIXED_DELAY_PS : Field := ⟨0x106000, 0x58, 0, 32⟩
def FIXED_DELAY_PS_PS : Field := ⟨0x106000, 0x58, 0, 16⟩
def PHASE_ERR : Field := ⟨0x106000, 0x5C, 0, 32⟩
def PHASE_ERR_MEAN : Field := ⟨0x106000, 0x5C, 16, 16⟩
def PHASE_ERR_RMS : Field := ⟨0x106000, 0x5C, 0, 16⟩
def SAT_FLAGS : Field := ⟨0x106000, 0x60, 0, 32⟩
def SAT_FLAGS_LOOP_INT : Field := ⟨0x106000, 0x60, 4, 1⟩
def SAT_FLAGS_LOOP_PROP : Field := ⟨0x106000, 0x60, 3, 1⟩
def SAT_FLAGS_QUICK_FFE : Field := ⟨0x106000, 0x60, 2, 1⟩
def SAT_FLAGS_INTERP : Field := ⟨0x106000, 0x60, 1, 1⟩
def SAT_FLAGS_PREFILTER : Field := ⟨0x106000, 0x60, 0, 1⟩
def COUNTS : Field := ⟨0x106000, 0x64, 0, 32⟩
def COUNTS_ACQ : Field := ⟨0x106000, 0x64, 16, 16⟩
def COUNTS_LOCK_LOST : Field := ⟨0x106000, 0x64, 0, 16⟩
def CMD : Field := ⟨0x106000, 0x68, 0, 32⟩
def CMD_PF_APPLY : Field := ⟨0x106000, 0x68, 2, 1⟩
def CMD_CLR_STATS : Field := ⟨0x106000, 0x68, 1, 1⟩
def CMD_REACQ : Field := ⟨0x106000, 0x68, 0, 1⟩
def PREFILTER_C (i : Nat) : Field := ⟨0x106000, (0x80 + 0x4 * i), 0, 32⟩
def PREFILTER_C_COEF (i : Nat) : Field := ⟨0x106000, (0x80 + 0x4 * i), 0, 12⟩
def PF_ACTIVE (i : Nat) : Field := ⟨0x106000, (0xA0 + 0x4 * i), 0, 32⟩
def PF_ACTIVE_COEF (i : Nat) : Field := ⟨0x106000, (0xA0 + 0x4 * i), 0, 12⟩
end TIM

namespace EQ
def PAGE_ID : Field := ⟨0x107000, 0, 0, 32⟩
def CTRL : Field := ⟨0x107000, 4, 0, 32⟩
def CTRL_EN : Field := ⟨0x107000, 4, 0, 1⟩
def STATUS : Field := ⟨0x107000, 8, 0, 32⟩
def STATUS_GUARD_CAUSE : Field := ⟨0x107000, 8, 8, 5⟩
def STATUS_PRECODE_ACTIVE : Field := ⟨0x107000, 8, 7, 1⟩
def STATUS_NOTICE_ACTIVE : Field := ⟨0x107000, 8, 6, 1⟩
def STATUS_DRESS_OK : Field := ⟨0x107000, 8, 5, 1⟩
def STATUS_GUARD_HOLD : Field := ⟨0x107000, 8, 4, 1⟩
def STATUS_ADAPT_FROZEN : Field := ⟨0x107000, 8, 3, 1⟩
def STATUS_EQ_STATE : Field := ⟨0x107000, 8, 0, 3⟩
def IRQ_RAW : Field := ⟨0x107000, 0xC, 0, 32⟩
def IRQ_SNR_LOW : Field := ⟨0x107000, 0xC, 6, 1⟩
def IRQ_EYE_DONE : Field := ⟨0x107000, 0xC, 5, 1⟩
def IRQ_SAT : Field := ⟨0x107000, 0xC, 4, 1⟩
def IRQ_GUARD_RELEASE : Field := ⟨0x107000, 0xC, 3, 1⟩
def IRQ_GUARD_ENTER : Field := ⟨0x107000, 0xC, 2, 1⟩
def IRQ_DIVERGE : Field := ⟨0x107000, 0xC, 1, 1⟩
def IRQ_EQ_READY : Field := ⟨0x107000, 0xC, 0, 1⟩
def IRQ_EN : Field := ⟨0x107000, 0x10, 0, 32⟩
def IRQ_PEND : Field := ⟨0x107000, 0x14, 0, 32⟩
def FLT_RAW : Field := ⟨0x107000, 0x18, 0, 32⟩
def FLT_EQ_FSM_PAR : Field := ⟨0x107000, 0x18, 2, 1⟩
def FLT_EQ_DIVERGE : Field := ⟨0x107000, 0x18, 1, 1⟩
def FLT_GUARD_LONG : Field := ⟨0x107000, 0x18, 0, 1⟩
def FLT_EN : Field := ⟨0x107000, 0x1C, 0, 32⟩
def INJECT : Field := ⟨0x107000, 0x20, 0, 32⟩
def INJECT_TARGET : Field := ⟨0x107000, 0x20, 8, 8⟩
def INJECT_BUS_PAR : Field := ⟨0x107000, 0x20, 4, 1⟩
def INJECT_FSM_PAR : Field := ⟨0x107000, 0x20, 3, 1⟩
def INJECT_REG_PAR : Field := ⟨0x107000, 0x20, 2, 1⟩
def INJECT_UE : Field := ⟨0x107000, 0x20, 1, 1⟩
def INJECT_CE : Field := ⟨0x107000, 0x20, 0, 1⟩
def BUSY : Field := ⟨0x107000, 0x24, 0, 32⟩
def BUSY_TRIAL : Field := ⟨0x107000, 0x24, 1, 1⟩
def BUSY_LONG_OP : Field := ⟨0x107000, 0x24, 0, 1⟩
def CFG : Field := ⟨0x107000, 0x40, 0, 32⟩
def CFG_ACQ_WINDOWS : Field := ⟨0x107000, 0x40, 28, 4⟩
def CFG_STEP : Field := ⟨0x107000, 0x40, 16, 5⟩
def CFG_ADAPT_EN : Field := ⟨0x107000, 0x40, 10, 1⟩
def CFG_PRECODE : Field := ⟨0x107000, 0x40, 9, 1⟩
def CFG_DFE_EN : Field := ⟨0x107000, 0x40, 8, 1⟩
def CFG_CURSOR : Field := ⟨0x107000, 0x40, 0, 6⟩
def GUARD_CFG : Field := ⟨0x107000, 0x44, 0, 32⟩
def GUARD_CFG_LONG_MS : Field := ⟨0x107000, 0x44, 20, 12⟩
def GUARD_CFG_EN : Field := ⟨0x107000, 0x44, 16, 1⟩
def GUARD_CFG_TRANS_MIN : Field := ⟨0x107000, 0x44, 8, 7⟩
def GUARD_CFG_GUARD : Field := ⟨0x107000, 0x44, 0, 4⟩
def NOTICE_CFG : Field := ⟨0x107000, 0x48, 0, 32⟩
def NOTICE_CFG_HOLD : Field := ⟨0x107000, 0x48, 0, 8⟩
def SNR_CFG : Field := ⟨0x107000, 0x4C, 0, 32⟩
def SNR_CFG_FLOOR : Field := ⟨0x107000, 0x4C, 0, 16⟩
def SNR : Field := ⟨0x107000, 0x50, 0, 32⟩
def SNR_DB16 : Field := ⟨0x107000, 0x50, 0, 16⟩
def SNR_L01 : Field := ⟨0x107000, 0x54, 0, 32⟩
def SNR_L01_HIGH : Field := ⟨0x107000, 0x54, 16, 16⟩
def SNR_L01_LOW : Field := ⟨0x107000, 0x54, 0, 16⟩
def SNR_L23 : Field := ⟨0x107000, 0x58, 0, 32⟩
def SNR_L23_HIGH : Field := ⟨0x107000, 0x58, 16, 16⟩
def SNR_L23_LOW : Field := ⟨0x107000, 0x58, 0, 16⟩
def LEVEL01 : Field := ⟨0x107000, 0x5C, 0, 32⟩
def LEVEL01_HIGH : Field := ⟨0x107000, 0x5C, 16, 16⟩
def LEVEL01_LOW : Field := ⟨0x107000, 0x5C, 0, 16⟩
def LEVEL23 : Field := ⟨0x107000, 0x60, 0, 32⟩
def LEVEL23_HIGH : Field := ⟨0x107000, 0x60, 16, 16⟩
def LEVEL23_LOW : Field := ⟨0x107000, 0x60, 0, 16⟩
def OCC01 : Field := ⟨0x107000, 0x64, 0, 32⟩
def OCC01_HIGH : Field := ⟨0x107000, 0x64, 16, 16⟩
def OCC01_LOW : Field := ⟨0x107000, 0x64, 0, 16⟩
def OCC23 : Field := ⟨0x107000, 0x68, 0, 32⟩
def OCC23_HIGH : Field := ⟨0x107000, 0x68, 16, 16⟩
def OCC23_LOW : Field := ⟨0x107000, 0x68, 0, 16⟩
def TRANS : Field := ⟨0x107000, 0x6C, 0, 32⟩
def TRANS_DENSITY : Field := ⟨0x107000, 0x6C, 0, 16⟩
def DFE : Field := ⟨0x107000, 0x70, 0, 32⟩
def DFE_TAP2 : Field := ⟨0x107000, 0x70, 16, 10⟩
def DFE_TAP1 : Field := ⟨0x107000, 0x70, 0, 10⟩
def SAT_FLAGS : Field := ⟨0x107000, 0x74, 0, 32⟩
def SAT_FLAGS_EYE_BIN : Field := ⟨0x107000, 0x74, 6, 1⟩
def SAT_FLAGS_SNR_ACC : Field := ⟨0x107000, 0x74, 5, 1⟩
def SAT_FLAGS_LEVEL : Field := ⟨0x107000, 0x74, 4, 1⟩
def SAT_FLAGS_DFE_TAP : Field := ⟨0x107000, 0x74, 3, 1⟩
def SAT_FLAGS_FFE_TAP : Field := ⟨0x107000, 0x74, 2, 1⟩
def SAT_FLAGS_DFE_SUM : Field := ⟨0x107000, 0x74, 1, 1⟩
def SAT_FLAGS_FFE_ACC : Field := ⟨0x107000, 0x74, 0, 1⟩
def GUARD_COUNT : Field := ⟨0x107000, 0x78, 0, 32⟩
def GUARD_COUNT_ENTRIES : Field := ⟨0x107000, 0x78, 16, 16⟩
def GUARD_COUNT_LONG : Field := ⟨0x107000, 0x78, 0, 16⟩
def GUARD_TIME : Field := ⟨0x107000, 0x7C, 0, 32⟩
def NOTICE_COUNT : Field := ⟨0x107000, 0x80, 0, 32⟩
def EYE_CFG : Field := ⟨0x107000, 0x84, 0, 32⟩
def EYE_CFG_DWELL : Field := ⟨0x107000, 0x84, 0, 5⟩
def EYE_CTRL : Field := ⟨0x107000, 0x88, 0, 32⟩
def EYE_CTRL_ABORT : Field := ⟨0x107000, 0x88, 1, 1⟩
def EYE_CTRL_START : Field := ⟨0x107000, 0x88, 0, 1⟩
def EYE_STATUS : Field := ⟨0x107000, 0x8C, 0, 32⟩
def EYE_STATUS_PHASE : Field := ⟨0x107000, 0x8C, 8, 6⟩
def EYE_STATUS_STATE : Field := ⟨0x107000, 0x8C, 0, 3⟩
def CMD : Field := ⟨0x107000, 0x90, 0, 32⟩
def CMD_CLR_STATS : Field := ⟨0x107000, 0x90, 1, 1⟩
def CMD_RESTART : Field := ⟨0x107000, 0x90, 0, 1⟩
def FFE_TAP (i : Nat) : Field := ⟨0x107000, (0x100 + 0x4 * i), 0, 32⟩
def FFE_TAP_COEF (i : Nat) : Field := ⟨0x107000, (0x100 + 0x4 * i), 0, 12⟩
end EQ

namespace BOLT
def PAGE_ID : Field := ⟨0x108000, 0, 0, 32⟩
def CTRL : Field := ⟨0x108000, 4, 0, 32⟩
def CTRL_EN : Field := ⟨0x108000, 4, 0, 1⟩
def STATUS : Field := ⟨0x108000, 8, 0, 32⟩
def STATUS_OFFSET : Field := ⟨0x108000, 8, 8, 6⟩
def STATUS_BER_VALID : Field := ⟨0x108000, 8, 4, 1⟩
def STATUS_BLOCK_LOCK : Field := ⟨0x108000, 8, 3, 1⟩
def STATUS_STATE : Field := ⟨0x108000, 8, 0, 3⟩
def IRQ_RAW : Field := ⟨0x108000, 0xC, 0, 32⟩
def IRQ_WINDOW_END : Field := ⟨0x108000, 0xC, 4, 1⟩
def IRQ_BER_HIGH : Field := ⟨0x108000, 0xC, 3, 1⟩
def IRQ_DESKEW_RELOCK : Field := ⟨0x108000, 0xC, 2, 1⟩
def IRQ_BLOCK_LOST : Field := ⟨0x108000, 0xC, 1, 1⟩
def IRQ_BLOCK_LOCK : Field := ⟨0x108000, 0xC, 0, 1⟩
def IRQ_EN : Field := ⟨0x108000, 0x10, 0, 32⟩
def IRQ_PEND : Field := ⟨0x108000, 0x14, 0, 32⟩
def FLT_RAW : Field := ⟨0x108000, 0x18, 0, 32⟩
def FLT_BOLT_FSM_PAR : Field := ⟨0x108000, 0x18, 3, 1⟩
def FLT_DEC_CHECK : Field := ⟨0x108000, 0x18, 2, 1⟩
def FLT_BER_HIGH : Field := ⟨0x108000, 0x18, 1, 1⟩
def FLT_BLOCK_LOST : Field := ⟨0x108000, 0x18, 0, 1⟩
def FLT_EN : Field := ⟨0x108000, 0x1C, 0, 32⟩
def INJECT : Field := ⟨0x108000, 0x20, 0, 32⟩
def INJECT_TARGET : Field := ⟨0x108000, 0x20, 8, 8⟩
def INJECT_BUS_PAR : Field := ⟨0x108000, 0x20, 4, 1⟩
def INJECT_FSM_PAR : Field := ⟨0x108000, 0x20, 3, 1⟩
def INJECT_REG_PAR : Field := ⟨0x108000, 0x20, 2, 1⟩
def INJECT_UE : Field := ⟨0x108000, 0x20, 1, 1⟩
def INJECT_CE : Field := ⟨0x108000, 0x20, 0, 1⟩
def BUSY : Field := ⟨0x108000, 0x24, 0, 32⟩
def BUSY_TRIAL : Field := ⟨0x108000, 0x24, 1, 1⟩
def BUSY_LONG_OP : Field := ⟨0x108000, 0x24, 0, 1⟩
def LOCK_CFG : Field := ⟨0x108000, 0x40, 0, 32⟩
def LOCK_CFG_LOSS_COUNT : Field := ⟨0x108000, 0x40, 24, 8⟩
def LOCK_CFG_LOSS_FRAC : Field := ⟨0x108000, 0x40, 8, 8⟩
def LOCK_CFG_ACQ_FRAC : Field := ⟨0x108000, 0x40, 0, 8⟩
def ERASE_CFG : Field := ⟨0x108000, 0x44, 0, 32⟩
def ERASE_CFG_MARGIN : Field := ⟨0x108000, 0x44, 8, 6⟩
def ERASE_CFG_BITS : Field := ⟨0x108000, 0x44, 0, 4⟩
def BER_CFG : Field := ⟨0x108000, 0x48, 0, 32⟩
def BER_CFG_THRESH : Field := ⟨0x108000, 0x48, 0, 8⟩
def BER_EST : Field := ⟨0x108000, 0x4C, 0, 32⟩
def BER_EST_VALID : Field := ⟨0x108000, 0x4C, 8, 1⟩
def BER_EST_CODE : Field := ⟨0x108000, 0x4C, 0, 8⟩
def WIN_CORR : Field := ⟨0x108000, 0x50, 0, 32⟩
def WIN_UNC : Field := ⟨0x108000, 0x54, 0, 32⟩
def WIN_UNC_COUNT : Field := ⟨0x108000, 0x54, 0, 25⟩
def LOCK_COUNT : Field := ⟨0x108000, 0x58, 0, 32⟩
def LOCK_COUNT_LOST : Field := ⟨0x108000, 0x58, 16, 16⟩
def LOCK_COUNT_RELOCK : Field := ⟨0x108000, 0x58, 0, 16⟩
def CMD : Field := ⟨0x108000, 0x5C, 0, 32⟩
def CMD_CLR_CNT : Field := ⟨0x108000, 0x5C, 0, 1⟩
def BLOCKS_LO : Field := ⟨0x108000, 0x100, 0, 32⟩
def BLOCKS_HI : Field := ⟨0x108000, 0x104, 0, 32⟩
def BITS_CORR_LO : Field := ⟨0x108000, 0x108, 0, 32⟩
def BITS_CORR_HI : Field := ⟨0x108000, 0x10C, 0, 32⟩
def UNCORR_LO : Field := ⟨0x108000, 0x110, 0, 32⟩
def UNCORR_HI : Field := ⟨0x108000, 0x114, 0, 32⟩
def FLAGGED_LO : Field := ⟨0x108000, 0x118, 0, 32⟩
def FLAGGED_HI : Field := ⟨0x108000, 0x11C, 0, 32⟩
def HIST_LO (i : Nat) : Field := ⟨0x108000, (0x140 + 0x8 * i), 0, 32⟩
def HIST_HI (i : Nat) : Field := ⟨0x108000, (0x144 + 0x8 * i), 0, 32⟩
end BOLT

namespace DRESS
def PAGE_ID : Field := ⟨0x109000, 0, 0, 32⟩
def CTRL : Field := ⟨0x109000, 4, 0, 32⟩
def CTRL_AUTO_EN : Field := ⟨0x109000, 4, 1, 1⟩
def CTRL_EN : Field := ⟨0x109000, 4, 0, 1⟩
def STATUS : Field := ⟨0x109000, 8, 0, 32⟩
def STATUS_DEFER_CAUSE : Field := ⟨0x109000, 8, 20, 4⟩
def STATUS_SCOPE_ACTIVE : Field := ⟨0x109000, 8, 16, 4⟩
def STATUS_AUTO_PENDING : Field := ⟨0x109000, 8, 11, 1⟩
def STATUS_TEMP_VALID : Field := ⟨0x109000, 8, 10, 1⟩
def STATUS_REF_VALID : Field := ⟨0x109000, 8, 9, 1⟩
def STATUS_STEP_IN_FLIGHT : Field := ⟨0x109000, 8, 8, 1⟩
def STATUS_STATE : Field := ⟨0x109000, 8, 0, 3⟩
def IRQ_RAW : Field := ⟨0x109000, 0xC, 0, 32⟩
def IRQ_SEED_DONE : Field := ⟨0x109000, 0xC, 6, 1⟩
def IRQ_TRIM_RAIL : Field := ⟨0x109000, 0xC, 5, 1⟩
def IRQ_PASS_TIMEOUT : Field := ⟨0x109000, 0xC, 4, 1⟩
def IRQ_PASS_ABORTED : Field := ⟨0x109000, 0xC, 3, 1⟩
def IRQ_PASS_DONE : Field := ⟨0x109000, 0xC, 2, 1⟩
def IRQ_AUTO_START : Field := ⟨0x109000, 0xC, 1, 1⟩
def IRQ_PASS_START : Field := ⟨0x109000, 0xC, 0, 1⟩
def IRQ_EN : Field := ⟨0x109000, 0x10, 0, 32⟩
def IRQ_PEND : Field := ⟨0x109000, 0x14, 0, 32⟩
def FLT_RAW : Field := ⟨0x109000, 0x18, 0, 32⟩
def FLT_DRESS_FSM_PAR : Field := ⟨0x109000, 0x18, 3, 1⟩
def FLT_TRIM_MEM_UE : Field := ⟨0x109000, 0x18, 2, 1⟩
def FLT_PASS_TIMEOUT : Field := ⟨0x109000, 0x18, 1, 1⟩
def FLT_TRIM_RAIL : Field := ⟨0x109000, 0x18, 0, 1⟩
def FLT_EN : Field := ⟨0x109000, 0x1C, 0, 32⟩
def INJECT : Field := ⟨0x109000, 0x20, 0, 32⟩
def INJECT_TARGET : Field := ⟨0x109000, 0x20, 8, 8⟩
def INJECT_BUS_PAR : Field := ⟨0x109000, 0x20, 4, 1⟩
def INJECT_FSM_PAR : Field := ⟨0x109000, 0x20, 3, 1⟩
def INJECT_REG_PAR : Field := ⟨0x109000, 0x20, 2, 1⟩
def INJECT_UE : Field := ⟨0x109000, 0x20, 1, 1⟩
def INJECT_CE : Field := ⟨0x109000, 0x20, 0, 1⟩
def BUSY : Field := ⟨0x109000, 0x24, 0, 32⟩
def BUSY_TRIAL : Field := ⟨0x109000, 0x24, 1, 1⟩
def BUSY_LONG_OP : Field := ⟨0x109000, 0x24, 0, 1⟩
def CFG : Field := ⟨0x109000, 0x40, 0, 32⟩
def CFG_MAX_ROUNDS : Field := ⟨0x109000, 0x40, 28, 4⟩
def CFG_DEADBAND : Field := ⟨0x109000, 0x40, 24, 4⟩
def CFG_STEP_INT : Field := ⟨0x109000, 0x40, 0, 8⟩
def TEMP_CFG : Field := ⟨0x109000, 0x44, 0, 32⟩
def TEMP_CFG_DELTA : Field := ⟨0x109000, 0x44, 0, 9⟩
def SCOPE : Field := ⟨0x109000, 0x48, 0, 32⟩
def SCOPE_CMD_SCOPE : Field := ⟨0x109000, 0x48, 8, 4⟩
def SCOPE_AUTO_SCOPE : Field := ⟨0x109000, 0x48, 0, 4⟩
def CMD : Field := ⟨0x109000, 0x4C, 0, 32⟩
def CMD_ABORT : Field := ⟨0x109000, 0x4C, 1, 1⟩
def CMD_PASS : Field := ⟨0x109000, 0x4C, 0, 1⟩
def DEFER_CFG : Field := ⟨0x109000, 0x50, 0, 32⟩
def DEFER_CFG_LIMIT_MS : Field := ⟨0x109000, 0x50, 0, 16⟩
def TEMP : Field := ⟨0x109000, 0x54, 0, 32⟩
def TEMP_REF : Field := ⟨0x109000, 0x54, 16, 16⟩
def TEMP_NOW : Field := ⟨0x109000, 0x54, 0, 16⟩
def PASS_RESULT : Field := ⟨0x109000, 0x58, 0, 32⟩
def PASS_RESULT_STATUS : Field := ⟨0x109000, 0x58, 28, 4⟩
def PASS_RESULT_TRIGGER : Field := ⟨0x109000, 0x58, 24, 4⟩
def PASS_RESULT_ROUNDS : Field := ⟨0x109000, 0x58, 16, 4⟩
def PASS_RESULT_HOST_DAC : Field := ⟨0x109000, 0x58, 12, 4⟩
def PASS_RESULT_LINE_DAC : Field := ⟨0x109000, 0x58, 8, 4⟩
def PASS_RESULT_HOST_ADC : Field := ⟨0x109000, 0x58, 4, 4⟩
def PASS_RESULT_LINE_ADC : Field := ⟨0x109000, 0x58, 0, 4⟩
def PASS_TRIMS : Field := ⟨0x109000, 0x5C, 0, 32⟩
def PASS_TRIMS_COUNT : Field := ⟨0x109000, 0x5C, 0, 15⟩
def PASS_US : Field := ⟨0x109000, 0x60, 0, 32⟩
def DEFER_US : Field := ⟨0x109000, 0x64, 0, 32⟩
def STEPS : Field := ⟨0x109000, 0x68, 0, 32⟩
def PASS_COUNT : Field := ⟨0x109000, 0x6C, 0, 32⟩
def PASS_COUNT_DONE : Field := ⟨0x109000, 0x6C, 16, 16⟩
def PASS_COUNT_ABORTED : Field := ⟨0x109000, 0x6C, 0, 16⟩
def RAIL : Field := ⟨0x109000, 0x70, 0, 32⟩
def RAIL_VALID : Field := ⟨0x109000, 0x70, 31, 1⟩
def RAIL_HIGH : Field := ⟨0x109000, 0x70, 16, 1⟩
def RAIL_INDEX : Field := ⟨0x109000, 0x70, 0, 15⟩
def LAST_DONE_SEC : Field := ⟨0x109000, 0x74, 0, 32⟩
end DRESS

namespace MRACE
def PAGE_ID : Field := ⟨0x10A000, 0, 0, 32⟩
def CTRL : Field := ⟨0x10A000, 4, 0, 32⟩
def CTRL_RX_EN : Field := ⟨0x10A000, 4, 2, 1⟩
def CTRL_TX_EN : Field := ⟨0x10A000, 4, 1, 1⟩
def CTRL_EN : Field := ⟨0x10A000, 4, 0, 1⟩
def STATUS : Field := ⟨0x10A000, 8, 0, 32⟩
def STATUS_RX_STATE : Field := ⟨0x10A000, 8, 16, 3⟩
def STATUS_TX_STATE : Field := ⟨0x10A000, 8, 12, 3⟩
def STATUS_FIFO_COUNT : Field := ⟨0x10A000, 8, 8, 3⟩
def STATUS_QUEUE_COUNT : Field := ⟨0x10A000, 8, 4, 3⟩
def STATUS_PRIO_PENDING : Field := ⟨0x10A000, 8, 3, 1⟩
def STATUS_ECHO_OUTSTANDING : Field := ⟨0x10A000, 8, 2, 1⟩
def STATUS_FAR_VALID : Field := ⟨0x10A000, 8, 1, 1⟩
def STATUS_RX_GAIN_FROZEN : Field := ⟨0x10A000, 8, 0, 1⟩
def IRQ_RAW : Field := ⟨0x10A000, 0xC, 0, 32⟩
def IRQ_WAKE_FRAME : Field := ⟨0x10A000, 0xC, 9, 1⟩
def IRQ_FAR_CHANGED : Field := ⟨0x10A000, 0xC, 8, 1⟩
def IRQ_FAR_LOST : Field := ⟨0x10A000, 0xC, 7, 1⟩
def IRQ_FAR_FOUND : Field := ⟨0x10A000, 0xC, 6, 1⟩
def IRQ_ECHO_DONE : Field := ⟨0x10A000, 0xC, 5, 1⟩
def IRQ_RX_OVERFLOW : Field := ⟨0x10A000, 0xC, 4, 1⟩
def IRQ_RX_ERR : Field := ⟨0x10A000, 0xC, 3, 1⟩
def IRQ_RX_FRAME : Field := ⟨0x10A000, 0xC, 2, 1⟩
def IRQ_TX_ABORTED : Field := ⟨0x10A000, 0xC, 1, 1⟩
def IRQ_TX_DONE : Field := ⟨0x10A000, 0xC, 0, 1⟩
def IRQ_EN : Field := ⟨0x10A000, 0x10, 0, 32⟩
def IRQ_PEND : Field := ⟨0x10A000, 0x14, 0, 32⟩
def FLT_RAW : Field := ⟨0x10A000, 0x18, 0, 32⟩
def FLT_MR_FSM_PAR : Field := ⟨0x10A000, 0x18, 3, 1⟩
def FLT_MR_MEM_PAR : Field := ⟨0x10A000, 0x18, 2, 1⟩
def FLT_FAR_CHANGED : Field := ⟨0x10A000, 0x18, 1, 1⟩
def FLT_FAR_LOST : Field := ⟨0x10A000, 0x18, 0, 1⟩
def FLT_EN : Field := ⟨0x10A000, 0x1C, 0, 32⟩
def INJECT : Field := ⟨0x10A000, 0x20, 0, 32⟩
def INJECT_TARGET : Field := ⟨0x10A000, 0x20, 8, 8⟩
def INJECT_BUS_PAR : Field := ⟨0x10A000, 0x20, 4, 1⟩
def INJECT_FSM_PAR : Field := ⟨0x10A000, 0x20, 3, 1⟩
def INJECT_REG_PAR : Field := ⟨0x10A000, 0x20, 2, 1⟩
def INJECT_UE : Field := ⟨0x10A000, 0x20, 1, 1⟩
def INJECT_CE : Field := ⟨0x10A000, 0x20, 0, 1⟩
def BUSY : Field := ⟨0x10A000, 0x24, 0, 32⟩
def BUSY_TRIAL : Field := ⟨0x10A000, 0x24, 1, 1⟩
def BUSY_LONG_OP : Field := ⟨0x10A000, 0x24, 0, 1⟩
def CFG : Field := ⟨0x10A000, 0x40, 0, 32⟩
def CFG_RX_K : Field := ⟨0x10A000, 0x40, 20, 4⟩
def CFG_TX_K : Field := ⟨0x10A000, 0x40, 16, 4⟩
def CFG_LEVEL_ATT : Field := ⟨0x10A000, 0x40, 8, 6⟩
def CFG_WAKE_ECHO : Field := ⟨0x10A000, 0x40, 6, 1⟩
def CFG_WAKE_BEACON : Field := ⟨0x10A000, 0x40, 5, 1⟩
def CFG_WAKE_DATA : Field := ⟨0x10A000, 0x40, 4, 1⟩
def CFG_RX_GAIN_MAN : Field := ⟨0x10A000, 0x40, 0, 1⟩
def RX_GAIN : Field := ⟨0x10A000, 0x44, 0, 32⟩
def RX_GAIN_MAN_CODE : Field := ⟨0x10A000, 0x44, 16, 7⟩
def RX_GAIN_CODE : Field := ⟨0x10A000, 0x44, 0, 7⟩
def TX_DST_LO : Field := ⟨0x10A000, 0x48, 0, 32⟩
def TX_DST_HI : Field := ⟨0x10A000, 0x4C, 0, 32⟩
def TX_DST_HI_ID : Field := ⟨0x10A000, 0x4C, 0, 16⟩
def BEACON_CFG : Field := ⟨0x10A000, 0x50, 0, 32⟩
def BEACON_CFG_PERIOD : Field := ⟨0x10A000, 0x50, 16, 16⟩
def BEACON_CFG_ECHO_EVERY : Field := ⟨0x10A000, 0x50, 0, 4⟩
def FAR_CFG : Field := ⟨0x10A000, 0x54, 0, 32⟩
def FAR_CFG_TIMEOUT : Field := ⟨0x10A000, 0x54, 0, 16⟩
def CMD : Field := ⟨0x10A000, 0x58, 0, 32⟩
def CMD_ECHO : Field := ⟨0x10A000, 0x58, 2, 1⟩
def CMD_RX_POP : Field := ⟨0x10A000, 0x58, 1, 1⟩
def CMD_TX_FLUSH : Field := ⟨0x10A000, 0x58, 0, 1⟩
def TX_SEQ : Field := ⟨0x10A000, 0x5C, 0, 32⟩
def TX_SEQ_NEXT : Field := ⟨0x10A000, 0x5C, 0, 16⟩
def TX_LAST : Field := ⟨0x10A000, 0x60, 0, 32⟩
def TX_LAST_ABORT_SEQ : Field := ⟨0x10A000, 0x60, 16, 16⟩
def TX_LAST_SENT_SEQ : Field := ⟨0x10A000, 0x60, 0, 16⟩
def FAR_ID_LO : Field := ⟨0x10A000, 0x80, 0, 32⟩
def FAR_ID_HI : Field := ⟨0x10A000, 0x84, 0, 32⟩
def FAR_ID_HI_CH : Field := ⟨0x10A000, 0x84, 16, 3⟩
def FAR_ID_HI_ID : Field := ⟨0x10A000, 0x84, 0, 16⟩
def FAR_LINK : Field := ⟨0x10A000, 0x88, 0, 32⟩
def FAR_LINK_K : Field := ⟨0x10A000, 0x88, 24, 8⟩
def FAR_LINK_MODE : Field := ⟨0x10A000, 0x88, 16, 8⟩
def FAR_LINK_BER : Field := ⟨0x10A000, 0x88, 8, 8⟩
def FAR_LINK_LINK : Field := ⟨0x10A000, 0x88, 0, 8⟩
def FAR_PWR : Field := ⟨0x10A000, 0x8C, 0, 32⟩
def FAR_PWR_RXPWR : Field := ⟨0x10A000, 0x8C, 16, 16⟩
def FAR_PWR_MR_RSSI : Field := ⟨0x10A000, 0x8C, 0, 16⟩
def FAR_LOCAL : Field := ⟨0x10A000, 0x90, 0, 32⟩
def FAR_LOCAL_SINCE_MS : Field := ⟨0x10A000, 0x90, 16, 16⟩
def FAR_LOCAL_RSSI : Field := ⟨0x10A000, 0x90, 0, 16⟩
def FAR_PPM : Field := ⟨0x10A000, 0x94, 0, 32⟩
def FAR_PPM_PPM : Field := ⟨0x10A000, 0x94, 0, 16⟩
def RTT : Field := ⟨0x10A000, 0x98, 0, 32⟩
def RTT_INFO : Field := ⟨0x10A000, 0x9C, 0, 32⟩
def RTT_INFO_VALID : Field := ⟨0x10A000, 0x9C, 31, 1⟩
def RTT_INFO_SEQ : Field := ⟨0x10A000, 0x9C, 0, 16⟩
def TX_FRAMES : Field := ⟨0x10A000, 0xC0, 0, 32⟩
def TX_ABORTED : Field := ⟨0x10A000, 0xC4, 0, 32⟩
def RX_GOOD : Field := ⟨0x10A000, 0xC8, 0, 32⟩
def RX_CRC_ERR : Field := ⟨0x10A000, 0xCC, 0, 32⟩
def RX_HDR_ERR : Field := ⟨0x10A000, 0xD0, 0, 32⟩
def RX_NOSYNC : Field := ⟨0x10A000, 0xD4, 0, 32⟩
def RX_DROP_FULL : Field := ⟨0x10A000, 0xD8, 0, 32⟩
def RX_ABORTED : Field := ⟨0x10A000, 0xDC, 0, 32⟩
def BEACON_RX : Field := ⟨0x10A000, 0xE0, 0, 32⟩
def RX_SRC_LO : Field := ⟨0x10A000, 0x100, 0, 32⟩
def RX_SRC_HI : Field := ⟨0x10A000, 0x104, 0, 32⟩
def RX_SRC_HI_SRC_CH : Field := ⟨0x10A000, 0x104, 29, 3⟩
def RX_SRC_HI_TYPE : Field := ⟨0x10A000, 0x104, 24, 5⟩
def RX_SRC_HI_TTL : Field := ⟨0x10A000, 0x104, 16, 8⟩
def RX_SRC_HI_ID : Field := ⟨0x10A000, 0x104, 0, 16⟩
def RX_SEQ_AGE : Field := ⟨0x10A000, 0x108, 0, 32⟩
def RX_SEQ_AGE_SEQ : Field := ⟨0x10A000, 0x108, 16, 16⟩
def RX_SEQ_AGE_AGE : Field := ⟨0x10A000, 0x108, 0, 16⟩
def RX_INFO : Field := ⟨0x10A000, 0x10C, 0, 32⟩
def RX_INFO_RSSI : Field := ⟨0x10A000, 0x10C, 16, 16⟩
def RX_INFO_RELAYED : Field := ⟨0x10A000, 0x10C, 9, 1⟩
def RX_INFO_LEN : Field := ⟨0x10A000, 0x10C, 0, 9⟩
def RX_TS_TX (i : Nat) : Field := ⟨0x10A000, (0x110 + 0x4 * i), 0, 32⟩
def RX_TS_RX (i : Nat) : Field := ⟨0x10A000, (0x11C + 0x4 * i), 0, 32⟩
def RX_DST_LO : Field := ⟨0x10A000, 0x128, 0, 32⟩
def RX_DST_HI : Field := ⟨0x10A000, 0x12C, 0, 32⟩
def RX_DST_HI_ID : Field := ⟨0x10A000, 0x12C, 0, 16⟩
def RX_DATA (i : Nat) : Field := ⟨0x10A000, (0x200 + 0x4 * i), 0, 32⟩
end MRACE

namespace MRLY
def PAGE_ID : Field := ⟨0x10B000, 0, 0, 32⟩
def CTRL : Field := ⟨0x10B000, 4, 0, 32⟩
def CTRL_EN : Field := ⟨0x10B000, 4, 0, 1⟩
def STATUS : Field := ⟨0x10B000, 8, 0, 32⟩
def STATUS_DUP_ENTRIES : Field := ⟨0x10B000, 8, 0, 7⟩
def IRQ_RAW : Field := ⟨0x10B000, 0xC, 0, 32⟩
def IRQ_AGE_DROP : Field := ⟨0x10B000, 0xC, 4, 1⟩
def IRQ_DROP_FULL : Field := ⟨0x10B000, 0xC, 3, 1⟩
def IRQ_TTL_DROP : Field := ⟨0x10B000, 0xC, 2, 1⟩
def IRQ_LOOP_DROP : Field := ⟨0x10B000, 0xC, 1, 1⟩
def IRQ_DROP_DARK : Field := ⟨0x10B000, 0xC, 0, 1⟩
def IRQ_EN : Field := ⟨0x10B000, 0x10, 0, 32⟩
def IRQ_PEND : Field := ⟨0x10B000, 0x14, 0, 32⟩
def FLT_RAW : Field := ⟨0x10B000, 0x18, 0, 32⟩
def FLT_RELAY_PAR : Field := ⟨0x10B000, 0x18, 0, 1⟩
def FLT_EN : Field := ⟨0x10B000, 0x1C, 0, 32⟩
def INJECT : Field := ⟨0x10B000, 0x20, 0, 32⟩
def INJECT_TARGET : Field := ⟨0x10B000, 0x20, 8, 8⟩
def INJECT_BUS_PAR : Field := ⟨0x10B000, 0x20, 4, 1⟩
def INJECT_FSM_PAR : Field := ⟨0x10B000, 0x20, 3, 1⟩
def INJECT_REG_PAR : Field := ⟨0x10B000, 0x20, 2, 1⟩
def INJECT_UE : Field := ⟨0x10B000, 0x20, 1, 1⟩
def INJECT_CE : Field := ⟨0x10B000, 0x20, 0, 1⟩
def BUSY : Field := ⟨0x10B000, 0x24, 0, 32⟩
def BUSY_TRIAL : Field := ⟨0x10B000, 0x24, 1, 1⟩
def BUSY_LONG_OP : Field := ⟨0x10B000, 0x24, 0, 1⟩
def CFG : Field := ⟨0x10B000, 0x40, 0, 32⟩
def CFG_AGE_MAX : Field := ⟨0x10B000, 0x40, 0, 16⟩
def DUP_CFG : Field := ⟨0x10B000, 0x44, 0, 32⟩
def DUP_CFG_DUP_EN : Field := ⟨0x10B000, 0x44, 31, 1⟩
def DUP_CFG_DUP_MS : Field := ⟨0x10B000, 0x44, 0, 16⟩
def RELAYED : Field := ⟨0x10B000, 0x60, 0, 32⟩
def RELAY_TX : Field := ⟨0x10B000, 0x64, 0, 32⟩
def DUP_DROP : Field := ⟨0x10B000, 0x68, 0, 32⟩
def LOOP_DROP : Field := ⟨0x10B000, 0x6C, 0, 32⟩
def TTL_DROP : Field := ⟨0x10B000, 0x70, 0, 32⟩
def DROP_DARK : Field := ⟨0x10B000, 0x74, 0, 32⟩
def DROP_FULL : Field := ⟨0x10B000, 0x78, 0, 32⟩
def AGE_DROP : Field := ⟨0x10B000, 0x7C, 0, 32⟩
def ENTRY_W0 (i : Nat) : Field := ⟨0x10B000, (0x200 + 0x8 * i), 0, 32⟩
def ENTRY_W1 (i : Nat) : Field := ⟨0x10B000, (0x204 + 0x8 * i), 0, 32⟩
end MRLY

namespace GAUGE
def PAGE_ID : Field := ⟨0x10C000, 0, 0, 32⟩
def CTRL : Field := ⟨0x10C000, 4, 0, 32⟩
def CTRL_STREAM1_EN : Field := ⟨0x10C000, 4, 2, 1⟩
def CTRL_STREAM0_EN : Field := ⟨0x10C000, 4, 1, 1⟩
def CTRL_EN : Field := ⟨0x10C000, 4, 0, 1⟩
def STATUS : Field := ⟨0x10C000, 8, 0, 32⟩
def STATUS_TRIG_PENDING : Field := ⟨0x10C000, 8, 13, 1⟩
def STATUS_SEQ_BUSY : Field := ⟨0x10C000, 8, 12, 1⟩
def STATUS_CUR_ENTRY : Field := ⟨0x10C000, 8, 8, 4⟩
def STATUS_STREAM1_ACTIVE : Field := ⟨0x10C000, 8, 7, 1⟩
def STATUS_STREAM0_ACTIVE : Field := ⟨0x10C000, 8, 6, 1⟩
def STATUS_DIAG_BUSY : Field := ⟨0x10C000, 8, 3, 1⟩
def STATUS_PWR : Field := ⟨0x10C000, 8, 0, 1⟩
def IRQ_RAW : Field := ⟨0x10C000, 0xC, 0, 32⟩
def IRQ_DIAG_DONE : Field := ⟨0x10C000, 0xC, 7, 1⟩
def IRQ_DISAGREE : Field := ⟨0x10C000, 0xC, 6, 1⟩
def IRQ_STREAM1_OVERRUN : Field := ⟨0x10C000, 0xC, 5, 1⟩
def IRQ_STREAM0_OVERRUN : Field := ⟨0x10C000, 0xC, 4, 1⟩
def IRQ_TRIG_LOST : Field := ⟨0x10C000, 0xC, 3, 1⟩
def IRQ_SEQ_ABORT : Field := ⟨0x10C000, 0xC, 2, 1⟩
def IRQ_ENTRY_DONE : Field := ⟨0x10C000, 0xC, 1, 1⟩
def IRQ_SEQ_DONE : Field := ⟨0x10C000, 0xC, 0, 1⟩
def IRQ_EN : Field := ⟨0x10C000, 0x10, 0, 32⟩
def IRQ_PEND : Field := ⟨0x10C000, 0x14, 0, 32⟩
def FLT_RAW : Field := ⟨0x10C000, 0x18, 0, 32⟩
def FLT_GAUGE_FSM_PAR : Field := ⟨0x10C000, 0x18, 3, 1⟩
def FLT_DIE_TEMP_INVALID : Field := ⟨0x10C000, 0x18, 2, 1⟩
def FLT_GAUGE_PATH_FAIL : Field := ⟨0x10C000, 0x18, 1, 1⟩
def FLT_GAUGE_DISAGREE : Field := ⟨0x10C000, 0x18, 0, 1⟩
def FLT_EN : Field := ⟨0x10C000, 0x1C, 0, 32⟩
def INJECT : Field := ⟨0x10C000, 0x20, 0, 32⟩
def INJECT_TARGET : Field := ⟨0x10C000, 0x20, 8, 8⟩
def INJECT_BUS_PAR : Field := ⟨0x10C000, 0x20, 4, 1⟩
def INJECT_FSM_PAR : Field := ⟨0x10C000, 0x20, 3, 1⟩
def INJECT_REG_PAR : Field := ⟨0x10C000, 0x20, 2, 1⟩
def INJECT_UE : Field := ⟨0x10C000, 0x20, 1, 1⟩
def INJECT_CE : Field := ⟨0x10C000, 0x20, 0, 1⟩
def BUSY : Field := ⟨0x10C000, 0x24, 0, 32⟩
def BUSY_TRIAL : Field := ⟨0x10C000, 0x24, 1, 1⟩
def BUSY_LONG_OP : Field := ⟨0x10C000, 0x24, 0, 1⟩
def SEQ_CFG : Field := ⟨0x10C000, 0x40, 0, 32⟩
def SEQ_CFG_TRIG_SRC : Field := ⟨0x10C000, 0x40, 8, 2⟩
def SEQ_CFG_LEN : Field := ⟨0x10C000, 0x40, 0, 4⟩
def SEQ_PERIOD : Field := ⟨0x10C000, 0x44, 0, 32⟩
def SEQ_PERIOD_P10US : Field := ⟨0x10C000, 0x44, 0, 16⟩
def CHECK_WINDOW : Field := ⟨0x10C000, 0x48, 0, 32⟩
def CHECK_WINDOW_Q : Field := ⟨0x10C000, 0x48, 0, 16⟩
def CMD : Field := ⟨0x10C000, 0x4C, 0, 32⟩
def CMD_CLR_STATS : Field := ⟨0x10C000, 0x4C, 2, 1⟩
def CMD_DIAG : Field := ⟨0x10C000, 0x4C, 1, 1⟩
def CMD_TRIGGER : Field := ⟨0x10C000, 0x4C, 0, 1⟩
def STREAM0_CFG : Field := ⟨0x10C000, 0x50, 0, 32⟩
def STREAM0_CFG_PERIOD : Field := ⟨0x10C000, 0x50, 16, 16⟩
def STREAM0_CFG_PGA : Field := ⟨0x10C000, 0x50, 8, 2⟩
def STREAM0_CFG_DISCARD : Field := ⟨0x10C000, 0x50, 4, 2⟩
def STREAM0_CFG_LOG2L : Field := ⟨0x10C000, 0x50, 0, 2⟩
def STREAM1_CFG : Field := ⟨0x10C000, 0x54, 0, 32⟩
def STREAM1_CFG_PERIOD : Field := ⟨0x10C000, 0x54, 16, 16⟩
def STREAM1_CFG_PGA : Field := ⟨0x10C000, 0x54, 8, 2⟩
def STREAM1_CFG_DISCARD : Field := ⟨0x10C000, 0x54, 4, 2⟩
def STREAM1_CFG_LOG2L : Field := ⟨0x10C000, 0x54, 0, 2⟩
def STREAM0_DATA : Field := ⟨0x10C000, 0x58, 0, 32⟩
def STREAM0_DATA_NEW : Field := ⟨0x10C000, 0x58, 31, 1⟩
def STREAM0_DATA_OVERRUN : Field := ⟨0x10C000, 0x58, 30, 1⟩
def STREAM0_DATA_VALUE : Field := ⟨0x10C000, 0x58, 0, 16⟩
def STREAM1_DATA : Field := ⟨0x10C000, 0x5C, 0, 32⟩
def STREAM1_DATA_NEW : Field := ⟨0x10C000, 0x5C, 31, 1⟩
def STREAM1_DATA_OVERRUN : Field := ⟨0x10C000, 0x5C, 30, 1⟩
def STREAM1_DATA_VALUE : Field := ⟨0x10C000, 0x5C, 0, 16⟩
def DIE_TEMP : Field := ⟨0x10C000, 0x60, 0, 32⟩
def DIE_TEMP_VALID : Field := ⟨0x10C000, 0x60, 31, 1⟩
def DIE_TEMP_CODE : Field := ⟨0x10C000, 0x60, 16, 14⟩
def DIE_TEMP_C16 : Field := ⟨0x10C000, 0x60, 0, 16⟩
def DIAG_CFG : Field := ⟨0x10C000, 0x64, 0, 32⟩
def DIAG_CFG_CODE : Field := ⟨0x10C000, 0x64, 16, 10⟩
def DIAG_CFG_TOL : Field := ⟨0x10C000, 0x64, 8, 8⟩
def DIAG_CFG_PGA : Field := ⟨0x10C000, 0x64, 6, 2⟩
def DIAG_CFG_CONV : Field := ⟨0x10C000, 0x64, 4, 1⟩
def DIAG_CFG_PATH : Field := ⟨0x10C000, 0x64, 0, 4⟩
def DIAG_RESULT : Field := ⟨0x10C000, 0x68, 0, 32⟩
def DIAG_RESULT_RESULT : Field := ⟨0x10C000, 0x68, 30, 2⟩
def DIAG_RESULT_EXPECTED : Field := ⟨0x10C000, 0x68, 16, 14⟩
def DIAG_RESULT_MEASURED : Field := ⟨0x10C000, 0x68, 0, 14⟩
def TESTV : Field := ⟨0x10C000, 0x6C, 0, 32⟩
def TESTV_CODE : Field := ⟨0x10C000, 0x6C, 0, 10⟩
def COUNTS : Field := ⟨0x10C000, 0x70, 0, 32⟩
def COUNTS_TRIGGER_LOST : Field := ⟨0x10C000, 0x70, 16, 16⟩
def COUNTS_DISAGREE : Field := ⟨0x10C000, 0x70, 0, 16⟩
def RUNS : Field := ⟨0x10C000, 0x74, 0, 32⟩
def CONV_COUNT : Field := ⟨0x10C000, 0x78, 0, 32⟩
def LAST_DISAGREE : Field := ⟨0x10C000, 0x7C, 0, 32⟩
def LAST_DISAGREE_DIFF : Field := ⟨0x10C000, 0x7C, 16, 16⟩
def LAST_DISAGREE_ENTRY : Field := ⟨0x10C000, 0x7C, 0, 4⟩
def ENTRY_CFG (i : Nat) : Field := ⟨0x10C000, (0x80 + 0x4 * i), 0, 32⟩
def ENTRY_CFG_IRQ (i : Nat) : Field := ⟨0x10C000, (0x80 + 0x4 * i), 31, 1⟩
def ENTRY_CFG_MARK (i : Nat) : Field := ⟨0x10C000, (0x80 + 0x4 * i), 30, 1⟩
def ENTRY_CFG_CONV (i : Nat) : Field := ⟨0x10C000, (0x80 + 0x4 * i), 24, 2⟩
def ENTRY_CFG_DISCARD (i : Nat) : Field := ⟨0x10C000, (0x80 + 0x4 * i), 20, 2⟩
def ENTRY_CFG_PGA (i : Nat) : Field := ⟨0x10C000, (0x80 + 0x4 * i), 16, 2⟩
def ENTRY_CFG_LOG2L (i : Nat) : Field := ⟨0x10C000, (0x80 + 0x4 * i), 8, 4⟩
def ENTRY_CFG_INPUT (i : Nat) : Field := ⟨0x10C000, (0x80 + 0x4 * i), 0, 4⟩
def LAST_RXPWR : Field := ⟨0x10C000, 0xC0, 0, 32⟩
def LAST_RXPWR_VALID : Field := ⟨0x10C000, 0xC0, 31, 1⟩
def LAST_RXPWR_CODE : Field := ⟨0x10C000, 0xC0, 0, 14⟩
def RESULT (i : Nat) : Field := ⟨0x10C000, (0x100 + 0x8 * i), 0, 32⟩
def RESULT_FRESH (i : Nat) : Field := ⟨0x10C000, (0x100 + 0x8 * i), 31, 1⟩
def RESULT_READ (i : Nat) : Field := ⟨0x10C000, (0x100 + 0x8 * i), 30, 1⟩
def RESULT_SETTLE (i : Nat) : Field := ⟨0x10C000, (0x100 + 0x8 * i), 29, 1⟩
def RESULT_PAIR_FAIL (i : Nat) : Field := ⟨0x10C000, (0x100 + 0x8 * i), 28, 1⟩
def RESULT_CONV (i : Nat) : Field := ⟨0x10C000, (0x100 + 0x8 * i), 26, 2⟩
def RESULT_PGA (i : Nat) : Field := ⟨0x10C000, (0x100 + 0x8 * i), 24, 2⟩
def RESULT_INPUT (i : Nat) : Field := ⟨0x10C000, (0x100 + 0x8 * i), 20, 4⟩
def RESULT_VALUE (i : Nat) : Field := ⟨0x10C000, (0x100 + 0x8 * i), 0, 16⟩
def RESULT_X (i : Nat) : Field := ⟨0x10C000, (0x104 + 0x8 * i), 0, 32⟩
def RESULT_X_VALUE_B (i : Nat) : Field := ⟨0x10C000, (0x104 + 0x8 * i), 16, 16⟩
def RESULT_X_RUN (i : Nat) : Field := ⟨0x10C000, (0x104 + 0x8 * i), 0, 16⟩
end GAUGE

namespace OUT
def PAGE_ID : Field := ⟨0x10D000, 0, 0, 32⟩
def CTRL : Field := ⟨0x10D000, 4, 0, 32⟩
def STATUS : Field := ⟨0x10D000, 8, 0, 32⟩
def STATUS_VOUTN_OK : Field := ⟨0x10D000, 8, 12, 1⟩
def STATUS_STATE2 : Field := ⟨0x10D000, 8, 8, 3⟩
def STATUS_STATE1 : Field := ⟨0x10D000, 8, 4, 3⟩
def STATUS_STATE0 : Field := ⟨0x10D000, 8, 0, 3⟩
def IRQ_RAW : Field := ⟨0x10D000, 0xC, 0, 32⟩
def IRQ_SPAN_REFUSED : Field := ⟨0x10D000, 0xC, 9, 1⟩
def IRQ_RANGE_DONE : Field := ⟨0x10D000, 0xC, 6, 3⟩
def IRQ_OVERFLOW : Field := ⟨0x10D000, 0xC, 3, 3⟩
def IRQ_UNDERRUN : Field := ⟨0x10D000, 0xC, 0, 3⟩
def IRQ_EN : Field := ⟨0x10D000, 0x10, 0, 32⟩
def IRQ_PEND : Field := ⟨0x10D000, 0x14, 0, 32⟩
def FLT_RAW : Field := ⟨0x10D000, 0x18, 0, 32⟩
def FLT_OUT_FSM_PAR : Field := ⟨0x10D000, 0x18, 4, 1⟩
def FLT_VOUTN_LOST : Field := ⟨0x10D000, 0x18, 3, 1⟩
def FLT_READBACK_FAIL2 : Field := ⟨0x10D000, 0x18, 2, 1⟩
def FLT_READBACK_FAIL1 : Field := ⟨0x10D000, 0x18, 1, 1⟩
def FLT_READBACK_FAIL0 : Field := ⟨0x10D000, 0x18, 0, 1⟩
def FLT_EN : Field := ⟨0x10D000, 0x1C, 0, 32⟩
def INJECT : Field := ⟨0x10D000, 0x20, 0, 32⟩
def INJECT_TARGET : Field := ⟨0x10D000, 0x20, 8, 8⟩
def INJECT_BUS_PAR : Field := ⟨0x10D000, 0x20, 4, 1⟩
def INJECT_FSM_PAR : Field := ⟨0x10D000, 0x20, 3, 1⟩
def INJECT_REG_PAR : Field := ⟨0x10D000, 0x20, 2, 1⟩
def INJECT_UE : Field := ⟨0x10D000, 0x20, 1, 1⟩
def INJECT_CE : Field := ⟨0x10D000, 0x20, 0, 1⟩
def BUSY : Field := ⟨0x10D000, 0x24, 0, 32⟩
def BUSY_TRIAL : Field := ⟨0x10D000, 0x24, 1, 1⟩
def BUSY_LONG_OP : Field := ⟨0x10D000, 0x24, 0, 1⟩
def D_CFG (d : Nat) : Field := ⟨0x10D000, (0x100 + 0x40 * d), 0, 32⟩
def D_CFG_WATCH_HOLD (d : Nat) : Field := ⟨0x10D000, (0x100 + 0x40 * d), 24, 1⟩
def D_CFG_SAFE_ACT (d : Nat) : Field := ⟨0x10D000, (0x100 + 0x40 * d), 20, 2⟩
def D_CFG_MODE (d : Nat) : Field := ⟨0x10D000, (0x100 + 0x40 * d), 16, 1⟩
def D_CFG_SPAN (d : Nat) : Field := ⟨0x10D000, (0x100 + 0x40 * d), 8, 3⟩
def D_CFG_EN (d : Nat) : Field := ⟨0x10D000, (0x100 + 0x40 * d), 0, 1⟩
def D_PERIOD (d : Nat) : Field := ⟨0x10D000, (0x104 + 0x40 * d), 0, 32⟩
def D_PERIOD_US (d : Nat) : Field := ⟨0x10D000, (0x104 + 0x40 * d), 0, 10⟩
def D_DATA (d : Nat) : Field := ⟨0x10D000, (0x108 + 0x40 * d), 0, 32⟩
def D_DATA_CODE (d : Nat) : Field := ⟨0x10D000, (0x108 + 0x40 * d), 0, 16⟩
def D_SAFE (d : Nat) : Field := ⟨0x10D000, (0x10C + 0x40 * d), 0, 32⟩
def D_SAFE_CODE (d : Nat) : Field := ⟨0x10D000, (0x10C + 0x40 * d), 0, 16⟩
def D_OUTPUT (d : Nat) : Field := ⟨0x10D000, (0x110 + 0x40 * d), 0, 32⟩
def D_OUTPUT_FILL (d : Nat) : Field := ⟨0x10D000, (0x110 + 0x40 * d), 16, 7⟩
def D_OUTPUT_CODE (d : Nat) : Field := ⟨0x10D000, (0x110 + 0x40 * d), 0, 16⟩
def D_FLAGS (d : Nat) : Field := ⟨0x10D000, (0x114 + 0x40 * d), 0, 32⟩
def D_FLAGS_OVERFLOW (d : Nat) : Field := ⟨0x10D000, (0x114 + 0x40 * d), 2, 1⟩
def D_FLAGS_UNDERRUN (d : Nat) : Field := ⟨0x10D000, (0x114 + 0x40 * d), 1, 1⟩
def D_FLAGS_SUPV_STARVED (d : Nat) : Field := ⟨0x10D000, (0x114 + 0x40 * d), 0, 1⟩
def D_SUPV_CFG (d : Nat) : Field := ⟨0x10D000, (0x118 + 0x40 * d), 0, 32⟩
def D_SUPV_CFG_EN (d : Nat) : Field := ⟨0x10D000, (0x118 + 0x40 * d), 31, 1⟩
def D_SUPV_CFG_PERIOD (d : Nat) : Field := ⟨0x10D000, (0x118 + 0x40 * d), 16, 10⟩
def D_SUPV_CFG_TOL (d : Nat) : Field := ⟨0x10D000, (0x118 + 0x40 * d), 0, 16⟩
def D_SUPV_STAT (d : Nat) : Field := ⟨0x10D000, (0x11C + 0x40 * d), 0, 32⟩
def D_SUPV_STAT_LAST (d : Nat) : Field := ⟨0x10D000, (0x11C + 0x40 * d), 16, 16⟩
def D_SUPV_STAT_BAD_RUN (d : Nat) : Field := ⟨0x10D000, (0x11C + 0x40 * d), 8, 8⟩
def D_SUPV_STAT_FAIL_COUNT (d : Nat) : Field := ⟨0x10D000, (0x11C + 0x40 * d), 0, 8⟩
def D_COUNTS (d : Nat) : Field := ⟨0x10D000, (0x120 + 0x40 * d), 0, 32⟩
def D_COUNTS_UNDERRUNS (d : Nat) : Field := ⟨0x10D000, (0x120 + 0x40 * d), 16, 16⟩
def D_COUNTS_OVERFLOWS (d : Nat) : Field := ⟨0x10D000, (0x120 + 0x40 * d), 0, 16⟩
end OUT

namespace KILN
def PAGE_ID : Field := ⟨0x10E000, 0, 0, 32⟩
def CTRL : Field := ⟨0x10E000, 4, 0, 32⟩
def CTRL_EN : Field := ⟨0x10E000, 4, 0, 1⟩
def STATUS : Field := ⟨0x10E000, 8, 0, 32⟩
def STATUS_WAIT_DAC : Field := ⟨0x10E000, 8, 7, 1⟩
def STATUS_SLEW_LIMITED : Field := ⟨0x10E000, 8, 6, 1⟩
def STATUS_AT_MIN : Field := ⟨0x10E000, 8, 5, 1⟩
def STATUS_AT_MAX : Field := ⟨0x10E000, 8, 4, 1⟩
def STATUS_STATE : Field := ⟨0x10E000, 8, 0, 3⟩
def IRQ_RAW : Field := ⟨0x10E000, 0xC, 0, 32⟩
def IRQ_SENSOR_BAD : Field := ⟨0x10E000, 0xC, 3, 1⟩
def IRQ_MISSED : Field := ⟨0x10E000, 0xC, 2, 1⟩
def IRQ_SAT : Field := ⟨0x10E000, 0xC, 1, 1⟩
def IRQ_RUN_ENTER : Field := ⟨0x10E000, 0xC, 0, 1⟩
def IRQ_EN : Field := ⟨0x10E000, 0x10, 0, 32⟩
def IRQ_PEND : Field := ⟨0x10E000, 0x14, 0, 32⟩
def FLT_RAW : Field := ⟨0x10E000, 0x18, 0, 32⟩
def FLT_KILN_FSM_PAR : Field := ⟨0x10E000, 0x18, 3, 1⟩
def FLT_KILN_SAT : Field := ⟨0x10E000, 0x18, 2, 1⟩
def FLT_KILN_NO_SENSE : Field := ⟨0x10E000, 0x18, 1, 1⟩
def FLT_KILN_SENSOR : Field := ⟨0x10E000, 0x18, 0, 1⟩
def FLT_EN : Field := ⟨0x10E000, 0x1C, 0, 32⟩
def INJECT : Field := ⟨0x10E000, 0x20, 0, 32⟩
def INJECT_TARGET : Field := ⟨0x10E000, 0x20, 8, 8⟩
def INJECT_BUS_PAR : Field := ⟨0x10E000, 0x20, 4, 1⟩
def INJECT_FSM_PAR : Field := ⟨0x10E000, 0x20, 3, 1⟩
def INJECT_REG_PAR : Field := ⟨0x10E000, 0x20, 2, 1⟩
def INJECT_UE : Field := ⟨0x10E000, 0x20, 1, 1⟩
def INJECT_CE : Field := ⟨0x10E000, 0x20, 0, 1⟩
def BUSY : Field := ⟨0x10E000, 0x24, 0, 32⟩
def BUSY_TRIAL : Field := ⟨0x10E000, 0x24, 1, 1⟩
def BUSY_LONG_OP : Field := ⟨0x10E000, 0x24, 0, 1⟩
def CFG : Field := ⟨0x10E000, 0x40, 0, 32⟩
def CFG_DFILT : Field := ⟨0x10E000, 0x40, 16, 3⟩
def CFG_D_EN : Field := ⟨0x10E000, 0x40, 12, 1⟩
def CFG_POL : Field := ⟨0x10E000, 0x40, 8, 1⟩
def PERIOD : Field := ⟨0x10E000, 0x44, 0, 32⟩
def PERIOD_US : Field := ⟨0x10E000, 0x44, 0, 10⟩
def SETPOINT : Field := ⟨0x10E000, 0x48, 0, 32⟩
def SETPOINT_SP : Field := ⟨0x10E000, 0x48, 0, 16⟩
def KP : Field := ⟨0x10E000, 0x4C, 0, 32⟩
def KP_SHIFT : Field := ⟨0x10E000, 0x4C, 16, 5⟩
def KP_MANT : Field := ⟨0x10E000, 0x4C, 0, 16⟩
def KI : Field := ⟨0x10E000, 0x50, 0, 32⟩
def KI_SHIFT : Field := ⟨0x10E000, 0x50, 16, 5⟩
def KI_MANT : Field := ⟨0x10E000, 0x50, 0, 16⟩
def KD : Field := ⟨0x10E000, 0x54, 0, 32⟩
def KD_SHIFT : Field := ⟨0x10E000, 0x54, 16, 5⟩
def KD_MANT : Field := ⟨0x10E000, 0x54, 0, 16⟩
def LIMITS : Field := ⟨0x10E000, 0x58, 0, 32⟩
def LIMITS_OUT_MAX : Field := ⟨0x10E000, 0x58, 16, 16⟩
def LIMITS_OUT_MIN : Field := ⟨0x10E000, 0x58, 0, 16⟩
def SLEW : Field := ⟨0x10E000, 0x5C, 0, 32⟩
def SLEW_CODES : Field := ⟨0x10E000, 0x5C, 0, 16⟩
def SOFTSTART : Field := ⟨0x10E000, 0x60, 0, 32⟩
def SOFTSTART_MS : Field := ⟨0x10E000, 0x60, 0, 16⟩
def SENSOR : Field := ⟨0x10E000, 0x64, 0, 32⟩
def SENSOR_HI : Field := ⟨0x10E000, 0x64, 16, 16⟩
def SENSOR_LO : Field := ⟨0x10E000, 0x64, 0, 16⟩
def SENSOR_CFG : Field := ⟨0x10E000, 0x68, 0, 32⟩
def SENSOR_CFG_MISS_MAX : Field := ⟨0x10E000, 0x68, 8, 4⟩
def SENSOR_CFG_COUNT : Field := ⟨0x10E000, 0x68, 0, 4⟩
def MEAS : Field := ⟨0x10E000, 0x6C, 0, 32⟩
def MEAS_T : Field := ⟨0x10E000, 0x6C, 0, 16⟩
def OUTPUT : Field := ⟨0x10E000, 0x70, 0, 32⟩
def OUTPUT_CODE : Field := ⟨0x10E000, 0x70, 0, 16⟩
def INTEG_LO : Field := ⟨0x10E000, 0x74, 0, 32⟩
def INTEG_HI : Field := ⟨0x10E000, 0x78, 0, 32⟩
def INTEG_HI_I : Field := ⟨0x10E000, 0x78, 0, 16⟩
def COUNTS : Field := ⟨0x10E000, 0x7C, 0, 32⟩
def COUNTS_MISSED : Field := ⟨0x10E000, 0x7C, 16, 16⟩
def COUNTS_SENSOR_BAD : Field := ⟨0x10E000, 0x7C, 0, 16⟩
def SAT_CFG : Field := ⟨0x10E000, 0x80, 0, 32⟩
def SAT_CFG_MS : Field := ⟨0x10E000, 0x80, 0, 16⟩
end KILN

namespace TALLY
def PAGE_ID : Field := ⟨0x10F000, 0, 0, 32⟩
def CTRL : Field := ⟨0x10F000, 4, 0, 32⟩
def CTRL_EN : Field := ⟨0x10F000, 4, 0, 1⟩
def STATUS : Field := ⟨0x10F000, 8, 0, 32⟩
def STATUS_SWEEPING : Field := ⟨0x10F000, 8, 12, 1⟩
def STATUS_INPUT : Field := ⟨0x10F000, 8, 11, 1⟩
def STATUS_SPILL_FULL : Field := ⟨0x10F000, 8, 10, 1⟩
def STATUS_FLUSHING : Field := ⟨0x10F000, 8, 9, 1⟩
def STATUS_INIT_DONE : Field := ⟨0x10F000, 8, 8, 1⟩
def STATUS_TEMPLATE_ACTIVE : Field := ⟨0x10F000, 8, 4, 3⟩
def STATUS_DIR_ACTIVE : Field := ⟨0x10F000, 8, 3, 1⟩
def STATUS_STATE : Field := ⟨0x10F000, 8, 0, 3⟩
def IRQ_RAW : Field := ⟨0x10F000, 0xC, 0, 32⟩
def IRQ_CMD_REFUSED : Field := ⟨0x10F000, 0xC, 10, 1⟩
def IRQ_SPILL_RD_BAD : Field := ⟨0x10F000, 0xC, 9, 1⟩
def IRQ_PROMOTE_FAIL : Field := ⟨0x10F000, 0xC, 8, 1⟩
def IRQ_QUERY_DONE : Field := ⟨0x10F000, 0xC, 7, 1⟩
def IRQ_SNAP_DONE : Field := ⟨0x10F000, 0xC, 6, 1⟩
def IRQ_FLUSH_DONE : Field := ⟨0x10F000, 0xC, 5, 1⟩
def IRQ_SPILL_FULL : Field := ⟨0x10F000, 0xC, 4, 1⟩
def IRQ_SPILL_LEVEL : Field := ⟨0x10F000, 0xC, 3, 1⟩
def IRQ_SWEEP_DONE : Field := ⟨0x10F000, 0xC, 2, 1⟩
def IRQ_EPOCH : Field := ⟨0x10F000, 0xC, 1, 1⟩
def IRQ_INIT_DONE : Field := ⟨0x10F000, 0xC, 0, 1⟩
def IRQ_EN : Field := ⟨0x10F000, 0x10, 0, 32⟩
def IRQ_PEND : Field := ⟨0x10F000, 0x14, 0, 32⟩
def FLT_RAW : Field := ⟨0x10F000, 0x18, 0, 32⟩
def FLT_TALLY_FSM_PAR : Field := ⟨0x10F000, 0x18, 2, 1⟩
def FLT_SPILL_FULL : Field := ⟨0x10F000, 0x18, 1, 1⟩
def FLT_TALLY_MEM_UE : Field := ⟨0x10F000, 0x18, 0, 1⟩
def FLT_EN : Field := ⟨0x10F000, 0x1C, 0, 32⟩
def INJECT : Field := ⟨0x10F000, 0x20, 0, 32⟩
def INJECT_TARGET : Field := ⟨0x10F000, 0x20, 8, 8⟩
def INJECT_BUS_PAR : Field := ⟨0x10F000, 0x20, 4, 1⟩
def INJECT_FSM_PAR : Field := ⟨0x10F000, 0x20, 3, 1⟩
def INJECT_REG_PAR : Field := ⟨0x10F000, 0x20, 2, 1⟩
def INJECT_UE : Field := ⟨0x10F000, 0x20, 1, 1⟩
def INJECT_CE : Field := ⟨0x10F000, 0x20, 0, 1⟩
def BUSY : Field := ⟨0x10F000, 0x24, 0, 32⟩
def BUSY_TRIAL : Field := ⟨0x10F000, 0x24, 1, 1⟩
def BUSY_LONG_OP : Field := ⟨0x10F000, 0x24, 0, 1⟩
def CFG : Field := ⟨0x10F000, 0x40, 0, 32⟩
def CFG_PROMOTE : Field := ⟨0x10F000, 0x40, 16, 16⟩
def CFG_TEMPLATE : Field := ⟨0x10F000, 0x40, 4, 3⟩
def CFG_DIR : Field := ⟨0x10F000, 0x40, 0, 1⟩
def EPOCH_CFG : Field := ⟨0x10F000, 0x44, 0, 32⟩
def EPOCH_CFG_MS : Field := ⟨0x10F000, 0x44, 0, 16⟩
def AGE_CFG : Field := ⟨0x10F000, 0x48, 0, 32⟩
def AGE_CFG_AGE_OUT : Field := ⟨0x10F000, 0x48, 0, 16⟩
def SPILL_CFG : Field := ⟨0x10F000, 0x4C, 0, 32⟩
def SPILL_CFG_LEVEL : Field := ⟨0x10F000, 0x4C, 0, 12⟩
def SPILL_WR : Field := ⟨0x10F000, 0x50, 0, 32⟩
def SPILL_WR_IDX : Field := ⟨0x10F000, 0x50, 0, 12⟩
def SPILL_RD : Field := ⟨0x10F000, 0x54, 0, 32⟩
def SPILL_RD_IDX : Field := ⟨0x10F000, 0x54, 0, 12⟩
def SPILL_STAT : Field := ⟨0x10F000, 0x58, 0, 32⟩
def SPILL_STAT_COUNT : Field := ⟨0x10F000, 0x58, 0, 12⟩
def CMD : Field := ⟨0x10F000, 0x5C, 0, 32⟩
def CMD_CLR_CNT : Field := ⟨0x10F000, 0x5C, 4, 1⟩
def CMD_QUERY : Field := ⟨0x10F000, 0x5C, 3, 1⟩
def CMD_SNAP : Field := ⟨0x10F000, 0x5C, 2, 1⟩
def CMD_FLUSH : Field := ⟨0x10F000, 0x5C, 1, 1⟩
def CMD_INIT : Field := ⟨0x10F000, 0x5C, 0, 1⟩
def EPOCH : Field := ⟨0x10F000, 0x60, 0, 32⟩
def SWEEP_PTR : Field := ⟨0x10F000, 0x64, 0, 32⟩
def SWEEP_PTR_WORD : Field := ⟨0x10F000, 0x64, 0, 18⟩
def CTX_USED : Field := ⟨0x10F000, 0x68, 0, 32⟩
def CTX_USED_COUNT : Field := ⟨0x10F000, 0x68, 0, 18⟩
def MS_NOW : Field := ⟨0x10F000, 0x6C, 0, 32⟩
def MS_NOW_MS : Field := ⟨0x10F000, 0x6C, 0, 24⟩
def SEED (i : Nat) : Field := ⟨0x10F000, (0x70 + 0x4 * i), 0, 32⟩
def SNAP_IDX : Field := ⟨0x10F000, 0x84, 0, 32⟩
def SNAP_IDX_IDX : Field := ⟨0x10F000, 0x84, 0, 17⟩
def QUERY_KEY (i : Nat) : Field := ⟨0x10F000, (0x88 + 0x4 * i), 0, 32⟩
def QUERY_KEY3 : Field := ⟨0x10F000, 0x94, 0, 32⟩
def QUERY_KEY3_KEY : Field := ⟨0x10F000, 0x94, 0, 12⟩
def QUERY_RESULT : Field := ⟨0x10F000, 0x98, 0, 32⟩
def QUERY_RESULT_HIT : Field := ⟨0x10F000, 0x98, 22, 1⟩
def QUERY_RESULT_PARTIAL : Field := ⟨0x10F000, 0x98, 21, 1⟩
def QUERY_RESULT_ROWS : Field := ⟨0x10F000, 0x98, 16, 4⟩
def QUERY_RESULT_EST : Field := ⟨0x10F000, 0x98, 0, 16⟩
def QUERY_CTX : Field := ⟨0x10F000, 0x9C, 0, 32⟩
def QUERY_CTX_IDX : Field := ⟨0x10F000, 0x9C, 0, 17⟩
def SNAP_KEY (i : Nat) : Field := ⟨0x10F000, (0xA0 + 0x4 * i), 0, 32⟩
def SNAP_KEY3 : Field := ⟨0x10F000, 0xAC, 0, 32⟩
def SNAP_KEY3_VALID : Field := ⟨0x10F000, 0xAC, 15, 1⟩
def SNAP_KEY3_TEMPLATE : Field := ⟨0x10F000, 0xAC, 12, 3⟩
def SNAP_KEY3_KEY : Field := ⟨0x10F000, 0xAC, 0, 12⟩
def SNAP_BYTES_LO : Field := ⟨0x10F000, 0xB0, 0, 32⟩
def SNAP_BYTES_HI : Field := ⟨0x10F000, 0xB4, 0, 32⟩
def SNAP_BYTES_HI_WRAP : Field := ⟨0x10F000, 0xB4, 31, 1⟩
def SNAP_BYTES_HI_BYTES : Field := ⟨0x10F000, 0xB4, 0, 16⟩
def SNAP_FRAMES_LO : Field := ⟨0x10F000, 0xB8, 0, 32⟩
def SNAP_FRAMES_HI : Field := ⟨0x10F000, 0xBC, 0, 32⟩
def SNAP_FRAMES_HI_WRAP : Field := ⟨0x10F000, 0xBC, 31, 1⟩
def SNAP_FRAMES_HI_FRAMES : Field := ⟨0x10F000, 0xBC, 0, 8⟩
def SNAP_FIRST : Field := ⟨0x10F000, 0xC0, 0, 32⟩
def SNAP_FIRST_MS : Field := ⟨0x10F000, 0xC0, 0, 24⟩
def SNAP_LAST : Field := ⟨0x10F000, 0xC4, 0, 32⟩
def SNAP_LAST_MS : Field := ⟨0x10F000, 0xC4, 0, 24⟩
def SNAP_FCS : Field := ⟨0x10F000, 0xC8, 0, 32⟩
def SNAP_FCS_COUNT : Field := ⟨0x10F000, 0xC8, 0, 6⟩
def CNT_LO (i : Nat) : Field := ⟨0x10F000, (0x100 + 0x8 * i), 0, 32⟩
def CNT_HI (i : Nat) : Field := ⟨0x10F000, (0x104 + 0x8 * i), 0, 32⟩
end TALLY

namespace CNT
def PAGE_ID : Field := ⟨0x110000, 0, 0, 32⟩
def CTRL : Field := ⟨0x110000, 4, 0, 32⟩
def CTRL_OBSERVE : Field := ⟨0x110000, 4, 1, 1⟩
def CTRL_EN : Field := ⟨0x110000, 4, 0, 1⟩
def STATUS : Field := ⟨0x110000, 8, 0, 32⟩
def STATUS_WRAP_ANY : Field := ⟨0x110000, 8, 8, 1⟩
def STATUS_CLK_CORE : Field := ⟨0x110000, 8, 0, 1⟩
def IRQ_RAW : Field := ⟨0x110000, 0xC, 0, 32⟩
def IRQ_WRAP : Field := ⟨0x110000, 0xC, 0, 1⟩
def IRQ_EN : Field := ⟨0x110000, 0x10, 0, 32⟩
def IRQ_PEND : Field := ⟨0x110000, 0x14, 0, 32⟩
def FLT_RAW : Field := ⟨0x110000, 0x18, 0, 32⟩
def FLT_CNT_SEL_PAR : Field := ⟨0x110000, 0x18, 0, 1⟩
def FLT_EN : Field := ⟨0x110000, 0x1C, 0, 32⟩
def INJECT : Field := ⟨0x110000, 0x20, 0, 32⟩
def INJECT_TARGET : Field := ⟨0x110000, 0x20, 8, 8⟩
def INJECT_BUS_PAR : Field := ⟨0x110000, 0x20, 4, 1⟩
def INJECT_FSM_PAR : Field := ⟨0x110000, 0x20, 3, 1⟩
def INJECT_REG_PAR : Field := ⟨0x110000, 0x20, 2, 1⟩
def INJECT_UE : Field := ⟨0x110000, 0x20, 1, 1⟩
def INJECT_CE : Field := ⟨0x110000, 0x20, 0, 1⟩
def BUSY : Field := ⟨0x110000, 0x24, 0, 32⟩
def BUSY_TRIAL : Field := ⟨0x110000, 0x24, 1, 1⟩
def BUSY_LONG_OP : Field := ⟨0x110000, 0x24, 0, 1⟩
def SEL (i : Nat) : Field := ⟨0x110000, (0x100 + 0x4 * i), 0, 32⟩
def SEL_REQ_MASK (i : Nat) : Field := ⟨0x110000, (0x100 + 0x4 * i), 16, 16⟩
def SEL_PRIV (i : Nat) : Field := ⟨0x110000, (0x100 + 0x4 * i), 14, 2⟩
def SEL_SIDE (i : Nat) : Field := ⟨0x110000, (0x100 + 0x4 * i), 10, 2⟩
def SEL_CLASS (i : Nat) : Field := ⟨0x110000, (0x100 + 0x4 * i), 0, 8⟩
def RANGE (i : Nat) : Field := ⟨0x110000, (0x200 + 0x4 * i), 0, 32⟩
def RANGE_HI (i : Nat) : Field := ⟨0x110000, (0x200 + 0x4 * i), 16, 16⟩
def RANGE_LO (i : Nat) : Field := ⟨0x110000, (0x200 + 0x4 * i), 0, 16⟩
def CNT_LO (i : Nat) : Field := ⟨0x110000, (0x400 + 0x10 * i), 0, 32⟩
def CNT_HI (i : Nat) : Field := ⟨0x110000, (0x404 + 0x10 * i), 0, 32⟩
def CNT_FLAGS (i : Nat) : Field := ⟨0x110000, (0x408 + 0x10 * i), 0, 32⟩
def CNT_FLAGS_WRAP (i : Nat) : Field := ⟨0x110000, (0x408 + 0x10 * i), 0, 1⟩
def WRAP_LO : Field := ⟨0x110000, 0x800, 0, 32⟩
def WRAP_HI : Field := ⟨0x110000, 0x804, 0, 32⟩
end CNT

namespace HOP
def PAGE_ID : Field := ⟨0x111000, 0, 0, 32⟩
def CTRL : Field := ⟨0x111000, 4, 0, 32⟩
def CTRL_EN : Field := ⟨0x111000, 4, 0, 1⟩
def STATUS : Field := ⟨0x111000, 8, 0, 32⟩
def STATUS_SUSPENDED : Field := ⟨0x111000, 8, 1, 1⟩
def STATUS_WRITING : Field := ⟨0x111000, 8, 0, 1⟩
def IRQ_RAW : Field := ⟨0x111000, 0xC, 0, 32⟩
def IRQ_RD_BAD : Field := ⟨0x111000, 0xC, 3, 1⟩
def IRQ_LAPPED : Field := ⟨0x111000, 0xC, 2, 1⟩
def IRQ_LEVEL : Field := ⟨0x111000, 0xC, 1, 1⟩
def IRQ_DUMP : Field := ⟨0x111000, 0xC, 0, 1⟩
def IRQ_EN : Field := ⟨0x111000, 0x10, 0, 32⟩
def IRQ_PEND : Field := ⟨0x111000, 0x14, 0, 32⟩
def FLT_RAW : Field := ⟨0x111000, 0x18, 0, 32⟩
def FLT_HOP_FSM_PAR : Field := ⟨0x111000, 0x18, 0, 1⟩
def FLT_EN : Field := ⟨0x111000, 0x1C, 0, 32⟩
def INJECT : Field := ⟨0x111000, 0x20, 0, 32⟩
def INJECT_TARGET : Field := ⟨0x111000, 0x20, 8, 8⟩
def INJECT_BUS_PAR : Field := ⟨0x111000, 0x20, 4, 1⟩
def INJECT_FSM_PAR : Field := ⟨0x111000, 0x20, 3, 1⟩
def INJECT_REG_PAR : Field := ⟨0x111000, 0x20, 2, 1⟩
def INJECT_UE : Field := ⟨0x111000, 0x20, 1, 1⟩
def INJECT_CE : Field := ⟨0x111000, 0x20, 0, 1⟩
def BUSY : Field := ⟨0x111000, 0x24, 0, 32⟩
def BUSY_TRIAL : Field := ⟨0x111000, 0x24, 1, 1⟩
def BUSY_LONG_OP : Field := ⟨0x111000, 0x24, 0, 1⟩
def CFG : Field := ⟨0x111000, 0x40, 0, 32⟩
def CFG_PERIOD_MS : Field := ⟨0x111000, 0x40, 16, 16⟩
def CFG_ON_FAULT : Field := ⟨0x111000, 0x40, 9, 1⟩
def CFG_LEVEL : Field := ⟨0x111000, 0x40, 0, 9⟩
def CMD : Field := ⟨0x111000, 0x44, 0, 32⟩
def CMD_DUMP : Field := ⟨0x111000, 0x44, 0, 1⟩
def WR_IDX : Field := ⟨0x111000, 0x48, 0, 32⟩
def WR_IDX_IDX : Field := ⟨0x111000, 0x48, 0, 8⟩
def RD_IDX : Field := ⟨0x111000, 0x4C, 0, 32⟩
def RD_IDX_IDX : Field := ⟨0x111000, 0x4C, 0, 8⟩
def FILL : Field := ⟨0x111000, 0x50, 0, 32⟩
def FILL_LAPPED : Field := ⟨0x111000, 0x50, 31, 1⟩
def FILL_COUNT : Field := ⟨0x111000, 0x50, 0, 9⟩
def SEQ_NEXT : Field := ⟨0x111000, 0x54, 0, 32⟩
def COUNTS : Field := ⟨0x111000, 0x58, 0, 32⟩
def COUNTS_LAPPED : Field := ⟨0x111000, 0x58, 16, 16⟩
def COUNTS_MISSED : Field := ⟨0x111000, 0x58, 0, 16⟩
def STATUS_SEL (i : Nat) : Field := ⟨0x111000, (0x80 + 0x4 * i), 0, 32⟩
def STATUS_SEL_EN (i : Nat) : Field := ⟨0x111000, (0x80 + 0x4 * i), 31, 1⟩
def STATUS_SEL_OFFSET (i : Nat) : Field := ⟨0x111000, (0x80 + 0x4 * i), 0, 17⟩
end HOP

namespace MEM
def PAGE_ID : Field := ⟨0x112000, 0, 0, 32⟩
def CTRL : Field := ⟨0x112000, 4, 0, 32⟩
def STATUS : Field := ⟨0x112000, 8, 0, 32⟩
def STATUS_WB_STOPPED : Field := ⟨0x112000, 8, 5, 1⟩
def STATUS_MARCH_STOPPED : Field := ⟨0x112000, 8, 4, 1⟩
def STATUS_SCRUB_STOPPED : Field := ⟨0x112000, 8, 3, 1⟩
def STATUS_MARCH_BUSY : Field := ⟨0x112000, 8, 2, 1⟩
def STATUS_SCRUB_CONT : Field := ⟨0x112000, 8, 1, 1⟩
def STATUS_SCRUB_BUSY : Field := ⟨0x112000, 8, 0, 1⟩
def IRQ_RAW : Field := ⟨0x112000, 0xC, 0, 32⟩
def IRQ_CE_EACH : Field := ⟨0x112000, 0xC, 16, 7⟩
def IRQ_CE_BUCKET : Field := ⟨0x112000, 0xC, 8, 7⟩
def IRQ_MARCH_DONE : Field := ⟨0x112000, 0xC, 4, 1⟩
def IRQ_SCRUB_ABORTED : Field := ⟨0x112000, 0xC, 3, 1⟩
def IRQ_SCRUB_REFUSED : Field := ⟨0x112000, 0xC, 2, 1⟩
def IRQ_SCRUB_DONE : Field := ⟨0x112000, 0xC, 1, 1⟩
def IRQ_EN : Field := ⟨0x112000, 0x10, 0, 32⟩
def IRQ_PEND : Field := ⟨0x112000, 0x14, 0, 32⟩
def FLT_RAW : Field := ⟨0x112000, 0x18, 0, 32⟩
def FLT_MEM_CTRL_PAR : Field := ⟨0x112000, 0x18, 4, 1⟩
def FLT_MARCH_FAIL : Field := ⟨0x112000, 0x18, 3, 1⟩
def FLT_MEM_CE_RATE : Field := ⟨0x112000, 0x18, 2, 1⟩
def FLT_LATENT_UE : Field := ⟨0x112000, 0x18, 1, 1⟩
def FLT_MEM_UE : Field := ⟨0x112000, 0x18, 0, 1⟩
def FLT_EN : Field := ⟨0x112000, 0x1C, 0, 32⟩
def INJECT : Field := ⟨0x112000, 0x20, 0, 32⟩
def INJECT_TARGET : Field := ⟨0x112000, 0x20, 8, 8⟩
def INJECT_BUS_PAR : Field := ⟨0x112000, 0x20, 4, 1⟩
def INJECT_FSM_PAR : Field := ⟨0x112000, 0x20, 3, 1⟩
def INJECT_REG_PAR : Field := ⟨0x112000, 0x20, 2, 1⟩
def INJECT_UE : Field := ⟨0x112000, 0x20, 1, 1⟩
def INJECT_CE : Field := ⟨0x112000, 0x20, 0, 1⟩
def BUSY : Field := ⟨0x112000, 0x24, 0, 32⟩
def BUSY_TRIAL : Field := ⟨0x112000, 0x24, 1, 1⟩
def BUSY_LONG_OP : Field := ⟨0x112000, 0x24, 0, 1⟩
def SCRUB_CFG : Field := ⟨0x112000, 0x40, 0, 32⟩
def SCRUB_CFG_CONT : Field := ⟨0x112000, 0x40, 8, 1⟩
def SCRUB_CFG_MEM : Field := ⟨0x112000, 0x40, 0, 5⟩
def SCRUB_START : Field := ⟨0x112000, 0x44, 0, 32⟩
def SCRUB_START_OFFSET : Field := ⟨0x112000, 0x44, 0, 24⟩
def SCRUB_LEN : Field := ⟨0x112000, 0x48, 0, 32⟩
def SCRUB_LEN_BYTES : Field := ⟨0x112000, 0x48, 0, 24⟩
def SCRUB_CMD : Field := ⟨0x112000, 0x4C, 0, 32⟩
def SCRUB_CMD_STOP : Field := ⟨0x112000, 0x4C, 1, 1⟩
def SCRUB_CMD_GO : Field := ⟨0x112000, 0x4C, 0, 1⟩
def SCRUB_WORDS : Field := ⟨0x112000, 0x50, 0, 32⟩
def SCRUB_CE : Field := ⟨0x112000, 0x54, 0, 32⟩
def SCRUB_UE : Field := ⟨0x112000, 0x58, 0, 32⟩
def SCRUB_POISON : Field := ⟨0x112000, 0x5C, 0, 32⟩
def SCRUB_FIRST_UE : Field := ⟨0x112000, 0x60, 0, 32⟩
def SCRUB_FIRST_UE_VALID : Field := ⟨0x112000, 0x60, 31, 1⟩
def SCRUB_FIRST_UE_OFFSET : Field := ⟨0x112000, 0x60, 0, 24⟩
def SCRUB_LAST_UE : Field := ⟨0x112000, 0x64, 0, 32⟩
def SCRUB_LAST_UE_VALID : Field := ⟨0x112000, 0x64, 31, 1⟩
def SCRUB_LAST_UE_OFFSET : Field := ⟨0x112000, 0x64, 0, 24⟩
def SCRUB_US : Field := ⟨0x112000, 0x68, 0, 32⟩
def SCRUB_PASSES : Field := ⟨0x112000, 0x6C, 0, 32⟩
def MARCH_START : Field := ⟨0x112000, 0x70, 0, 32⟩
def MARCH_START_OFFSET : Field := ⟨0x112000, 0x70, 0, 24⟩
def MARCH_LEN : Field := ⟨0x112000, 0x74, 0, 32⟩
def MARCH_LEN_BYTES : Field := ⟨0x112000, 0x74, 0, 24⟩
def MARCH_CMD : Field := ⟨0x112000, 0x78, 0, 32⟩
def MARCH_CMD_GO : Field := ⟨0x112000, 0x78, 0, 1⟩
def MARCH_BUDGET : Field := ⟨0x112000, 0x7C, 0, 32⟩
def MARCH_BUDGET_US : Field := ⟨0x112000, 0x7C, 0, 10⟩
def MARCH_RESULT : Field := ⟨0x112000, 0x80, 0, 32⟩
def MARCH_RESULT_RESULT : Field := ⟨0x112000, 0x80, 29, 3⟩
def MARCH_RESULT_FAIL_OFFSET : Field := ⟨0x112000, 0x80, 0, 24⟩
def PIN_BASE (i : Nat) : Field := ⟨0x112000, (0x84 + 0x8 * i), 0, 32⟩
def PIN_BASE_OFFSET (i : Nat) : Field := ⟨0x112000, (0x84 + 0x8 * i), 0, 24⟩
def PIN_LEN (i : Nat) : Field := ⟨0x112000, (0x88 + 0x8 * i), 0, 32⟩
def PIN_LEN_BYTES (i : Nat) : Field := ⟨0x112000, (0x88 + 0x8 * i), 0, 24⟩
def B_CFG (i : Nat) : Field := ⟨0x112000, (0x100 + 0x40 * i), 0, 32⟩
def B_CFG_LEGACY4106 (i : Nat) : Field := ⟨0x112000, (0x100 + 0x40 * i), 31, 1⟩
def B_CFG_LEAK_US (i : Nat) : Field := ⟨0x112000, (0x100 + 0x40 * i), 0, 20⟩
def B_THRESH (i : Nat) : Field := ⟨0x112000, (0x104 + 0x40 * i), 0, 32⟩
def B_THRESH_COUNT (i : Nat) : Field := ⟨0x112000, (0x104 + 0x40 * i), 0, 16⟩
def B_BUCKET (i : Nat) : Field := ⟨0x112000, (0x108 + 0x40 * i), 0, 32⟩
def B_BUCKET_LEVEL (i : Nat) : Field := ⟨0x112000, (0x108 + 0x40 * i), 0, 16⟩
def B_OVF_COUNT (i : Nat) : Field := ⟨0x112000, (0x10C + 0x40 * i), 0, 32⟩
def B_CE_TOTAL (i : Nat) : Field := ⟨0x112000, (0x110 + 0x40 * i), 0, 32⟩
def B_UE_TOTAL (i : Nat) : Field := ⟨0x112000, (0x114 + 0x40 * i), 0, 32⟩
def B_POISON_READS (i : Nat) : Field := ⟨0x112000, (0x118 + 0x40 * i), 0, 32⟩
def B_LAST_CE (i : Nat) : Field := ⟨0x112000, (0x11C + 0x40 * i), 0, 32⟩
def B_LAST_CE_REQ (i : Nat) : Field := ⟨0x112000, (0x11C + 0x40 * i), 28, 4⟩
def B_LAST_CE_PRIV (i : Nat) : Field := ⟨0x112000, (0x11C + 0x40 * i), 27, 1⟩
def B_LAST_CE_POISON (i : Nat) : Field := ⟨0x112000, (0x11C + 0x40 * i), 26, 1⟩
def B_LAST_CE_OFFSET (i : Nat) : Field := ⟨0x112000, (0x11C + 0x40 * i), 0, 24⟩
def B_LAST_UE (i : Nat) : Field := ⟨0x112000, (0x120 + 0x40 * i), 0, 32⟩
def B_LAST_UE_REQ (i : Nat) : Field := ⟨0x112000, (0x120 + 0x40 * i), 28, 4⟩
def B_LAST_UE_PRIV (i : Nat) : Field := ⟨0x112000, (0x120 + 0x40 * i), 27, 1⟩
def B_LAST_UE_POISON (i : Nat) : Field := ⟨0x112000, (0x120 + 0x40 * i), 26, 1⟩
def B_LAST_UE_OFFSET (i : Nat) : Field := ⟨0x112000, (0x120 + 0x40 * i), 0, 24⟩
def B_WB_DROP (i : Nat) : Field := ⟨0x112000, (0x124 + 0x40 * i), 0, 32⟩
def B_WB_DROP_COUNT (i : Nat) : Field := ⟨0x112000, (0x124 + 0x40 * i), 0, 16⟩
end MEM

namespace FLT
def PAGE_ID : Field := ⟨0x113000, 0, 0, 32⟩
def CTRL : Field := ⟨0x113000, 4, 0, 32⟩
def STATUS : Field := ⟨0x113000, 8, 0, 32⟩
def STATUS_MAX_CLASS : Field := ⟨0x113000, 8, 6, 2⟩
def STATUS_TRIAL_SAFE : Field := ⟨0x113000, 8, 4, 1⟩
def STATUS_DEV_STOP : Field := ⟨0x113000, 8, 3, 1⟩
def STATUS_CH_STOP : Field := ⟨0x113000, 8, 2, 1⟩
def STATUS_SAFE : Field := ⟨0x113000, 8, 0, 1⟩
def IRQ_RAW : Field := ⟨0x113000, 0xC, 0, 32⟩
def IRQ_SAFE_EXIT : Field := ⟨0x113000, 0xC, 1, 1⟩
def IRQ_SAFE_ENTER : Field := ⟨0x113000, 0xC, 0, 1⟩
def IRQ_EN : Field := ⟨0x113000, 0x10, 0, 32⟩
def IRQ_PEND : Field := ⟨0x113000, 0x14, 0, 32⟩
def FLT_RAW : Field := ⟨0x113000, 0x18, 0, 32⟩
def FLT_REG_PAR : Field := ⟨0x113000, 0x18, 0, 1⟩
def FLT_EN : Field := ⟨0x113000, 0x1C, 0, 32⟩
def INJECT : Field := ⟨0x113000, 0x20, 0, 32⟩
def INJECT_TARGET : Field := ⟨0x113000, 0x20, 8, 8⟩
def INJECT_BUS_PAR : Field := ⟨0x113000, 0x20, 4, 1⟩
def INJECT_FSM_PAR : Field := ⟨0x113000, 0x20, 3, 1⟩
def INJECT_REG_PAR : Field := ⟨0x113000, 0x20, 2, 1⟩
def INJECT_UE : Field := ⟨0x113000, 0x20, 1, 1⟩
def INJECT_CE : Field := ⟨0x113000, 0x20, 0, 1⟩
def BUSY : Field := ⟨0x113000, 0x24, 0, 32⟩
def BUSY_TRIAL : Field := ⟨0x113000, 0x24, 1, 1⟩
def BUSY_LONG_OP : Field := ⟨0x113000, 0x24, 0, 1⟩
def PAGE_SUM : Field := ⟨0x113000, 0x40, 0, 32⟩
def PAGE_SUM_PAGE : Field := ⟨0x113000, 0x40, 0, 24⟩
def FIRST_STOP : Field := ⟨0x113000, 0x44, 0, 32⟩
def FIRST_STOP_VALID : Field := ⟨0x113000, 0x44, 31, 1⟩
def FIRST_STOP_SOURCE : Field := ⟨0x113000, 0x44, 16, 10⟩
def FIRST_STOP_BIT : Field := ⟨0x113000, 0x44, 0, 4⟩
def SAFE_COUNT : Field := ⟨0x113000, 0x48, 0, 32⟩
def SAFE_COUNT_COUNT : Field := ⟨0x113000, 0x48, 0, 16⟩
def CLASS (i : Nat) : Field := ⟨0x113000, (0x100 + 0x4 * i), 0, 32⟩
end FLT

namespace TRIAL
def PAGE_ID : Field := ⟨0x114000, 0, 0, 32⟩
def CTRL : Field := ⟨0x114000, 4, 0, 32⟩
def STATUS : Field := ⟨0x114000, 8, 0, 32⟩
def STATUS_CUR : Field := ⟨0x114000, 8, 8, 4⟩
def STATUS_STATE : Field := ⟨0x114000, 8, 0, 3⟩
def IRQ_RAW : Field := ⟨0x114000, 0xC, 0, 32⟩
def IRQ_REFUSED : Field := ⟨0x114000, 0xC, 1, 1⟩
def IRQ_TRIAL_DONE : Field := ⟨0x114000, 0xC, 0, 1⟩
def IRQ_EN : Field := ⟨0x114000, 0x10, 0, 32⟩
def IRQ_PEND : Field := ⟨0x114000, 0x14, 0, 32⟩
def FLT_RAW : Field := ⟨0x114000, 0x18, 0, 32⟩
def FLT_TRIAL_FSM_PAR : Field := ⟨0x114000, 0x18, 1, 1⟩
def FLT_TRIAL_SLICE_FAIL : Field := ⟨0x114000, 0x18, 0, 1⟩
def FLT_EN : Field := ⟨0x114000, 0x1C, 0, 32⟩
def INJECT : Field := ⟨0x114000, 0x20, 0, 32⟩
def INJECT_TARGET : Field := ⟨0x114000, 0x20, 8, 8⟩
def INJECT_BUS_PAR : Field := ⟨0x114000, 0x20, 4, 1⟩
def INJECT_FSM_PAR : Field := ⟨0x114000, 0x20, 3, 1⟩
def INJECT_REG_PAR : Field := ⟨0x114000, 0x20, 2, 1⟩
def INJECT_UE : Field := ⟨0x114000, 0x20, 1, 1⟩
def INJECT_CE : Field := ⟨0x114000, 0x20, 0, 1⟩
def BUSY : Field := ⟨0x114000, 0x24, 0, 32⟩
def BUSY_TRIAL : Field := ⟨0x114000, 0x24, 1, 1⟩
def BUSY_LONG_OP : Field := ⟨0x114000, 0x24, 0, 1⟩
def CFG : Field := ⟨0x114000, 0x40, 0, 32⟩
def CFG_COUNT_LOG2 : Field := ⟨0x114000, 0x40, 16, 5⟩
def CFG_MASK : Field := ⟨0x114000, 0x40, 0, 7⟩
def CMD : Field := ⟨0x114000, 0x44, 0, 32⟩
def CMD_GO : Field := ⟨0x114000, 0x44, 0, 1⟩
def RESULT : Field := ⟨0x114000, 0x48, 0, 32⟩
def RESULT_NO_SIG : Field := ⟨0x114000, 0x48, 16, 6⟩
def RESULT_SLICES : Field := ⟨0x114000, 0x48, 0, 14⟩
def MARCH_FAIL : Field := ⟨0x114000, 0x4C, 0, 32⟩
def MARCH_FAIL_MEM : Field := ⟨0x114000, 0x4C, 0, 7⟩
def REFUSE : Field := ⟨0x114000, 0x50, 0, 32⟩
def REFUSE_REASON : Field := ⟨0x114000, 0x50, 0, 4⟩
def ELAPSED_US : Field := ⟨0x114000, 0x54, 0, 32⟩
def COUNT : Field := ⟨0x114000, 0x58, 0, 32⟩
def COUNT_TRIALS : Field := ⟨0x114000, 0x58, 0, 16⟩
def BUDGET (i : Nat) : Field := ⟨0x114000, (0x80 + 0x4 * i), 0, 32⟩
def BUDGET_UNITS (i : Nat) : Field := ⟨0x114000, (0x80 + 0x4 * i), 0, 16⟩
end TRIAL

namespace PAT
def PAGE_ID : Field := ⟨0x115000, 0, 0, 32⟩
def CTRL : Field := ⟨0x115000, 4, 0, 32⟩
def STATUS : Field := ⟨0x115000, 8, 0, 32⟩
def STATUS_LOCK : Field := ⟨0x115000, 8, 11, 3⟩
def STATUS_ACTIVE : Field := ⟨0x115000, 8, 0, 6⟩
def IRQ_RAW : Field := ⟨0x115000, 0xC, 0, 32⟩
def IRQ_GATE_DONE : Field := ⟨0x115000, 0xC, 6, 3⟩
def IRQ_LOCK_LOST : Field := ⟨0x115000, 0xC, 3, 3⟩
def IRQ_LOCK : Field := ⟨0x115000, 0xC, 0, 3⟩
def IRQ_EN : Field := ⟨0x115000, 0x10, 0, 32⟩
def IRQ_PEND : Field := ⟨0x115000, 0x14, 0, 32⟩
def FLT_RAW : Field := ⟨0x115000, 0x18, 0, 32⟩
def FLT_PAT_FSM_PAR : Field := ⟨0x115000, 0x18, 0, 1⟩
def FLT_EN : Field := ⟨0x115000, 0x1C, 0, 32⟩
def INJECT : Field := ⟨0x115000, 0x20, 0, 32⟩
def INJECT_TARGET : Field := ⟨0x115000, 0x20, 8, 8⟩
def INJECT_BUS_PAR : Field := ⟨0x115000, 0x20, 4, 1⟩
def INJECT_FSM_PAR : Field := ⟨0x115000, 0x20, 3, 1⟩
def INJECT_REG_PAR : Field := ⟨0x115000, 0x20, 2, 1⟩
def INJECT_UE : Field := ⟨0x115000, 0x20, 1, 1⟩
def INJECT_CE : Field := ⟨0x115000, 0x20, 0, 1⟩
def BUSY : Field := ⟨0x115000, 0x24, 0, 32⟩
def BUSY_TRIAL : Field := ⟨0x115000, 0x24, 1, 1⟩
def BUSY_LONG_OP : Field := ⟨0x115000, 0x24, 0, 1⟩
def U_CFG (u : Nat) : Field := ⟨0x115000, (0x100 + 0x40 * u), 0, 32⟩
def U_CFG_EN (u : Nat) : Field := ⟨0x115000, (0x100 + 0x40 * u), 31, 1⟩
def U_CFG_INVERT (u : Nat) : Field := ⟨0x115000, (0x100 + 0x40 * u), 30, 1⟩
def U_CFG_SQ_HALF (u : Nat) : Field := ⟨0x115000, (0x100 + 0x40 * u), 24, 6⟩
def U_CFG_PATTERN (u : Nat) : Field := ⟨0x115000, (0x100 + 0x40 * u), 0, 4⟩
def U_USER_LO (u : Nat) : Field := ⟨0x115000, (0x104 + 0x40 * u), 0, 32⟩
def U_USER_HI (u : Nat) : Field := ⟨0x115000, (0x108 + 0x40 * u), 0, 32⟩
def G_CMD (u : Nat) : Field := ⟨0x115000, (0x10C + 0x40 * u), 0, 32⟩
def G_CMD_ERR_INJ (u : Nat) : Field := ⟨0x115000, (0x10C + 0x40 * u), 0, 1⟩
def G_INJ_COUNT (u : Nat) : Field := ⟨0x115000, (0x110 + 0x40 * u), 0, 32⟩
def C_CMD (u : Nat) : Field := ⟨0x115000, (0x1CC + 0x40 * u), 0, 32⟩
def C_CMD_CLR (u : Nat) : Field := ⟨0x115000, (0x1CC + 0x40 * u), 2, 1⟩
def C_CMD_GATE_STOP (u : Nat) : Field := ⟨0x115000, (0x1CC + 0x40 * u), 1, 1⟩
def C_CMD_GATE_GO (u : Nat) : Field := ⟨0x115000, (0x1CC + 0x40 * u), 0, 1⟩
def C_GATE_US (u : Nat) : Field := ⟨0x115000, (0x1D0 + 0x40 * u), 0, 32⟩
def C_STATE (u : Nat) : Field := ⟨0x115000, (0x1D4 + 0x40 * u), 0, 32⟩
def C_STATE_UNSUPPORTED (u : Nat) : Field := ⟨0x115000, (0x1D4 + 0x40 * u), 5, 1⟩
def C_STATE_LOST_IN_GATE (u : Nat) : Field := ⟨0x115000, (0x1D4 + 0x40 * u), 4, 1⟩
def C_STATE_GATE (u : Nat) : Field := ⟨0x115000, (0x1D4 + 0x40 * u), 2, 2⟩
def C_STATE_LOCK_STATE (u : Nat) : Field := ⟨0x115000, (0x1D4 + 0x40 * u), 0, 2⟩
def C_BITS_LO (u : Nat) : Field := ⟨0x115000, (0x1D8 + 0x40 * u), 0, 32⟩
def C_BITS_HI (u : Nat) : Field := ⟨0x115000, (0x1DC + 0x40 * u), 0, 32⟩
def C_ERRS_LO (u : Nat) : Field := ⟨0x115000, (0x1E0 + 0x40 * u), 0, 32⟩
def C_ERRS_HI (u : Nat) : Field := ⟨0x115000, (0x1E4 + 0x40 * u), 0, 32⟩
def C_LOCK_LOST (u : Nat) : Field := ⟨0x115000, (0x1E8 + 0x40 * u), 0, 32⟩
def C_LOCK_LOST_COUNT (u : Nat) : Field := ⟨0x115000, (0x1E8 + 0x40 * u), 0, 16⟩
end PAT

namespace PWR
def PAGE_ID : Field := ⟨0x116000, 0, 0, 32⟩
def CTRL : Field := ⟨0x116000, 4, 0, 32⟩
def STATUS : Field := ⟨0x116000, 8, 0, 32⟩
def STATUS_RETENTION : Field := ⟨0x116000, 8, 14, 1⟩
def STATUS_SAMPLING : Field := ⟨0x116000, 8, 13, 1⟩
def STATUS_WAKE_LATCHED : Field := ⟨0x116000, 8, 12, 1⟩
def STATUS_PHASE : Field := ⟨0x116000, 8, 8, 3⟩
def STATUS_TARGET_ACTIVE : Field := ⟨0x116000, 8, 4, 3⟩
def STATUS_STATE : Field := ⟨0x116000, 8, 0, 3⟩
def IRQ_RAW : Field := ⟨0x116000, 0xC, 0, 32⟩
def IRQ_SAMPLE_MISS : Field := ⟨0x116000, 0xC, 5, 1⟩
def IRQ_WATCH_HIT : Field := ⟨0x116000, 0xC, 4, 1⟩
def IRQ_BOUNCED : Field := ⟨0x116000, 0xC, 3, 1⟩
def IRQ_WAKE : Field := ⟨0x116000, 0xC, 2, 1⟩
def IRQ_REFUSED : Field := ⟨0x116000, 0xC, 1, 1⟩
def IRQ_DONE : Field := ⟨0x116000, 0xC, 0, 1⟩
def IRQ_EN : Field := ⟨0x116000, 0x10, 0, 32⟩
def IRQ_PEND : Field := ⟨0x116000, 0x14, 0, 32⟩
def FLT_RAW : Field := ⟨0x116000, 0x18, 0, 32⟩
def FLT_PWR_FSM_PAR : Field := ⟨0x116000, 0x18, 0, 1⟩
def FLT_EN : Field := ⟨0x116000, 0x1C, 0, 32⟩
def INJECT : Field := ⟨0x116000, 0x20, 0, 32⟩
def INJECT_TARGET : Field := ⟨0x116000, 0x20, 8, 8⟩
def INJECT_BUS_PAR : Field := ⟨0x116000, 0x20, 4, 1⟩
def INJECT_FSM_PAR : Field := ⟨0x116000, 0x20, 3, 1⟩
def INJECT_REG_PAR : Field := ⟨0x116000, 0x20, 2, 1⟩
def INJECT_UE : Field := ⟨0x116000, 0x20, 1, 1⟩
def INJECT_CE : Field := ⟨0x116000, 0x20, 0, 1⟩
def BUSY : Field := ⟨0x116000, 0x24, 0, 32⟩
def BUSY_TRIAL : Field := ⟨0x116000, 0x24, 1, 1⟩
def BUSY_LONG_OP : Field := ⟨0x116000, 0x24, 0, 1⟩
def TARGET : Field := ⟨0x116000, 0x40, 0, 32⟩
def TARGET_STATE : Field := ⟨0x116000, 0x40, 0, 3⟩
def CMD : Field := ⟨0x116000, 0x44, 0, 32⟩
def CMD_CLR_STATS : Field := ⟨0x116000, 0x44, 1, 1⟩
def CMD_WAKE : Field := ⟨0x116000, 0x44, 0, 1⟩
def WAKE_EN : Field := ⟨0x116000, 0x48, 0, 32⟩
def WAKE_EN_EN : Field := ⟨0x116000, 0x48, 0, 5⟩
def WAKE_SRC : Field := ⟨0x116000, 0x4C, 0, 32⟩
def WAKE_SRC_SRC : Field := ⟨0x116000, 0x4C, 0, 5⟩
def WAKE_TIMER : Field := ⟨0x116000, 0x50, 0, 32⟩
def WAKE_TIMER_MS : Field := ⟨0x116000, 0x50, 0, 16⟩
def WATCH_CFG : Field := ⟨0x116000, 0x54, 0, 32⟩
def WATCH_CFG_PERIOD : Field := ⟨0x116000, 0x54, 16, 14⟩
def WATCH_CFG_HITS : Field := ⟨0x116000, 0x54, 12, 4⟩
def WATCH_CFG_WIN_MODE : Field := ⟨0x116000, 0x54, 10, 2⟩
def WATCH_CFG_SAMPLE : Field := ⟨0x116000, 0x54, 0, 10⟩
def WATCH_WIN : Field := ⟨0x116000, 0x58, 0, 32⟩
def WATCH_WIN_HI : Field := ⟨0x116000, 0x58, 16, 16⟩
def WATCH_WIN_LO : Field := ⟨0x116000, 0x58, 0, 16⟩
def WATCH_LAST : Field := ⟨0x116000, 0x5C, 0, 32⟩
def WATCH_LAST_VALID : Field := ⟨0x116000, 0x5C, 31, 1⟩
def WATCH_LAST_RUN : Field := ⟨0x116000, 0x5C, 16, 4⟩
def WATCH_LAST_VALUE : Field := ⟨0x116000, 0x5C, 0, 16⟩
def SAMPLES : Field := ⟨0x116000, 0x60, 0, 32⟩
def WATCH_COUNTS : Field := ⟨0x116000, 0x64, 0, 32⟩
def WATCH_COUNTS_HITS : Field := ⟨0x116000, 0x64, 16, 16⟩
def WATCH_COUNTS_MISSES : Field := ⟨0x116000, 0x64, 0, 16⟩
def REFUSALS : Field := ⟨0x116000, 0x68, 0, 32⟩
def LAST_REFUSAL : Field := ⟨0x116000, 0x6C, 0, 32⟩
def LAST_REFUSAL_MASK : Field := ⟨0x116000, 0x6C, 16, 16⟩
def LAST_REFUSAL_TARGET : Field := ⟨0x116000, 0x6C, 12, 3⟩
def LAST_REFUSAL_CODE : Field := ⟨0x116000, 0x6C, 0, 4⟩
def ENTRIES : Field := ⟨0x116000, 0x70, 0, 32⟩
def BOUNCES : Field := ⟨0x116000, 0x74, 0, 32⟩
def BOUNCES_COUNT : Field := ⟨0x116000, 0x74, 16, 16⟩
def BOUNCES_LAST_US : Field := ⟨0x116000, 0x74, 0, 16⟩
def TRANSITION_US : Field := ⟨0x116000, 0x78, 0, 32⟩
def REFUSER_COUNT (i : Nat) : Field := ⟨0x116000, (0x80 + 0x4 * i), 0, 32⟩
def REFUSER_COUNT_COUNT (i : Nat) : Field := ⟨0x116000, (0x80 + 0x4 * i), 0, 16⟩
end PWR

namespace MBXW
def PAGE_ID : Field := ⟨0x117000, 0, 0, 32⟩
def CTRL : Field := ⟨0x117000, 4, 0, 32⟩
def STATUS : Field := ⟨0x117000, 8, 0, 32⟩
def IRQ_RAW : Field := ⟨0x117000, 0xC, 0, 32⟩
def IRQ_WRIGHT_START : Field := ⟨0x117000, 0xC, 0, 1⟩
def IRQ_EN : Field := ⟨0x117000, 0x10, 0, 32⟩
def IRQ_PEND : Field := ⟨0x117000, 0x14, 0, 32⟩
def FLT_RAW : Field := ⟨0x117000, 0x18, 0, 32⟩
def FLT_WRIGHT_RESTART_REPEAT : Field := ⟨0x117000, 0x18, 1, 1⟩
def FLT_WRIGHT_RESTART : Field := ⟨0x117000, 0x18, 0, 1⟩
def FLT_EN : Field := ⟨0x117000, 0x1C, 0, 32⟩
def INJECT : Field := ⟨0x117000, 0x20, 0, 32⟩
def INJECT_TARGET : Field := ⟨0x117000, 0x20, 8, 8⟩
def INJECT_BUS_PAR : Field := ⟨0x117000, 0x20, 4, 1⟩
def INJECT_FSM_PAR : Field := ⟨0x117000, 0x20, 3, 1⟩
def INJECT_REG_PAR : Field := ⟨0x117000, 0x20, 2, 1⟩
def INJECT_UE : Field := ⟨0x117000, 0x20, 1, 1⟩
def INJECT_CE : Field := ⟨0x117000, 0x20, 0, 1⟩
def BUSY : Field := ⟨0x117000, 0x24, 0, 32⟩
def BUSY_TRIAL : Field := ⟨0x117000, 0x24, 1, 1⟩
def BUSY_LONG_OP : Field := ⟨0x117000, 0x24, 0, 1⟩
def WRIGHT_STATUS : Field := ⟨0x117000, 0x40, 0, 32⟩
def WRIGHT_STATUS_CAUSE : Field := ⟨0x117000, 0x40, 8, 8⟩
def WRIGHT_STATUS_STATE : Field := ⟨0x117000, 0x40, 0, 3⟩
def WRIGHT_EPOCH : Field := ⟨0x117000, 0x44, 0, 32⟩
def HEARTBEAT : Field := ⟨0x117000, 0x48, 0, 32⟩
def RESTART_COUNT : Field := ⟨0x117000, 0x4C, 0, 32⟩
def RESTART_COUNT_COUNT : Field := ⟨0x117000, 0x4C, 0, 8⟩
end MBXW

/-! A mailbox block (R131, R132): `b` is the page base and `o` the block's offset in the page. -/
namespace BOX
def DATA (b o w : Nat) : Field := ⟨b, o + 4 * w, 0, 32⟩
def DOORBELL_TAKE (b o : Nat) : Field := ⟨b, o + 0x40, 1, 1⟩
def DOORBELL_RING (b o : Nat) : Field := ⟨b, o + 0x40, 0, 1⟩
def STATE_AGE (b o : Nat) : Field := ⟨b, o + 0x44, 16, 16⟩
def STATE_POST_COUNT (b o : Nat) : Field := ⟨b, o + 0x44, 8, 8⟩
def STATE_TAKE_SPURIOUS (b o : Nat) : Field := ⟨b, o + 0x44, 2, 1⟩
def STATE_RECEIVER_RESET_SINCE_POST (b o : Nat) : Field := ⟨b, o + 0x44, 1, 1⟩
def STATE_FULL (b o : Nat) : Field := ⟨b, o + 0x44, 0, 1⟩
def EPOCH_SENDER_EPOCH (b o : Nat) : Field := ⟨b, o + 0x48, 0, 32⟩
end BOX

end Sys2Proof.Machine
end

