-- ==== Sys2Proof/Machine/RegTable.lean ====
section
/-! DEFINITION. The register table of the CP8425, one row per register (or register array) of the tables of
spec/ chapters 01 to 21: where it lies, which bits have which access code of R9, its Reset value (R13) and which of
its bits are "kept" across DARK (R14).  Bits in no mask are ro.  Registers whose value the part computes (fused
values, roll-ups, sampled straps) are views of other state (Ops.lean) and have Reset 0 here. -/

namespace Sys2Proof.Machine

/-- One row: `n` registers, `stride` bytes apart, from offset `off`, with the masks of each access code. -/
structure RegDef where
  off : Nat
  n : Nat
  stride : Nat
  rw : Nat
  w1c : Nat
  wo : Nat
  ws : Nat
  reset : Nat
  kept : Nat
deriving DecidableEq, Repr

/-- DEV.ID, chapter 02 R73.  In this and every page IRQ_EN stores only the bits of defined events, and the other bits read 0:
the model's choice (log entry 63).  INJECT.TARGET is stored where the page's chapter defines it (R64). -/
def regs_ID : List RegDef :=
  [⟨0, 1, 4, 0, 0, 0, 0, 0, 0⟩,  -- PAGE_ID
   ⟨4, 1, 4, 0, 0, 0, 0, 0, 0⟩,  -- CTRL
   ⟨8, 1, 4, 0, 0, 0, 0, 0, 0⟩,  -- STATUS
   ⟨0xC, 1, 4, 0, 0, 0, 0, 0, 0⟩,  -- IRQ_RAW
   ⟨0x10, 1, 4, 0, 0, 0, 0, 0, 0⟩,  -- IRQ_EN
   ⟨0x14, 1, 4, 0, 0, 0, 0, 0, 0⟩,  -- IRQ_PEND
   ⟨0x18, 1, 4, 0, 0, 0, 0, 0, 0⟩,  -- FLT_RAW
   ⟨0x1C, 1, 4, 0, 0, 0, 0, 0, 0⟩,  -- FLT_EN
   ⟨0x20, 1, 4, 0, 0, 0, 0x1F, 0, 0⟩,  -- INJECT
   ⟨0x24, 1, 4, 0, 0, 0, 0, 0, 0⟩,  -- BUSY
   ⟨0x40, 1, 4, 0, 0, 0, 0, 0x84250000, 0⟩,  -- DEVICE
   ⟨0x44, 1, 4, 0, 0, 0, 0, 0xA1, 0⟩,  -- REVISION
   ⟨0x48, 1, 4, 0, 0, 0, 0, 0, 0⟩,  -- FUSES
   ⟨0x4C, 1, 4, 0, 0, 0, 0, 0, 0⟩,  -- UID_LO
   ⟨0x50, 1, 4, 0, 0, 0, 0, 0, 0⟩,  -- UID_HI
   ⟨0x54, 1, 4, 0, 0, 0, 0, 0, 0⟩,  -- CH_SUM
   ⟨0x58, 1, 4, 0xFFFF00FF, 0, 0, 0, 0, 0⟩,  -- SUM_EN
   ⟨0x5C, 8, 4, 0, 0, 0, 0, 0, 0⟩]  -- PAGE_SUM

/-- DEV.HOST, chapter 02 R74. -/
def regs_HOST : List RegDef :=
  [⟨0, 1, 4, 0, 0, 0, 0, 0, 0⟩,  -- PAGE_ID
   ⟨4, 1, 4, 0, 0, 0, 0, 0, 0⟩,  -- CTRL
   ⟨8, 1, 4, 0, 0, 0, 0, 0, 0⟩,  -- STATUS
   ⟨0xC, 1, 4, 0, 7, 0, 0, 0, 0⟩,  -- IRQ_RAW
   ⟨0x10, 1, 4, 7, 0, 0, 0, 0, 0⟩,  -- IRQ_EN
   ⟨0x14, 1, 4, 0, 0, 0, 0, 0, 0⟩,  -- IRQ_PEND
   ⟨0x18, 1, 4, 0, 1, 0, 0, 0, 0⟩,  -- FLT_RAW
   ⟨0x1C, 1, 4, 0, 0, 0, 0, 1, 0⟩,  -- FLT_EN
   ⟨0x20, 1, 4, 0, 0, 0, 0x1F, 0, 0⟩,  -- INJECT
   ⟨0x24, 1, 4, 0, 0, 0, 0, 0, 0⟩,  -- BUSY
   ⟨0x40, 1, 4, 0, 0, 0, 0, 0, 0⟩,  -- STRAPS
   ⟨0x44, 1, 4, 0x103, 0, 0, 0, 0, 0⟩,  -- CFG
   ⟨0x48, 1, 4, 1, 0, 0, 0, 0, 0⟩,  -- ACCESS
   ⟨0x4C, 1, 4, 0, 0, 0, 0, 0, 0⟩,  -- LAST_ERR
   ⟨0x50, 1, 4, 0, 0, 0, 0, 0, 0⟩,  -- LAST_ERR_ADDR
   ⟨0x54, 1, 4, 0, 0, 0, 0, 0, 0⟩,  -- LAST_ERR_OBS
   ⟨0x58, 1, 4, 0, 0, 0, 0, 0, 0⟩,  -- LAST_ERR_ADDR_OBS
   ⟨0x5C, 1, 4, 0, 0, 0, 0, 0xF0000120, 0⟩,  -- STATUS_WORD
   ⟨0x60, 1, 4, 0, 0, 0, 0, 0, 0⟩,  -- TXN_COUNT
   ⟨0x64, 1, 4, 0, 0, 0, 0, 0, 0⟩]  -- ERR_COUNT

/-- DEV.CLK, chapter 03 R103. -/
def regs_CLK : List RegDef :=
  [⟨0, 1, 4, 0, 0, 0, 0, 0, 0⟩,  -- PAGE_ID
   ⟨4, 1, 4, 0, 0, 0, 0, 0, 0⟩,  -- CTRL
   ⟨8, 1, 4, 0, 0, 0, 0, 0, 0⟩,  -- STATUS
   ⟨0xC, 1, 4, 0, 3, 0, 0, 0, 0⟩,  -- IRQ_RAW
   ⟨0x10, 1, 4, 3, 0, 0, 0, 0, 0⟩,  -- IRQ_EN
   ⟨0x14, 1, 4, 0, 0, 0, 0, 0, 0⟩,  -- IRQ_PEND
   ⟨0x18, 1, 4, 0, 3, 0, 0, 0, 0⟩,  -- FLT_RAW
   ⟨0x1C, 1, 4, 0, 0, 0, 0, 3, 0⟩,  -- FLT_EN
   ⟨0x20, 1, 4, 0, 0, 0, 0x1F, 0, 0⟩,  -- INJECT
   ⟨0x24, 1, 4, 0, 0, 0, 0, 0, 0⟩,  -- BUSY
   ⟨0x40, 1, 4, 0, 0, 0, 0, 0, 0⟩,  -- CH_PLL_SUM
   ⟨0x44, 1, 4, 0, 0, 0, 0, 0, 0⟩,  -- REF_LOSS_COUNT
   ⟨0x48, 1, 4, 0, 0, 0, 0, 0, 0⟩]  -- DEV_PLL_LOCK_TIME

/-- DEV.BOOT, chapter 03 R104. -/
def regs_BOOT : List RegDef :=
  [⟨0, 1, 4, 0, 0, 0, 0, 0, 0⟩,  -- PAGE_ID
   ⟨4, 1, 4, 0, 0, 0, 0, 0, 0⟩,  -- CTRL
   ⟨8, 1, 4, 0, 0, 0, 0, 0, 0⟩,  -- STATUS
   ⟨0xC, 1, 4, 0, 0x1F, 0, 0, 0, 0⟩,  -- IRQ_RAW
   ⟨0x10, 1, 4, 0x1F, 0, 0, 0, 0, 0⟩,  -- IRQ_EN
   ⟨0x14, 1, 4, 0, 0, 0, 0, 0, 0⟩,  -- IRQ_PEND
   ⟨0x18, 1, 4, 0, 1, 0, 0, 0, 0⟩,  -- FLT_RAW
   ⟨0x1C, 1, 4, 0, 0, 0, 0, 1, 0⟩,  -- FLT_EN
   ⟨0x20, 1, 4, 0, 0, 0, 0x1F, 0, 0⟩,  -- INJECT
   ⟨0x24, 1, 4, 0, 0, 0, 0, 0, 0⟩,  -- BUSY
   ⟨0x40, 1, 4, 0, 0, 0xF, 0, 0, 0⟩,  -- CMD
   ⟨0x44, 1, 4, 0, 0, 0, 0, 0, 0⟩,  -- CMD_RESULT
   ⟨0x48, 1, 4, 0, 0, 0, 0, 0, 0⟩,  -- HOLD_CAUSE
   ⟨0x4C, 1, 4, 0, 0xF, 0, 0, 0, 0⟩,  -- RESET_CAUSE
   ⟨0x50, 1, 4, 0, 0, 0xFFFFFFFF, 0, 0, 0⟩,  -- SWRESET
   ⟨0x54, 1, 4, 0, 0, 0, 0xFF, 0, 0⟩,  -- CH_RESET
   ⟨0x58, 1, 4, 0, 0, 0, 1, 0, 0⟩,  -- MILLER_RESET
   ⟨0x5C, 1, 4, 0, 0, 0, 0, 0, 0⟩,  -- LAST_STOP
   ⟨0x60, 1, 4, 0, 0, 0, 0, 0, 0⟩,  -- FW_VERSION
   ⟨0x64, 1, 4, 0, 0, 0, 0, 0, 0⟩,  -- SEC
   ⟨0x68, 1, 4, 0, 0, 0, 0, 0, 0⟩,  -- AUTH_ATTEMPTS
   ⟨0x6C, 1, 4, 0, 0, 0, 0, 0, 0⟩,  -- MILLER_EPOCH
   ⟨0x70, 1, 4, 0, 0, 0, 0, 0, 0⟩]  -- RAILS

/-- DEV.PWR, chapter 20 R507. -/
def regs_DPWR : List RegDef :=
  [⟨0, 1, 4, 0, 0, 0, 0, 0, 0⟩,  -- PAGE_ID
   ⟨4, 1, 4, 0, 0, 0, 0, 0, 0⟩,  -- CTRL
   ⟨8, 1, 4, 0, 0, 0, 0, 0, 0x700⟩,  -- STATUS
   ⟨0xC, 1, 4, 0, 0xF, 0, 0, 0, 0xF⟩,  -- IRQ_RAW
   ⟨0x10, 1, 4, 0xF, 0, 0, 0, 0, 0⟩,  -- IRQ_EN
   ⟨0x14, 1, 4, 0, 0, 0, 0, 0, 0⟩,  -- IRQ_PEND
   ⟨0x18, 1, 4, 0, 1, 0, 0, 0, 0⟩,  -- FLT_RAW
   ⟨0x1C, 1, 4, 0, 0, 0, 0, 1, 0⟩,  -- FLT_EN
   ⟨0x20, 1, 4, 0xFF00, 0, 0, 0x1F, 0, 0⟩,  -- INJECT
   ⟨0x24, 1, 4, 0, 0, 0, 0, 0, 3⟩,  -- BUSY
   ⟨0x40, 1, 4, 0xF, 0, 0, 0, 0, 0⟩,  -- TARGET
   ⟨0x44, 1, 4, 0, 0, 0, 2, 0, 2⟩,  -- CMD
   ⟨0x48, 1, 4, 0x3F, 0, 0, 0, 0x34, 0⟩,  -- WAKE_EN
   ⟨0x4C, 1, 4, 0, 0, 0, 0, 0, 0⟩,  -- WAKE_SRC
   ⟨0x50, 1, 4, 0xFFFF, 0, 0, 0, 0, 0xFFFF⟩,  -- WAKE_TIMER
   ⟨0x68, 1, 4, 0, 0, 0, 0, 0, 0xFFFFFFFF⟩,  -- REFUSALS
   ⟨0x6C, 1, 4, 0, 0, 0, 0, 0, 0xFFFF700F⟩,  -- LAST_REFUSAL
   ⟨0x70, 1, 4, 0, 0, 0, 0, 0, 0xFFFFFFFF⟩,  -- ENTRIES
   ⟨0x74, 1, 4, 0, 0, 0, 0, 0, 0xFFFFFFFF⟩,  -- BOUNCES
   ⟨0x78, 1, 4, 0, 0, 0, 0, 0, 0xFFFFFFFF⟩,  -- TRANSITION_US
   ⟨0x80, 0x10, 4, 0, 0, 0, 0, 0, 0xFFFF⟩,  -- REFUSER_COUNT
   ⟨0xC0, 1, 4, 0, 0, 0, 0, 0, 0⟩]  -- CH_STATE

/-- DEV.MBX, chapter 04 R131, part 0. -/
def regs_MBX_0 : List RegDef :=
  [⟨0, 1, 4, 0, 0, 0, 0, 0, 0⟩,  -- PAGE_ID
   ⟨4, 1, 4, 0, 0, 0, 0, 0, 0⟩,  -- CTRL
   ⟨8, 1, 4, 0, 0, 0, 0, 0, 0⟩,  -- STATUS
   ⟨0xC, 1, 4, 0, 0xFFF, 0, 0, 0, 0⟩,  -- IRQ_RAW
   ⟨0x10, 1, 4, 0xFFF, 0, 0, 0, 0, 0⟩,  -- IRQ_EN
   ⟨0x14, 1, 4, 0, 0, 0, 0, 0, 0⟩,  -- IRQ_PEND
   ⟨0x18, 1, 4, 0, 1, 0, 0, 0, 0⟩,  -- FLT_RAW
   ⟨0x1C, 1, 4, 1, 0, 0, 0, 1, 0⟩,  -- FLT_EN
   ⟨0x20, 1, 4, 0, 0, 0, 0x1F, 0, 0⟩,  -- INJECT
   ⟨0x24, 1, 4, 0, 0, 0, 0, 0, 0⟩,  -- BUSY
   ⟨0x40, 1, 4, 0xFFFFFFFF, 0, 0, 0, 0, 0⟩,  -- HOST_EPOCH
   ⟨0x44, 1, 4, 0, 0, 0, 0, 0, 0⟩,  -- SUMMARY
   ⟨0x100, 0x10, 4, 0, 0, 0, 0, 0, 0⟩,  -- DATA
   ⟨0x180, 0x10, 4, 0, 0, 0, 0, 0, 0⟩,  -- DATA
   ⟨0x200, 0x10, 4, 0, 0, 0, 0, 0, 0⟩,  -- DATA
   ⟨0x280, 0x10, 4, 0, 0, 0, 0, 0, 0⟩,  -- DATA
   ⟨0x300, 0x10, 4, 0, 0, 0, 0, 0, 0⟩,  -- DATA
   ⟨0x380, 0x10, 4, 0, 0, 0, 0, 0, 0⟩,  -- DATA
   ⟨0x400, 0x10, 4, 0, 0, 0, 0, 0, 0⟩,  -- DATA
   ⟨0x480, 0x10, 4, 0, 0, 0, 0, 0, 0⟩,  -- DATA
   ⟨0x140, 1, 4, 0, 0, 3, 0, 0, 0⟩,  -- DOORBELL
   ⟨0x1C0, 1, 4, 0, 0, 3, 0, 0, 0⟩,  -- DOORBELL
   ⟨0x240, 1, 4, 0, 0, 3, 0, 0, 0⟩,  -- DOORBELL
   ⟨0x2C0, 1, 4, 0, 0, 3, 0, 0, 0⟩,  -- DOORBELL
   ⟨0x340, 1, 4, 0, 0, 3, 0, 0, 0⟩,  -- DOORBELL
   ⟨0x3C0, 1, 4, 0, 0, 3, 0, 0, 0⟩,  -- DOORBELL
   ⟨0x440, 1, 4, 0, 0, 3, 0, 0, 0⟩,  -- DOORBELL
   ⟨0x4C0, 1, 4, 0, 0, 3, 0, 0, 0⟩,  -- DOORBELL
   ⟨0x144, 1, 4, 0, 4, 0, 0, 0, 0⟩,  -- STATE
   ⟨0x1C4, 1, 4, 0, 4, 0, 0, 0, 0⟩,  -- STATE
   ⟨0x244, 1, 4, 0, 4, 0, 0, 0, 0⟩,  -- STATE
   ⟨0x2C4, 1, 4, 0, 4, 0, 0, 0, 0⟩,  -- STATE
   ⟨0x344, 1, 4, 0, 4, 0, 0, 0, 0⟩,  -- STATE
   ⟨0x3C4, 1, 4, 0, 4, 0, 0, 0, 0⟩,  -- STATE
   ⟨0x444, 1, 4, 0, 4, 0, 0, 0, 0⟩,  -- STATE
   ⟨0x4C4, 1, 4, 0, 4, 0, 0, 0, 0⟩,  -- STATE
   ⟨0x148, 1, 4, 0, 0, 0, 0, 0, 0⟩,  -- EPOCH
   ⟨0x1C8, 1, 4, 0, 0, 0, 0, 0, 0⟩,  -- EPOCH
   ⟨0x248, 1, 4, 0, 0, 0, 0, 0, 0⟩,  -- EPOCH
   ⟨0x2C8, 1, 4, 0, 0, 0, 0, 0, 0⟩]  -- EPOCH

/-- DEV.MBX, chapter 04 R131, part 1. -/
def regs_MBX_1 : List RegDef :=
  [⟨0x348, 1, 4, 0, 0, 0, 0, 0, 0⟩,  -- EPOCH
   ⟨0x3C8, 1, 4, 0, 0, 0, 0, 0, 0⟩,  -- EPOCH
   ⟨0x448, 1, 4, 0, 0, 0, 0, 0, 0⟩,  -- EPOCH
   ⟨0x4C8, 1, 4, 0, 0, 0, 0, 0, 0⟩]  -- EPOCH

/-- DEV.MILLER, chapter 04 R130. -/
def regs_MILLER : List RegDef :=
  [⟨0, 1, 4, 0, 0, 0, 0, 0, 0⟩,  -- PAGE_ID
   ⟨4, 1, 4, 0, 0, 0, 0, 0, 0⟩,  -- CTRL
   ⟨8, 1, 4, 0, 0, 0, 0, 0, 0⟩,  -- STATUS
   ⟨0xC, 1, 4, 0, 3, 0, 0, 0, 0⟩,  -- IRQ_RAW
   ⟨0x10, 1, 4, 3, 0, 0, 0, 0, 0⟩,  -- IRQ_EN
   ⟨0x14, 1, 4, 0, 0, 0, 0, 0, 0⟩,  -- IRQ_PEND
   ⟨0x18, 1, 4, 0, 3, 0, 0, 0, 0⟩,  -- FLT_RAW
   ⟨0x1C, 1, 4, 1, 0, 0, 0, 3, 0⟩,  -- FLT_EN
   ⟨0x20, 1, 4, 0, 0, 0, 0x1F, 0, 0⟩,  -- INJECT
   ⟨0x24, 1, 4, 0, 0, 0, 0, 0, 0⟩,  -- BUSY
   ⟨0x40, 1, 4, 0, 0, 0, 0, 0, 0⟩,  -- RESTART
   ⟨0x44, 1, 4, 0, 0, 0, 0, 0, 0⟩,  -- HEARTBEAT
   ⟨0x48, 1, 4, 0, 0, 0, 0, 0, 0⟩,  -- FW_STATE
   ⟨0x4C, 1, 4, 0, 0, 0, 0, 0, 0⟩,  -- WDOG
   ⟨0x50, 1, 4, 0, 0, 0, 0, 0, 0⟩]  -- INFLIGHT

/-- DEV.SLUICE, chapter 18 R462. -/
def regs_SLUICE : List RegDef :=
  [⟨0, 1, 4, 0, 0, 0, 0, 0, 0⟩,  -- PAGE_ID
   ⟨4, 1, 4, 0, 0, 0, 0, 0, 0⟩,  -- CTRL
   ⟨8, 1, 4, 0, 0, 0, 0, 0, 0⟩,  -- STATUS
   ⟨0xC, 1, 4, 0, 0xF, 0, 0, 0, 0⟩,  -- IRQ_RAW
   ⟨0x10, 1, 4, 0xF, 0, 0, 0, 0, 0⟩,  -- IRQ_EN
   ⟨0x14, 1, 4, 0, 0, 0, 0, 0, 0⟩,  -- IRQ_PEND
   ⟨0x18, 1, 4, 0, 3, 0, 0, 0, 0⟩,  -- FLT_RAW
   ⟨0x1C, 1, 4, 3, 0, 0, 0, 3, 0⟩,  -- FLT_EN
   ⟨0x20, 1, 4, 0, 0, 0, 0x1F, 0, 0⟩,  -- INJECT
   ⟨0x24, 1, 4, 0, 0, 0, 0, 0, 0⟩,  -- BUSY
   ⟨0x40, 1, 4, 3, 0, 0, 0, 1, 0⟩,  -- CFG
   ⟨0x44, 1, 4, 0, 0, 0, 0, 0, 0⟩,  -- CH_SUM
   ⟨0x48, 1, 4, 0, 0, 0, 0, 0, 0⟩,  -- CH_SAFE
   ⟨0x4C, 1, 4, 0, 0, 0, 0, 0, 0⟩,  -- SELF
   ⟨0x50, 1, 4, 0, 0, 0, 0, 0, 0⟩,  -- CLASS_COUNT0
   ⟨0x54, 1, 4, 0, 0, 0, 0, 0, 0⟩,  -- CLASS_COUNT1
   ⟨0x100, 1, 4, 0, 0, 0, 0, 0, 0⟩,  -- CLASS0 (ID)
   ⟨0x104, 1, 4, 0, 0, 0, 0, 3, 0⟩,  -- CLASS1 (HOST)
   ⟨0x108, 1, 4, 0, 0, 0, 0, 0xF, 0⟩,  -- CLASS2 (CLK)
   ⟨0x10C, 1, 4, 0, 0, 0, 0, 3, 0⟩,  -- CLASS3 (BOOT)
   ⟨0x110, 1, 4, 0, 0, 0, 0, 3, 0⟩,  -- CLASS4 (DPWR)
   ⟨0x114, 1, 4, 3, 0, 0, 0, 1, 0⟩,  -- CLASS5 (MBX)
   ⟨0x118, 1, 4, 3, 0, 0, 0, 0xD, 0⟩,  -- CLASS6 (MILLER)
   ⟨0x11C, 1, 4, 0xF, 0, 0, 0, 5, 0⟩,  -- CLASS7 (SLUICE)
   ⟨0x120, 1, 4, 0, 0, 0, 0, 0, 0⟩,  -- CLASS8 (FLOG)
   ⟨0x124, 1, 4, 0x3F, 0, 0, 0, 0x10, 0⟩,  -- CLASS9 (TIME)
   ⟨0x128, 1, 4, 0x3FF, 0, 0, 0, 0x140, 0⟩,  -- CLASS10 (DMEM)
   ⟨0x12C, 1, 4, 3, 0, 0, 0, 1, 0⟩,  -- CLASS11 (DTRIAL)
   ⟨0x130, 1, 4, 3, 0, 0, 0, 0, 0⟩,  -- CLASS12 (DCNT)
   ⟨0x134, 1, 4, 0, 0, 0, 0, 0, 0⟩,  -- CLASS13 (APER)
   ⟨0x138, 1, 4, 3, 0, 0, 0, 1, 0⟩,  -- CLASS14 (SENS)
   ⟨0x13C, 1, 4, 0, 0, 0, 0, 3, 0⟩]  -- CLASS15 (OTP)

/-- DEV.FLOG, chapter 18 R464. -/
def regs_FLOG : List RegDef :=
  [⟨0, 1, 4, 0, 0, 0, 0, 0, 0⟩,  -- PAGE_ID
   ⟨4, 1, 4, 0, 0, 0, 0, 0, 0⟩,  -- CTRL
   ⟨8, 1, 4, 0, 0, 0, 0, 0, 0⟩,  -- STATUS
   ⟨0xC, 1, 4, 0, 0x1F, 0, 0, 0, 0⟩,  -- IRQ_RAW
   ⟨0x10, 1, 4, 0x1F, 0, 0, 0, 0, 0⟩,  -- IRQ_EN
   ⟨0x14, 1, 4, 0, 0, 0, 0, 0, 0⟩,  -- IRQ_PEND
   ⟨0x18, 1, 4, 0, 0, 0, 0, 0, 0⟩,  -- FLT_RAW
   ⟨0x1C, 1, 4, 0, 0, 0, 0, 0, 0⟩,  -- FLT_EN
   ⟨0x20, 1, 4, 0, 0, 0, 0x1F, 0, 0⟩,  -- INJECT
   ⟨0x24, 1, 4, 0, 0, 0, 0, 0, 0⟩,  -- BUSY
   ⟨0x40, 1, 4, 0x1FF, 0, 0, 0, 0x80, 0⟩,  -- CFG
   ⟨0x44, 1, 4, 0, 0, 0, 0, 0, 0⟩,  -- WR_IDX
   ⟨0x48, 1, 4, 0xFF, 0, 0, 0, 0, 0⟩,  -- RD_IDX
   ⟨0x4C, 1, 4, 0, 0x80000000, 0, 0, 0, 0⟩,  -- FILL
   ⟨0x50, 1, 4, 0, 0, 0, 0, 0, 0⟩,  -- SEQ_NEXT
   ⟨0x54, 1, 4, 0, 0, 0, 0, 0, 0⟩,  -- COUNTS
   ⟨0x58, 1, 4, 0xFF, 0, 0, 0, 0, 0⟩,  -- VIEW_BASE
   ⟨0x800, 0x200, 4, 0, 0, 0, 0, 0, 0⟩]  -- ENTRY

/-- DEV.TIME, chapter 16 R417. -/
def regs_TIME : List RegDef :=
  [⟨0, 1, 4, 0, 0, 0, 0, 0, 0⟩,  -- PAGE_ID
   ⟨4, 1, 4, 6, 0, 0, 0, 2, 0⟩,  -- CTRL
   ⟨8, 1, 4, 0, 0, 0, 0, 0, 0⟩,  -- STATUS
   ⟨0xC, 1, 4, 0, 0x1F, 0, 0, 0, 0⟩,  -- IRQ_RAW
   ⟨0x10, 1, 4, 0x1F, 0, 0, 0, 0, 0⟩,  -- IRQ_EN
   ⟨0x14, 1, 4, 0, 0, 0, 0, 0, 0⟩,  -- IRQ_PEND
   ⟨0x18, 1, 4, 0, 7, 0, 0, 0, 0⟩,  -- FLT_RAW
   ⟨0x1C, 1, 4, 7, 0, 0, 0, 7, 0⟩,  -- FLT_EN
   ⟨0x20, 1, 4, 0xFF00, 0, 0, 0x1F, 0, 0⟩,  -- INJECT
   ⟨0x24, 1, 4, 0, 0, 0, 0, 0, 0⟩,  -- BUSY
   ⟨0x40, 1, 4, 0, 0, 0, 0, 0, 0⟩,  -- NOW0
   ⟨0x44, 1, 4, 0, 0, 0, 0, 0, 0⟩,  -- NOW1
   ⟨0x48, 1, 4, 0, 0, 0, 0, 0, 0⟩,  -- NOW2
   ⟨0x4C, 1, 4, 0xFFFFFFFF, 0, 0, 0, 0, 0⟩,  -- SET0
   ⟨0x50, 1, 4, 0xFFFFFFFF, 0, 0, 0, 0, 0⟩,  -- SET1
   ⟨0x54, 1, 4, 0xFFFFFFFF, 0, 0, 0, 0, 0⟩,  -- SET2
   ⟨0x58, 1, 4, 0xFFFFFFFF, 0, 0, 0, 0, 0⟩,  -- ADJ
   ⟨0x5C, 1, 4, 0, 0, 0, 3, 0, 0⟩,  -- CMD
   ⟨0x60, 1, 4, 0xFFFFFFFF, 0, 0, 0, 0, 0⟩,  -- RATE
   ⟨0x64, 1, 4, 0xFFFFFFFF, 0, 0, 0, 0, 0⟩,  -- NEXT_SEC_LO
   ⟨0x68, 1, 4, 0x8000FFFF, 0, 0, 0, 0, 0⟩,  -- NEXT_SEC_HI
   ⟨0x6C, 1, 4, 0, 0, 0, 0, 0, 0⟩,  -- PPS_ERR
   ⟨0x70, 1, 4, 0, 0, 0, 0, 0, 0⟩,  -- PPS_CAP0
   ⟨0x74, 1, 4, 0, 0, 0, 0, 0, 0⟩,  -- PPS_CAP1
   ⟨0x78, 1, 4, 0, 0, 0, 0, 0, 0⟩,  -- PPS_CAP2
   ⟨0x7C, 1, 4, 0xFFFFFFFF, 0, 0, 0, 0x10064, 0⟩,  -- PPS_CFG
   ⟨0x80, 1, 4, 0, 0, 0, 0, 0, 0⟩,  -- EDGES
   ⟨0x84, 1, 4, 0, 0, 0, 0, 0, 0⟩]  -- PPS_COUNTS

/-- DEV.MEM, chapter 17 R440, part 0. -/
def regs_DMEM_0 : List RegDef :=
  [⟨0, 1, 4, 0, 0, 0, 0, 0, 0⟩,  -- PAGE_ID
   ⟨4, 1, 4, 0, 0, 0, 0, 0, 0⟩,  -- CTRL
   ⟨8, 1, 4, 0, 0, 0, 0, 0, 0⟩,  -- STATUS
   ⟨0xC, 1, 4, 0, 0x7F7F1E, 0, 0, 0, 0⟩,  -- IRQ_RAW
   ⟨0x10, 1, 4, 0x7F7F1E, 0, 0, 0, 0, 0⟩,  -- IRQ_EN
   ⟨0x14, 1, 4, 0, 0, 0, 0, 0, 0⟩,  -- IRQ_PEND
   ⟨0x18, 1, 4, 0, 0x1F, 0, 0, 0, 0⟩,  -- FLT_RAW
   ⟨0x1C, 1, 4, 0x1F, 0, 0, 0, 0x1F, 0⟩,  -- FLT_EN
   ⟨0x20, 1, 4, 0xFF00, 0, 0, 0x1F, 0, 0⟩,  -- INJECT
   ⟨0x24, 1, 4, 0, 0, 0, 0, 0, 0⟩,  -- BUSY
   ⟨0x40, 1, 4, 0x11F, 0, 0, 0, 0, 0⟩,  -- SCRUB_CFG
   ⟨0x44, 1, 4, 0xFFFFFF, 0, 0, 0, 0, 0⟩,  -- SCRUB_START
   ⟨0x48, 1, 4, 0xFFFFFF, 0, 0, 0, 0, 0⟩,  -- SCRUB_LEN
   ⟨0x4C, 1, 4, 0, 0, 0, 3, 0, 0⟩,  -- SCRUB_CMD
   ⟨0x50, 1, 4, 0, 0, 0, 0, 0, 0⟩,  -- SCRUB_WORDS
   ⟨0x54, 1, 4, 0, 0, 0, 0, 0, 0⟩,  -- SCRUB_CE
   ⟨0x58, 1, 4, 0, 0, 0, 0, 0, 0⟩,  -- SCRUB_UE
   ⟨0x5C, 1, 4, 0, 0, 0, 0, 0, 0⟩,  -- SCRUB_POISON
   ⟨0x60, 1, 4, 0, 0, 0, 0, 0, 0⟩,  -- SCRUB_FIRST_UE
   ⟨0x64, 1, 4, 0, 0, 0, 0, 0, 0⟩,  -- SCRUB_LAST_UE
   ⟨0x68, 1, 4, 0, 0, 0, 0, 0, 0⟩,  -- SCRUB_US
   ⟨0x6C, 1, 4, 0, 0, 0, 0, 0, 0⟩,  -- SCRUB_PASSES
   ⟨0x70, 1, 4, 0xFFFFFF, 0, 0, 0, 0, 0⟩,  -- MARCH_START
   ⟨0x74, 1, 4, 0xFFFFFF, 0, 0, 0, 0, 0⟩,  -- MARCH_LEN
   ⟨0x78, 1, 4, 0, 0, 0, 1, 0, 0⟩,  -- MARCH_CMD
   ⟨0x7C, 1, 4, 0x3FF, 0, 0, 0, 0x32, 0⟩,  -- MARCH_BUDGET
   ⟨0x80, 1, 4, 0, 0, 0, 0, 0, 0⟩,  -- MARCH_RESULT
   ⟨0x84, 4, 8, 0, 0, 0, 0, 0, 0⟩,  -- PIN_BASE
   ⟨0x88, 4, 8, 0, 0, 0, 0, 0, 0⟩,  -- PIN_LEN
   ⟨0x100, 1, 4, 0x800FFFFF, 0, 0, 0, 0xF4240, 0⟩,  -- CFG
   ⟨0x140, 1, 4, 0x800FFFFF, 0, 0, 0, 0xF4240, 0⟩,  -- CFG
   ⟨0x180, 1, 4, 0x800FFFFF, 0, 0, 0, 0xF4240, 0⟩,  -- CFG
   ⟨0x1C0, 1, 4, 0x800FFFFF, 0, 0, 0, 0xF4240, 0⟩,  -- CFG
   ⟨0x104, 1, 4, 0xFFFF, 0, 0, 0, 0x10, 0⟩,  -- THRESH
   ⟨0x144, 1, 4, 0xFFFF, 0, 0, 0, 0x10, 0⟩,  -- THRESH
   ⟨0x184, 1, 4, 0xFFFF, 0, 0, 0, 0x10, 0⟩,  -- THRESH
   ⟨0x1C4, 1, 4, 0xFFFF, 0, 0, 0, 0x10, 0⟩,  -- THRESH
   ⟨0x108, 1, 4, 0, 0, 0, 0, 0, 0⟩,  -- BUCKET
   ⟨0x148, 1, 4, 0, 0, 0, 0, 0, 0⟩,  -- BUCKET
   ⟨0x188, 1, 4, 0, 0, 0, 0, 0, 0⟩]  -- BUCKET

/-- DEV.MEM, chapter 17 R440, part 1. -/
def regs_DMEM_1 : List RegDef :=
  [⟨0x1C8, 1, 4, 0, 0, 0, 0, 0, 0⟩,  -- BUCKET
   ⟨0x10C, 1, 4, 0, 0, 0, 0, 0, 0⟩,  -- OVF_COUNT
   ⟨0x14C, 1, 4, 0, 0, 0, 0, 0, 0⟩,  -- OVF_COUNT
   ⟨0x18C, 1, 4, 0, 0, 0, 0, 0, 0⟩,  -- OVF_COUNT
   ⟨0x1CC, 1, 4, 0, 0, 0, 0, 0, 0⟩,  -- OVF_COUNT
   ⟨0x110, 1, 4, 0, 0, 0, 0, 0, 0⟩,  -- CE_TOTAL
   ⟨0x150, 1, 4, 0, 0, 0, 0, 0, 0⟩,  -- CE_TOTAL
   ⟨0x190, 1, 4, 0, 0, 0, 0, 0, 0⟩,  -- CE_TOTAL
   ⟨0x1D0, 1, 4, 0, 0, 0, 0, 0, 0⟩,  -- CE_TOTAL
   ⟨0x114, 1, 4, 0, 0, 0, 0, 0, 0⟩,  -- UE_TOTAL
   ⟨0x154, 1, 4, 0, 0, 0, 0, 0, 0⟩,  -- UE_TOTAL
   ⟨0x194, 1, 4, 0, 0, 0, 0, 0, 0⟩,  -- UE_TOTAL
   ⟨0x1D4, 1, 4, 0, 0, 0, 0, 0, 0⟩,  -- UE_TOTAL
   ⟨0x118, 1, 4, 0, 0, 0, 0, 0, 0⟩,  -- POISON_READS
   ⟨0x158, 1, 4, 0, 0, 0, 0, 0, 0⟩,  -- POISON_READS
   ⟨0x198, 1, 4, 0, 0, 0, 0, 0, 0⟩,  -- POISON_READS
   ⟨0x1D8, 1, 4, 0, 0, 0, 0, 0, 0⟩,  -- POISON_READS
   ⟨0x11C, 1, 4, 0, 0, 0, 0, 0, 0⟩,  -- LAST_CE
   ⟨0x15C, 1, 4, 0, 0, 0, 0, 0, 0⟩,  -- LAST_CE
   ⟨0x19C, 1, 4, 0, 0, 0, 0, 0, 0⟩,  -- LAST_CE
   ⟨0x1DC, 1, 4, 0, 0, 0, 0, 0, 0⟩,  -- LAST_CE
   ⟨0x120, 1, 4, 0, 0, 0, 0, 0, 0⟩,  -- LAST_UE
   ⟨0x160, 1, 4, 0, 0, 0, 0, 0, 0⟩,  -- LAST_UE
   ⟨0x1A0, 1, 4, 0, 0, 0, 0, 0, 0⟩,  -- LAST_UE
   ⟨0x1E0, 1, 4, 0, 0, 0, 0, 0, 0⟩,  -- LAST_UE
   ⟨0x124, 1, 4, 0, 0, 0, 0, 0, 0⟩,  -- WB_DROP
   ⟨0x164, 1, 4, 0, 0, 0, 0, 0, 0⟩,  -- WB_DROP
   ⟨0x1A4, 1, 4, 0, 0, 0, 0, 0, 0⟩,  -- WB_DROP
   ⟨0x1E4, 1, 4, 0, 0, 0, 0, 0, 0⟩]  -- WB_DROP

/-- DEV.TRIAL, chapter 19 R488. -/
def regs_DTRIAL : List RegDef :=
  [⟨0, 1, 4, 0, 0, 0, 0, 0, 0⟩,  -- PAGE_ID
   ⟨4, 1, 4, 0, 0, 0, 0, 0, 0⟩,  -- CTRL
   ⟨8, 1, 4, 0, 0, 0, 0, 0xF0, 0⟩,  -- STATUS
   ⟨0xC, 1, 4, 0, 3, 0, 0, 0, 0⟩,  -- IRQ_RAW
   ⟨0x10, 1, 4, 3, 0, 0, 0, 0, 0⟩,  -- IRQ_EN
   ⟨0x14, 1, 4, 0, 0, 0, 0, 0, 0⟩,  -- IRQ_PEND
   ⟨0x18, 1, 4, 0, 1, 0, 0, 0, 0⟩,  -- FLT_RAW
   ⟨0x1C, 1, 4, 1, 0, 0, 0, 1, 0⟩,  -- FLT_EN
   ⟨0x20, 1, 4, 0xFF00, 0, 0, 0x1F, 0, 0⟩,  -- INJECT
   ⟨0x24, 1, 4, 0, 0, 0, 0, 0, 0⟩,  -- BUSY
   ⟨0x40, 1, 4, 0x1F1F03, 0, 0, 0, 0xE1001, 0⟩,  -- CFG
   ⟨0x44, 1, 4, 0x700, 0, 0, 1, 0, 0⟩,  -- CMD
   ⟨0x48, 1, 4, 0, 0, 0, 0, 0, 0⟩,  -- RESULT
   ⟨0x4C, 1, 4, 0, 0, 0, 0, 0, 0⟩]  -- ELAPSED_MS

/-- DEV.CNT, chapter 16 R415. -/
def regs_DCNT : List RegDef :=
  [⟨0, 1, 4, 0, 0, 0, 0, 0, 0⟩,  -- PAGE_ID
   ⟨4, 1, 4, 3, 0, 0, 0, 1, 0⟩,  -- CTRL
   ⟨8, 1, 4, 0, 0, 0, 0, 0, 0⟩,  -- STATUS
   ⟨0xC, 1, 4, 0, 1, 0, 0, 0, 0⟩,  -- IRQ_RAW
   ⟨0x10, 1, 4, 1, 0, 0, 0, 0, 0⟩,  -- IRQ_EN
   ⟨0x14, 1, 4, 0, 0, 0, 0, 0, 0⟩,  -- IRQ_PEND
   ⟨0x18, 1, 4, 0, 1, 0, 0, 0, 0⟩,  -- FLT_RAW
   ⟨0x1C, 1, 4, 1, 0, 0, 0, 1, 0⟩,  -- FLT_EN
   ⟨0x20, 1, 4, 0, 0, 0, 0x1F, 0, 0⟩,  -- INJECT
   ⟨0x24, 1, 4, 0, 0, 0, 0, 0, 0⟩,  -- BUSY
   ⟨0x100, 0x10, 4, 0xFFFFCCFF, 0, 0, 0, 0xFFFFC000, 0⟩,  -- SEL
   ⟨0x200, 0x10, 4, 0xFFFFFFFF, 0, 0, 0, 0xFFFF0000, 0⟩,  -- RANGE
   ⟨0x400, 0x10, 0x10, 0, 0, 0, 0, 0, 0⟩,  -- CNT_LO
   ⟨0x404, 0x10, 0x10, 0, 0, 0, 0, 0, 0⟩,  -- CNT_HI
   ⟨0x408, 0x10, 0x10, 0, 0, 0, 0, 0, 0⟩,  -- CNT_FLAGS
   ⟨0x800, 1, 4, 0, 0, 0, 0, 0, 0⟩]  -- WRAP_LO

/-- DEV.APER, chapter 02 R75. -/
def regs_APER : List RegDef :=
  [⟨0, 1, 4, 0, 0, 0, 0, 0, 0⟩,  -- PAGE_ID
   ⟨4, 1, 4, 0, 0, 0, 0, 0, 0⟩,  -- CTRL
   ⟨8, 1, 4, 0, 0, 0, 0, 0, 0⟩,  -- STATUS
   ⟨0xC, 1, 4, 0, 0, 0, 0, 0, 0⟩,  -- IRQ_RAW
   ⟨0x10, 1, 4, 0, 0, 0, 0, 0, 0⟩,  -- IRQ_EN
   ⟨0x14, 1, 4, 0, 0, 0, 0, 0, 0⟩,  -- IRQ_PEND
   ⟨0x18, 1, 4, 0, 0, 0, 0, 0, 0⟩,  -- FLT_RAW
   ⟨0x1C, 1, 4, 0, 0, 0, 0, 0, 0⟩,  -- FLT_EN
   ⟨0x20, 1, 4, 0, 0, 0, 0x1F, 0, 0⟩,  -- INJECT
   ⟨0x24, 1, 4, 0, 0, 0, 0, 0, 0⟩,  -- BUSY
   ⟨0x40, 1, 4, 0x71F, 0, 0, 0, 0, 0⟩,  -- SEL
   ⟨0x44, 1, 4, 7, 0, 0, 0, 0, 0⟩,  -- BASE
   ⟨0x48, 1, 4, 0x71F, 0, 0, 0, 0, 0⟩,  -- OSEL
   ⟨0x4C, 1, 4, 7, 0, 0, 0, 0, 0⟩]  -- OBASE

/-- DEV.SENS, chapter 21 R532. -/
def regs_SENS : List RegDef :=
  [⟨0, 1, 4, 0, 0, 0, 0, 0, 0⟩,  -- PAGE_ID
   ⟨4, 1, 4, 0, 0, 0, 0, 0, 0⟩,  -- CTRL
   ⟨8, 1, 4, 0, 0, 0, 0, 0, 0⟩,  -- STATUS
   ⟨0xC, 1, 4, 0, 0xF, 0, 0, 0, 0⟩,  -- IRQ_RAW
   ⟨0x10, 1, 4, 0xF, 0, 0, 0, 0, 0⟩,  -- IRQ_EN
   ⟨0x14, 1, 4, 0, 0, 0, 0, 0, 0⟩,  -- IRQ_PEND
   ⟨0x18, 1, 4, 0, 1, 0, 0, 0, 0⟩,  -- FLT_RAW
   ⟨0x1C, 1, 4, 1, 0, 0, 0, 1, 0⟩,  -- FLT_EN
   ⟨0x20, 1, 4, 0, 0, 0, 0x1F, 0, 0⟩,  -- INJECT
   ⟨0x24, 1, 4, 0, 0, 0, 0, 0, 0⟩,  -- BUSY
   ⟨0x40, 1, 4, 0, 0, 0, 0, 0, 0⟩,  -- LIMITS
   ⟨0x44, 1, 4, 0xFFFF000F, 0, 0, 0, 0x6400002, 0⟩,  -- CFG
   ⟨0x48, 1, 4, 0, 0, 0, 0, 0, 0⟩,  -- COMPLEX
   ⟨0x4C, 1, 4, 0, 0, 0, 0, 0x80000, 0⟩,  -- MAX
   ⟨0x50, 1, 4, 0, 0, 0, 0, 0x80000, 0⟩,  -- PEAK
   ⟨0x54, 1, 4, 0, 0, 0, 1, 0, 0⟩,  -- CMD
   ⟨0x58, 1, 4, 0, 0, 0, 0, 0, 0⟩,  -- ABOVE_S
   ⟨0x60, 8, 4, 0, 0, 0, 0, 0, 0⟩]  -- CH_TEMP

/-- DEV.OTP, chapter 03 R105. -/
def regs_OTP : List RegDef :=
  [⟨0, 1, 4, 0, 0, 0, 0, 0, 0⟩,  -- PAGE_ID
   ⟨4, 1, 4, 0, 0, 0, 0, 0, 0⟩,  -- CTRL
   ⟨8, 1, 4, 0, 0, 0, 0, 0, 0⟩,  -- STATUS
   ⟨0xC, 1, 4, 0, 0, 0, 0, 0, 0⟩,  -- IRQ_RAW
   ⟨0x10, 1, 4, 0, 0, 0, 0, 0, 0⟩,  -- IRQ_EN
   ⟨0x14, 1, 4, 0, 0, 0, 0, 0, 0⟩,  -- IRQ_PEND
   ⟨0x18, 1, 4, 0, 1, 0, 0, 0, 0⟩,  -- FLT_RAW
   ⟨0x1C, 1, 4, 0, 0, 0, 0, 1, 0⟩,  -- FLT_EN
   ⟨0x20, 1, 4, 0, 0, 0, 0x1F, 0, 0⟩,  -- INJECT
   ⟨0x24, 1, 4, 0, 0, 0, 0, 0, 0⟩,  -- BUSY
   ⟨0x40, 1, 4, 0x3F, 0, 0, 0, 0, 0⟩,  -- PROG_ADDR
   ⟨0x44, 1, 4, 0xFFFFFFFF, 0, 0, 0, 0, 0⟩,  -- PROG_DATA
   ⟨0x48, 1, 4, 0, 0, 0, 0, 0, 0⟩,  -- SUMMARY
   ⟨0x4C, 1, 4, 0, 0, 0, 0, 0, 0⟩,  -- VALID
   ⟨0x50, 1, 4, 0, 0, 0, 0, 0, 0⟩,  -- VALID_HI
   ⟨0x100, 0x40, 4, 0, 0, 0, 0, 0, 0⟩]  -- WORD

/-- CHn.TOP, chapter 01 R32. -/
def regs_TOP : List RegDef :=
  [⟨0, 1, 4, 0, 0, 0, 0, 0x20010000, 0⟩,  -- PAGE_ID
   ⟨4, 1, 4, 1, 0, 0, 0, 0, 0⟩,  -- CTRL
   ⟨8, 1, 4, 0, 0, 0, 0, 0x100, 0⟩,  -- STATUS
   ⟨0xC, 1, 4, 0, 0x1F, 0, 0, 0, 0⟩,  -- IRQ_RAW
   ⟨0x10, 1, 4, 0x1F, 0, 0, 0, 0, 0⟩,  -- IRQ_EN
   ⟨0x14, 1, 4, 0, 0, 0, 0, 0, 0⟩,  -- IRQ_PEND
   ⟨0x18, 1, 4, 0, 3, 0, 0, 0, 0⟩,  -- FLT_RAW
   ⟨0x1C, 1, 4, 3, 0, 0, 0, 3, 0⟩,  -- FLT_EN
   ⟨0x20, 1, 4, 0, 0, 0, 0x1F, 0, 0⟩,  -- INJECT
   ⟨0x24, 1, 4, 0, 0, 0, 0, 0, 0⟩,  -- BUSY
   ⟨0x40, 1, 4, 0x113, 0, 0, 0, 0, 0x113⟩,  -- MODE_CFG
   ⟨0x44, 1, 4, 0, 0, 0, 1, 0, 0⟩,  -- MODE_APPLY
   ⟨0x48, 1, 4, 0, 0, 0, 0, 0, 0⟩,  -- CAPS
   ⟨0x4C, 1, 4, 0, 0, 0, 0, 0, 0⟩,  -- LAT_TX_PS
   ⟨0x50, 1, 4, 0, 0, 0, 0, 0, 0⟩,  -- LAT_RX_PS
   ⟨0x54, 1, 4, 0, 0x1F, 0, 0, 0, 0⟩,  -- XING_STATUS
   ⟨0x58, 1, 4, 0, 0, 0, 0, 0, 0⟩,  -- CLK_STATUS
   ⟨0x5C, 1, 4, 0, 0, 0, 0, 0, 0⟩,  -- CORE_TX_OFFSET
   ⟨0x60, 1, 4, 0, 0, 0, 0, 0, 0⟩]  -- CORE_RX_OFFSET

/-- CHn.HLANE0 and CHn.HLANE1, chapter 05 R156. -/
def regs_HL : List RegDef :=
  [⟨0, 1, 4, 0, 0, 0, 0, 0, 0⟩,  -- PAGE_ID
   ⟨4, 1, 4, 1, 0, 0, 0, 1, 0⟩,  -- CTRL
   ⟨8, 1, 4, 0, 0, 0, 0, 0, 0⟩,  -- STATUS
   ⟨0xC, 1, 4, 0, 0x7F, 0, 0, 0, 0⟩,  -- IRQ_RAW
   ⟨0x10, 1, 4, 0x7F, 0, 0, 0, 0, 0⟩,  -- IRQ_EN
   ⟨0x14, 1, 4, 0, 0, 0, 0, 0, 0⟩,  -- IRQ_PEND
   ⟨0x18, 1, 4, 0, 0xF, 0, 0, 0, 0⟩,  -- FLT_RAW
   ⟨0x1C, 1, 4, 0xF, 0, 0, 0, 0xF, 0⟩,  -- FLT_EN
   ⟨0x20, 1, 4, 0xFF00, 0, 0, 0x1F, 0, 0⟩,  -- INJECT
   ⟨0x24, 1, 4, 0, 0, 0, 0, 0, 0⟩,  -- BUSY
   ⟨0x40, 1, 4, 0xF077, 0, 0, 0, 0xA047, 0x30⟩,  -- CFG
   ⟨0x44, 1, 4, 0, 0, 0, 1, 0, 0⟩,  -- CMD
   ⟨0x48, 1, 4, 0xFF3FF307, 0, 0, 0, 0x18200003, 0⟩,  -- TRAIN_CFG
   ⟨0x4C, 1, 4, 0xF7, 0, 0, 0, 0xD7, 0⟩,  -- EXT
   ⟨0x50, 1, 4, 0xF03F, 0, 0, 0, 0x10, 0⟩,  -- CTLE
   ⟨0x54, 1, 4, 0xF90F, 0, 0, 0, 0x210C, 0⟩,  -- FFE_CFG
   ⟨0x58, 1, 4, 0xFFFFFF, 0, 0, 0, 0xFE04F2, 0⟩,  -- TX_FIR0
   ⟨0x5C, 1, 4, 0xFFFFFF, 0, 0, 0, 0xFE2A, 0⟩,  -- TX_FIR1
   ⟨0x60, 1, 4, 0, 0, 0, 0, 0xFE04F2, 0⟩,  -- TX_FIR_ACTIVE0
   ⟨0x64, 1, 4, 0, 0, 0, 0, 0xFE2A, 0⟩,  -- TX_FIR_ACTIVE1
   ⟨0x68, 1, 4, 0, 0, 0, 0, 0, 0⟩,  -- DFE
   ⟨0x6C, 1, 4, 0, 0, 0, 0, 0, 0⟩,  -- SNR
   ⟨0x70, 1, 4, 0, 0, 0, 0, 0, 0⟩,  -- CDR_STATUS
   ⟨0x74, 1, 4, 0, 0, 0, 0, 0, 0⟩,  -- TRAIN_RESULT
   ⟨0x78, 1, 4, 0, 0, 0, 0, 0, 0⟩,  -- COUNTS0
   ⟨0x7C, 1, 4, 0, 0, 0, 0, 0, 0⟩,  -- COUNTS1
   ⟨0x100, 0x18, 4, 0, 0, 0, 0, 0, 0⟩]  -- FFE_TAP

/-- CHn.HFEC, chapter 06 R176, part 0. -/
def regs_HFEC_0 : List RegDef :=
  [⟨0, 1, 4, 0, 0, 0, 0, 0, 0⟩,  -- PAGE_ID
   ⟨4, 1, 4, 1, 0, 0, 0, 1, 0⟩,  -- CTRL
   ⟨8, 1, 4, 0, 0, 0, 0, 0, 0⟩,  -- STATUS
   ⟨0xC, 1, 4, 0, 0x3FF, 0, 0, 0, 0⟩,  -- IRQ_RAW
   ⟨0x10, 1, 4, 0x3FF, 0, 0, 0, 0, 0⟩,  -- IRQ_EN
   ⟨0x14, 1, 4, 0, 0, 0, 0, 0, 0⟩,  -- IRQ_PEND
   ⟨0x18, 1, 4, 0, 0x3F, 0, 0, 0, 0⟩,  -- FLT_RAW
   ⟨0x1C, 1, 4, 0x3F, 0, 0, 0, 0x3F, 0⟩,  -- FLT_EN
   ⟨0x20, 1, 4, 0xFF00, 0, 0, 0x1F, 0, 0⟩,  -- INJECT
   ⟨0x24, 1, 4, 0, 0, 0, 0, 0, 0⟩,  -- BUSY
   ⟨0x40, 1, 4, 0xF11F03, 0, 0, 0, 0x411000, 0⟩,  -- CFG
   ⟨0x44, 1, 4, 0x10F, 0, 0, 0x1000, 1, 0⟩,  -- SLIP
   ⟨0x48, 1, 4, 0xFFFF001F, 0, 0, 0, 0x10000010, 0⟩,  -- SER_CFG
   ⟨0x4C, 1, 4, 0, 0, 0, 0, 0, 0⟩,  -- ALIGN_POS_HOST
   ⟨0x50, 1, 4, 0, 0, 0, 0, 0, 0⟩,  -- ALIGN_POS_LINE
   ⟨0x54, 1, 4, 0, 0, 0, 0, 0, 0⟩,  -- DESKEW
   ⟨0x58, 1, 4, 0, 0, 0, 0, 0, 0⟩,  -- LOSS_COUNT
   ⟨0x5C, 1, 4, 0, 0, 0, 0, 0, 0⟩,  -- MISC_COUNT
   ⟨0x60, 1, 4, 0, 0, 0, 1, 0, 0⟩,  -- CMD
   ⟨0x100, 1, 4, 0, 0, 0, 0, 0, 0⟩,  -- CW_LO
   ⟨0x200, 1, 4, 0, 0, 0, 0, 0, 0⟩,  -- CW_LO
   ⟨0x104, 1, 4, 0, 0, 0, 0, 0, 0⟩,  -- CW_HI
   ⟨0x204, 1, 4, 0, 0, 0, 0, 0, 0⟩,  -- CW_HI
   ⟨0x108, 1, 4, 0, 0, 0, 0, 0, 0⟩,  -- CORR_LO
   ⟨0x208, 1, 4, 0, 0, 0, 0, 0, 0⟩,  -- CORR_LO
   ⟨0x10C, 1, 4, 0, 0, 0, 0, 0, 0⟩,  -- CORR_HI
   ⟨0x20C, 1, 4, 0, 0, 0, 0, 0, 0⟩,  -- CORR_HI
   ⟨0x110, 1, 4, 0, 0, 0, 0, 0, 0⟩,  -- UNCORR_LO
   ⟨0x210, 1, 4, 0, 0, 0, 0, 0, 0⟩,  -- UNCORR_LO
   ⟨0x114, 1, 4, 0, 0, 0, 0, 0, 0⟩,  -- UNCORR_HI
   ⟨0x214, 1, 4, 0, 0, 0, 0, 0, 0⟩,  -- UNCORR_HI
   ⟨0x118, 1, 4, 0, 0, 0, 0, 0, 0⟩,  -- SYM_LO
   ⟨0x218, 1, 4, 0, 0, 0, 0, 0, 0⟩,  -- SYM_LO
   ⟨0x11C, 1, 4, 0, 0, 0, 0, 0, 0⟩,  -- SYM_HI
   ⟨0x21C, 1, 4, 0, 0, 0, 0, 0, 0⟩,  -- SYM_HI
   ⟨0x120, 1, 4, 0, 0, 0, 0, 0, 0⟩,  -- ERASED_LO
   ⟨0x220, 1, 4, 0, 0, 0, 0, 0, 0⟩,  -- ERASED_LO
   ⟨0x124, 1, 4, 0, 0, 0, 0, 0, 0⟩,  -- ERASED_HI
   ⟨0x224, 1, 4, 0, 0, 0, 0, 0, 0⟩,  -- ERASED_HI
   ⟨0x140, 0x10, 8, 0, 0, 0, 0, 0, 0⟩]  -- BIN_LO

/-- CHn.HFEC, chapter 06 R176, part 1. -/
def regs_HFEC_1 : List RegDef :=
  [⟨0x240, 0x10, 8, 0, 0, 0, 0, 0, 0⟩,  -- BIN_LO
   ⟨0x144, 0x10, 8, 0, 0, 0, 0, 0, 0⟩,  -- BIN_HI
   ⟨0x244, 0x10, 8, 0, 0, 0, 0, 0, 0⟩]  -- BIN_HI

/-- CHn.LTX, chapter 07 R198. -/
def regs_LTX : List RegDef :=
  [⟨0, 1, 4, 0, 0, 0, 0, 0, 0⟩,  -- PAGE_ID
   ⟨4, 1, 4, 3, 0, 0, 0, 1, 0⟩,  -- CTRL
   ⟨8, 1, 4, 0, 0, 0, 0, 0x40, 0⟩,  -- STATUS
   ⟨0xC, 1, 4, 0, 0x7F, 0, 0, 0, 0⟩,  -- IRQ_RAW
   ⟨0x10, 1, 4, 0x7F, 0, 0, 0, 0, 0⟩,  -- IRQ_EN
   ⟨0x14, 1, 4, 0, 0, 0, 0, 0, 0⟩,  -- IRQ_PEND
   ⟨0x18, 1, 4, 0, 0xF, 0, 0, 0, 0⟩,  -- FLT_RAW
   ⟨0x1C, 1, 4, 0xF, 0, 0, 0, 0xF, 0⟩,  -- FLT_EN
   ⟨0x20, 1, 4, 0xFF00, 0, 0, 0x1F, 0, 0⟩,  -- INJECT
   ⟨0x24, 1, 4, 0, 0, 0, 0, 0, 0⟩,  -- BUSY
   ⟨0x40, 1, 4, 0xFF033F, 0, 0, 0, 0x600320, 0xF⟩,  -- CFG
   ⟨0x44, 1, 4, 0xFFF0FFF, 0, 0, 0, 0x640063, 0⟩,  -- RAMP
   ⟨0x48, 1, 4, 0xFF, 0, 0, 0, 0, 0⟩,  -- LAG
   ⟨0x4C, 1, 4, 0xF, 0, 0, 0, 2, 0⟩,  -- FIR_CFG
   ⟨0x58, 1, 4, 0x3FF, 0, 0, 0, 0x100, 0⟩,  -- FIR_C
   ⟨0x50, 9, 4, 0x3FF, 0, 0, 0, 0, 0⟩,  -- FIR_C
   ⟨0x74, 1, 4, 0, 0, 0, 1, 0, 0⟩,  -- FIR_APPLY
   ⟨0x78, 1, 4, 0, 0, 0, 1, 0, 0⟩,  -- NL_LOAD
   ⟨0x7C, 1, 4, 0, 0, 0, 0, 0, 0⟩,  -- ENVELOPE
   ⟨0x88, 1, 4, 0, 0, 0, 0, 0x100, 0⟩,  -- FIR_ACTIVE
   ⟨0x80, 9, 4, 0, 0, 0, 0, 0, 0⟩,  -- FIR_ACTIVE
   ⟨0xA4, 1, 4, 0, 0, 0, 0, 2, 0⟩,  -- FIR_MAIN_ACTIVE
   ⟨0xA8, 1, 4, 0xFFFF, 0, 0, 0, 0x10, 0⟩,  -- SAT_CFG
   ⟨0xAC, 1, 4, 0, 0, 0, 0, 0, 0⟩,  -- SAT_COUNT
   ⟨0xB0, 1, 4, 0, 0, 0, 0, 0, 0⟩,  -- COUNTS
   ⟨0x100, 0x40, 4, 0xFF, 0, 0, 0, 0, 0⟩,  -- NL_ENTRY
   ⟨0x200, 0x40, 4, 0, 0, 0, 0, 0, 0⟩]  -- NL_ACTIVE

/-- CHn.LRX, chapter 08 R225. -/
def regs_LRX : List RegDef :=
  [⟨0, 1, 4, 0, 0, 0, 0, 0, 0⟩,  -- PAGE_ID
   ⟨4, 1, 4, 1, 0, 0, 0, 1, 0⟩,  -- CTRL
   ⟨8, 1, 4, 0, 0, 0, 0, 0x5000, 0⟩,  -- STATUS
   ⟨0xC, 1, 4, 0, 0x7FF, 0, 0, 0, 0⟩,  -- IRQ_RAW
   ⟨0x10, 1, 4, 0x7FF, 0, 0, 0, 0, 0⟩,  -- IRQ_EN
   ⟨0x14, 1, 4, 0, 0, 0, 0, 0, 0⟩,  -- IRQ_PEND
   ⟨0x18, 1, 4, 0, 0x1F, 0, 0, 0, 0⟩,  -- FLT_RAW
   ⟨0x1C, 1, 4, 0x1F, 0, 0, 0, 0x1F, 0⟩,  -- FLT_EN
   ⟨0x20, 1, 4, 0xFF00, 0, 0, 0x1F, 0, 0⟩,  -- INJECT
   ⟨0x24, 1, 4, 0, 0, 0, 0, 0, 0⟩,  -- BUSY
   ⟨0x40, 1, 4, 0x7F7F7F03, 0, 0, 0, 0x60181800, 0x7F03⟩,  -- GAIN_CFG
   ⟨0x44, 1, 4, 0xF00FF, 0, 0, 0, 0x30028, 0⟩,  -- AGC_CFG
   ⟨0x48, 1, 4, 0x1FF0F, 0, 0, 0, 0x204, 0x10000⟩,  -- SD_CFG
   ⟨0x4C, 1, 4, 0, 0, 0, 0, 0x18, 0⟩,  -- GAIN
   ⟨0x50, 1, 4, 0xFF03, 0, 0, 0, 0x2403, 0⟩,  -- BANK_CFG
   ⟨0x54, 1, 4, 0xFFFFF, 0, 0, 0, 0x20040, 0⟩,  -- PLAUS_CFG
   ⟨0x58, 1, 4, 0, 0, 0, 0, 0, 0⟩,  -- PLAUS_D
   ⟨0x5C, 1, 4, 0, 0, 0, 0, 0, 0⟩,  -- PLAUS_STAT
   ⟨0x60, 1, 4, 0, 0, 0, 0xF, 0, 0⟩,  -- CMD
   ⟨0x64, 1, 4, 0, 0, 0, 0, 0, 0⟩,  -- SWAP_INFO
   ⟨0x68, 1, 4, 0, 0, 0, 0, 0, 0⟩,  -- SWAP_FAILS
   ⟨0x6C, 1, 4, 0, 0, 0, 0, 0, 0⟩,  -- TANDEM_EST
   ⟨0x70, 1, 4, 0xFFFF, 0, 0, 0, 0x1E0, 0⟩,  -- TANDEM_CFG
   ⟨0x74, 1, 4, 0xFFFF, 0, 0, 0, 0x10, 0⟩,  -- CLIP_CFG
   ⟨0x78, 1, 4, 0, 0, 0, 0, 0, 0⟩,  -- CLIP_COUNT
   ⟨0x7C, 1, 4, 0, 0, 0, 0, 0, 0⟩,  -- RMS
   ⟨0x80, 1, 4, 0, 0, 0, 3, 0, 0⟩,  -- CAP_CTRL
   ⟨0x84, 1, 4, 0xF773, 0, 0, 0, 0, 0⟩,  -- CAP_CFG
   ⟨0x88, 1, 4, 0, 0, 0, 0, 0, 0⟩,  -- CAP_STATUS
   ⟨0x8C, 1, 4, 0, 0, 0, 0, 0, 0⟩,  -- CAP_START
   ⟨0x90, 1, 4, 0, 0, 0, 0, 0, 0⟩,  -- CAP_TRIG_POS
   ⟨0x94, 1, 4, 0, 0, 0, 0, 0, 0⟩,  -- CAP_TS_NS
   ⟨0x98, 1, 4, 0, 0, 0, 0, 0, 0⟩,  -- CAP_TS_SEC
   ⟨0x9C, 1, 4, 0, 0, 0, 0, 0, 0⟩,  -- CAP_EPOCHS
   ⟨0x400, 0x40, 8, 0, 0, 0, 0, 0, 0⟩,  -- EPOCH_A
   ⟨0x404, 0x40, 8, 0, 0, 0, 0, 0, 0⟩]  -- EPOCH_B

/-- CHn.TIM, chapter 09 R252. -/
def regs_TIM : List RegDef :=
  [⟨0, 1, 4, 0, 0, 0, 0, 0, 0⟩,  -- PAGE_ID
   ⟨4, 1, 4, 1, 0, 0, 0, 1, 0⟩,  -- CTRL
   ⟨8, 1, 4, 0, 0, 0, 0, 0, 0⟩,  -- STATUS
   ⟨0xC, 1, 4, 0, 0x1F, 0, 0, 0, 0⟩,  -- IRQ_RAW
   ⟨0x10, 1, 4, 0x1F, 0, 0, 0, 0, 0⟩,  -- IRQ_EN
   ⟨0x14, 1, 4, 0, 0, 0, 0, 0, 0⟩,  -- IRQ_PEND
   ⟨0x18, 1, 4, 0, 7, 0, 0, 0, 0⟩,  -- FLT_RAW
   ⟨0x1C, 1, 4, 7, 0, 0, 0, 7, 0⟩,  -- FLT_EN
   ⟨0x20, 1, 4, 0xFF00, 0, 0, 0x1F, 0, 0⟩,  -- INJECT
   ⟨0x24, 1, 4, 0, 0, 0, 0, 0, 0⟩,  -- BUSY
   ⟨0x40, 1, 4, 0xFFF, 0, 0, 0, 0xF3, 0⟩,  -- LOOP_CFG
   ⟨0x44, 1, 4, 0xFFFF, 0, 0, 0, 0x3010, 0⟩,  -- LOCK_CFG
   ⟨0x48, 1, 4, 0, 0, 0, 0, 0xF0F0F0F, 0⟩,  -- NCO_NOM
   ⟨0x4C, 1, 4, 0, 0, 0, 0, 0, 0⟩,  -- FREQ
   ⟨0x50, 1, 4, 0x3FFF, 0, 0, 0, 0, 0⟩,  -- DESKEW
   ⟨0x54, 1, 4, 0, 0, 0, 0, 0, 0⟩,  -- DESKEW_ACTIVE
   ⟨0x58, 1, 4, 0, 0, 0, 0, 0, 0⟩,  -- FIXED_DELAY_PS
   ⟨0x5C, 1, 4, 0, 0, 0, 0, 0, 0⟩,  -- PHASE_ERR
   ⟨0x60, 1, 4, 0, 0x1F, 0, 0, 0, 0⟩,  -- SAT_FLAGS
   ⟨0x64, 1, 4, 0, 0, 0, 0, 0, 0⟩,  -- COUNTS
   ⟨0x68, 1, 4, 0, 0, 0, 7, 0, 0⟩,  -- CMD
   ⟨0x9C, 1, 4, 0xFFF, 0, 0, 0, 0x400, 0⟩,  -- PREFILTER_C
   ⟨0x80, 8, 4, 0xFFF, 0, 0, 0, 0, 0⟩,  -- PREFILTER_C
   ⟨0xBC, 1, 4, 0, 0, 0, 0, 0x400, 0⟩,  -- PF_ACTIVE
   ⟨0xA0, 8, 4, 0, 0, 0, 0, 0, 0⟩]  -- PF_ACTIVE

/-- CHn.EQ, chapter 09 R253. -/
def regs_EQ : List RegDef :=
  [⟨0, 1, 4, 0, 0, 0, 0, 0, 0⟩,  -- PAGE_ID
   ⟨4, 1, 4, 1, 0, 0, 0, 1, 0⟩,  -- CTRL
   ⟨8, 1, 4, 0, 0, 0, 0, 0, 0⟩,  -- STATUS
   ⟨0xC, 1, 4, 0, 0x7F, 0, 0, 0, 0⟩,  -- IRQ_RAW
   ⟨0x10, 1, 4, 0x7F, 0, 0, 0, 0, 0⟩,  -- IRQ_EN
   ⟨0x14, 1, 4, 0, 0, 0, 0, 0, 0⟩,  -- IRQ_PEND
   ⟨0x18, 1, 4, 0, 7, 0, 0, 0, 0⟩,  -- FLT_RAW
   ⟨0x1C, 1, 4, 7, 0, 0, 0, 7, 0⟩,  -- FLT_EN
   ⟨0x20, 1, 4, 0xFF00, 0, 0, 0x1F, 0, 0⟩,  -- INJECT
   ⟨0x24, 1, 4, 0, 0, 0, 0, 0, 0⟩,  -- BUSY
   ⟨0x40, 1, 4, 0xF01F073F, 0, 0, 0, 0x800E050C, 0x200⟩,  -- CFG
   ⟨0x44, 1, 4, 0xFFF17F0F, 0, 0, 0, 0x3E813206, 0⟩,  -- GUARD_CFG
   ⟨0x48, 1, 4, 0xFF, 0, 0, 0, 0x10, 0⟩,  -- NOTICE_CFG
   ⟨0x4C, 1, 4, 0xFFFF, 0, 0, 0, 0xA0, 0⟩,  -- SNR_CFG
   ⟨0x50, 1, 4, 0, 0, 0, 0, 0, 0⟩,  -- SNR
   ⟨0x54, 1, 4, 0, 0, 0, 0, 0, 0⟩,  -- SNR_L01
   ⟨0x58, 1, 4, 0, 0, 0, 0, 0, 0⟩,  -- SNR_L23
   ⟨0x5C, 1, 4, 0, 0, 0, 0, 0, 0⟩,  -- LEVEL01
   ⟨0x60, 1, 4, 0, 0, 0, 0, 0, 0⟩,  -- LEVEL23
   ⟨0x64, 1, 4, 0, 0, 0, 0, 0, 0⟩,  -- OCC01
   ⟨0x68, 1, 4, 0, 0, 0, 0, 0, 0⟩,  -- OCC23
   ⟨0x6C, 1, 4, 0, 0, 0, 0, 0, 0⟩,  -- TRANS
   ⟨0x70, 1, 4, 0x3FF03FF, 0, 0, 0, 0, 0⟩,  -- DFE
   ⟨0x74, 1, 4, 0, 0x7F, 0, 0, 0, 0⟩,  -- SAT_FLAGS
   ⟨0x78, 1, 4, 0, 0, 0, 0, 0, 0⟩,  -- GUARD_COUNT
   ⟨0x7C, 1, 4, 0, 0, 0, 0, 0, 0⟩,  -- GUARD_TIME
   ⟨0x80, 1, 4, 0, 0, 0, 0, 0, 0⟩,  -- NOTICE_COUNT
   ⟨0x84, 1, 4, 0x1F, 0, 0, 0, 0x10, 0⟩,  -- EYE_CFG
   ⟨0x88, 1, 4, 0, 0, 0, 3, 0, 0⟩,  -- EYE_CTRL
   ⟨0x8C, 1, 4, 0, 0, 0, 0, 0, 0⟩,  -- EYE_STATUS
   ⟨0x90, 1, 4, 0, 0, 0, 3, 0, 0⟩,  -- CMD
   ⟨0x130, 1, 4, 0xFFF, 0, 0, 0, 0x200, 0⟩,  -- FFE_TAP
   ⟨0x100, 0x29, 4, 0xFFF, 0, 0, 0, 0, 0⟩]  -- FFE_TAP

/-- CHn.BOLT, chapter 10 R270. -/
def regs_BOLT : List RegDef :=
  [⟨0, 1, 4, 0, 0, 0, 0, 0, 0⟩,  -- PAGE_ID
   ⟨4, 1, 4, 1, 0, 0, 0, 1, 0⟩,  -- CTRL
   ⟨8, 1, 4, 0, 0, 0, 0, 0, 0⟩,  -- STATUS
   ⟨0xC, 1, 4, 0, 0x1F, 0, 0, 0, 0⟩,  -- IRQ_RAW
   ⟨0x10, 1, 4, 0x1F, 0, 0, 0, 0, 0⟩,  -- IRQ_EN
   ⟨0x14, 1, 4, 0, 0, 0, 0, 0, 0⟩,  -- IRQ_PEND
   ⟨0x18, 1, 4, 0, 0xF, 0, 0, 0, 0⟩,  -- FLT_RAW
   ⟨0x1C, 1, 4, 0xF, 0, 0, 0, 0xF, 0⟩,  -- FLT_EN
   ⟨0x20, 1, 4, 0xFF00, 0, 0, 0x1F, 0, 0⟩,  -- INJECT
   ⟨0x24, 1, 4, 0, 0, 0, 0, 0, 0⟩,  -- BUSY
   ⟨0x40, 1, 4, 0xFF00FFFF, 0, 0, 0, 0x10002040, 0⟩,  -- LOCK_CFG
   ⟨0x44, 1, 4, 0x3F0F, 0, 0, 0, 0x404, 0⟩,  -- ERASE_CFG
   ⟨0x48, 1, 4, 0xFF, 0, 0, 0, 0x28, 0⟩,  -- BER_CFG
   ⟨0x4C, 1, 4, 0, 0, 0, 0, 0, 0⟩,  -- BER_EST
   ⟨0x50, 1, 4, 0, 0, 0, 0, 0, 0⟩,  -- WIN_CORR
   ⟨0x54, 1, 4, 0, 0, 0, 0, 0, 0⟩,  -- WIN_UNC
   ⟨0x58, 1, 4, 0, 0, 0, 0, 0, 0⟩,  -- LOCK_COUNT
   ⟨0x5C, 1, 4, 0, 0, 0, 1, 0, 0⟩,  -- CMD
   ⟨0x100, 1, 4, 0, 0, 0, 0, 0, 0⟩,  -- BLOCKS_LO
   ⟨0x104, 1, 4, 0, 0, 0, 0, 0, 0⟩,  -- BLOCKS_HI
   ⟨0x108, 1, 4, 0, 0, 0, 0, 0, 0⟩,  -- BITS_CORR_LO
   ⟨0x10C, 1, 4, 0, 0, 0, 0, 0, 0⟩,  -- BITS_CORR_HI
   ⟨0x110, 1, 4, 0, 0, 0, 0, 0, 0⟩,  -- UNCORR_LO
   ⟨0x114, 1, 4, 0, 0, 0, 0, 0, 0⟩,  -- UNCORR_HI
   ⟨0x118, 1, 4, 0, 0, 0, 0, 0, 0⟩,  -- FLAGGED_LO
   ⟨0x11C, 1, 4, 0, 0, 0, 0, 0, 0⟩,  -- FLAGGED_HI
   ⟨0x140, 6, 8, 0, 0, 0, 0, 0, 0⟩,  -- HIST_LO
   ⟨0x144, 6, 8, 0, 0, 0, 0, 0, 0⟩]  -- HIST_HI

/-- CHn.DRESS, chapter 11 R294. -/
def regs_DRESS : List RegDef :=
  [⟨0, 1, 4, 0, 0, 0, 0, 0, 0⟩,  -- PAGE_ID
   ⟨4, 1, 4, 3, 0, 0, 0, 3, 0⟩,  -- CTRL
   ⟨8, 1, 4, 0, 0, 0, 0, 0, 0⟩,  -- STATUS
   ⟨0xC, 1, 4, 0, 0x7F, 0, 0, 0, 0⟩,  -- IRQ_RAW
   ⟨0x10, 1, 4, 0x7F, 0, 0, 0, 0, 0⟩,  -- IRQ_EN
   ⟨0x14, 1, 4, 0, 0, 0, 0, 0, 0⟩,  -- IRQ_PEND
   ⟨0x18, 1, 4, 0, 0xF, 0, 0, 0, 0⟩,  -- FLT_RAW
   ⟨0x1C, 1, 4, 0xF, 0, 0, 0, 0xF, 0⟩,  -- FLT_EN
   ⟨0x20, 1, 4, 0xFF00, 0, 0, 0x1F, 0, 0⟩,  -- INJECT
   ⟨0x24, 1, 4, 0, 0, 0, 0, 0, 0⟩,  -- BUSY
   ⟨0x40, 1, 4, 0xFF0000FF, 0, 0, 0, 0x84000004, 0⟩,  -- CFG
   ⟨0x44, 1, 4, 0x1FF, 0, 0, 0, 0x20, 0⟩,  -- TEMP_CFG
   ⟨0x48, 1, 4, 0xF0F, 0, 0, 0, 0xF0F, 0⟩,  -- SCOPE
   ⟨0x4C, 1, 4, 0, 0, 0, 3, 0, 0⟩,  -- CMD
   ⟨0x50, 1, 4, 0xFFFF, 0, 0, 0, 0x7D0, 0⟩,  -- DEFER_CFG
   ⟨0x54, 1, 4, 0, 0, 0, 0, 0, 0⟩,  -- TEMP
   ⟨0x58, 1, 4, 0, 0, 0, 0, 0, 0⟩,  -- PASS_RESULT
   ⟨0x5C, 1, 4, 0, 0, 0, 0, 0, 0⟩,  -- PASS_TRIMS
   ⟨0x60, 1, 4, 0, 0, 0, 0, 0, 0⟩,  -- PASS_US
   ⟨0x64, 1, 4, 0, 0, 0, 0, 0, 0⟩,  -- DEFER_US
   ⟨0x68, 1, 4, 0, 0, 0, 0, 0, 0⟩,  -- STEPS
   ⟨0x6C, 1, 4, 0, 0, 0, 0, 0, 0⟩,  -- PASS_COUNT
   ⟨0x70, 1, 4, 0, 0, 0, 0, 0, 0⟩,  -- RAIL
   ⟨0x74, 1, 4, 0, 0, 0, 0, 0, 0⟩]  -- LAST_DONE_SEC

/-- CHn.MRACE, chapter 12 R324, part 0. -/
def regs_MRACE_0 : List RegDef :=
  [⟨0, 1, 4, 0, 0, 0, 0, 0, 0⟩,  -- PAGE_ID
   ⟨4, 1, 4, 7, 0, 0, 0, 7, 0⟩,  -- CTRL
   ⟨8, 1, 4, 0, 0, 0, 0, 0, 0⟩,  -- STATUS
   ⟨0xC, 1, 4, 0, 0x3FF, 0, 0, 0, 0⟩,  -- IRQ_RAW
   ⟨0x10, 1, 4, 0x3FF, 0, 0, 0, 0, 0⟩,  -- IRQ_EN
   ⟨0x14, 1, 4, 0, 0, 0, 0, 0, 0⟩,  -- IRQ_PEND
   ⟨0x18, 1, 4, 0, 0xF, 0, 0, 0, 0⟩,  -- FLT_RAW
   ⟨0x1C, 1, 4, 0xF, 0, 0, 0, 0xF, 0⟩,  -- FLT_EN
   ⟨0x20, 1, 4, 0xFF00, 0, 0, 0x1F, 0, 0⟩,  -- INJECT
   ⟨0x24, 1, 4, 0, 0, 0, 0, 0, 0⟩,  -- BUSY
   ⟨0x40, 1, 4, 0xFF3F71, 0, 0, 0, 0x551210, 0xFF3F71⟩,  -- CFG
   ⟨0x44, 1, 4, 0x7F0000, 0, 0, 0, 0x280028, 0x7F0000⟩,  -- RX_GAIN
   ⟨0x48, 1, 4, 0xFFFFFFFF, 0, 0, 0, 0xFFFFFFFF, 0xFFFFFFFF⟩,  -- TX_DST_LO
   ⟨0x4C, 1, 4, 0xFFFF, 0, 0, 0, 0xFFFF, 0xFFFF⟩,  -- TX_DST_HI
   ⟨0x50, 1, 4, 0xFFFF000F, 0, 0, 0, 0x640004, 0xFFFF000F⟩,  -- BEACON_CFG
   ⟨0x54, 1, 4, 0xFFFF, 0, 0, 0, 0x15E, 0xFFFF⟩,  -- FAR_CFG
   ⟨0x58, 1, 4, 0, 0, 0, 7, 0, 0⟩,  -- CMD
   ⟨0x5C, 1, 4, 0, 0, 0, 0, 0, 0⟩,  -- TX_SEQ
   ⟨0x60, 1, 4, 0, 0, 0, 0, 0, 0⟩,  -- TX_LAST
   ⟨0x80, 1, 4, 0, 0, 0, 0, 0, 0⟩,  -- FAR_ID_LO
   ⟨0x84, 1, 4, 0, 0, 0, 0, 0, 0⟩,  -- FAR_ID_HI
   ⟨0x88, 1, 4, 0, 0, 0, 0, 0, 0⟩,  -- FAR_LINK
   ⟨0x8C, 1, 4, 0, 0, 0, 0, 0, 0⟩,  -- FAR_PWR
   ⟨0x90, 1, 4, 0, 0, 0, 0, 0, 0⟩,  -- FAR_LOCAL
   ⟨0x94, 1, 4, 0, 0, 0, 0, 0, 0⟩,  -- FAR_PPM
   ⟨0x98, 1, 4, 0, 0, 0, 0, 0, 0⟩,  -- RTT
   ⟨0x9C, 1, 4, 0, 0, 0, 0, 0, 0⟩,  -- RTT_INFO
   ⟨0xC0, 1, 4, 0, 0, 0, 0, 0, 0⟩,  -- TX_FRAMES
   ⟨0xC4, 1, 4, 0, 0, 0, 0, 0, 0⟩,  -- TX_ABORTED
   ⟨0xC8, 1, 4, 0, 0, 0, 0, 0, 0⟩,  -- RX_GOOD
   ⟨0xCC, 1, 4, 0, 0, 0, 0, 0, 0⟩,  -- RX_CRC_ERR
   ⟨0xD0, 1, 4, 0, 0, 0, 0, 0, 0⟩,  -- RX_HDR_ERR
   ⟨0xD4, 1, 4, 0, 0, 0, 0, 0, 0⟩,  -- RX_NOSYNC
   ⟨0xD8, 1, 4, 0, 0, 0, 0, 0, 0⟩,  -- RX_DROP_FULL
   ⟨0xDC, 1, 4, 0, 0, 0, 0, 0, 0⟩,  -- RX_ABORTED
   ⟨0xE0, 1, 4, 0, 0, 0, 0, 0, 0⟩,  -- BEACON_RX
   ⟨0x100, 1, 4, 0, 0, 0, 0, 0, 0⟩,  -- RX_SRC_LO
   ⟨0x104, 1, 4, 0, 0, 0, 0, 0, 0⟩,  -- RX_SRC_HI
   ⟨0x108, 1, 4, 0, 0, 0, 0, 0, 0⟩,  -- RX_SEQ_AGE
   ⟨0x10C, 1, 4, 0, 0, 0, 0, 0, 0⟩]  -- RX_INFO

/-- CHn.MRACE, chapter 12 R324, part 1. -/
def regs_MRACE_1 : List RegDef :=
  [⟨0x110, 3, 4, 0, 0, 0, 0, 0, 0⟩,  -- RX_TS_TX
   ⟨0x11C, 3, 4, 0, 0, 0, 0, 0, 0⟩,  -- RX_TS_RX
   ⟨0x128, 1, 4, 0, 0, 0, 0, 0, 0⟩,  -- RX_DST_LO
   ⟨0x12C, 1, 4, 0, 0, 0, 0, 0, 0⟩,  -- RX_DST_HI
   ⟨0x200, 0x40, 4, 0, 0, 0, 0, 0, 0⟩]  -- RX_DATA

/-- CHn.MRLY, chapter 12 R325. -/
def regs_MRLY : List RegDef :=
  [⟨0, 1, 4, 0, 0, 0, 0, 0, 0⟩,  -- PAGE_ID
   ⟨4, 1, 4, 1, 0, 0, 0, 1, 1⟩,  -- CTRL
   ⟨8, 1, 4, 0, 0, 0, 0, 0, 0x7F⟩,  -- STATUS
   ⟨0xC, 1, 4, 0, 0x1F, 0, 0, 0, 0⟩,  -- IRQ_RAW
   ⟨0x10, 1, 4, 0x1F, 0, 0, 0, 0, 0⟩,  -- IRQ_EN
   ⟨0x14, 1, 4, 0, 0, 0, 0, 0, 0⟩,  -- IRQ_PEND
   ⟨0x18, 1, 4, 0, 1, 0, 0, 0, 0⟩,  -- FLT_RAW
   ⟨0x1C, 1, 4, 1, 0, 0, 0, 1, 0⟩,  -- FLT_EN
   ⟨0x20, 1, 4, 0xFF00, 0, 0, 0x1F, 0, 0⟩,  -- INJECT
   ⟨0x24, 1, 4, 0, 0, 0, 0, 0, 0⟩,  -- BUSY
   ⟨0x40, 1, 4, 0xFFFF, 0, 0, 0, 0x2710, 0xFFFF⟩,  -- CFG
   ⟨0x44, 1, 4, 0x8000FFFF, 0, 0, 0, 0x8000EA60, 0x8000FFFF⟩,  -- DUP_CFG
   ⟨0x60, 1, 4, 0, 0, 0, 0, 0, 0⟩,  -- RELAYED
   ⟨0x64, 1, 4, 0, 0, 0, 0, 0, 0⟩,  -- RELAY_TX
   ⟨0x68, 1, 4, 0, 0, 0, 0, 0, 0⟩,  -- DUP_DROP
   ⟨0x6C, 1, 4, 0, 0, 0, 0, 0, 0⟩,  -- LOOP_DROP
   ⟨0x70, 1, 4, 0, 0, 0, 0, 0, 0⟩,  -- TTL_DROP
   ⟨0x74, 1, 4, 0, 0, 0, 0, 0, 0⟩,  -- DROP_DARK
   ⟨0x78, 1, 4, 0, 0, 0, 0, 0, 0⟩,  -- DROP_FULL
   ⟨0x7C, 1, 4, 0, 0, 0, 0, 0, 0⟩,  -- AGE_DROP
   ⟨0x200, 0x40, 8, 0xFFFFFFFF, 0, 0, 0, 0, 0xFFFFFFFF⟩,  -- ENTRY_W0
   ⟨0x204, 0x40, 8, 0xFFFFFFFF, 0, 0, 0, 0, 0xFFFFFFFF⟩]  -- ENTRY_W1

/-- CHn.GAUGE, chapter 13 R343. -/
def regs_GAUGE : List RegDef :=
  [⟨0, 1, 4, 0, 0, 0, 0, 0, 0⟩,  -- PAGE_ID
   ⟨4, 1, 4, 7, 0, 0, 0, 1, 0⟩,  -- CTRL
   ⟨8, 1, 4, 0, 0, 0, 0, 0, 0⟩,  -- STATUS
   ⟨0xC, 1, 4, 0, 0xFF, 0, 0, 0, 0⟩,  -- IRQ_RAW
   ⟨0x10, 1, 4, 0xFF, 0, 0, 0, 0, 0⟩,  -- IRQ_EN
   ⟨0x14, 1, 4, 0, 0, 0, 0, 0, 0⟩,  -- IRQ_PEND
   ⟨0x18, 1, 4, 0, 0xF, 0, 0, 0, 0⟩,  -- FLT_RAW
   ⟨0x1C, 1, 4, 0xF, 0, 0, 0, 0xF, 0⟩,  -- FLT_EN
   ⟨0x20, 1, 4, 0xFF00, 0, 0, 0x1F, 0, 0⟩,  -- INJECT
   ⟨0x24, 1, 4, 0, 0, 0, 0, 0, 0⟩,  -- BUSY
   ⟨0x40, 1, 4, 0x30F, 0, 0, 0, 0, 0⟩,  -- SEQ_CFG
   ⟨0x44, 1, 4, 0xFFFF, 0, 0, 0, 0x64, 0⟩,  -- SEQ_PERIOD
   ⟨0x48, 1, 4, 0xFFFF, 0, 0, 0, 0x80, 0⟩,  -- CHECK_WINDOW
   ⟨0x4C, 1, 4, 0, 0, 0, 7, 0, 0⟩,  -- CMD
   ⟨0x50, 1, 4, 0xFFFF0333, 0, 0, 0, 0x3E80020, 0⟩,  -- STREAM0_CFG
   ⟨0x54, 1, 4, 0xFFFF0333, 0, 0, 0, 0x3E80022, 0⟩,  -- STREAM1_CFG
   ⟨0x58, 1, 4, 0, 0x40000000, 0, 0, 0, 0⟩,  -- STREAM0_DATA
   ⟨0x5C, 1, 4, 0, 0x40000000, 0, 0, 0, 0⟩,  -- STREAM1_DATA
   ⟨0x60, 1, 4, 0, 0, 0, 0, 0, 0⟩,  -- DIE_TEMP
   ⟨0x64, 1, 4, 0x3FFFFDF, 0, 0, 0, 0x2001000, 0⟩,  -- DIAG_CFG
   ⟨0x68, 1, 4, 0, 0, 0, 0, 0, 0⟩,  -- DIAG_RESULT
   ⟨0x6C, 1, 4, 0x3FF, 0, 0, 0, 0, 0⟩,  -- TESTV
   ⟨0x70, 1, 4, 0, 0, 0, 0, 0, 0⟩,  -- COUNTS
   ⟨0x74, 1, 4, 0, 0, 0, 0, 0, 0⟩,  -- RUNS
   ⟨0x78, 1, 4, 0, 0, 0, 0, 0, 0⟩,  -- CONV_COUNT
   ⟨0x7C, 1, 4, 0, 0, 0, 0, 0, 0⟩,  -- LAST_DISAGREE
   ⟨0x80, 0x10, 4, 0xC3330F0F, 0, 0, 0, 0x200000, 0⟩,  -- ENTRY_CFG
   ⟨0xC0, 1, 4, 0, 0, 0, 0, 0, 0⟩,  -- LAST_RXPWR
   ⟨0x100, 0x10, 8, 0, 0, 0, 0, 0, 0⟩,  -- RESULT
   ⟨0x104, 0x10, 8, 0, 0, 0, 0, 0, 0⟩]  -- RESULT_X

/-- CHn.OUT, chapter 14 R361. -/
def regs_OUT : List RegDef :=
  [⟨0, 1, 4, 0, 0, 0, 0, 0, 0⟩,  -- PAGE_ID
   ⟨4, 1, 4, 0, 0, 0, 0, 0, 0⟩,  -- CTRL
   ⟨8, 1, 4, 0, 0, 0, 0, 0, 0⟩,  -- STATUS
   ⟨0xC, 1, 4, 0, 0x3FF, 0, 0, 0, 0⟩,  -- IRQ_RAW
   ⟨0x10, 1, 4, 0x3FF, 0, 0, 0, 0, 0⟩,  -- IRQ_EN
   ⟨0x14, 1, 4, 0, 0, 0, 0, 0, 0⟩,  -- IRQ_PEND
   ⟨0x18, 1, 4, 0, 0x1F, 0, 0, 0, 0⟩,  -- FLT_RAW
   ⟨0x1C, 1, 4, 0x1F, 0, 0, 0, 0x1F, 0⟩,  -- FLT_EN
   ⟨0x20, 1, 4, 0xFF00, 0, 0, 0x1F, 0, 0⟩,  -- INJECT
   ⟨0x24, 1, 4, 0, 0, 0, 0, 0, 0⟩,  -- BUSY
   ⟨0x100, 1, 4, 0x1310701, 0, 0, 0, 0, 0⟩,  -- CFG
   ⟨0x140, 1, 4, 0x1310701, 0, 0, 0, 0, 0⟩,  -- CFG
   ⟨0x180, 1, 4, 0x1310701, 0, 0, 0, 0x1100000, 0⟩,  -- CFG
   ⟨0x104, 1, 4, 0x3FF, 0, 0, 0, 0x3E8, 0⟩,  -- PERIOD
   ⟨0x144, 1, 4, 0x3FF, 0, 0, 0, 0x3E8, 0⟩,  -- PERIOD
   ⟨0x184, 1, 4, 0x3FF, 0, 0, 0, 0x3E8, 0⟩,  -- PERIOD
   ⟨0x108, 1, 4, 0, 0, 0xFFFF, 0, 0, 0⟩,  -- DATA
   ⟨0x148, 1, 4, 0, 0, 0xFFFF, 0, 0, 0⟩,  -- DATA
   ⟨0x188, 1, 4, 0, 0, 0xFFFF, 0, 0, 0⟩,  -- DATA
   ⟨0x10C, 1, 4, 0xFFFF, 0, 0, 0, 0, 0⟩,  -- SAFE
   ⟨0x14C, 1, 4, 0xFFFF, 0, 0, 0, 0, 0⟩,  -- SAFE
   ⟨0x18C, 1, 4, 0xFFFF, 0, 0, 0, 0, 0⟩,  -- SAFE
   ⟨0x110, 1, 4, 0, 0, 0, 0, 0, 0⟩,  -- OUTPUT
   ⟨0x150, 1, 4, 0, 0, 0, 0, 0, 0⟩,  -- OUTPUT
   ⟨0x190, 1, 4, 0, 0, 0, 0, 0, 0⟩,  -- OUTPUT
   ⟨0x114, 1, 4, 0, 6, 0, 0, 0, 0⟩,  -- FLAGS
   ⟨0x154, 1, 4, 0, 6, 0, 0, 0, 0⟩,  -- FLAGS
   ⟨0x194, 1, 4, 0, 6, 0, 0, 0, 0⟩,  -- FLAGS
   ⟨0x118, 1, 4, 0x83FFFFFF, 0, 0, 0, 0x800A0100, 0⟩,  -- SUPV_CFG
   ⟨0x158, 1, 4, 0x83FFFFFF, 0, 0, 0, 0x800A0100, 0⟩,  -- SUPV_CFG
   ⟨0x198, 1, 4, 0x83FFFFFF, 0, 0, 0, 0x800A0100, 0⟩,  -- SUPV_CFG
   ⟨0x11C, 1, 4, 0, 0, 0, 0, 0, 0⟩,  -- SUPV_STAT
   ⟨0x15C, 1, 4, 0, 0, 0, 0, 0, 0⟩,  -- SUPV_STAT
   ⟨0x19C, 1, 4, 0, 0, 0, 0, 0, 0⟩,  -- SUPV_STAT
   ⟨0x120, 1, 4, 0, 0, 0, 0, 0, 0⟩,  -- COUNTS
   ⟨0x160, 1, 4, 0, 0, 0, 0, 0, 0⟩,  -- COUNTS
   ⟨0x1A0, 1, 4, 0, 0, 0, 0, 0, 0⟩]  -- COUNTS

/-- CHn.KILN, chapter 14 R362. -/
def regs_KILN : List RegDef :=
  [⟨0, 1, 4, 0, 0, 0, 0, 0, 0⟩,  -- PAGE_ID
   ⟨4, 1, 4, 1, 0, 0, 0, 0, 0⟩,  -- CTRL
   ⟨8, 1, 4, 0, 0, 0, 0, 0, 0⟩,  -- STATUS
   ⟨0xC, 1, 4, 0, 0xF, 0, 0, 0, 0⟩,  -- IRQ_RAW
   ⟨0x10, 1, 4, 0xF, 0, 0, 0, 0, 0⟩,  -- IRQ_EN
   ⟨0x14, 1, 4, 0, 0, 0, 0, 0, 0⟩,  -- IRQ_PEND
   ⟨0x18, 1, 4, 0, 0xF, 0, 0, 0, 0⟩,  -- FLT_RAW
   ⟨0x1C, 1, 4, 0xF, 0, 0, 0, 0xF, 0⟩,  -- FLT_EN
   ⟨0x20, 1, 4, 0xFF00, 0, 0, 0x1F, 0, 0⟩,  -- INJECT
   ⟨0x24, 1, 4, 0, 0, 0, 0, 0, 0⟩,  -- BUSY
   ⟨0x40, 1, 4, 0x71100, 0, 0, 0, 0, 0⟩,  -- CFG
   ⟨0x44, 1, 4, 0x3FF, 0, 0, 0, 0xC8, 0⟩,  -- PERIOD
   ⟨0x48, 1, 4, 0xFFFF, 0, 0, 0, 0, 0⟩,  -- SETPOINT
   ⟨0x4C, 1, 4, 0x1FFFFF, 0, 0, 0, 0, 0⟩,  -- KP
   ⟨0x50, 1, 4, 0x1FFFFF, 0, 0, 0, 0, 0⟩,  -- KI
   ⟨0x54, 1, 4, 0x1FFFFF, 0, 0, 0, 0, 0⟩,  -- KD
   ⟨0x58, 1, 4, 0xFFFFFFFF, 0, 0, 0, 0, 0⟩,  -- LIMITS
   ⟨0x5C, 1, 4, 0xFFFF, 0, 0, 0, 0, 0⟩,  -- SLEW
   ⟨0x60, 1, 4, 0xFFFF, 0, 0, 0, 0x3E8, 0⟩,  -- SOFTSTART
   ⟨0x64, 1, 4, 0xFFFFFFFF, 0, 0, 0, 0xFC000400, 0⟩,  -- SENSOR
   ⟨0x68, 1, 4, 0xF0F, 0, 0, 0, 0x803, 0⟩,  -- SENSOR_CFG
   ⟨0x6C, 1, 4, 0, 0, 0, 0, 0, 0⟩,  -- MEAS
   ⟨0x70, 1, 4, 0, 0, 0, 0, 0, 0⟩,  -- OUTPUT
   ⟨0x74, 1, 4, 0xFFFFFFFF, 0, 0, 0, 0, 0⟩,  -- INTEG_LO
   ⟨0x78, 1, 4, 0xFFFF, 0, 0, 0, 0, 0⟩,  -- INTEG_HI
   ⟨0x7C, 1, 4, 0, 0, 0, 0, 0, 0⟩,  -- COUNTS
   ⟨0x80, 1, 4, 0xFFFF, 0, 0, 0, 0x2710, 0⟩]  -- SAT_CFG

/-- CHn.TALLY, chapter 15 R388, part 0. -/
def regs_TALLY_0 : List RegDef :=
  [⟨0, 1, 4, 0, 0, 0, 0, 0, 0⟩,  -- PAGE_ID
   ⟨4, 1, 4, 1, 0, 0, 0, 0, 0⟩,  -- CTRL
   ⟨8, 1, 4, 0, 0, 0, 0, 0, 0⟩,  -- STATUS
   ⟨0xC, 1, 4, 0, 0x7FF, 0, 0, 0, 0⟩,  -- IRQ_RAW
   ⟨0x10, 1, 4, 0x7FF, 0, 0, 0, 0, 0⟩,  -- IRQ_EN
   ⟨0x14, 1, 4, 0, 0, 0, 0, 0, 0⟩,  -- IRQ_PEND
   ⟨0x18, 1, 4, 0, 7, 0, 0, 0, 0⟩,  -- FLT_RAW
   ⟨0x1C, 1, 4, 7, 0, 0, 0, 7, 0⟩,  -- FLT_EN
   ⟨0x20, 1, 4, 0xFF00, 0, 0, 0x1F, 0, 0⟩,  -- INJECT
   ⟨0x24, 1, 4, 0, 0, 0, 0, 0, 0⟩,  -- BUSY
   ⟨0x40, 1, 4, 0xFFFF0071, 0, 0, 0, 0x3E80000, 0⟩,  -- CFG
   ⟨0x44, 1, 4, 0xFFFF, 0, 0, 0, 0x3E8, 0⟩,  -- EPOCH_CFG
   ⟨0x48, 1, 4, 0xFFFF, 0, 0, 0, 0x7530, 0⟩,  -- AGE_CFG
   ⟨0x4C, 1, 4, 0xFFF, 0, 0, 0, 0x800, 0⟩,  -- SPILL_CFG
   ⟨0x50, 1, 4, 0, 0, 0, 0, 0, 0⟩,  -- SPILL_WR
   ⟨0x54, 1, 4, 0xFFF, 0, 0, 0, 0, 0⟩,  -- SPILL_RD
   ⟨0x58, 1, 4, 0, 0, 0, 0, 0, 0⟩,  -- SPILL_STAT
   ⟨0x5C, 1, 4, 0, 0, 0, 0x1F, 0, 0⟩,  -- CMD
   ⟨0x60, 1, 4, 0, 0, 0, 0, 0, 0⟩,  -- EPOCH
   ⟨0x64, 1, 4, 0, 0, 0, 0, 0, 0⟩,  -- SWEEP_PTR
   ⟨0x68, 1, 4, 0, 0, 0, 0, 0, 0⟩,  -- CTX_USED
   ⟨0x6C, 1, 4, 0, 0, 0, 0, 0, 0⟩,  -- MS_NOW
   ⟨0x70, 1, 4, 0xFFFFFFFF, 0, 0, 0, 0xFFFFFFFF, 0⟩,  -- SEED
   ⟨0x74, 1, 4, 0xFFFFFFFF, 0, 0, 0, 0x13579BDF, 0⟩,  -- SEED
   ⟨0x78, 1, 4, 0xFFFFFFFF, 0, 0, 0, 0x2468ACE0, 0⟩,  -- SEED
   ⟨0x7C, 1, 4, 0xFFFFFFFF, 0, 0, 0, 0x5A5AA5A5, 0⟩,  -- SEED
   ⟨0x80, 1, 4, 0xFFFFFFFF, 0, 0, 0, 0xF1E2D3C, 0⟩,  -- SEED
   ⟨0x70, 5, 4, 0xFFFFFFFF, 0, 0, 0, 0, 0⟩,  -- SEED
   ⟨0x84, 1, 4, 0x1FFFF, 0, 0, 0, 0, 0⟩,  -- SNAP_IDX
   ⟨0x88, 3, 4, 0xFFFFFFFF, 0, 0, 0, 0, 0⟩,  -- QUERY_KEY
   ⟨0x94, 1, 4, 0xFFF, 0, 0, 0, 0, 0⟩,  -- QUERY_KEY3
   ⟨0x98, 1, 4, 0, 0, 0, 0, 0, 0⟩,  -- QUERY_RESULT
   ⟨0x9C, 1, 4, 0, 0, 0, 0, 0, 0⟩,  -- QUERY_CTX
   ⟨0xA0, 3, 4, 0, 0, 0, 0, 0, 0⟩,  -- SNAP_KEY
   ⟨0xAC, 1, 4, 0, 0, 0, 0, 0, 0⟩,  -- SNAP_KEY3
   ⟨0xB0, 1, 4, 0, 0, 0, 0, 0, 0⟩,  -- SNAP_BYTES_LO
   ⟨0xB4, 1, 4, 0, 0, 0, 0, 0, 0⟩,  -- SNAP_BYTES_HI
   ⟨0xB8, 1, 4, 0, 0, 0, 0, 0, 0⟩,  -- SNAP_FRAMES_LO
   ⟨0xBC, 1, 4, 0, 0, 0, 0, 0, 0⟩,  -- SNAP_FRAMES_HI
   ⟨0xC0, 1, 4, 0, 0, 0, 0, 0, 0⟩]  -- SNAP_FIRST

/-- CHn.TALLY, chapter 15 R388, part 1. -/
def regs_TALLY_1 : List RegDef :=
  [⟨0xC4, 1, 4, 0, 0, 0, 0, 0, 0⟩,  -- SNAP_LAST
   ⟨0xC8, 1, 4, 0, 0, 0, 0, 0, 0⟩,  -- SNAP_FCS
   ⟨0x100, 0xC, 8, 0, 0, 0, 0, 0, 0⟩,  -- CNT_LO
   ⟨0x104, 0xC, 8, 0, 0, 0, 0, 0, 0⟩]  -- CNT_HI

/-- CHn.CNT, chapter 16 R414. -/
def regs_CNT : List RegDef :=
  [⟨0, 1, 4, 0, 0, 0, 0, 0, 0⟩,  -- PAGE_ID
   ⟨4, 1, 4, 3, 0, 0, 0, 1, 0⟩,  -- CTRL
   ⟨8, 1, 4, 0, 0, 0, 0, 0, 0⟩,  -- STATUS
   ⟨0xC, 1, 4, 0, 1, 0, 0, 0, 0⟩,  -- IRQ_RAW
   ⟨0x10, 1, 4, 1, 0, 0, 0, 0, 0⟩,  -- IRQ_EN
   ⟨0x14, 1, 4, 0, 0, 0, 0, 0, 0⟩,  -- IRQ_PEND
   ⟨0x18, 1, 4, 0, 1, 0, 0, 0, 0⟩,  -- FLT_RAW
   ⟨0x1C, 1, 4, 1, 0, 0, 0, 1, 0⟩,  -- FLT_EN
   ⟨0x20, 1, 4, 0, 0, 0, 0x1F, 0, 0⟩,  -- INJECT
   ⟨0x24, 1, 4, 0, 0, 0, 0, 0, 0⟩,  -- BUSY
   ⟨0x100, 0x40, 4, 0xFFFFCCFF, 0, 0, 0, 0xFFFFC000, 0⟩,  -- SEL
   ⟨0x200, 0x40, 4, 0xFFFFFFFF, 0, 0, 0, 0xFFFF0000, 0⟩,  -- RANGE
   ⟨0x400, 0x40, 0x10, 0, 0, 0, 0, 0, 0⟩,  -- CNT_LO
   ⟨0x404, 0x40, 0x10, 0, 0, 0, 0, 0, 0⟩,  -- CNT_HI
   ⟨0x408, 0x40, 0x10, 0, 0, 0, 0, 0, 0⟩,  -- CNT_FLAGS
   ⟨0x800, 1, 4, 0, 0, 0, 0, 0, 0⟩,  -- WRAP_LO
   ⟨0x804, 1, 4, 0, 0, 0, 0, 0, 0⟩]  -- WRAP_HI

/-- CHn.HOP, chapter 16 R416. -/
def regs_HOP : List RegDef :=
  [⟨0, 1, 4, 0, 0, 0, 0, 0, 0⟩,  -- PAGE_ID
   ⟨4, 1, 4, 1, 0, 0, 0, 0, 0⟩,  -- CTRL
   ⟨8, 1, 4, 0, 0, 0, 0, 0, 0⟩,  -- STATUS
   ⟨0xC, 1, 4, 0, 0xF, 0, 0, 0, 0⟩,  -- IRQ_RAW
   ⟨0x10, 1, 4, 0xF, 0, 0, 0, 0, 0⟩,  -- IRQ_EN
   ⟨0x14, 1, 4, 0, 0, 0, 0, 0, 0⟩,  -- IRQ_PEND
   ⟨0x18, 1, 4, 0, 1, 0, 0, 0, 0⟩,  -- FLT_RAW
   ⟨0x1C, 1, 4, 1, 0, 0, 0, 1, 0⟩,  -- FLT_EN
   ⟨0x20, 1, 4, 0xFF00, 0, 0, 0x1F, 0, 0⟩,  -- INJECT
   ⟨0x24, 1, 4, 0, 0, 0, 0, 0, 0⟩,  -- BUSY
   ⟨0x40, 1, 4, 0xFFFF03FF, 0, 0, 0, 0x3E80080, 0⟩,  -- CFG
   ⟨0x44, 1, 4, 0, 0, 0, 1, 0, 0⟩,  -- CMD
   ⟨0x48, 1, 4, 0, 0, 0, 0, 0, 0⟩,  -- WR_IDX
   ⟨0x4C, 1, 4, 0xFF, 0, 0, 0, 0, 0⟩,  -- RD_IDX
   ⟨0x50, 1, 4, 0, 0x80000000, 0, 0, 0, 0⟩,  -- FILL
   ⟨0x54, 1, 4, 0, 0, 0, 0, 0, 0⟩,  -- SEQ_NEXT
   ⟨0x58, 1, 4, 0, 0, 0, 0, 0, 0⟩,  -- COUNTS
   ⟨0x80, 0x10, 4, 0x8001FFFF, 0, 0, 0, 0, 0⟩]  -- STATUS_SEL

/-- CHn.MEM, chapter 17 R440, part 0. -/
def regs_MEM_0 : List RegDef :=
  [⟨0, 1, 4, 0, 0, 0, 0, 0, 0⟩,  -- PAGE_ID
   ⟨4, 1, 4, 0, 0, 0, 0, 0, 0⟩,  -- CTRL
   ⟨8, 1, 4, 0, 0, 0, 0, 0, 0⟩,  -- STATUS
   ⟨0xC, 1, 4, 0, 0x7F7F1E, 0, 0, 0, 0⟩,  -- IRQ_RAW
   ⟨0x10, 1, 4, 0x7F7F1E, 0, 0, 0, 0, 0⟩,  -- IRQ_EN
   ⟨0x14, 1, 4, 0, 0, 0, 0, 0, 0⟩,  -- IRQ_PEND
   ⟨0x18, 1, 4, 0, 0x1F, 0, 0, 0, 0⟩,  -- FLT_RAW
   ⟨0x1C, 1, 4, 0x1F, 0, 0, 0, 0x1F, 0⟩,  -- FLT_EN
   ⟨0x20, 1, 4, 0xFF00, 0, 0, 0x1F, 0, 0⟩,  -- INJECT
   ⟨0x24, 1, 4, 0, 0, 0, 0, 0, 0⟩,  -- BUSY
   ⟨0x40, 1, 4, 0x11F, 0, 0, 0, 0, 0⟩,  -- SCRUB_CFG
   ⟨0x44, 1, 4, 0xFFFFFF, 0, 0, 0, 0, 0⟩,  -- SCRUB_START
   ⟨0x48, 1, 4, 0xFFFFFF, 0, 0, 0, 0, 0⟩,  -- SCRUB_LEN
   ⟨0x4C, 1, 4, 0, 0, 0, 3, 0, 0⟩,  -- SCRUB_CMD
   ⟨0x50, 1, 4, 0, 0, 0, 0, 0, 0⟩,  -- SCRUB_WORDS
   ⟨0x54, 1, 4, 0, 0, 0, 0, 0, 0⟩,  -- SCRUB_CE
   ⟨0x58, 1, 4, 0, 0, 0, 0, 0, 0⟩,  -- SCRUB_UE
   ⟨0x5C, 1, 4, 0, 0, 0, 0, 0, 0⟩,  -- SCRUB_POISON
   ⟨0x60, 1, 4, 0, 0, 0, 0, 0, 0⟩,  -- SCRUB_FIRST_UE
   ⟨0x64, 1, 4, 0, 0, 0, 0, 0, 0⟩,  -- SCRUB_LAST_UE
   ⟨0x68, 1, 4, 0, 0, 0, 0, 0, 0⟩,  -- SCRUB_US
   ⟨0x6C, 1, 4, 0, 0, 0, 0, 0, 0⟩,  -- SCRUB_PASSES
   ⟨0x70, 1, 4, 0xFFFFFF, 0, 0, 0, 0, 0⟩,  -- MARCH_START
   ⟨0x74, 1, 4, 0xFFFFFF, 0, 0, 0, 0, 0⟩,  -- MARCH_LEN
   ⟨0x78, 1, 4, 0, 0, 0, 1, 0, 0⟩,  -- MARCH_CMD
   ⟨0x7C, 1, 4, 0x3FF, 0, 0, 0, 0x32, 0⟩,  -- MARCH_BUDGET
   ⟨0x80, 1, 4, 0, 0, 0, 0, 0, 0⟩,  -- MARCH_RESULT
   ⟨0x84, 4, 8, 0, 0, 0, 0, 0, 0⟩,  -- PIN_BASE
   ⟨0x88, 4, 8, 0, 0, 0, 0, 0, 0⟩,  -- PIN_LEN
   ⟨0x100, 1, 4, 0x800FFFFF, 0, 0, 0, 0xF4240, 0⟩,  -- CFG
   ⟨0x140, 1, 4, 0x800FFFFF, 0, 0, 0, 0xF4240, 0⟩,  -- CFG
   ⟨0x180, 1, 4, 0x800FFFFF, 0, 0, 0, 0xF4240, 0⟩,  -- CFG
   ⟨0x1C0, 1, 4, 0x800FFFFF, 0, 0, 0, 0xF4240, 0⟩,  -- CFG
   ⟨0x200, 1, 4, 0x800FFFFF, 0, 0, 0, 0xF4240, 0⟩,  -- CFG
   ⟨0x240, 1, 4, 0x800FFFFF, 0, 0, 0, 0xF4240, 0⟩,  -- CFG
   ⟨0x280, 1, 4, 0x800FFFFF, 0, 0, 0, 0xF4240, 0⟩,  -- CFG
   ⟨0x104, 1, 4, 0xFFFF, 0, 0, 0, 0x10, 0⟩,  -- THRESH
   ⟨0x144, 1, 4, 0xFFFF, 0, 0, 0, 0x10, 0⟩,  -- THRESH
   ⟨0x184, 1, 4, 0xFFFF, 0, 0, 0, 0x10, 0⟩,  -- THRESH
   ⟨0x1C4, 1, 4, 0xFFFF, 0, 0, 0, 0x10, 0⟩]  -- THRESH

/-- CHn.MEM, chapter 17 R440, part 1. -/
def regs_MEM_1 : List RegDef :=
  [⟨0x204, 1, 4, 0xFFFF, 0, 0, 0, 0x10, 0⟩,  -- THRESH
   ⟨0x244, 1, 4, 0xFFFF, 0, 0, 0, 0x10, 0⟩,  -- THRESH
   ⟨0x284, 1, 4, 0xFFFF, 0, 0, 0, 0x10, 0⟩,  -- THRESH
   ⟨0x108, 1, 4, 0, 0, 0, 0, 0, 0⟩,  -- BUCKET
   ⟨0x148, 1, 4, 0, 0, 0, 0, 0, 0⟩,  -- BUCKET
   ⟨0x188, 1, 4, 0, 0, 0, 0, 0, 0⟩,  -- BUCKET
   ⟨0x1C8, 1, 4, 0, 0, 0, 0, 0, 0⟩,  -- BUCKET
   ⟨0x208, 1, 4, 0, 0, 0, 0, 0, 0⟩,  -- BUCKET
   ⟨0x248, 1, 4, 0, 0, 0, 0, 0, 0⟩,  -- BUCKET
   ⟨0x288, 1, 4, 0, 0, 0, 0, 0, 0⟩,  -- BUCKET
   ⟨0x10C, 1, 4, 0, 0, 0, 0, 0, 0⟩,  -- OVF_COUNT
   ⟨0x14C, 1, 4, 0, 0, 0, 0, 0, 0⟩,  -- OVF_COUNT
   ⟨0x18C, 1, 4, 0, 0, 0, 0, 0, 0⟩,  -- OVF_COUNT
   ⟨0x1CC, 1, 4, 0, 0, 0, 0, 0, 0⟩,  -- OVF_COUNT
   ⟨0x20C, 1, 4, 0, 0, 0, 0, 0, 0⟩,  -- OVF_COUNT
   ⟨0x24C, 1, 4, 0, 0, 0, 0, 0, 0⟩,  -- OVF_COUNT
   ⟨0x28C, 1, 4, 0, 0, 0, 0, 0, 0⟩,  -- OVF_COUNT
   ⟨0x110, 1, 4, 0, 0, 0, 0, 0, 0⟩,  -- CE_TOTAL
   ⟨0x150, 1, 4, 0, 0, 0, 0, 0, 0⟩,  -- CE_TOTAL
   ⟨0x190, 1, 4, 0, 0, 0, 0, 0, 0⟩,  -- CE_TOTAL
   ⟨0x1D0, 1, 4, 0, 0, 0, 0, 0, 0⟩,  -- CE_TOTAL
   ⟨0x210, 1, 4, 0, 0, 0, 0, 0, 0⟩,  -- CE_TOTAL
   ⟨0x250, 1, 4, 0, 0, 0, 0, 0, 0⟩,  -- CE_TOTAL
   ⟨0x290, 1, 4, 0, 0, 0, 0, 0, 0⟩,  -- CE_TOTAL
   ⟨0x114, 1, 4, 0, 0, 0, 0, 0, 0⟩,  -- UE_TOTAL
   ⟨0x154, 1, 4, 0, 0, 0, 0, 0, 0⟩,  -- UE_TOTAL
   ⟨0x194, 1, 4, 0, 0, 0, 0, 0, 0⟩,  -- UE_TOTAL
   ⟨0x1D4, 1, 4, 0, 0, 0, 0, 0, 0⟩,  -- UE_TOTAL
   ⟨0x214, 1, 4, 0, 0, 0, 0, 0, 0⟩,  -- UE_TOTAL
   ⟨0x254, 1, 4, 0, 0, 0, 0, 0, 0⟩,  -- UE_TOTAL
   ⟨0x294, 1, 4, 0, 0, 0, 0, 0, 0⟩,  -- UE_TOTAL
   ⟨0x118, 1, 4, 0, 0, 0, 0, 0, 0⟩,  -- POISON_READS
   ⟨0x158, 1, 4, 0, 0, 0, 0, 0, 0⟩,  -- POISON_READS
   ⟨0x198, 1, 4, 0, 0, 0, 0, 0, 0⟩,  -- POISON_READS
   ⟨0x1D8, 1, 4, 0, 0, 0, 0, 0, 0⟩,  -- POISON_READS
   ⟨0x218, 1, 4, 0, 0, 0, 0, 0, 0⟩,  -- POISON_READS
   ⟨0x258, 1, 4, 0, 0, 0, 0, 0, 0⟩,  -- POISON_READS
   ⟨0x298, 1, 4, 0, 0, 0, 0, 0, 0⟩,  -- POISON_READS
   ⟨0x11C, 1, 4, 0, 0, 0, 0, 0, 0⟩,  -- LAST_CE
   ⟨0x15C, 1, 4, 0, 0, 0, 0, 0, 0⟩]  -- LAST_CE

/-- CHn.MEM, chapter 17 R440, part 2. -/
def regs_MEM_2 : List RegDef :=
  [⟨0x19C, 1, 4, 0, 0, 0, 0, 0, 0⟩,  -- LAST_CE
   ⟨0x1DC, 1, 4, 0, 0, 0, 0, 0, 0⟩,  -- LAST_CE
   ⟨0x21C, 1, 4, 0, 0, 0, 0, 0, 0⟩,  -- LAST_CE
   ⟨0x25C, 1, 4, 0, 0, 0, 0, 0, 0⟩,  -- LAST_CE
   ⟨0x29C, 1, 4, 0, 0, 0, 0, 0, 0⟩,  -- LAST_CE
   ⟨0x120, 1, 4, 0, 0, 0, 0, 0, 0⟩,  -- LAST_UE
   ⟨0x160, 1, 4, 0, 0, 0, 0, 0, 0⟩,  -- LAST_UE
   ⟨0x1A0, 1, 4, 0, 0, 0, 0, 0, 0⟩,  -- LAST_UE
   ⟨0x1E0, 1, 4, 0, 0, 0, 0, 0, 0⟩,  -- LAST_UE
   ⟨0x220, 1, 4, 0, 0, 0, 0, 0, 0⟩,  -- LAST_UE
   ⟨0x260, 1, 4, 0, 0, 0, 0, 0, 0⟩,  -- LAST_UE
   ⟨0x2A0, 1, 4, 0, 0, 0, 0, 0, 0⟩,  -- LAST_UE
   ⟨0x124, 1, 4, 0, 0, 0, 0, 0, 0⟩,  -- WB_DROP
   ⟨0x164, 1, 4, 0, 0, 0, 0, 0, 0⟩,  -- WB_DROP
   ⟨0x1A4, 1, 4, 0, 0, 0, 0, 0, 0⟩,  -- WB_DROP
   ⟨0x1E4, 1, 4, 0, 0, 0, 0, 0, 0⟩,  -- WB_DROP
   ⟨0x224, 1, 4, 0, 0, 0, 0, 0, 0⟩,  -- WB_DROP
   ⟨0x264, 1, 4, 0, 0, 0, 0, 0, 0⟩,  -- WB_DROP
   ⟨0x2A4, 1, 4, 0, 0, 0, 0, 0, 0⟩]  -- WB_DROP

/-- CHn.FLT, chapter 18 R463. -/
def regs_FLT : List RegDef :=
  [⟨0, 1, 4, 0, 0, 0, 0, 0, 0⟩,  -- PAGE_ID
   ⟨4, 1, 4, 0, 0, 0, 0, 0, 0⟩,  -- CTRL
   ⟨8, 1, 4, 0, 0, 0, 0, 0, 0⟩,  -- STATUS
   ⟨0xC, 1, 4, 0, 3, 0, 0, 0, 0⟩,  -- IRQ_RAW
   ⟨0x10, 1, 4, 3, 0, 0, 0, 0, 0⟩,  -- IRQ_EN
   ⟨0x14, 1, 4, 0, 0, 0, 0, 0, 0⟩,  -- IRQ_PEND
   ⟨0x18, 1, 4, 0, 1, 0, 0, 0, 0⟩,  -- FLT_RAW
   ⟨0x1C, 1, 4, 1, 0, 0, 0, 1, 0⟩,  -- FLT_EN
   ⟨0x20, 1, 4, 0xFF00, 0, 0, 0x1F, 0, 0⟩,  -- INJECT
   ⟨0x24, 1, 4, 0, 0, 0, 0, 0, 0⟩,  -- BUSY
   ⟨0x40, 1, 4, 0, 0, 0, 0, 0, 0⟩,  -- PAGE_SUM
   ⟨0x44, 1, 4, 0, 0, 0, 0, 0, 0⟩,  -- FIRST_STOP
   ⟨0x48, 1, 4, 0, 0, 0, 0, 0, 0⟩,  -- SAFE_COUNT
   ⟨0x100, 1, 4, 0xF, 0, 0, 0, 9, 0⟩,  -- CLASS0 (TOP)
   ⟨0x104, 1, 4, 0xFF, 0, 0, 0, 0x94, 0⟩,  -- CLASS1 (HLANE0)
   ⟨0x108, 1, 4, 0xFF, 0, 0, 0, 0x94, 0⟩,  -- CLASS2 (HLANE1)
   ⟨0x10C, 1, 4, 0xFFF, 0, 0, 0, 0x815, 0⟩,  -- CLASS3 (HFEC)
   ⟨0x110, 1, 4, 0xFF, 0, 0, 0, 0x94, 0⟩,  -- CLASS4 (LTX)
   ⟨0x114, 1, 4, 0x3FF, 0, 0, 0, 0x204, 0⟩,  -- CLASS5 (LRX)
   ⟨0x118, 1, 4, 0x3F, 0, 0, 0, 0x25, 0⟩,  -- CLASS6 (TIM)
   ⟨0x11C, 1, 4, 0x3F, 0, 0, 0, 0x24, 0⟩,  -- CLASS7 (EQ)
   ⟨0x120, 1, 4, 0xFF, 0, 0, 0, 0x91, 0⟩,  -- CLASS8 (BOLT)
   ⟨0x124, 1, 4, 0xFF, 0, 0, 0, 0x90, 0⟩,  -- CLASS9 (DRESS)
   ⟨0x128, 1, 4, 0xFF, 0, 0, 0, 0x50, 0⟩,  -- CLASS10 (MRACE)
   ⟨0x12C, 1, 4, 3, 0, 0, 0, 1, 0⟩,  -- CLASS11 (MRLY)
   ⟨0x130, 1, 4, 0xFF, 0, 0, 0, 0x95, 0⟩,  -- CLASS12 (GAUGE)
   ⟨0x134, 1, 4, 0x3FF, 0, 0, 0, 0x255, 0⟩,  -- CLASS13 (OUT)
   ⟨0x138, 1, 4, 0xFF, 0, 0, 0, 0x8A, 0⟩,  -- CLASS14 (KILN)
   ⟨0x13C, 1, 4, 0x3F, 0, 0, 0, 0x11, 0⟩,  -- CLASS15 (TALLY)
   ⟨0x140, 1, 4, 3, 0, 0, 0, 1, 0⟩,  -- CLASS16 (CNT)
   ⟨0x144, 1, 4, 3, 0, 0, 0, 1, 0⟩,  -- CLASS17 (HOP)
   ⟨0x148, 1, 4, 0x3FF, 0, 0, 0, 0x140, 0⟩,  -- CLASS18 (MEM)
   ⟨0x14C, 1, 4, 3, 0, 0, 0, 2, 0⟩,  -- CLASS19 (FLT)
   ⟨0x150, 1, 4, 0xF, 0, 0, 0, 9, 0⟩,  -- CLASS20 (TRIAL)
   ⟨0x154, 1, 4, 3, 0, 0, 0, 1, 0⟩,  -- CLASS21 (PAT)
   ⟨0x158, 1, 4, 3, 0, 0, 0, 2, 0⟩,  -- CLASS22 (PWR)
   ⟨0x15C, 1, 4, 0xF, 0, 0, 0, 9, 0⟩]  -- CLASS23 (MBXW)

/-- CHn.TRIAL, chapter 19 R486. -/
def regs_TRIAL : List RegDef :=
  [⟨0, 1, 4, 0, 0, 0, 0, 0, 0⟩,  -- PAGE_ID
   ⟨4, 1, 4, 0, 0, 0, 0, 0, 0⟩,  -- CTRL
   ⟨8, 1, 4, 0, 0, 0, 0, 0xF00, 0⟩,  -- STATUS
   ⟨0xC, 1, 4, 0, 3, 0, 0, 0, 0⟩,  -- IRQ_RAW
   ⟨0x10, 1, 4, 3, 0, 0, 0, 0, 0⟩,  -- IRQ_EN
   ⟨0x14, 1, 4, 0, 0, 0, 0, 0, 0⟩,  -- IRQ_PEND
   ⟨0x18, 1, 4, 0, 3, 0, 0, 0, 0⟩,  -- FLT_RAW
   ⟨0x1C, 1, 4, 3, 0, 0, 0, 3, 0⟩,  -- FLT_EN
   ⟨0x20, 1, 4, 0xFF00, 0, 0, 0x1F, 0, 0⟩,  -- INJECT
   ⟨0x24, 1, 4, 0, 0, 0, 0, 0, 0⟩,  -- BUSY
   ⟨0x40, 1, 4, 0x1F007F, 0, 0, 0, 0x100000, 0⟩,  -- CFG
   ⟨0x44, 1, 4, 0, 0, 0, 1, 0, 0⟩,  -- CMD
   ⟨0x48, 1, 4, 0, 0, 0, 0, 0, 0⟩,  -- RESULT
   ⟨0x4C, 1, 4, 0, 0, 0, 0, 0, 0⟩,  -- MARCH_FAIL
   ⟨0x50, 1, 4, 0, 0, 0, 0, 0, 0⟩,  -- REFUSE
   ⟨0x54, 1, 4, 0, 0, 0, 0, 0, 0⟩,  -- ELAPSED_US
   ⟨0x58, 1, 4, 0, 0, 0, 0, 0, 0⟩,  -- COUNT
   ⟨0x80, 7, 4, 0xFFFF, 0, 0, 0, 0, 0⟩]  -- BUDGET

/-- CHn.PAT, chapter 19 R487, part 0. -/
def regs_PAT_0 : List RegDef :=
  [⟨0, 1, 4, 0, 0, 0, 0, 0, 0⟩,  -- PAGE_ID
   ⟨4, 1, 4, 0, 0, 0, 0, 0, 0⟩,  -- CTRL
   ⟨8, 1, 4, 0, 0, 0, 0, 0, 0⟩,  -- STATUS
   ⟨0xC, 1, 4, 0, 0x1FF, 0, 0, 0, 0⟩,  -- IRQ_RAW
   ⟨0x10, 1, 4, 0x1FF, 0, 0, 0, 0, 0⟩,  -- IRQ_EN
   ⟨0x14, 1, 4, 0, 0, 0, 0, 0, 0⟩,  -- IRQ_PEND
   ⟨0x18, 1, 4, 0, 1, 0, 0, 0, 0⟩,  -- FLT_RAW
   ⟨0x1C, 1, 4, 1, 0, 0, 0, 1, 0⟩,  -- FLT_EN
   ⟨0x20, 1, 4, 0xFF00, 0, 0, 0x1F, 0, 0⟩,  -- INJECT
   ⟨0x24, 1, 4, 0, 0, 0, 0, 0, 0⟩,  -- BUSY
   ⟨0x100, 1, 4, 0xFF00000F, 0, 0, 0, 7, 0⟩,  -- CFG
   ⟨0x140, 1, 4, 0xFF00000F, 0, 0, 0, 7, 0⟩,  -- CFG
   ⟨0x180, 1, 4, 0xFF00000F, 0, 0, 0, 7, 0⟩,  -- CFG
   ⟨0x1C0, 1, 4, 0xFF00000F, 0, 0, 0, 7, 0⟩,  -- CFG
   ⟨0x200, 1, 4, 0xFF00000F, 0, 0, 0, 7, 0⟩,  -- CFG
   ⟨0x240, 1, 4, 0xFF00000F, 0, 0, 0, 7, 0⟩,  -- CFG
   ⟨0x104, 1, 4, 0xFFFFFFFF, 0, 0, 0, 0, 0⟩,  -- USER_LO
   ⟨0x144, 1, 4, 0xFFFFFFFF, 0, 0, 0, 0, 0⟩,  -- USER_LO
   ⟨0x184, 1, 4, 0xFFFFFFFF, 0, 0, 0, 0, 0⟩,  -- USER_LO
   ⟨0x1C4, 1, 4, 0xFFFFFFFF, 0, 0, 0, 0, 0⟩,  -- USER_LO
   ⟨0x204, 1, 4, 0xFFFFFFFF, 0, 0, 0, 0, 0⟩,  -- USER_LO
   ⟨0x244, 1, 4, 0xFFFFFFFF, 0, 0, 0, 0, 0⟩,  -- USER_LO
   ⟨0x108, 1, 4, 0xFFFFFFFF, 0, 0, 0, 0, 0⟩,  -- USER_HI
   ⟨0x148, 1, 4, 0xFFFFFFFF, 0, 0, 0, 0, 0⟩,  -- USER_HI
   ⟨0x188, 1, 4, 0xFFFFFFFF, 0, 0, 0, 0, 0⟩,  -- USER_HI
   ⟨0x1C8, 1, 4, 0xFFFFFFFF, 0, 0, 0, 0, 0⟩,  -- USER_HI
   ⟨0x208, 1, 4, 0xFFFFFFFF, 0, 0, 0, 0, 0⟩,  -- USER_HI
   ⟨0x248, 1, 4, 0xFFFFFFFF, 0, 0, 0, 0, 0⟩,  -- USER_HI
   ⟨0x10C, 1, 4, 0, 0, 0, 1, 0, 0⟩,  -- CMD
   ⟨0x14C, 1, 4, 0, 0, 0, 1, 0, 0⟩,  -- CMD
   ⟨0x18C, 1, 4, 0, 0, 0, 1, 0, 0⟩,  -- CMD
   ⟨0x110, 1, 4, 0, 0, 0, 0, 0, 0⟩,  -- INJ_COUNT
   ⟨0x150, 1, 4, 0, 0, 0, 0, 0, 0⟩,  -- INJ_COUNT
   ⟨0x190, 1, 4, 0, 0, 0, 0, 0, 0⟩,  -- INJ_COUNT
   ⟨0x1CC, 1, 4, 0, 0, 0, 7, 0, 0⟩,  -- CMD
   ⟨0x20C, 1, 4, 0, 0, 0, 7, 0, 0⟩,  -- CMD
   ⟨0x24C, 1, 4, 0, 0, 0, 7, 0, 0⟩,  -- CMD
   ⟨0x1D0, 1, 4, 0xFFFFFFFF, 0, 0, 0, 0xF4240, 0⟩,  -- GATE_US
   ⟨0x210, 1, 4, 0xFFFFFFFF, 0, 0, 0, 0xF4240, 0⟩,  -- GATE_US
   ⟨0x250, 1, 4, 0xFFFFFFFF, 0, 0, 0, 0xF4240, 0⟩]  -- GATE_US

/-- CHn.PAT, chapter 19 R487, part 1. -/
def regs_PAT_1 : List RegDef :=
  [⟨0x1D4, 1, 4, 0, 0x10, 0, 0, 0, 0⟩,  -- STATE
   ⟨0x214, 1, 4, 0, 0x10, 0, 0, 0, 0⟩,  -- STATE
   ⟨0x254, 1, 4, 0, 0x10, 0, 0, 0, 0⟩,  -- STATE
   ⟨0x1D8, 1, 4, 0, 0, 0, 0, 0, 0⟩,  -- BITS_LO
   ⟨0x218, 1, 4, 0, 0, 0, 0, 0, 0⟩,  -- BITS_LO
   ⟨0x258, 1, 4, 0, 0, 0, 0, 0, 0⟩,  -- BITS_LO
   ⟨0x1DC, 1, 4, 0, 0, 0, 0, 0, 0⟩,  -- BITS_HI
   ⟨0x21C, 1, 4, 0, 0, 0, 0, 0, 0⟩,  -- BITS_HI
   ⟨0x25C, 1, 4, 0, 0, 0, 0, 0, 0⟩,  -- BITS_HI
   ⟨0x1E0, 1, 4, 0, 0, 0, 0, 0, 0⟩,  -- ERRS_LO
   ⟨0x220, 1, 4, 0, 0, 0, 0, 0, 0⟩,  -- ERRS_LO
   ⟨0x260, 1, 4, 0, 0, 0, 0, 0, 0⟩,  -- ERRS_LO
   ⟨0x1E4, 1, 4, 0, 0, 0, 0, 0, 0⟩,  -- ERRS_HI
   ⟨0x224, 1, 4, 0, 0, 0, 0, 0, 0⟩,  -- ERRS_HI
   ⟨0x264, 1, 4, 0, 0, 0, 0, 0, 0⟩,  -- ERRS_HI
   ⟨0x1E8, 1, 4, 0, 0, 0, 0, 0, 0⟩,  -- LOCK_LOST
   ⟨0x228, 1, 4, 0, 0, 0, 0, 0, 0⟩,  -- LOCK_LOST
   ⟨0x268, 1, 4, 0, 0, 0, 0, 0, 0⟩]  -- LOCK_LOST

/-- CHn.PWR, chapter 20 R506. -/
def regs_PWR : List RegDef :=
  [⟨0, 1, 4, 0, 0, 0, 0, 0, 0⟩,  -- PAGE_ID
   ⟨4, 1, 4, 0, 0, 0, 0, 0, 0⟩,  -- CTRL
   ⟨8, 1, 4, 0, 0, 0, 0, 0, 0x7777⟩,  -- STATUS
   ⟨0xC, 1, 4, 0, 0x3F, 0, 0, 0, 0x3F⟩,  -- IRQ_RAW
   ⟨0x10, 1, 4, 0x3F, 0, 0, 0, 0, 0x3F⟩,  -- IRQ_EN
   ⟨0x14, 1, 4, 0, 0, 0, 0, 0, 0⟩,  -- IRQ_PEND
   ⟨0x18, 1, 4, 0, 1, 0, 0, 0, 1⟩,  -- FLT_RAW
   ⟨0x1C, 1, 4, 1, 0, 0, 0, 1, 1⟩,  -- FLT_EN
   ⟨0x20, 1, 4, 0xFF00, 0, 0, 0x1F, 0, 0⟩,  -- INJECT
   ⟨0x24, 1, 4, 0, 0, 0, 0, 0, 3⟩,  -- BUSY
   ⟨0x40, 1, 4, 7, 0, 0, 0, 0, 7⟩,  -- TARGET
   ⟨0x44, 1, 4, 0, 0, 0, 3, 0, 3⟩,  -- CMD
   ⟨0x48, 1, 4, 0x1F, 0, 0, 0, 0x1D, 0x1F⟩,  -- WAKE_EN
   ⟨0x4C, 1, 4, 0, 0, 0, 0, 0, 0x1F⟩,  -- WAKE_SRC
   ⟨0x50, 1, 4, 0xFFFF, 0, 0, 0, 0, 0xFFFF⟩,  -- WAKE_TIMER
   ⟨0x54, 1, 4, 0x3FFFFFFF, 0, 0, 0, 0x3E81032, 0x3FFFFFFF⟩,  -- WATCH_CFG
   ⟨0x58, 1, 4, 0xFFFFFFFF, 0, 0, 0, 0xFFFF0000, 0xFFFFFFFF⟩,  -- WATCH_WIN
   ⟨0x5C, 1, 4, 0, 0, 0, 0, 0, 0x800FFFFF⟩,  -- WATCH_LAST
   ⟨0x60, 1, 4, 0, 0, 0, 0, 0, 0xFFFFFFFF⟩,  -- SAMPLES
   ⟨0x64, 1, 4, 0, 0, 0, 0, 0, 0xFFFFFFFF⟩,  -- WATCH_COUNTS
   ⟨0x68, 1, 4, 0, 0, 0, 0, 0, 0xFFFFFFFF⟩,  -- REFUSALS
   ⟨0x6C, 1, 4, 0, 0, 0, 0, 0, 0xFFFF700F⟩,  -- LAST_REFUSAL
   ⟨0x70, 1, 4, 0, 0, 0, 0, 0, 0xFFFFFFFF⟩,  -- ENTRIES
   ⟨0x74, 1, 4, 0, 0, 0, 0, 0, 0xFFFFFFFF⟩,  -- BOUNCES
   ⟨0x78, 1, 4, 0, 0, 0, 0, 0, 0xFFFFFFFF⟩,  -- TRANSITION_US
   ⟨0x80, 0x10, 4, 0, 0, 0, 0, 0, 0xFFFF⟩]  -- REFUSER_COUNT

/-- CHn.MBXW, chapter 04 R132. -/
def regs_MBXW : List RegDef :=
  [⟨0, 1, 4, 0, 0, 0, 0, 0, 0⟩,  -- PAGE_ID
   ⟨4, 1, 4, 0, 0, 0, 0, 0, 0⟩,  -- CTRL
   ⟨8, 1, 4, 0, 0, 0, 0, 0, 0⟩,  -- STATUS
   ⟨0xC, 1, 4, 0, 1, 0, 0, 0, 0⟩,  -- IRQ_RAW
   ⟨0x10, 1, 4, 1, 0, 0, 0, 0, 0⟩,  -- IRQ_EN
   ⟨0x14, 1, 4, 0, 0, 0, 0, 0, 0⟩,  -- IRQ_PEND
   ⟨0x18, 1, 4, 0, 3, 0, 0, 0, 0⟩,  -- FLT_RAW
   ⟨0x1C, 1, 4, 3, 0, 0, 0, 3, 0⟩,  -- FLT_EN
   ⟨0x20, 1, 4, 0, 0, 0, 0x1F, 0, 0⟩,  -- INJECT
   ⟨0x24, 1, 4, 0, 0, 0, 0, 0, 0⟩,  -- BUSY
   ⟨0x40, 1, 4, 0, 0, 0, 0, 0, 0⟩,  -- WRIGHT_STATUS
   ⟨0x44, 1, 4, 0, 0, 0, 0, 0, 0⟩,  -- WRIGHT_EPOCH
   ⟨0x48, 1, 4, 0, 0, 0, 0, 0, 0⟩,  -- HEARTBEAT
   ⟨0x4C, 1, 4, 0, 0, 0, 0, 0, 0⟩,  -- RESTART_COUNT
   ⟨0x100, 0x10, 4, 0, 0, 0, 0, 0, 0⟩,  -- DATA
   ⟨0x140, 1, 4, 0, 0, 3, 0, 0, 0⟩,  -- DOORBELL
   ⟨0x144, 1, 4, 0, 0, 0, 0, 0, 0⟩,  -- STATE
   ⟨0x148, 1, 4, 0, 0, 0, 0, 0, 0⟩,  -- EPOCH
   ⟨0x180, 0x10, 4, 0, 0, 0, 0, 0, 0⟩,  -- DATA
   ⟨0x1C0, 1, 4, 0, 0, 3, 0, 0, 0⟩,  -- DOORBELL
   ⟨0x1C4, 1, 4, 0, 0, 0, 0, 0, 0⟩,  -- STATE
   ⟨0x1C8, 1, 4, 0, 0, 0, 0, 0, 0⟩,  -- EPOCH
   ⟨0x200, 0x10, 4, 0, 0, 0, 0, 0, 0⟩,  -- DATA
   ⟨0x240, 1, 4, 0, 0, 3, 0, 0, 0⟩,  -- DOORBELL
   ⟨0x244, 1, 4, 0, 0, 0, 0, 0, 0⟩,  -- STATE
   ⟨0x248, 1, 4, 0, 0, 0, 0, 0, 0⟩,  -- EPOCH
   ⟨0x280, 0x10, 4, 0, 0, 0, 0, 0, 0⟩,  -- DATA
   ⟨0x2C0, 1, 4, 0, 0, 3, 0, 0, 0⟩,  -- DOORBELL
   ⟨0x2C4, 1, 4, 0, 0, 0, 0, 0, 0⟩,  -- STATE
   ⟨0x2C8, 1, 4, 0, 0, 0, 0, 0, 0⟩]  -- EPOCH

/-- The rows of a page: device page `k` is code `k`, the channel page at offset `p * 0x1000` is code `0x20 + p` (R61). -/
def pageRegs : Nat → List RegDef
  | 0x00 => regs_ID
  | 0x01 => regs_HOST
  | 0x02 => regs_CLK
  | 0x03 => regs_BOOT
  | 0x04 => regs_DPWR
  | 0x05 => regs_MBX_0 ++ regs_MBX_1
  | 0x06 => regs_MILLER
  | 0x07 => regs_SLUICE
  | 0x08 => regs_FLOG
  | 0x09 => regs_TIME
  | 0x0A => regs_DMEM_0 ++ regs_DMEM_1
  | 0x0B => regs_DTRIAL
  | 0x0C => regs_DCNT
  | 0x0D => regs_APER
  | 0x0E => regs_SENS
  | 0x0F => regs_OTP
  | 0x20 => regs_TOP
  | 0x21 => regs_HL
  | 0x22 => (⟨0x48, 1, 4, 0xFF3FF307, 0, 0, 0, 0x18200103, 0⟩ : RegDef) :: regs_HL  -- SEED_LANE resets to 1 on HLANE1
  | 0x23 => regs_HFEC_0 ++ regs_HFEC_1
  | 0x24 => regs_LTX
  | 0x25 => regs_LRX
  | 0x26 => regs_TIM
  | 0x27 => regs_EQ
  | 0x28 => regs_BOLT
  | 0x29 => regs_DRESS
  | 0x2A => regs_MRACE_0 ++ regs_MRACE_1
  | 0x2B => regs_MRLY
  | 0x2C => regs_GAUGE
  | 0x2D => regs_OUT
  | 0x2E => regs_KILN
  | 0x2F => regs_TALLY_0 ++ regs_TALLY_1
  | 0x30 => regs_CNT
  | 0x31 => regs_HOP
  | 0x32 => regs_MEM_0 ++ regs_MEM_1 ++ regs_MEM_2
  | 0x33 => regs_FLT
  | 0x34 => regs_TRIAL
  | 0x35 => regs_PAT_0 ++ regs_PAT_1
  | 0x36 => regs_PWR
  | 0x37 => regs_MBXW
  | _ => []

/-- The row that lists offset `o` of a page, the first that fits. -/
def RegDef.find : List RegDef → Nat → Option RegDef
  | [], _ => none
  | d :: ds, o =>
    if d.off ≤ o ∧ (o - d.off) % d.stride = 0 ∧ (o - d.off) / d.stride < d.n then some d else RegDef.find ds o

end Sys2Proof.Machine
end

