-- ==== Sys2Proof/Machine/State.lean ====
section
/-! DEFINITION. The state of the CP8425 as plain data.  Registers are a sparse map from address to word (an unlisted
address reads as its Reset value, Machine/RegTable.lean); memories are a sparse list of bytes (an unlisted word reads
as poisoned, R420); what the spec gives the part beyond its registers stands in the structures below. -/

namespace Sys2Proof.Machine

/-- Device states (R490, spec/00_scope.md). -/
inductive DevState where
  | off | reset | boot | holding | ready | run | watch
deriving DecidableEq, Repr

/-- A point of device time (R400): seconds, nanoseconds, 1/65,536 ns. -/
structure TimeVal where
  sec : Nat := 0
  ns : Nat := 0
  frac : Nat := 0
deriving DecidableEq, Repr

/-- One word waiting in a port's write buffer (R51): its address, its data and the requester (R70); `pair` holds the
high half of an aligned low-then-high pair of one transaction (R68). -/
structure BufWord where
  addr : Nat
  data : Word
  req : Nat
  pair : Option Word := none
deriving DecidableEq, Repr

/-- A transaction in progress or waiting for its writes (R45, R46): the command byte's OP and LEVEL bits, its first failing
word (CODE, detail, address) and the number of failing words. -/
structure TxnRec where
  cmd : Nat
  fail : Option (Nat × Nat × Nat) := none
  fails : Nat := 0
deriving DecidableEq, Repr

/-- The aperture selection of both levels as a transaction finds it when it begins (R66): SEL, BASE, OSEL and OBASE. -/
structure AperSel where
  sel : Word := 0
  base : Word := 0
  osel : Word := 0
  obase : Word := 0
deriving DecidableEq, Repr

/-- A port of the host interface (R43, R51): its write buffer, the transaction whose words wait there, the CODE of the last
completed transaction, the words its last read, status or READ_ID command returned, the status byte shifted out with it, and
the aperture selection of its transaction (R66). -/
structure PortState where
  buf : List BufWord := []
  txn : Option TxnRec := none
  code : Nat := 0
  resp : List Word := []
  statusOut : Nat := 0
  aper : AperSel := {}
deriving DecidableEq, Repr

/-- A forwarded, latched and uncleared fault with its stored class (R443). -/
structure Latched where
  src : Nat
  bit : Nat
  cls : Nat
deriving DecidableEq, Repr

/-- A fault log entry before it is laid out in bytes (R459). -/
structure LogRec where
  ts : TimeVal := {}
  src : Nat
  bit : Nat
  cls : Nat
  flags : Nat := 0
  dflt : Nat := 0
  detail : Word := 0
  req : Nat := 0
  chState : Nat := 0
  devState : Nat := 0
deriving DecidableEq, Repr

/-- Where a command taken from H2M stands (R122 to R125): passed and not begun (or held behind another), begun, begun with
a Miller to wright exchange in progress, or answered with the words that wait for M2H. -/
inductive FwPhase where
  | taken
  | begun (exchange : Bool)
  | answered (words : List Word)
deriving DecidableEq, Repr

/-- A command taken from H2M `k` and not yet answered (R122 to R124): its header and argument words, where it stands, for a
CH_POWER the refuser code that its request or path has met (0 none); whether it is held behind another command, and whether
it is idle, no longer keeping its channel busy: it failed its checks or a restart ended it, and only its answer waits (R123). -/
structure FwCmd where
  box : Fin 4
  words : List Word
  phase : FwPhase := .taken
  note : Nat := 0
  held : Bool := false
  idle : Bool := false
deriving DecidableEq, Repr

/-- The blocking period in force (R57 to R59): the command's code, and for OTP_PROGRAM the word and data. -/
structure Blocking where
  code : Nat
  word : Nat := 0
  data : Word := 0
deriving DecidableEq, Repr

/-- A power path in progress (R491, R494, R501): the legs still to run (the states reached in turn), the final state, the
sources of latched wakes, whether the path began with a wake, whether that wake was a replayed one, whether the controller
restarted in ARMED and will not execute WAIT, whether the channel PLL has to relock (R496), and the tick of its last WAIT. -/
structure PwrPath where
  legs : List Nat := []
  target : Nat := 0
  latched : Nat := 0
  byWake : Bool := false
  replayed : Bool := false
  deaf : Bool := false
  relock : Bool := false
  waitAt : Nat := 0
deriving DecidableEq, Repr

/-- One (requester, register) read latch of a 64-bit counter or of NOW0 (R56, R393, R401). -/
structure ReadLatch where
  req : Nat
  addr : Nat
  hi : Word
  flags : Word
deriving DecidableEq, Repr

/-- Channel PLL and mode sequence (R20, R30 to R32): the configuration latched at GO, and whether the channel PLL is
without the lock it should have. -/
structure TopSt where
  latMode : Nat := 0
  latHostOpt : Nat := 0
  latOuter : Nat := 0
  pllBad : Bool := false
deriving DecidableEq, Repr

/-- Where a host lane's training requester stands (R145): the CTLE `sweep` at a code and a gain, a `tap` being
stepped in one direction, or done. -/
inductive TrainStep where
  | idle
  | sweep (code gain : Nat)
  | tap (index : Nat) (up : Bool) (turned : Bool)
  | ready
deriving DecidableEq, Repr

/-- The status value a responder sends for a request (R144). -/
inductive TrainAnswer where
  | none | updated | atMax | atMin | equLimit | notSupported
deriving DecidableEq, Repr

/-- A host lane (R135 to R152): the TRAIN_EN (R137) and the CURSOR (R156) in force, whether this training has decided the
extension (R147), the trained CTLE setting, the requester's records of one training, the request the responder last received
(none after hold, R144), its answer, the clean occupancy windows, and the FFE and DFE taps in fine units once adaptation has
moved them (R141; empty: the registers hold them). -/
structure LaneSt where
  trainEn : Bool := false
  cursor : Nat := 4
  extDecided : Bool := false
  peak : Nat := 0x10
  gain : Nat := 0
  step : TrainStep := .idle
  waiting : Bool := false
  noresp : List Nat := []
  bestSnr : Nat := 0
  bestPeak : Nat := 0x10
  bestGain : Nat := 0
  lastSnr : Nat := 0
  changed : Bool := false
  reqSent : Nat := 0
  reqRcvd : Nat := 0
  dead : List Nat := []
  last : Option TrainReq := none
  answer : TrainAnswer := .none
  cleanWindows : Nat := 0
  fine : List Int := []
deriving DecidableEq, Repr

/-- A channel Trial (R470 to R473): whether it runs, the slices still to run with the running one first, those begun, the
latched count, whether a slice has failed, the entries of the faults latched since it began, and whether TRIAL_ALL runs it. -/
structure TrialSt where
  active : Bool := false
  slices : List Nat := []
  ran : List Nat := []
  count : Nat := 0
  failed : Bool := false
  pend : List LogRec := []
  all : Bool := false
deriving DecidableEq, Repr

/-- A wright (R107 to R113): the ticks at which watchdog or trap restarted it within the last second, the cause of the
start to come (0: after the copy of R107), whether a hold is in progress, and whether a channel reset holds it (R108). -/
structure WrightSt where
  recent : List Nat := []
  cause : Nat := 0
  holding : Bool := false
  inReset : Bool := false
deriving DecidableEq, Repr

/-- A scrub pass (R430): the memory and the range (first word, words) latched at GO, and whether the run ends with it. -/
structure ScrubSt where
  active : Bool := false
  mem : Nat := 0
  start : Nat := 0
  len : Nat := 0
  stopAfter : Bool := false
deriving DecidableEq, Repr

/-- A transparent march slice (R435): its first word and its words. -/
structure MarchSt where
  active : Bool := false
  start : Nat := 0
  len : Nat := 0
deriving DecidableEq, Repr

/-- A queued write-back of a corrected word (R424): memory index and word. -/
structure WbEntry where
  mem : Nat
  word : Nat
deriving DecidableEq, Repr


/-- A marker hunter (R158, R159): its state code, its candidate offset, the first offset of the group under test, the
consecutive invalid periods (and how many of them a skew change made invalid), the FEC lane set of the previous valid
marker (0 none, 1 the set of HL2n or the single set, 2 the set of HL2n+1). -/
structure Hunter where
  state : Nat := 0
  pos : Nat := 0
  start : Nat := 0
  bad : Nat := 0
  skewBad : Nat := 0
  lanes : Nat := 0
deriving DecidableEq, Repr

/-- The HFEC stage (R159 to R174): the hunters of HL2n, HL2n+1 and the line, the MANUAL settings in force, a slip
waiting for the word boundary (side, bits, accepted), the skew last used with the later lane as its sign, the
corrected symbols and the codewords of the running windows, whether a side has been LOCKED (its generator then continues its
marker cadence, R170), the RS symbol positions that the Bolter has marked in the line codeword to come (R167), the codeword
each side has sent last, and the copy handed to Tally last: its 64b/66b blocks, whether they are flagged as errored, and the
descrambler's state (R166). -/
structure HfecSt where
  h0 : Hunter := {}
  h1 : Hunter := {}
  line : Hunter := {}
  manHost : Bool := false
  manLine : Bool := false
  slip : Option (Nat × Nat × Bool) := none
  skew : Int := 0
  serHost : Nat := 0
  serLine : Nat := 0
  cwHost : Nat := 0
  cwLine : Nat := 0
  heldHost : Bool := false
  heldLine : Bool := false
  marks : List Nat := []
  outHost : List Nat := []
  outLine : List Nat := []
  copy : List (List Bool) := []
  copyBad : Bool := false
  scr : List Bool := []
deriving DecidableEq, Repr

/-- The line transmitter (R181, R186, R187, R194): the TXDIS polarity in force, the table latched by a load and the one
in the active bank (none: all 0), the replica entries (path, index) in use as 0, whether the next load writes the first replica
word with bad parity and whether the table in use holds that word, the pin level read back when it differs from the driven one;
the precoder's state (R180); the tick at which LEAD or the running ramp began, and the ramp's length in ticks, its shape and, for
a ramp down, the place along the shape from which it runs backwards (R191, R192). -/
structure LtxSt where
  pol : Bool := false
  latched : List Nat := []
  table : List Nat := []
  zeroed : List (Nat × Nat) := []
  badNext : Bool := false
  badNow : Bool := false
  pin : Option Bool := none
  pre : Fin 4 := 0
  rampAt : Nat := 0
  rampLen : Nat := 0
  rampCos : Bool := false
  rampFrom : Nat := 0
deriving DecidableEq, Repr

/-- An epoch of a running capture (R222): a swap or a gain change, the active bank, the PGA code, GAIN_EPOCH and the tick at
which it began. -/
structure CapEpoch where
  swap : Bool
  bank : Nat
  code : Nat
  epoch : Nat
  tick : Nat
deriving DecidableEq, Repr

/-- The line front end (R204 to R224): whether the gain has frozen since the last accepted mode GO, the consecutive good
measurements, the REACQ steps, whether the drift has been reported, the run of failed plausibility windows, whether a
gain change fell in the running one, the windows left of VERIFY and SETTLE, the self-test (windows left, whether one
passed), the run of low Tandem windows, whether LRX_FSM_PAR holds the gain, the conditions of R217 as last seen (their arising
is the event); and the capture: a trigger due, the samples before it and the tick at which it was taken, its epochs (oldest
first), whether one was dropped, and whether a record awaits its description. -/
structure LrxSt where
  frozenOnce : Bool := false
  good : Nat := 0
  steps : Nat := 0
  drifted : Bool := false
  failRun : Nat := 0
  skip : Bool := false
  left : Nat := 0
  testing : Bool := false
  testLeft : Nat := 0
  testPassed : Bool := false
  lowRun : Nat := 0
  parHeld : Bool := false
  seen : Nat := 0
  trig : Bool := false
  pre : Nat := 0
  trigAt : Nat := 0
  epochs : List CapEpoch := []
  dropped : Bool := false
  due : Bool := false
deriving DecidableEq, Repr

/-- The timing loop (R229, R231, R235): the interpolation instant as a sample index and a 32-bit fraction, the run of windows
above UNLOCK_THR, whether EQ has entered ACQ, and the quick equaliser's copies of five FFE taps and of the slicer levels
(empty: the cursor tap alone). -/
structure TimSt where
  sample : Nat := 0
  frac : Nat := 0
  badRun : Nat := 0
  acqSeen : Bool := false
  quick : List Int := []
  quickLevels : List Int := []
deriving DecidableEq, Repr

/-- The equaliser (R238 to R250).  `taps`, `dfe` and `mu` are the FFE taps, the DFE taps and the slicer levels in fine
units (2^-20 of a register unit for the taps, 2^-28 of the outer level for the levels); `cursor` is CURSOR in force, `sig`
SIG_DET as EQ last saw it, `windows` the windows ended in ACQ, `lowRun` the run of low-SNR windows, `passes` the passing
windows of a hold, `held` and `holdAt` the ticks of the holds ended and the tick at which the present one began, `longSeen`
whether GUARD_LONG was raised for it, and `frozen` the notice freezes in force. -/
structure EqSt where
  taps : List Int := []
  dfe : List Int := []
  mu : List Int := []
  cursor : Nat := 12
  sig : Bool := false
  windows : Nat := 0
  lowRun : Nat := 0
  passes : Nat := 0
  held : Nat := 0
  holdAt : Nat := 0
  longSeen : Bool := false
  frozen : Nat := 0
deriving DecidableEq, Repr

/-- The Bolter (R257 to R268): the first offset of the group a hunt window tests, the confirmation windows passed, the
run of failing lock windows, the blocks, the bits corrected and the blocks uncorrectable of the running estimate window; and the 120
message bits of the last block handed to HFEC with the positions marked for erasure (R263, R265). -/
structure BoltSt where
  group : Nat := 0
  confirms : Nat := 0
  lossRun : Nat := 0
  blocks : Nat := 0
  corr : Nat := 0
  unc : Nat := 0
  msg : List Bool := []
  marks : List Nat := []
deriving DecidableEq, Repr

/-- The Dresser (R276 to R292): the scopes still to run with the running one first, the scopes asked for, the trigger;
the rounds stepped and measured in the scope or phase and the most measured so far; the scope results; the steps due
(trim index, upwards), the one in flight; the trims at their rail and the bytes changed in this pass; whether the offline
phase is DYNAMIC, whether a phase met its limit, whether the swap has switched; the host lanes skipped; whether an abort
waits for the step in flight; whether the pass has waited since its last event; its nominal time and its deferred time in
ps; the last readings of the die temperature (newest first); the trigger kept by AUTO_PENDING; and the enders of R292 that its
last pass over its conditions saw. -/
structure DressSt where
  scopes : List Nat := []
  asked : Nat := 0
  trigger : Nat := 0
  round : Nat := 0
  measured : Nat := 0
  most : Nat := 0
  results : List (Nat × Nat) := []
  due : List (Nat × Bool) := []
  flight : Option (Nat × Bool) := none
  railed : List Nat := []
  changed : List Nat := []
  dynamic : Bool := false
  limited : Bool := false
  swapped : Bool := false
  skip : List Nat := []
  aborting : Bool := false
  waited : Bool := false
  ps : Nat := 0
  deferPs : Nat := 0
  temps : List Int := []
  pend : Nat := 0
  seen : Nat := 0
deriving DecidableEq, Repr

/-- A Millrace frame (R298, R299). -/
structure MrFrame where
  src : Nat
  srcCh : Nat
  typ : Nat
  ttl : Nat
  age : Nat
  seq : Nat
  ts : TimeVal
  dst : Nat
  relayed : Bool
  payload : List Byte
deriving DecidableEq, Repr

/-- A frame to send (R301): whether it was originated here, for a relayed one its receive timestamp (R319), and whether a
queue word of it was written with bad parity (R323). -/
structure MrOut where
  frame : MrFrame
  own : Bool
  rx : TimeVal := {}
  bad : Bool := false
deriving DecidableEq, Repr

/-- A received frame in the FIFO with its receive timestamp and RSSI (R307, R309). -/
structure MrIn where
  frame : MrFrame
  rx : TimeVal
  rssi : Int
  bad : Bool := false
deriving DecidableEq, Repr

/-- An echo response in its slot: the request's SEQ, TS, source and receive timestamp (R315). -/
structure MrEcho where
  seq : Nat
  ts : TimeVal
  dst : Nat
  rx : TimeVal
deriving DecidableEq, Repr

/-- The Millrace of a channel and its relay table (R301 to R321): the transmit queue, the three slots, the frame on the
line with its slopes, its chirp time in ns and its LEVEL_ATT (R296), when it began and the state it started in, whether and how
long after that it was cut off, in units of device time; the time at which the gap after the last lead-out ends (R301); the
outstanding echo; the beacons sent since an echo request; the header under reception; the FIFO;
the last RSSI; RX_K in force; the committed entries of the table, those a parity error keeps from matching
and those an injection has tagged. -/
structure MrSt where
  queue : List MrOut := []
  beacon : Bool := false
  echo : Bool := false
  rsp : Option MrEcho := none
  air : Option MrOut := none
  slopes : List Bool := []
  chirpNs : Nat := 0
  att : Nat := 0
  began : Nat := 0
  startState : Nat := 0
  cut : Bool := false
  cutAt : Nat := 0
  gapEnd : Nat := 0
  outstanding : Option (Nat × TimeVal) := none
  sinceEcho : Nat := 0
  header : List Byte := []
  fifo : List MrIn := []
  rssi : Option Int := none
  rxK : Nat := 5
  relay : List (Nat × Word × Word) := []
  relayBad : List Nat := []
  relayTag : List Nat := []
deriving DecidableEq, Repr

/-- An entry of the device-wide duplicate cache (R320). -/
structure DupKey where
  src : Nat
  srcCh : Nat
  seq : Nat
  bad : Bool := false
deriving DecidableEq, Repr

/-- A Gauge converter (R330): the input and PGA code of its previous conversion, and whether a stream or slot has fallen
due on it and not ended. -/
structure GaugeConv where
  prev : Option (Nat × Nat) := none
  stream : Bool := false
deriving DecidableEq, Repr

/-- The Gauge (R330 to R341): its converters, the entry words and the length latched for the run, whether the running
entry is marked SETTLE and how many extra discards preemption has cost it, the die-temperature and the readback slots
that have fallen due (DAC numbers), the diagnosis (its latched DIAG_CFG, whether it waits for a run), the input whose
ball was reconnected since, the invalid die readings in a row, and the (entry, requester) pairs that have read a value. -/
structure GaugeSt where
  a : GaugeConv := {}
  b : GaugeConv := {}
  entries : List Word := []
  len : Nat := 0
  settle : Bool := false
  extra : Nat := 0
  die : Bool := false
  readback : List Nat := []
  diagCfg : Word := 0
  diagWait : Bool := false
  dirty : Option Nat := none
  invalid : Nat := 0
  seen : List (Nat × Nat) := []
deriving DecidableEq, Repr

/-- A DAC (R346 to R352): its queue (oldest first), whether the clamp period has ended, the state a HOLD under SAFE
returns to, the safe action in force, whether the output has changed since the readback slot fell due, the
comparisons skipped in a row, and whether it acts as MODE STATIC since the Kiln took it (R358). -/
structure DacSt where
  queue : List Nat := []
  released : Bool := false
  back : Nat := 0
  act : Nat := 0
  moved : Bool := false
  skips : Nat := 0
  parked : Bool := false
deriving DecidableEq, Repr

/-- The Kiln (R353 to R357): the tick number, the filtered temperature in 2^-24 units and the one before, the runs of
missed and of bad samples, whether EN has gone from 0 to 1 in FAULT, and whether KILN_SAT has been raised at this limit. -/
structure KilnSt where
  tick : Nat := 0
  tf : Option Int := none
  miss : Nat := 0
  bad : Nat := 0
  cycled : Bool := false
  satDone : Bool := false
deriving DecidableEq, Repr

/-- Tally (R367, R368, R376, R378): SEED0 to SEED4 in force, the spill sequence number, the next context a flush visits. -/
structure TallySt where
  seeds : List Nat := [0xFFFFFFFF, 0x13579BDF, 0x2468ACE0, 0x5A5AA5A5, 0x0F1E2D3C]
  seq : Nat := 0
  flushIdx : Nat := 0
deriving DecidableEq, Repr

/-- The Hopper and the counter bank of a channel (R389, R405 to R413): the triggers waiting (bit 0 periodic, 1 command, 2
fault), the record being written and its index, whether device time has stepped, the boundaries missed and the selectors
written since the last record, whether the next record is the first after WATCH, Trial or a clock switch, whether a parity
error keeps the Hopper from writing, and the count-clock phase in 1/48 cycle. -/
structure HopSt where
  trig : Nat := 0
  words : List Nat := []
  slot : Nat := 0
  stepped : Bool := false
  missed : Nat := 0
  selChanged : Nat := 0
  fresh : Bool := false
  stopped : Bool := false
  cycle : Nat := 0
deriving DecidableEq, Repr

/-- What one channel holds beyond its registers and memories. -/
structure Chan where
  top : TopSt := {}
  lane0 : LaneSt := {}
  lane1 : LaneSt := {}
  trial : TrialSt := {}
  pwr : PwrPath := {}
  wright : WrightSt := {}
  scrub : ScrubSt := {}
  march : MarchSt := {}
  wb : List WbEntry := []
  hfec : HfecSt := {}
  ltx : LtxSt := {}
  lrx : LrxSt := {}
  notices : List Nat := []
  tim : TimSt := {}
  eq : EqSt := {}
  bolt : BoltSt := {}
  dress : DressSt := {}
  mr : MrSt := {}
  gauge : GaugeSt := {}
  dac0 : DacSt := {}
  dac1 : DacSt := {}
  dac2 : DacSt := {}
  kiln : KilnSt := {}
  tally : TallySt := {}
  hop : HopSt := {}
deriving DecidableEq, Repr

/-- What the host-port complex and the always-on domain hold beyond their registers; `tagged` lists the memory words
whose check bits an injection has corrupted and that nothing has written since (R457);
`straps` are the sampled HOSTSEL (bit 3), TESTMODE (bit 2) and ADDRSEL (R512). -/
structure Dev where
  state : DevState := .reset
  primary : PortState := {}
  secondary : PortState := {}
  rails : BitVec 6 := 0x3F
  refclk : Bool := true
  monitor : Bool := true
  railWait : Bool := false
  booted : Bool := false
  released : Bool := true
  straps : BitVec 4 := 0
  fuseWords : List (Nat × Word) := []
  fuseValid : BitVec 64 := 0xFF
  order : Nat := 1
  uid : BitVec 48 := 0
  blocking : Option Blocking := some { code := 0xF }
  blockTicks : Nat := 0
  swresetArmed : Bool := false
  trialAllRunning : Bool := false
  trialSlices : List Nat := []
  codeLocked : Bool := false
  millerHold : Bool := false
  millerRecent : List Nat := []
  millerStart : Nat := 0
  fwFirst : Bool := false
  wdogTicks : Nat := 0
  fw : List FwCmd := []
  shut : Bool := false
  forwarded : List Latched := []
  collect : List LogRec := []
  logQueue : List LogRec := []
  badRegs : List Nat := []
  time : TimeVal := {}
  timeAcc : Nat := 0
  timePhase : Nat := 0
  timeRunning : Bool := false
  ppsOut : Bool := false
  ppsSeen : Bool := false
  latches : List ReadLatch := []
  held : List (Nat × Nat) := []
  pwr : PwrPath := {}
  jtag : Nat := 0x01
  jtagPins : Bool := false
  memScrub : ScrubSt := {}
  memMarch : MarchSt := {}
  memWb : List WbEntry := []
  tagged : List WbEntry := []
  dup : List DupKey := []
  dupCfg : Word := 0x8000EA60
  ppsTicks : Nat := 0
  cycle : Nat := 0
  ticks : Nat := 0
  aboveMs : Nat := 0
  peakSeen : Bool := false
deriving DecidableEq, Repr

/-- The state of the CP8425 and the queue of the commands that wait for it, first in, first out. -/
structure State where
  pending : List Instr := []
  regs : List (Nat × Word) := []
  mem : List Host.Cell := []
  ch : Vector Chan 8 := Vector.replicate 8 {}
  dev : Dev := {}
  draws : Nat := 0
deriving DecidableEq, Repr

/-- The part right after a power-on reset, before boot starts: every register at its Reset value (RegTable.lean) but
RESET_CAUSE.POWER_ON = 1 (R79); every memory word poisoned
(R83, R420); the queue empty.  The ordering code CP8425-4E, the identity 0, the straps 0 and the rails in range are the
model's choice (log entry 7). -/
def State.reset : State := { regs := [(0x304C, 1)] }

/-- The reasons a step could stop with a fault: none.  Every command of the CP8425 has an effect in every state, and what the
part calls faults are register bits (R441). -/
inductive Fault where
deriving DecidableEq, Repr

/-- The reasons a command could be refused by the model. -/
inductive Refusal where
  /-- Raised by the arm of a command that has no meaning yet; safe: nothing can be proved of it.  No arm raises it. -/
  | notModelled (mnemonic : String)
deriving DecidableEq, Repr

end Sys2Proof.Machine
end

