-- ==== Sys2Proof/Machine/Store.lean ====
section
/-! DEFINITION. Sparse storage in one canonical form: a list of (address, value) pairs with strictly rising addresses
and no entry that equals what an unlisted address reads as.  Registers and memories are both held so. -/

namespace Sys2Proof.Machine

/-- What address `a` reads as; `d` says what an unlisted address reads as. -/
def Store.get {α : Type} (d : Nat → α) : List (Nat × α) → Nat → α
  | [], a => d a
  | c :: m, a => if c.1 = a then c.2 else Store.get d m a

/-- The list with the entry of address `a` set to `v`, in rising order. -/
def Store.insert {α : Type} : List (Nat × α) → Nat → α → List (Nat × α)
  | [], a, v => [(a, v)]
  | c :: m, a, v =>
    if a < c.1 then (a, v) :: c :: m
    else if a = c.1 then (a, v) :: m
    else c :: Store.insert m a v

/-- The list without the entry of address `a`. -/
def Store.erase {α : Type} : List (Nat × α) → Nat → List (Nat × α)
  | [], _ => []
  | c :: m, a => if c.1 = a then Store.erase m a else c :: Store.erase m a

/-- A write: the value an unlisted address reads as removes the entry, so equal contents are equal lists. -/
def Store.set {α : Type} [DecidableEq α] (d : Nat → α) (m : List (Nat × α)) (a : Nat) (v : α) : List (Nat × α) :=
  if v = d a then Store.erase m a else Store.insert (Store.erase m a) a v

/-- The list without the entries whose address satisfies `p`: those addresses read as unlisted again. -/
def Store.drop {α : Type} (p : Nat → Bool) (m : List (Nat × α)) : List (Nat × α) :=
  m.filter (fun c => ! p c.1)

/-- The canonical form. -/
def Store.wf {α : Type} [DecidableEq α] (d : Nat → α) : List (Nat × α) → Bool
  | [] => true
  | c :: m => (m.all fun e => decide (c.1 < e.1)) && decide (c.2 ≠ d c.1) && Store.wf d m

end Sys2Proof.Machine
end

