-- ==== Sys2Proof/Machine/Ops.lean ====
section
/-! DEFINITION. The named operations every command is written with: bit fields, registers, page resets, the memory
words and their ECC outcomes, device time, counters of 64 bits, free values.  Everything a command changes it changes
through these. -/

namespace Sys2Proof.Machine

/-! ## Bit fields -/

/-- The mask of bits `lo` to `lo + w - 1`. -/
def bitMask (lo w : Nat) : Word := BitVec.ofNat 32 ((2 ^ w - 1) <<< lo)

/-- Bits `lo` to `lo + w - 1` of a word, as a number. -/
def getBits (x : Word) (lo w : Nat) : Nat := (x.toNat >>> lo) % 2 ^ w

/-- A word with bits `lo` to `lo + w - 1` replaced by the low `w` bits of `v`. -/
def setBits (x : Word) (lo w v : Nat) : Word :=
  (x &&& ~~~ bitMask lo w) ||| BitVec.ofNat 32 ((v % 2 ^ w) <<< lo)

/-- A `w`-bit number read as two's complement. -/
def toSigned (w v : Nat) : Int := if v < 2 ^ (w - 1) then (v : Int) else (v : Int) - (2 ^ w : Nat)

/-- A signed number as `w` bits of two's complement. -/
def ofSigned (w : Nat) (v : Int) : Nat := (v % ((2 ^ w : Nat) : Int)).toNat

/-- A number limited to a range. -/
def clampI (lo hi v : Int) : Int := if v < lo then lo else if hi < v then hi else v

/-- A count limited to a range ("0 acts as 1, above m as m"). -/
def clampN (lo hi v : Nat) : Nat := if v < lo then lo else if hi < v then hi else v

/-- Bit `i` of a number. -/
def bitOf (v i : Nat) : Bool := v.testBit i

/-! ## Registers -/

/-- The page code of an address: device page `k` is `k`, channel page `p` is `0x20 + p` (R60, R61). -/
def pageCode (a : Nat) : Nat :=
  if a < 0x10000 then a / 0x1000
  else if 0x100000 ≤ a ∧ a < 0x200000 then 0x20 + a % 0x20000 / 0x1000
  else 0x100

/-- The row of the register table that lists an address. -/
def regDef (a : Nat) : Option RegDef := RegDef.find (pageRegs (pageCode a)) (a % 0x1000)

/-- The Reset value of an address (R13); an address that no row lists has none and reads 0. -/
def resetWord (a : Nat) : Word :=
  match regDef a with
  | some d => BitVec.ofNat 32 d.reset
  | none => 0

/-- The bits of an address that the Wake column marks "kept" (R14). -/
def keptMask (a : Nat) : Word :=
  match regDef a with
  | some d => BitVec.ofNat 32 d.kept
  | none => 0

/-- The address of a field's register in channel `n` (channel 0 for a device page) (R60). -/
def Field.addr (n : Ch) (f : Field) : Nat := f.base + n.val * 0x20000 + f.off

/-- The stored word of a register. -/
def State.word (s : State) (a : Nat) : Word := Store.get resetWord s.regs a

/-- The state with a register's stored word replaced. -/
def State.setWord (s : State) (a : Nat) (v : Word) : State := { s with regs := Store.set resetWord s.regs a v }

/-- The value of a field in channel `n`. -/
def State.get (s : State) (n : Ch) (f : Field) : Nat := getBits (s.word (f.addr n)) f.lo f.w

/-- The state with a field of channel `n` set to the low bits of `v`. -/
def State.set (s : State) (n : Ch) (f : Field) (v : Nat) : State :=
  s.setWord (f.addr n) (setBits (s.word (f.addr n)) f.lo f.w v)

/-- A field read as two's complement. -/
def State.getI (s : State) (n : Ch) (f : Field) : Int := toSigned f.w (s.get n f)

/-- The state with a field set to a signed value. -/
def State.setI (s : State) (n : Ch) (f : Field) (v : Int) : State := s.set n f (ofSigned f.w v)

/-- Whether a one-bit field is 1. -/
def State.is (s : State) (n : Ch) (f : Field) : Bool := s.get n f == 1

/-- A field of a device page. -/
def State.dget (s : State) (f : Field) : Nat := s.get 0 f

/-- The state with a field of a device page set. -/
def State.dset (s : State) (f : Field) (v : Nat) : State := s.set 0 f v

/-- An event bit of IRQ_RAW set (R64). -/
def State.irq (s : State) (n : Ch) (f : Field) : State := s.set n f 1

/-- An event bit of a device page set. -/
def State.dirq (s : State) (f : Field) : State := s.set 0 f 1

/-- A wrapping counter field plus `k`. -/
def State.incr (s : State) (n : Ch) (f : Field) (k : Nat := 1) : State := s.set n f (s.get n f + k)

/-- A saturating counter field plus `k`. -/
def State.sat (s : State) (n : Ch) (f : Field) (k : Nat := 1) : State :=
  s.set n f (min (s.get n f + k) (2 ^ f.w - 1))

/-- A field set to a value limited to the field's width ("saturating"). -/
def State.setSat (s : State) (n : Ch) (f : Field) (v : Nat) : State := s.set n f (min v (2 ^ f.w - 1))

/-- The register four bytes above a field's. -/
def Field.next (f : Field) : Field := { f with off := f.off + 4 }

/-- The 64-bit count whose low word is register `lo` and whose high word follows it (R8). -/
def State.get64 (s : State) (n : Ch) (lo : Field) : Nat := s.get n lo + 2 ^ 32 * s.get n lo.next

/-- A 64-bit count set. -/
def State.set64 (s : State) (n : Ch) (lo : Field) (v : Nat) : State :=
  (s.set n lo v).set n lo.next (v / 2 ^ 32)

/-- A wrapping 64-bit count plus `k`. -/
def State.add64 (s : State) (n : Ch) (lo : Field) (k : Nat := 1) : State := s.set64 n lo (s.get64 n lo + k)

/-- A saturating 64-bit count plus `k`. -/
def State.sat64 (s : State) (n : Ch) (lo : Field) (k : Nat := 1) : State :=
  s.set64 n lo (min (s.get64 n lo + k) (2 ^ 64 - 1))

/-- Every register of `[lo, hi)` rewritten by `f`, the canonical form kept. -/
def State.mapRegs (s : State) (lo hi : Nat) (f : Nat → Word → Word) : State :=
  { s with regs := (s.regs.map fun c => if lo ≤ c.1 ∧ c.1 < hi then (c.1, f c.1 c.2) else c).filter
                     fun c => decide (c.2 ≠ resetWord c.1) }

/-- The registers of a page at their Reset values (R13). -/
def State.resetPage (s : State) (base : Nat) : State :=
  { s with regs := Store.drop (fun a => decide (base ≤ a ∧ a < base + 0x1000)) s.regs }

/-- The registers of a page at their Wake values: "kept" bits stay (R14). -/
def State.wakePage (s : State) (base : Nat) : State :=
  s.mapRegs base (base + 0x1000) fun a v => (v &&& keptMask a) ||| (resetWord a &&& ~~~ keptMask a)

/-- The base address of channel page `p` of channel `n`. -/
def chPage (n : Ch) (p : Nat) : Nat := 0x100000 + n.val * 0x20000 + p * 0x1000

/-! ## Channels -/

/-- The hidden state of channel `n`. -/
def State.chan (s : State) (n : Ch) : Chan := s.ch[n]

/-- The hidden state of channel `n` rewritten. -/
def State.modCh (s : State) (n : Ch) (f : Chan → Chan) : State := { s with ch := s.ch.set n (f s.ch[n]) }

/-- The hidden state of the complex rewritten. -/
def State.modDev (s : State) (f : Dev → Dev) : State := { s with dev := f s.dev }

/-- The power state of channel `n`, in the codes of R489: 0 DARK, 1 STANDBY, 2 LISTEN, 3 WATCH, 4 RUN. -/
def State.chState (s : State) (n : Ch) : Nat := s.get n PWR.STATUS_STATE

/-- PHASE of the channel's power sequencer (R506): 0 IDLE, 1 MOVE, 2 ARMED, 3 ENTERING, 4 EXITING. -/
def State.chPhase (s : State) (n : Ch) : Nat := s.get n PWR.STATUS_PHASE

/-- Whether the RUN condition of channel `n` holds: STATE RUN and no accepted move out of it (R493). -/
def State.chRun (s : State) (n : Ch) : Bool := s.chState n == 4 && s.chPhase n == 0

/-- Whether the channel's mode is active (R30). -/
def State.modeActive (s : State) (n : Ch) : Bool := s.is n TOP.STATUS_MODE_ACTIVE

/-- Whether channel `n` is in Trial (R471). -/
def State.inTrial (s : State) (n : Ch) : Bool := (s.chan n).trial.active

/-- The eight channels. -/
def allCh : List Ch := [0, 1, 2, 3, 4, 5, 6, 7]

/-- The device state's code (R490, DEV.HOST.STATUS_WORD). -/
def DevState.code : DevState → Nat
  | .off => 0
  | .reset => 1
  | .boot => 2
  | .holding => 3
  | .ready => 4
  | .run => 5
  | .watch => 6

/-- The sampled straps: HOSTSEL, TESTMODE and ADDRSEL (R34, R512). -/
def State.hostSel (s : State) : Bool := s.dev.straps.getLsbD 3
def State.testMode (s : State) : Bool := s.dev.straps.getLsbD 2

/-- Whether the outputs are those of a shut Sluice: it is shut, or the device is in HOLDING for another cause (R82, R96). -/
def State.outputsShut (s : State) : Bool := s.dev.shut || s.dev.state == .holding

/-! ## Device time (R400) -/

/-- The three words of a timestamp: NOW0, NOW1, NOW2 (R401). -/
def TimeVal.word0 (t : TimeVal) : Word := BitVec.ofNat 32 (t.frac % 65536 + t.ns % 65536 * 65536)
def TimeVal.word1 (t : TimeVal) : Word := BitVec.ofNat 32 (t.ns / 65536 % 65536 + t.sec % 65536 * 65536)
def TimeVal.word2 (t : TimeVal) : Word := BitVec.ofNat 32 (t.sec / 65536)

/-- A timestamp from its three words. -/
def TimeVal.ofWords (w0 w1 w2 : Word) : TimeVal :=
  { frac := w0.toNat % 65536, ns := w0.toNat / 65536 + w1.toNat % 65536 * 65536,
    sec := w1.toNat / 65536 + w2.toNat * 65536 }

/-- The millisecond count of device time, 1,000 × seconds + ⌊nanoseconds / 10^6⌋ (R405). -/
def TimeVal.ms (t : TimeVal) : Nat := 1000 * t.sec + t.ns / 1000000

/-- Device time as one count of 1/65,536 ns. -/
def TimeVal.units (t : TimeVal) : Nat := (t.sec * 1000000000 + t.ns) * 65536 + t.frac

/-! ## Memories (R418 to R423) -/

/-- What an unlisted byte of memory reads as: data 0 and the syndrome 0x81 of a poisoned word (R420). -/
def memDefault (a : Nat) : Byte := if a % 16 = 8 then 0x81 else 0

/-- Memory `i` of channel `n` (R418). -/
def chMem (n : Ch) (i : Nat) : Nat := 8 * n.val + i

/-- Memory `i` of `DEV.MEM` (R418). -/
def devMem (i : Nat) : Nat := 64 + i

/-- Words of a memory (R418). -/
def memWords (m : Nat) : Nat :=
  if m < 64 then
    match m % 8 with
    | 0 => 524288
    | 1 => 524288
    | 2 => 32768
    | 3 => 32768
    | 4 => 32768
    | 5 => 8192
    | 6 => 8192
    | _ => 0
  else
    match m with
    | 64 => 65536
    | 65 => 32768
    | 66 => 32768
    | 67 => 1024
    | _ => 0

/-- Where word `w` of memory `m` is kept: eight data bytes, then the syndrome of its check bits. -/
def memAddr (m w : Nat) : Nat := (m * 0x100000 + w) * 16

/-- One byte of the memory list. -/
def State.cell (s : State) (a : Nat) : Byte := Store.get memDefault s.mem a

/-- One byte of the memory list written. -/
def State.setCell (s : State) (a : Nat) (v : Byte) : State := { s with mem := Store.set memDefault s.mem a v }

/-- The little-endian value of `k` bytes from `a` (R8). -/
def State.bytesLE (s : State) (a : Nat) : Nat → Nat
  | 0 => 0
  | k + 1 => (s.cell a).toNat + 256 * State.bytesLE s (a + 1) k

/-- `k` bytes from `a` written with the little-endian value `v`. -/
def State.setBytesLE (s : State) (a : Nat) : Nat → Nat → State
  | 0, _ => s
  | k + 1, v => State.setBytesLE (s.setCell a (BitVec.ofNat 8 v)) (a + 1) k (v / 256)

/-- The data of a word; for a correctable word the corrected data (R419). -/
def State.memData (s : State) (m w : Nat) : Nat := s.bytesLE (memAddr m w) 8

/-- The syndrome of a word (R419). -/
def State.memSyn (s : State) (m w : Nat) : Nat := (s.cell (memAddr m w + 8)).toNat

/-- A word written in full with a given syndrome. -/
def State.memPutSyn (s : State) (m w v syn : Nat) : State :=
  (s.setBytesLE (memAddr m w) 8 v).setCell (memAddr m w + 8) (BitVec.ofNat 8 syn)

/-- A full write: always succeeds and leaves a clean word (R423). -/
def State.memPut (s : State) (m w v : Nat) : State := s.memPutSyn m w v 0

/-- The outcomes of a read (R419). -/
inductive Ecc where
  | clean | ce | poison | ue
deriving DecidableEq, Repr

/-- The number of set bits of a byte. -/
def popcount8 (v : Nat) : Nat :=
  (if v.testBit 0 then 1 else 0) + (if v.testBit 1 then 1 else 0) + (if v.testBit 2 then 1 else 0) +
  (if v.testBit 3 then 1 else 0) + (if v.testBit 4 then 1 else 0) + (if v.testBit 5 then 1 else 0) +
  (if v.testBit 6 then 1 else 0) + (if v.testBit 7 then 1 else 0)

/-- The outcome that a syndrome gives (R419). -/
def eccOf (syn : Nat) : Ecc :=
  if syn = 0 then .clean
  else if popcount8 syn % 2 = 1 then .ce
  else if syn = 0x81 then .poison
  else .ue

/-- The outcome of reading a word. -/
def State.ecc (s : State) (m w : Nat) : Ecc := eccOf (s.memSyn m w)

/-- Whether an outcome is uncorrectable (R419). -/
def Ecc.bad : Ecc → Bool
  | .clean => false
  | .ce => false
  | .poison => true
  | .ue => true

/-- Every word of memory `m` poisoned (R420). -/
def State.poison (s : State) (m : Nat) : State :=
  { s with mem := Store.drop (fun a => decide (a / 0x1000000 = m)) s.mem }

/-- Every memory of channel `n` poisoned. -/
def State.poisonCh (s : State) (n : Ch) : State :=
  { s with mem := Store.drop (fun a => decide (a / 0x8000000 = n.val)) s.mem }

/-- Every memory poisoned (R83, R420). -/
def State.poisonAll (s : State) : State := { s with mem := [] }

/-- A field of a record that several words hold, little-endian, read from byte `b` on, `k` bytes long. -/
def State.memBytes (s : State) (m b : Nat) : Nat → Nat
  | 0 => 0
  | k + 1 => (s.cell (memAddr m (b / 8) + b % 8)).toNat + 256 * State.memBytes s m (b + 1) k

/-! ## Free values -/

/-- A fresh free value and the state that has drawn it (log entry 3). -/
def State.draw (s : State) : Nat × State := (Config.freeValue s.draws, { s with draws := s.draws + 1 })

/-! ## Requesters (R70) -/

def reqHost : Nat := 0
def reqObs : Nat := 1
def reqMiller : Nat := 2
def reqWright (n : Ch) : Nat := 3 + n.val
def reqHopper : Nat := 11
def reqScrub : Nat := 12
def reqDresser : Nat := 13
def reqTrial : Nat := 14
def reqTally : Nat := 15

/-- The privilege bit of a requester (R70). -/
def reqPriv (r : Nat) : Bool := r != 1

/-- Byte 24 of a log entry: the requester, its privilege and REQ_VALID (R459). -/
def reqByte (r : Nat) : Nat := r % 16 + (if reqPriv r then 16 else 0) + 32

end Sys2Proof.Machine
end

