-- ==== Sys2Proof/Machine/Count.lean ====
section
/-! DEFINITION. Counting events in the channel counter banks and in DEV.CNT (R389 to R394, R397 to R399): what a
selector admits, and the addition with its wrap. -/

namespace Sys2Proof.Machine

/-- An event that a counter may count (R390, R391): class, side (1 host, 2 line, 0 none), the instance or requester
bit, the amount it carries, and for a bus event its privilege and its location (R392). -/
structure CntEvent where
  cls : Nat
  side : Nat := 0
  inst : Nat := 0
  amount : Nat := 1
  bus : Bool := false
  priv : Bool := true
  loc : Nat := 0
deriving DecidableEq, Repr

/-- Whether the selector of counter `c` in a counter page admits an event (R390).  SIDE 0b00 and 0b11 admit either
side; a class without a side ignores SIDE. -/
def State.selects (s : State) (n : Ch) (pg c : Nat) (e : CntEvent) : Bool :=
  let sel := fun f : Nat → Field => s.get n ((f c).inPage pg)
  let side := sel CNT.SEL_SIDE
  let rmask := sel CNT.SEL_REQ_MASK
  let prv := sel CNT.SEL_PRIV
  let lo := sel CNT.RANGE_LO
  let hi := sel CNT.RANGE_HI
  sel CNT.SEL_CLASS == e.cls && e.cls != 0 &&
  (e.side == 0 || side == 0 || side == 3 || side == e.side) &&
  rmask.testBit e.inst &&
  (!e.bus || (prv.testBit (if e.priv then 1 else 0) && lo ≤ e.loc && e.loc ≤ hi))

/-- The sticky WRAP bit of counter `c` (R394), kept in WRAP_LO and WRAP_HI. -/
def wrapBit (pg c : Nat) : Field := ⟨pg, 0x800 + 4 * (c / 32), c % 32, 1⟩

/-- The address of counter `c`'s selector, the name under which a selector parity error is kept (R413). -/
def selAddr (n : Ch) (pg c : Nat) : Nat := ((CNT.SEL c).inPage pg).addr n

/-- Counter `c` plus an amount; a wrap sets WRAP and raises WRAP (R394). -/
def State.bump (s : State) (n : Ch) (pg c k : Nat) : State :=
  let lo := (CNT.CNT_LO c).inPage pg
  let s1 := s.add64 n lo k
  if s.get64 n lo + k < 2 ^ 64 then s1
  else ((s1.set n (wrapBit pg c) 1).set n (CNT.STATUS_WRAP_ANY.inPage pg) 1).irq n (CNT.IRQ_WRAP.inPage pg)

/-- The counters below `k` of a page take an event, those whose selector admits it and is not in parity error. -/
def State.countBelow (s : State) (n : Ch) (pg : Nat) (e : CntEvent) : Nat → State
  | 0 => s
  | k + 1 =>
    let s1 := s.countBelow n pg e k
    if s.selects n pg k e && !(s.dev.badRegs.contains (selAddr n pg k)) then s1.bump n pg k e.amount else s1

/-- The page base of CHn.CNT (channel 0) and of DEV.CNT. -/
def cntPage : Nat := 0x110000
def dcntPage : Nat := 0xC000

/-- Whether the bank of channel `n` counts (R398): powered, clocked, EN = 1, not in Trial. -/
def State.bankOn (s : State) (n : Ch) : Bool :=
  let st := s.chState n
  (st == 1 || st == 2 || st == 4) && !s.inTrial n && s.is n CNT.CTRL_EN

/-- An event of channel `n` counted in its bank. -/
def State.count (s : State) (n : Ch) (cls side inst : Nat) (amount : Nat := 1) : State :=
  if s.bankOn n then s.countBelow n cntPage { cls, side, inst, amount } 64 else s

/-- An event counted in the device bus counters (R399). -/
def State.dcount (s : State) (cls inst : Nat) (amount : Nat := 1) : State :=
  if s.dev.state = .off ∨ s.dev.state = .reset ∨ ¬ s.is 0 DCNT.CTRL_EN then s
  else s.countBelow 0 dcntPage { cls, inst, amount } 16

/-- The location of a register access: bits [23:12] of the address (R392). -/
def regLoc (a : Nat) : Nat := a / 0x1000 % 0x1000

/-- The location of a memory access: 0x8000 + MEM × 0x400 + offset[21:12] (R392). -/
def memLoc (code off : Nat) : Nat := 0x8000 + code * 0x400 + off / 0x1000 % 0x400

/-- A bus access counted where it is performed: in the channel's bank, when its target lies in a channel, and in the
device counters (R391 classes 0x10 to 0x12, R392, R399). -/
def State.countBus (s : State) (n? : Option Ch) (cls req loc : Nat) (amount : Nat := 1) : State :=
  let e : CntEvent := { cls, inst := req, amount, bus := true, priv := reqPriv req, loc }
  let s1 :=
    match n? with
    | some n => if s.bankOn n then s.countBelow n cntPage e 64 else s
    | none => s
  if s.dev.state = .off ∨ s.dev.state = .reset ∨ ¬ s.is 0 DCNT.CTRL_EN then s1
  else s1.countBelow 0 dcntPage e 16

end Sys2Proof.Machine
end

