-- ==== Sys2Proof/Machine/LvlCnt.lean ====
section
/-! DEFINITION. The count clock and the Hopper as far as conditions alone move them (R389, R398, R411). -/

namespace Sys2Proof.Machine

/-- The Hopper state of channel `n` rewritten. -/
def State.modHop (s : State) (n : Ch) (f : HopSt → HopSt) : State := s.modCh n fun c => { c with hop := f c.hop }

/-- CLK_CORE follows the mode and RUN; a switch marks the next record (R389, R407). -/
def State.clkLevel (s : State) (n : Ch) : State :=
  let v := if s.modeActive n && s.chRun n then 1 else 0
  if s.get n CNT.STATUS_CLK_CORE = v then s
  else (s.set n CNT.STATUS_CLK_CORE v).modHop n fun x => { x with fresh := true }

/-- In WATCH and in Trial the Hopper is suspended, its waiting triggers gone (R411). -/
def State.hopLevel (s : State) (n : Ch) : State :=
  if s.chState n == 3 || s.inTrial n then
    (s.set n HOP.STATUS_SUSPENDED 1).modHop n fun x => { x with fresh := true, trig := 0 }
  else s.set n HOP.STATUS_SUSPENDED 0

/-- The counter and Hopper pass. -/
def State.cntLevel (s : State) (n : Ch) : State := (s.clkLevel n).hopLevel n

end Sys2Proof.Machine
end

