-- ==== Sys2Proof/Machine/LvlLane.lean ====
section
/-! DEFINITION. The host lanes' conditions (R133 to R138, R479) and the holdover they decide (R20): what a lane does
when one of its conditions comes or goes.  Machine/Levels.lean calls `laneLevel` and `holdoverLevel`. -/

namespace Sys2Proof.Machine

/-- The hidden state of lane `l` of channel `n`. -/
def State.lane (s : State) (n : Ch) (l : Fin 2) : LaneSt := if l = 0 then (s.chan n).lane0 else (s.chan n).lane1

/-- The hidden state of a lane rewritten. -/
def State.modLane (s : State) (n : Ch) (l : Fin 2) (f : LaneSt → LaneSt) : State :=
  s.modCh n fun c => if l = 0 then { c with lane0 := f c.lane0 } else { c with lane1 := f c.lane1 }

/-- The state of a lane (R134). -/
def State.laneState (s : State) (n : Ch) (l : Fin 2) : Nat := s.get n (HL.STATUS_STATE l)

/-- STATUS.RATE of a lane under R133: 0 idle, 1 53.125, 2 106.25, 3 212.5 GBd. -/
def State.laneRate (s : State) (n : Ch) : Nat :=
  let m := s.get n TOP.STATUS_ACTIVE_MODE
  if m = 0 then 0 else if s.is n TOP.STATUS_ACTIVE_HOST_OPT then m - 1 else m

/-- The six taps c(-3) to c(2) as two register words, laid out as TX_FIR0 and TX_FIR1 (R156). -/
def firWords (c : List Int) : Nat × Nat :=
  let b := fun i => ofSigned 8 (c.getD i 0)
  (b 0 * 65536 + b 1 * 256 + b 2, b 5 * 65536 + b 4 * 256 + b 3)

/-- The six taps c(-3) to c(2) that two register words hold. -/
def firTaps (w0 w1 : Nat) : List Int :=
  let t := fun w k => toSigned 8 (w / 2 ^ k % 256)
  [t w0 16, t w0 8, t w0 0, t w1 0, t w1 8, t w1 16]

/-- The range of tap `i` (0 for c(-3) to 5 for c(2)), without and with the extension (R136). -/
def firRange (ext : Bool) (i : Nat) : Int × Int :=
  match i with
  | 0 => if ext then (-12, 4) else (-8, 0)
  | 1 => (0, 12)
  | 2 => (-24, 0)
  | 3 => (32, 64)
  | 4 => (-16, 0)
  | _ => if ext then (-8, 8) else (0, 0)

/-- The sum of magnitudes that R136 limits to 64. -/
def firSum (c : List Int) : Nat := (c.map Int.natAbs).sum

/-- Whether six taps meet R136. -/
def firOk (ext : Bool) (c : List Int) : Bool :=
  firSum c ≤ 64 &&
  (List.range 6).all fun i => decide ((firRange ext i).1 ≤ c.getD i 0) && decide (c.getD i 0 ≤ (firRange ext i).2)

/-- The presets of R138. -/
def firPreset (p : Nat) : List Int :=
  match p with
  | 2 => [0, 2, -10, 50, -2, 0]
  | 3 => [-2, 4, -14, 42, -2, 0]
  | 4 => [-4, 6, -16, 36, -2, 0]
  | _ => [0, 0, 0, 64, 0, 0]

/-- The active coefficients of a lane's transmitter. -/
def State.firActive (s : State) (n : Ch) (l : Fin 2) : List Int :=
  firTaps (s.get n (HL.TX_FIR_ACTIVE0 l)) (s.get n (HL.TX_FIR_ACTIVE1 l))

/-- The active coefficients set, both registers as one update (R137). -/
def State.setFirActive (s : State) (n : Ch) (l : Fin 2) (c : List Int) : State :=
  (s.set n (HL.TX_FIR_ACTIVE0 l) (firWords c).1).set n (HL.TX_FIR_ACTIVE1 l) (firWords c).2

/-- The staged coefficients TX_FIR0 and TX_FIR1. -/
def State.firStaged (s : State) (n : Ch) (l : Fin 2) : List Int :=
  firTaps (s.get n (HL.TX_FIR0 l)) (s.get n (HL.TX_FIR1 l))

/-- The staged coefficients loaded where they meet R136 for the extension state in force (R137). -/
def State.loadStagedFir (s : State) (n : Ch) (l : Fin 2) : State :=
  if firOk (s.is n (HL.STATUS_EXT_ACTIVE l)) (s.firStaged n l) then s.setFirActive n l (s.firStaged n l) else s

/-- Taps `i` to `23` of a lane's FFE set from a list of signed coefficients. -/
def State.setTaps (s : State) (n : Ch) (l : Fin 2) (i : Nat) : List Int → State
  | [] => s
  | c :: cs => if i < 24 then State.setTaps (s.setI n (HL.FFE_TAP_COEF l i) c) n l (i + 1) cs else s

/-- The FFE at its cursor tap 1.0, every other tap and the DFE at 0 (R150).  CURSOR has five bits for the taps 0 to 23: its
codes 24 to 31 act as 23 (R156 is silent; the model's choice, log entry 68). -/
def State.startTaps (s : State) (n : Ch) (l : Fin 2) : State :=
  let cur := min (s.lane n l).cursor 23
  (s.setTaps n l 0 ((List.range 24).map fun i => if i = cur then 256 else 0)).setI n (HL.DFE_TAP1 l) 0

/-- A departure from IDLE: CURSOR is applied (R156) and the transmitter starts from INIT_PRESET (R135). -/
def State.leaveIdle (s : State) (n : Ch) (l : Fin 2) : State :=
  if s.laneState n l = 0 then
    let s1 := s.modLane n l fun x => { x with cursor := s.get n (HL.FFE_CFG_CURSOR l) }
    s1.setFirActive n l (firPreset (s1.get n (HL.TRAIN_CFG_INIT_PRESET l)))
  else s

/-- The marks of a training and of lock cleared from STATUS. -/
def State.clearLock (s : State) (n : Ch) (l : Fin 2) : State :=
  (((s.set n (HL.STATUS_REMOTE_READY l) 0).set n (HL.STATUS_LOCAL_READY l) 0).set n
    (HL.STATUS_FRAME_LOCK l) 0).set n (HL.STATUS_CDR_LOCK l) 0

/-- An entry into SIG_WAIT: the TRAIN_EN in force is taken; with it 1 a training starts from INIT_PRESET and the CTLE
reset code, with it 0 the staged coefficients are loaded (R135, R137).  GUARD_HOLD outlives a departure from DATA, since R141
ends it by 4 clean windows alone, and its count of clean windows starts again (the model's choice, log entry 68). -/
def State.toSigWait (s : State) (n : Ch) (l : Fin 2) : State :=
  let te := s.is n (HL.CFG_TRAIN_EN l)
  let s0 := s.leaveIdle n l
  let s1 := ((s0.clearLock n l).set n (HL.STATUS_STATE l) 1).set n (HL.BUSY_LONG_OP l) 1
  let s2 := s1.modLane n l fun x => { trainEn := te, cursor := x.cursor }
  if te then
    let s3 := s2.setFirActive n l (firPreset (s2.get n (HL.TRAIN_CFG_INIT_PRESET l)))
    (s3.sat n (HL.COUNTS0_TRAIN_COUNT l)).count n 0x20 1 l
  else s2.loadStagedFir n l

/-- A lane returned to IDLE: its training state, CTLE setting, taps and active coefficients are discarded (R135); the
TRAIN_EN in force stays that of its last entry into SIG_WAIT (R137). -/
def State.toIdle (s : State) (n : Ch) (l : Fin 2) : State :=
  let s1 := ((s.clearLock n l).set n (HL.STATUS_STATE l) 0).set n (HL.BUSY_LONG_OP l) 0
  let s2 := (((s1.set n (HL.STATUS_EXT_ACTIVE l) 0).set n (HL.STATUS_POL_DETECTED l) 0).set n
    (HL.STATUS_SIG_DET l) 0).set n (HL.STATUS_GUARD_HOLD l) 0
  let s3 := (s2.setTaps n l 0 (List.replicate 24 0)).setI n (HL.DFE_TAP1 l) 0
  (s3.setFirActive n l (firPreset 3)).modLane n l fun x => { trainEn := x.trainEn }

/-- An entry into PATTERN: no training, taps as R150 starts them (R479); it leaves the TRAIN_EN in force as it is (R137). -/
def State.toPattern (s : State) (n : Ch) (l : Fin 2) : State :=
  let s0 := s.leaveIdle n l
  let s1 := (s0.clearLock n l).set n (HL.STATUS_STATE l) 6
  ((s1.set n (HL.BUSY_LONG_OP l) 0).startTaps n l).modLane n l fun x => { trainEn := x.trainEn, cursor := x.cursor }

/-- The conditions of R135 that hold for either lane whatever the host option. -/
def State.laneBase (s : State) (n : Ch) (l : Fin 2) : Bool :=
  s.modeActive n && s.chRun n && s.is n TOP.CTRL_EN && s.is n (HL.CTRL_EN l) && !s.is n (HL.FLT_LANE_FSM_PAR l)

/-- The conditions of R135: the lane is HL2n, or the host option is P. -/
def State.laneMay (s : State) (n : Ch) (l : Fin 2) : Bool :=
  s.laneBase n l && (l = 0 || s.is n TOP.STATUS_ACTIVE_HOST_OPT)

/-- Whether generator l or checker l + 3 takes the lane (R479). -/
def State.lanePattern (s : State) (n : Ch) (l : Fin 2) : Bool :=
  s.laneBase n l && (s.is n (PAT.U_CFG_EN l) || s.is n (PAT.U_CFG_EN (l + 3)))

/-- STATUS.RATE brought up to date (R133, R479). -/
def State.rateLevel (s : State) (n : Ch) (l : Fin 2) : State :=
  let on := l = 0 || s.is n TOP.STATUS_ACTIVE_HOST_OPT || s.laneState n l == 6
  s.set n (HL.STATUS_RATE l) (if on then s.laneRate n else 0)

/-- The moves of a lane that its conditions alone decide (R135, R479). -/
def State.laneLevel (s : State) (n : Ch) (l : Fin 2) : State :=
  let st := s.laneState n l
  State.rateLevel (
    if s.lanePattern n l then (if st = 6 then s else s.toPattern n l)
    else if s.laneMay n l then (if st = 0 ∨ st = 6 then s.toSigWait n l else s)
    else if st = 0 then s else s.toIdle n l) n l

/-- Whether HOST_IN can be phase-locked to a lane: in use, in DATA, and within the ±250 ppm that CORE_TX steers (R20). -/
def State.hostLaneOk (s : State) (n : Ch) (l : Fin 2) : Bool :=
  let ppm := s.getI n (HL.CDR_STATUS_PPM l)
  s.laneState n l == 4 && (l = 0 || s.is n TOP.STATUS_ACTIVE_HOST_OPT) && s.is n TOP.CLK_STATUS_CH_PLL_LOCK &&
    decide (-4000 ≤ ppm ∧ ppm ≤ 4000)

/-- Whether HOST_IN is phase-locked to every lane that carries traffic. -/
def State.hostInLocked (s : State) (n : Ch) : Bool :=
  s.is n TOP.STATUS_HOST_LOCK && (!s.is n TOP.STATUS_ACTIVE_HOST_OPT || s.is n TOP.STATUS_HOST_LOCK_P)

/-- HOST_IN loses its lock with its lane, and CORE_TX then enters holdover (R20, R151). -/
def State.holdoverLevel (s : State) (n : Ch) : State :=
  let s1 := if s.hostLaneOk n 0 then s else s.set n TOP.STATUS_HOST_LOCK 0
  let s2 := if s1.hostLaneOk n 1 then s1 else s1.set n TOP.STATUS_HOST_LOCK_P 0
  if s2.is n TOP.STATUS_HOLDOVER || s2.hostInLocked n then s2
  else ((s2.set n TOP.STATUS_HOLDOVER 1).set n TOP.CLK_STATUS_CORE_TX_LOCK 0).irq n TOP.IRQ_HOLDOVER_ENTER

end Sys2Proof.Machine
end

