-- ==== Sys2Proof/Machine/Wave.lean ====
section
/-! DEFINITION. The sine in fixed point, which the ramp envelope (R191) and the Millrace dither (R295, R298) need.  Angles and
values are in units of 2^-64; the series errs by far less than the 1/65,536 to which R191 quantises. -/

namespace Sys2Proof.Machine

/-- One, and π, in units of 2^-64. -/
def fixOne : Int := 18446744073709551616
def fixPi : Int := 57952155664616982739

/-- The terms of the sine series from x^(2k+1)/(2k+1)! = `t` on, `fuel` of them. -/
def sinSeries (x2 t : Int) (k : Int) : Nat → Int
  | 0 => 0
  | fuel + 1 => t - sinSeries x2 (t * x2 / fixOne / ((2 * k + 2) * (2 * k + 3))) (k + 1) fuel

/-- sin x for an angle of at most a quarter turn. -/
def sinFix (x : Int) : Int := sinSeries (x * x / fixOne) x 0 16

/-- sin of a phase of `p` × 2^-64 turns. -/
def sinTurns (p : Int) : Int :=
  let q := p % fixOne
  let h := q % (fixOne / 2)
  let a := 2 * fixPi * (if h ≤ fixOne / 4 then h else fixOne / 2 - h) / fixOne
  if q < fixOne / 2 then sinFix a else - sinFix a

/-- The raised cosine ½ (1 − cos(π t / T)), which is sin²(π t / 2T), for 0 ≤ t ≤ T. -/
def raisedCosine (t T : Nat) : Int :=
  let v := sinFix (fixPi * (t : Int) / (2 * (T : Int)))
  v * v / fixOne

/-- 10^(-k/80), the ratio of amplitudes of k quarter-decibels. -/
def tenPow80 : Nat → Int
  | 0 => fixOne
  | k + 1 => tenPow80 k * 17923372157605534504 / fixOne

end Sys2Proof.Machine
end

