-- ==== Sys2Proof/Machine/LvlLrx.lean ====
section
/-! DEFINITION. The line front end as far as conditions alone move it (R199 to R202, R204, R206, R208, R211, R217, R220). -/

namespace Sys2Proof.Machine

/-! ## Converters (R200 to R202) -/

/-- The number of sub-converter `k` of a bank. -/
def subConverter (bank k : Nat) : Nat := 128 * bank + k

/-- The bank and the sub-converter that sample `i` of a word comes from: in Tandem the banks in turn, in Shadow and LISTEN the
active bank. -/
def sampleFrom (tandem : Bool) (active i : Nat) : Nat × Nat := if tandem then (i % 2, i / 2) else (active, i)

/-- The PGA gain of a code in quarter-decibels, and the input full scale in nV differential peak: 300 mV × 10^(−G/20). -/
def pgaQuarters (code : Nat) : Int := (min code 96 : Nat) - 24
def inputFullScale (code : Nat) : Int := 598578694 * tenPow80 (min code 96) / fixOne

/-- The LRX state of channel `n` rewritten. -/
def State.modLrx (s : State) (n : Ch) (f : LrxSt → LrxSt) : State := s.modCh n fun c => { c with lrx := f c.lrx }

/-- GAIN_STATE (R204): 0 OFF, 1 WAIT, 2 ACQ, 3 FROZEN, 4 REACQ, 5 MANUAL, 6 LISTEN_HOLD. -/
def State.gainState (s : State) (n : Ch) : Nat := s.get n LRX.STATUS_GAIN_STATE

/-- SWAP_STATE (R215): 0 IDLE, 1 OFFLINE, 2 VERIFY, 3 WAIT_GUARD, 4 PRIME, 5 SETTLE. -/
def State.swapState (s : State) (n : Ch) : Nat := s.get n LRX.STATUS_SWAP_STATE

/-- CAP_STATUS.STATE (R220): 0 IDLE, 1 PRE, 2 WAIT, 3 POST, 4 DONE, 5 ABORTED, 6 EPOCH_FULL. -/
def State.capState (s : State) (n : Ch) : Nat := s.get n LRX.CAP_STATUS_STATE

/-- Whether a capture runs. -/
def State.capturing (s : State) (n : Ch) : Bool := decide (1 ≤ s.capState n ∧ s.capState n ≤ 3)

/-- A capture trigger of kind `k` (R220): it falls due when CAP_CFG.TRIG names it in PRE or WAIT. -/
def State.capTrig (s : State) (n : Ch) (k : Nat) : State :=
  if (s.capState n = 1 ∨ s.capState n = 2) ∧ s.get n LRX.CAP_CFG_TRIG = k then
    s.modLrx n fun x => { x with trig := true }
  else s

/-- A running capture ends in ABORTED or EPOCH_FULL; its record awaits its description (R220, R222). -/
def State.capStop (s : State) (n : Ch) (state : Nat) : State :=
  ((s.set n LRX.CAP_STATUS_STATE state).set n LRX.STATUS_CAP_BUSY 0).modLrx n fun x =>
    { x with due := true, trig := false }

/-- The samples that the source of a capture delivers in a tick of 1.6 ns (R199, R219). -/
def State.capRate (s : State) (n : Ch) : Nat :=
  match s.get n TOP.STATUS_ACTIVE_MODE with
  | 3 => if s.get n LRX.CAP_CFG_SRC = 1 ∨ s.get n LRX.CAP_CFG_SRC = 2 then 192 else 384
  | 2 => 192
  | _ => 96

/-- The source samples that the oldest sample of a capture lies behind the present one, or in POST behind the trigger: those
of the whole ring, or those before the trigger, each standing for 2^DECIM (R219, R220). -/
def State.capBack (s : State) (n : Ch) : Nat :=
  (if s.capState n = 3 then (s.chan n).lrx.pre else 262144) * 2 ^ s.get n LRX.CAP_CFG_DECIM

/-- Whether an epoch began at or before the oldest sample that the capture holds. -/
def State.capOld (s : State) (n : Ch) (e : CapEpoch) : Bool :=
  let at_ := if s.capState n = 3 then (s.chan n).lrx.trigAt else s.dev.ticks
  decide (e.tick ≤ at_) && decide (s.capBack n ≤ (at_ - e.tick) * s.capRate n)

/-- The epochs that still tag a stored sample: one is retired once the next began at or before the oldest sample. -/
def retire (old : CapEpoch → Bool) : List CapEpoch → List CapEpoch
  | a :: b :: l => if old b then retire old (b :: l) else a :: b :: l
  | l => l

/-- The state as an epoch of a capture records it. -/
def State.epochNow (s : State) (n : Ch) (swap : Bool) : CapEpoch :=
  ⟨swap, s.get n LRX.STATUS_ACTIVE_BANK, s.get n LRX.GAIN_CODE, s.get n LRX.STATUS_GAIN_EPOCH, s.dev.ticks⟩

/-- A new epoch of a running capture (R222): the entries whose samples the ring has overwritten are retired; in PRE and WAIT a
table that is still full drops its oldest entry, in POST the capture stops before the epoch. -/
def State.capEpoch (s : State) (n : Ch) (swap : Bool) : State :=
  if s.capturing n then
    let kept := retire (s.capOld n) (s.chan n).lrx.epochs
    let e := s.epochNow n swap
    if kept.length < 64 then s.modLrx n fun x => { x with epochs := kept ++ [e] }
    else if s.capState n = 3 then (s.capStop n 6).irq n LRX.IRQ_EPOCH_FULL
    else s.modLrx n fun x => { x with epochs := kept.tail ++ [e], dropped := true }
  else s

/-- A gain change discards the measurement window of the line ADC that it meets, the time until the window restarts being
deferred (R280, R282). -/
def State.windowSpoilt (s : State) (n : Ch) : State :=
  let x := (s.chan n).dress
  let st := s.get n DRESS.STATUS_STATE
  if (st = 2 ∨ (st = 5 ∧ x.dynamic = true)) ∧ x.scopes.head? = some 0 then
    s.modCh n fun c => { c with dress := { c.dress with waited := true } }
  else s

/-- A gain code applied (R202): codes above 96 act as 96; a change counts in GAIN_EPOCH. -/
def State.gainTo (s : State) (n : Ch) (code : Nat) : State :=
  let c := min code 96
  if s.get n LRX.GAIN_CODE = c then s
  else
    let s1 := (s.set n LRX.GAIN_CODE c).incr n LRX.STATUS_GAIN_EPOCH
    (((s1.modLrx n fun x => { x with skip := true }).capTrig n 5).capEpoch n false).windowSpoilt n

/-- SIG_DET rises: LOS_n released, SIG_DETECT (R206). -/
def State.sigRise (s : State) (n : Ch) : State :=
  if s.is n LRX.STATUS_SIG_DET then s
  else (((s.set n LRX.STATUS_SIG_DET 1).set n LRX.STATUS_LOS 0).irq n LRX.IRQ_SIG_DETECT).capTrig n 1

/-- SIG_DET at 0 and LOS_n asserted, without the records of a loss. -/
def State.sigOff (s : State) (n : Ch) : State :=
  if s.is n LRX.STATUS_SIG_DET then ((s.set n LRX.STATUS_SIG_DET 0).set n LRX.STATUS_LOS 1).capTrig n 2 else s

/-- LONG_OP of the page: a swap from VERIFY to SETTLE, the self-test, REACQ (R225). -/
def State.lrxBusy (s : State) (n : Ch) : State :=
  s.set n LRX.BUSY_LONG_OP
    (if 2 ≤ s.swapState n ∨ (s.chan n).lrx.testing = true ∨ s.gainState n = 4 then 1 else 0)

/-- The controller enters ACQ from its starting code (R205). -/
def State.gainAcq (s : State) (n : Ch) : State :=
  let code :=
    if s.get n LRX.GAIN_CFG_MODE = 2 then s.get n LRX.GAIN_CFG_MAN_CODE
    else if (s.chan n).lrx.frozenOnce then s.get n LRX.GAIN_FROZEN_CODE
    else s.get n LRX.GAIN_CFG_INIT_CODE
  (((s.set n LRX.STATUS_GAIN_STATE 2).set n LRX.STATUS_GAIN_RAIL 0).modLrx n fun x => { x with good := 0 }).gainTo n code

/-- WAIT, or ACQ at once while SD_RAW = 1 (R204, R208). -/
def State.gainWait (s : State) (n : Ch) : State :=
  if s.is n LRX.STATUS_SD_RAW then s.gainAcq n else s.set n LRX.STATUS_GAIN_STATE 1

/-- MANUAL or LISTEN_HOLD at a code: SIG_DET follows SD_RAW upwards. -/
def State.gainFixed (s : State) (n : Ch) (state code : Nat) : State :=
  let s1 := (s.set n LRX.STATUS_GAIN_STATE state).gainTo n code
  if s1.is n LRX.STATUS_SD_RAW then s1.sigRise n else s1

/-- Whether the front end is powered for RUN or for LISTEN (R199). -/
def State.lrxRun (s : State) (n : Ch) : Bool := s.chRun n && s.modeActive n && s.is n LRX.CTRL_EN
def State.listens (s : State) (n : Ch) : Bool := s.chState n == 2 && s.chPhase n == 0
def State.lrxListen (s : State) (n : Ch) : Bool := s.listens n && s.is n LRX.CTRL_EN

/-- The level of the LOS_n pin (R206): asserted while SIG_DET = 0, high when LOS_POL = 0 and low when it is 1. -/
def State.losLevel (s : State) (n : Ch) : Bool := s.is n LRX.STATUS_SIG_DET == s.is n LRX.SD_CFG_LOS_POL

/-- The controller unpowered: OFF, without the records of a signal loss (R204, R206). -/
def State.gainOff (s : State) (n : Ch) : State :=
  if s.gainState n = 0 then s
  else ((s.set n LRX.STATUS_GAIN_STATE 0).set n LRX.STATUS_SD_RAW 0).sigOff n

/-- Whether LRX_FSM_PAR holds the gain controller, until its clearing lets it go on (R224). -/
def State.gainHeld (s : State) (n : Ch) : Bool := s.is n LRX.FLT_LRX_FSM_PAR || (s.chan n).lrx.parHeld

/-- The gain controller's moves (R204, R208); while LRX_FSM_PAR holds it, it takes none (R224). -/
def State.gainLevel (s : State) (n : Ch) : State :=
  let st := s.gainState n
  if ! s.lrxRun n && ! s.lrxListen n then s.gainOff n
  else if s.gainHeld n then s
  else if s.lrxListen n then (if st = 6 then s else s.gainFixed n 6 (s.get n LRX.GAIN_CFG_LISTEN_CODE))
  else if st = 0 ∨ st = 6 then
    if s.get n LRX.GAIN_CFG_MODE = 1 then s.gainFixed n 5 (s.get n LRX.GAIN_CFG_MAN_CODE) else s.gainWait n
  else s

/-- A swap or an offline trim ends with SWAP_ABORTED and a reason (R217): SETTLE only ends. -/
def State.swapEnd (s : State) (n : Ch) (reason : Nat) : State :=
  let st := s.swapState n
  if st = 0 then s
  else
    let s1 := (s.set n LRX.STATUS_SWAP_STATE 0).modLrx n fun x => { x with left := 0 }
    if st = 5 then s1
    else ((s1.set n LRX.SWAP_INFO_REASON reason).sat n LRX.SWAP_FAILS_ABORTED).irq n LRX.IRQ_SWAP_ABORTED

/-- The conditions of R217 with their reasons, the cause of a parity error's channel-safe request before the request; a mode
GO ends the mode, and a channel reset returns the block whole. -/
def State.stopConds (s : State) (n : Ch) : List (Bool × Nat) :=
  [(!s.is n LRX.BANK_CFG_SHADOW_EN, 2), (s.is n LRX.FLT_LRX_FSM_PAR, 8), (!s.chRun n, 5), (!s.is n TOP.CTRL_EN, 5),
   (!s.is n LRX.CTRL_EN, 5), (!s.modeActive n, 6), (s.is n FLT.STATUS_SAFE, 7)]

/-- A list of flags as a number, the first its lowest bit. -/
def flagsNat : List Bool → Nat
  | [] => 0
  | b :: l => (if b then 1 else 0) + 2 * flagsNat l

/-- The reasons of the conditions that have arisen since a pass that saw `seen`, numbered from `i`: R217 names events, so a
condition that already held when a swap or a capture began ends nothing. -/
def risen (seen i : Nat) : List (Bool × Nat) → List Nat
  | [] => []
  | (b, r) :: l => if b && !seen.testBit i then r :: risen seen (i + 1) l else risen seen (i + 1) l

/-- BANK_MODE, SHADOW_PWR and the Tandem estimates that Shadow and LISTEN read as 0 (R199, R210, R211): Single in LISTEN, and
none wherever the front end is off for want of RUN or of a mode. -/
def State.bankLevel (s : State) (n : Ch) : State :=
  let mode := if s.listens n then 3 else if ! (s.chRun n && s.modeActive n) then 0
    else if s.get n TOP.STATUS_ACTIVE_MODE = 3 then 1 else 2
  let pwr := mode == 2 && s.lrxRun n && s.is n LRX.BANK_CFG_SHADOW_EN
  let s1 := (s.set n LRX.STATUS_BANK_MODE mode).set n LRX.STATUS_SHADOW_PWR (if pwr then 1 else 0)
  let s2 := if mode = 1 then s1 else s1.set n LRX.TANDEM_EST 0
  if pwr then s2 else s2.modLrx n fun x => { x with testing := false, failRun := 0, skip := false }

/-- The LRX pass. -/
def State.lrxLevel (s : State) (n : Ch) : State :=
  let s0 := (s.gainLevel n).bankLevel n
  let conds := s0.stopConds n
  let ends := risen (s0.chan n).lrx.seen 0 conds
  let s1 := s0.modLrx n fun x => { x with seen := flagsNat (conds.map Prod.fst) }
  let s2 := if ends = [] then s1 else s1.swapEnd n (ends.headD 0)
  let s3 := if s2.swapState n = 3 ∧ s2.is n EQ.STATUS_GUARD_HOLD = false then s2.set n LRX.STATUS_SWAP_STATE 4 else s2
  let s4 := if s3.capturing n && ends.any fun r => r != 2 then s3.capStop n 5 else s3
  s4.lrxBusy n

end Sys2Proof.Machine
end

