-- ==== Sys2Proof/Machine/LvlLtx.lean ====
section
/-! DEFINITION. The line transmitter's request and the moves it decides (R181, R190 to R195). -/

namespace Sys2Proof.Machine

/-- The LTX state of channel `n` rewritten. -/
def State.modLtx (s : State) (n : Ch) (f : LtxSt → LtxSt) : State := s.modCh n fun c => { c with ltx := f c.ltx }

/-- STATUS.STATE of LTX: 0 OFF, 1 LEAD, 2 RAMP_UP, 3 ON, 4 RAMP_DOWN, 5 LAG (R190). -/
def State.ltxState (s : State) (n : Ch) : Nat := s.get n LTX.STATUS_STATE

/-- Whether the channel is in LISTEN with no transition. -/
def State.listening (s : State) (n : Ch) : Bool := s.chState n == 2 && s.chPhase n == 0

/-- Whether LTX is requested on (R190, R195). -/
def State.ltxWanted (s : State) (n : Ch) : Bool :=
  ((s.modeActive n && s.chRun n && s.is n TOP.CTRL_EN) || (s.listening n && s.is n LTX.CFG_LISTEN_TX)) &&
  s.is n LTX.CTRL_EN && !s.is n LTX.CTRL_FORCE_DIS && !s.is n FLT.STATUS_SAFE

/-- What OFF applies: PRECODE, TX_POL, DAC_FS and TXDIS_POL (R181, R194). -/
def State.ltxApplyOff (s : State) (n : Ch) : State :=
  let fs := s.get n LTX.CFG_DAC_FS
  let s1 := (s.set n LTX.STATUS_FS_ACTIVE1 (fs / 2)).set n LTX.STATUS_FS_ACTIVE0 fs
  let s2 := (s1.set n LTX.STATUS_POL_ACTIVE (s.get n LTX.CFG_TX_POL)).set n LTX.STATUS_PRECODE_ACTIVE
    (s.get n LTX.CFG_PRECODE)
  s2.modLtx n fun x => { x with pol := s.is n LTX.CFG_TXDIS_POL }

/-- Entry into OFF: OFF_REACHED (R190), with the settings that only OFF applies. -/
def State.ltxOff (s : State) (n : Ch) : State :=
  (((s.set n LTX.STATUS_STATE 0).set n LTX.ENVELOPE_G 0).irq n LTX.IRQ_OFF_REACHED).ltxApplyOff n

/-- Entry into LEAD: the precoder starts from P = 0 (R180, R190). -/
def State.ltxLead (s : State) (n : Ch) : State :=
  ((s.ltxApplyOff n).set n LTX.STATUS_STATE 1).modLtx n fun x => { x with pre := 0, rampAt := s.dev.ticks }

/-- The ticks of a ramp of TX_RAMP in force: (TX_RAMP + 1) µs of 625 ticks (R191). -/
def State.rampTicks (s : State) (n : Ch) : Nat := 625 * (s.get n LTX.RAMP_TX_RAMP + 1)

/-- The place of the running ramp along its shape, in ticks (R191, R192). -/
def State.rampPos (s : State) (n : Ch) : Nat :=
  let x := (s.chan n).ltx
  let t := s.dev.ticks - x.rampAt
  if s.ltxState n = 4 then x.rampFrom - t else min x.rampLen t

/-- The envelope at a place of a ramp, in 1/65,536, rounded down as the worked example of ch. 07 shows (R191; log
entry 70).  The raised cosine is computed to 2⁻⁶⁴; 2⁻⁴⁰ is added so that its exact values (0.5 at the middle) are not
lost to that computation's own error. -/
def rampG (cos : Bool) (pos len : Nat) : Nat :=
  if len = 0 then 0
  else if cos then ((raisedCosine pos len + 16777216) / 281474976710656).toNat
  else 65536 * pos / len

/-- The envelope g in 1/65,536 (R190, R191). -/
def State.envelope (s : State) (n : Ch) : Nat :=
  match s.ltxState n with
  | 2 => rampG (s.chan n).ltx.rampCos (s.rampPos n) (s.chan n).ltx.rampLen
  | 3 => 65536
  | 4 => rampG (s.chan n).ltx.rampCos (s.rampPos n) (s.chan n).ltx.rampLen
  | _ => 0

/-- A ramp down from ON, with the length and the shape now set (R190, R191). -/
def State.ltxDown (s : State) (n : Ch) : State :=
  (s.set n LTX.STATUS_STATE 4).modLtx n fun x =>
    { x with rampAt := s.dev.ticks, rampLen := s.rampTicks n, rampCos := s.is n LTX.CFG_RAMP_SHAPE, rampFrom := s.rampTicks n }

/-- A ramp up reversed: down from the present g along the same shape, in the time already spent (R192). -/
def State.ltxReverse (s : State) (n : Ch) : State :=
  (s.set n LTX.STATUS_STATE 4).modLtx n fun x => { x with rampAt := s.dev.ticks, rampFrom := s.rampPos n }

/-- LEAD ended by its request: OFF at once (R192); on and off within one core cycle, which is here within one tick, nothing has
happened (log entry 70). -/
def State.ltxUnlead (s : State) (n : Ch) : State :=
  if (s.chan n).ltx.rampAt = s.dev.ticks then s.set n LTX.STATUS_STATE 0 else s.ltxOff n

/-- Whether the Millrace's dither is summed: with DITHER_EN in ON, and for a frame that RAMP_DOWN carries down (R189). -/
def State.ditherOn (s : State) (n : Ch) : Bool :=
  s.is n LTX.CFG_DITHER_EN && (s.ltxState n == 3 || (s.ltxState n == 4 && (s.chan n).mr.air.isSome))

/-- An abrupt stop (R193): in OFF it changes and records nothing. -/
def State.abruptStop (s : State) (n : Ch) : State :=
  if s.ltxState n = 0 then s
  else
    (((s.ltxOff n).set n LTX.STATUS_ABRUPT 1).irq n LTX.IRQ_ABRUPT_STOP).sat n LTX.COUNTS_ABRUPT

/-- What a change of the request does in each state (R190, R192), and the STATUS bits that follow conditions. -/
def State.ltxLevel (s : State) (n : Ch) : State :=
  let on := s.ltxWanted n
  let s1 := s.set n LTX.STATUS_SAFE (s.get n FLT.STATUS_SAFE)
  let s2 :=
    match s.ltxState n with
    | 0 => if on then s1.ltxLead n else s1.ltxApplyOff n
    | 1 => if on then s1 else s1.ltxUnlead n
    | 2 => if on then s1 else s1.ltxReverse n
    | 3 => if on then s1 else s1.ltxDown n
    | _ => s1
  s2.set n LTX.STATUS_DITHER_ACTIVE (if s2.ditherOn n then 1 else 0)

/-- The level LTX drives on TXDIS_n: high when it is the disable level of the polarity in force in OFF, or the enable
level otherwise (R190, R194). -/
def State.txdisLevel (s : State) (n : Ch) : Bool := (s.ltxState n == 0) != (s.chan n).ltx.pol

end Sys2Proof.Machine
end

