-- ==== Sys2Proof/Machine/LvlRx.lean ====
section
/-! DEFINITION. The timing loop, the equaliser and the Bolter as far as conditions alone move them (R227, R232 to R239,
R242 to R247, R257, R261). -/

namespace Sys2Proof.Machine

/-- The TIM, EQ and Bolter states of channel `n` rewritten. -/
def State.modTim (s : State) (n : Ch) (f : TimSt → TimSt) : State := s.modCh n fun c => { c with tim := f c.tim }
def State.modEq (s : State) (n : Ch) (f : EqSt → EqSt) : State := s.modCh n fun c => { c with eq := f c.eq }
def State.modBolt (s : State) (n : Ch) (f : BoltSt → BoltSt) : State := s.modCh n fun c => { c with bolt := f c.bolt }

/-- LOOP_STATE (R233): 0 OFF, 1 ACQ, 2 TRACK, 3 GUARD, 4 HOLD. -/
def State.loopState (s : State) (n : Ch) : Nat := s.get n TIM.STATUS_LOOP_STATE

/-- EQ_STATE (R242): 0 OFF, 1 WAIT, 2 ACQ, 3 TRACK, 4 HELD. -/
def State.eqState (s : State) (n : Ch) : Nat := s.get n EQ.STATUS_EQ_STATE

/-- The Bolter's state (R257): 0 OFF, 1 HUNT, 2 CONFIRM, 3 LOCKED. -/
def State.boltState (s : State) (n : Ch) : Nat := s.get n BOLT.STATUS_STATE

/-- SIG_DET of the line. -/
def State.lineSig (s : State) (n : Ch) : Bool := s.is n LRX.STATUS_SIG_DET

/-! ## Timing loop -/

/-- The conditions of R234, and no parity error that forces the loop to OFF (R251). -/
def State.loopMay (s : State) (n : Ch) : Bool :=
  s.modeActive n && s.chRun n && s.is n TOP.CTRL_EN && s.is n TIM.CTRL_EN &&
  s.get n LRX.STATUS_GAIN_STATE != 0 && s.get n LRX.STATUS_GAIN_STATE != 6 && !s.is n TIM.FLT_TIM_FSM_PAR

/-- A bandwidth code as the mode limits it (R232). -/
def State.bwCode (s : State) (n : Ch) (c : Nat) : Nat := if s.get n TOP.STATUS_ACTIVE_MODE = 1 then min c 7 else c

/-- BW_ACTIVE in the present loop state (R232, R233). -/
def State.loopBw (s : State) (n : Ch) : Nat :=
  let bw := s.get n TIM.LOOP_CFG_BW
  match s.loopState n with
  | 1 => s.bwCode n (s.get n TIM.LOOP_CFG_ACQ_BW)
  | 2 => s.bwCode n bw
  | 3 => s.bwCode n (min (s.get n TIM.LOOP_CFG_GUARD_BW) bw)
  | _ => 0

/-- TIM_LOCK at 0, and with it CORE_RX_LOCK (R235). -/
def State.timUnlock (s : State) (n : Ch) : State :=
  (s.set n TIM.STATUS_TIM_LOCK 0).set n TOP.CLK_STATUS_CORE_RX_LOCK 0

/-- An entry into ACQ (R233). -/
def State.loopAcq (s : State) (n : Ch) : State :=
  (((s.timUnlock n).set n TIM.STATUS_LOOP_STATE 1).sat n TIM.COUNTS_ACQ).modTim n fun x => { x with badRun := 0 }

/-- The loop at OFF: F, the phase and TIM_LOCK are discarded (R234). -/
def State.loopOff (s : State) (n : Ch) : State :=
  ((((s.timUnlock n).set n TIM.STATUS_LOOP_STATE 0).set n TIM.FREQ 0).set n TIM.STATUS_RANGE_CLAMP 0).modTim n
    fun _ => {}

/-- FIXED_DELAY_PS (R227). -/
def State.fixedDelay (s : State) (n : Ch) : Nat :=
  if s.modeActive n then
    match s.get n TOP.STATUS_ACTIVE_MODE with
    | 3 => 46
    | 2 => 92
    | 1 => 183
    | _ => 0
  else 0

/-- A deskew written while no mode is active is in force at once; a fine value that differs from the rotator's position
slews (R237). -/
def State.deskewLevel (s : State) (n : Ch) : State :=
  if s.modeActive n then
    let b := if s.get n TIM.DESKEW_FINE = s.get n TIM.DESKEW_ACTIVE_FINE then 0 else 1
    (s.set n TIM.STATUS_FINE_SLEWING b).set n TIM.BUSY_LONG_OP b
  else
    let s1 := (s.set n TIM.DESKEW_ACTIVE_FINE (s.get n TIM.DESKEW_FINE)).set n TIM.DESKEW_ACTIVE_COARSE
      (s.get n TIM.DESKEW_COARSE)
    (s1.set n TIM.STATUS_FINE_SLEWING 0).set n TIM.BUSY_LONG_OP 0

/-- The loop's moves on SIG_DET and its conditions (R233, R234). -/
def State.loopLevel (s : State) (n : Ch) : State :=
  let st := s.loopState n
  if ! s.loopMay n then (if st = 0 then s else s.loopOff n)
  else if s.lineSig n then (if st = 0 ∨ st = 4 then s.loopAcq n else s)
  else if st = 0 ∨ st = 4 then s
  else (s.timUnlock n).set n TIM.STATUS_LOOP_STATE 4

/-- The loop's moves on GUARD_HOLD, and BW_ACTIVE (R232, R233). -/
def State.loopGuard (s : State) (n : Ch) : State :=
  let hold := s.is n EQ.STATUS_GUARD_HOLD
  let s1 :=
    match s.loopState n with
    | 2 => if hold then s.set n TIM.STATUS_LOOP_STATE 3 else s
    | 3 => if hold then s else s.set n TIM.STATUS_LOOP_STATE 2
    | _ => s
  s1.set n TIM.STATUS_BW_ACTIVE (s1.loopBw n)

/-! ## Equaliser -/

/-- The signed register unit of the fine taps. -/
def tapUnit : Int := 1048576

/-- A fine value moved by `sign` × 2^-step of its full scale with its leak of 2^-(step + 6), held in a range; the flag
says that it met the range's end (R141, R240). -/
def lmsMove (full lo hi : Int) (step : Nat) (sign v : Int) : Int × Bool :=
  let w := v + sign.sign * (full / 2 ^ step) - v.tdiv (2 ^ (step + 6))
  (clampI lo hi w, decide (w < lo ∨ hi < w))

/-- FFE taps `i` to `40` written to their registers from the fine values. -/
def State.putFfe (s : State) (n : Ch) (i : Nat) : List Int → State
  | [] => s
  | v :: vs => State.putFfe (s.setI n (EQ.FFE_TAP_COEF i) (v / tapUnit)) n (i + 1) vs

/-- The tap registers brought up to the fine values. -/
def State.putTaps (s : State) (n : Ch) : State :=
  let x := (s.chan n).eq
  let s1 := s.putFfe n 0 x.taps
  (s1.setI n EQ.DFE_TAP1 (x.dfe.getD 0 0 / tapUnit)).setI n EQ.DFE_TAP2 (x.dfe.getD 1 0 / tapUnit)

/-- The cursor-only taps at a cursor position, in fine units (R238). -/
def cursorTaps (cur : Nat) : List Int := (List.range 41).map fun i => if i = cur then 512 * tapUnit else 0

/-- The levels -3, -1, +1, +3 in fine units of the outer level. -/
def startLevels : List Int := [-268435456, -89478485, 89478485, 268435456]

/-- Taps, DFE and levels as OFF resets them, at the cursor in force (R242). -/
def State.eqTapsReset (s : State) (n : Ch) : State :=
  (s.modEq n fun x => { x with taps := cursorTaps x.cursor, dfe := [0, 0], mu := startLevels }).putTaps n

/-- The ticks that the guard has held adaptation, the present hold with them (R244). -/
def State.heldTicks (s : State) (n : Ch) : Nat :=
  (s.chan n).eq.held + if s.is n EQ.STATUS_GUARD_HOLD then s.dev.ticks - (s.chan n).eq.holdAt else 0

/-- A hold ends without GUARD_RELEASE (R247). -/
def State.holdDrop (s : State) (n : Ch) : State :=
  (s.set n EQ.STATUS_GUARD_HOLD 0).modEq n fun x => { x with passes := 0, held := s.heldTicks n, longSeen := false }

/-- An eye run ends in ABORTED (R250). -/
def State.eyeAbort (s : State) (n : Ch) : State :=
  if s.is n EQ.BUSY_LONG_OP then (s.set n EQ.EYE_STATUS_STATE 4).set n EQ.BUSY_LONG_OP 0 else s

/-- A state of EQ other than TRACK is entered: any hold and any eye run end (R246, R247, R250).  From the first ACQ on the quick
equaliser has taps to copy (R231). -/
def State.eqEnter (s : State) (n : Ch) (st : Nat) : State :=
  let s1 := (((s.holdDrop n).eyeAbort n).set n EQ.STATUS_EQ_STATE st).modEq n fun x => { x with windows := 0, lowRun := 0 }
  if st = 2 then s1.modTim n fun x => { x with acqSeen := true } else s1

/-- What OFF applies: CURSOR and PRECODE (R238, R239). -/
def State.eqApplyOff (s : State) (n : Ch) : State :=
  let cur := min 40 (s.get n EQ.CFG_CURSOR)
  let s1 := s.set n EQ.STATUS_PRECODE_ACTIVE (s.get n EQ.CFG_PRECODE)
  if (s1.chan n).eq.cursor = cur ∧ (s1.chan n).eq.taps ≠ [] then s1
  else (s1.modEq n fun x => { x with cursor := cur }).eqTapsReset n

/-- EQ at OFF: the taps reset (R242); a notice freeze runs on to its end (R241). -/
def State.eqOff (s : State) (n : Ch) : State :=
  ((s.eqEnter n 0).modEq n fun x => { x with taps := [] }).eqApplyOff n

/-- WAIT, or ACQ at once while TIM_LOCK = 1 (R242, R247). -/
def State.eqWait (s : State) (n : Ch) : State := s.eqEnter n (if s.is n TIM.STATUS_TIM_LOCK then 2 else 1)

/-- The moves of EQ on the loop, the signal and TIM_LOCK (R242): HELD only on a fall of SIG_DET, so that WAIT entered without
a signal stays. -/
def State.eqMoves (s : State) (n : Ch) : State :=
  let st := s.eqState n
  let sig := s.lineSig n
  let s1 :=
    if s.loopState n = 0 ∨ s.is n EQ.CTRL_EN = false ∨ s.is n EQ.FLT_EQ_FSM_PAR = true then
      (if st = 0 then s.eqApplyOff n else s.eqOff n)
    else if st = 0 then s.eqWait n
    else if st = 4 then (if sig then s.eqWait n else s)
    else if (s.chan n).eq.sig && !sig then s.eqEnter n 4
    else if s.is n TIM.STATUS_TIM_LOCK = decide (st ≠ 1) then s
    else s.eqWait n
  s1.modEq n fun x => { x with sig }

/-- A hold that GUARD_CFG.EN = 0 ends as a release (R244). -/
def State.guardLevel (s : State) (n : Ch) : State :=
  if s.is n EQ.STATUS_GUARD_HOLD && ! s.is n EQ.GUARD_CFG_EN then (s.holdDrop n).irq n EQ.IRQ_GUARD_RELEASE else s

/-- NOTICE_ACTIVE, ADAPT_FROZEN and DRESS_OK, and the DFE held at 0 without DFE_EN (R239, R241, R245, R246). -/
def State.eqStatus (s : State) (n : Ch) : State :=
  let b := fun (x : Bool) => if x then 1 else 0
  let st := s.eqState n
  let hold := s.is n EQ.STATUS_GUARD_HOLD
  let note := decide (0 < (s.chan n).eq.frozen)
  let frozen := ! s.is n EQ.CFG_ADAPT_EN || note || hold || st == 0 || st == 1 || st == 4
  let s1 := (s.set n EQ.STATUS_NOTICE_ACTIVE (b note)).set n EQ.STATUS_ADAPT_FROZEN (b frozen)
  let s2 := s1.set n EQ.STATUS_DRESS_OK (b (st == 3 && ! hold))
  if s.is n EQ.CFG_DFE_EN then s2
  else (s2.modEq n fun x => { x with dfe := [0, 0] }).set n EQ.DFE 0

/-! ## Bolter -/

/-- The Bolter leaves its state for OFF (0) or HUNT (1): lock, windows and BER_EST.VALID go with it (R257, R268). -/
def State.boltDrop (s : State) (n : Ch) (st : Nat) : State :=
  let s1 := (s.set n BOLT.STATUS_STATE st).set n BOLT.STATUS_BLOCK_LOCK 0
  let s2 := (s1.set n BOLT.BER_EST_VALID 0).set n BOLT.STATUS_BER_VALID 0
  s2.modBolt n fun x => { x with group := 0, confirms := 0, lossRun := 0, blocks := 0, corr := 0, unc := 0 }

/-- The Bolter's moves on EQ and its enable; EQ outside ACQ and TRACK makes CONFIRM start again (R257, R258, R261). -/
def State.boltLevel (s : State) (n : Ch) : State :=
  let st := s.boltState n
  if s.eqState n = 0 ∨ s.is n BOLT.CTRL_EN = false ∨ s.is n BOLT.FLT_BOLT_FSM_PAR = true then
    if st = 0 then s else (s.boltDrop n 0).set n BOLT.STATUS_OFFSET 0
  else if st = 0 then s.set n BOLT.STATUS_STATE 1
  else if st = 2 ∧ s.eqState n ≠ 2 ∧ s.eqState n ≠ 3 then s.modBolt n fun x => { x with confirms := 0 }
  else s

/-- The receive pass: loop, equaliser, Bolter. -/
def State.rxLevel (s : State) (n : Ch) : State :=
  let s1 := ((s.set n TIM.FIXED_DELAY_PS_PS (s.fixedDelay n)).deskewLevel n).loopLevel n
  let s2 := (((s1.eqMoves n).guardLevel n).loopGuard n).eqStatus n
  s2.boltLevel n

end Sys2Proof.Machine
end

