-- ==== Sys2Proof/Machine/LvlDress.lean ====
section
/-! DEFINITION. The Dresser's passes as far as conditions alone move them: starting, deferring, skipping, ending
(R279, R281, R284 to R288, R290 to R292). -/

namespace Sys2Proof.Machine

/-- The Dresser state of channel `n` rewritten. -/
def State.modDress (s : State) (n : Ch) (f : DressSt → DressSt) : State :=
  s.modCh n fun c => { c with dress := f c.dress }

/-- STATE (R294): 0 IDLE, 1 SEEDING, 2 MEASURE, 3 STEP, 4 DEFER, 5 OFFLINE, 6 SWAP. -/
def State.dressState (s : State) (n : Ch) : Nat := s.get n DRESS.STATUS_STATE

/-- Whether a pass runs. -/
def State.dressing (s : State) (n : Ch) : Bool := decide (2 ≤ s.dressState n)

/-- Whether the line ADC works as in Shadow. -/
def State.shadowMode (s : State) (n : Ch) : Bool := s.get n LRX.STATUS_BANK_MODE == 2

/-- The conditions of CMD.PASS, for a scope mask (R284). -/
def State.passMay (s : State) (n : Ch) (mask : Nat) : Bool :=
  s.is n DRESS.CTRL_EN && s.chRun n && s.modeActive n && mask != 0 && !s.is n DRESS.FLT_DRESS_FSM_PAR

/-- The lane that a trim of a host scope belongs to (R272). -/
def trimLane (i : Nat) : Fin 2 :=
  if i < 16896 then (if i < 12288 then 0 else 1) else if i < 17152 then 0 else 1

/-- Whether a host lane is skipped by a scope, and whether it defers it (R281). -/
def State.laneSkips (s : State) (n : Ch) (l : Fin 2) : Bool :=
  let st := s.laneState n l
  st == 0 || st == 5 || st == 6

/-- DEFER_CAUSE for the running scope, 0 while its condition holds (R281). -/
def State.deferCause (s : State) (n : Ch) : Nat :=
  let x := (s.chan n).dress
  match x.scopes.head? with
  | some 0 => if s.shadowMode n || s.is n EQ.STATUS_DRESS_OK then 0 else 1
  | some 2 => if s.ltxState n = 3 then 0 else 3
  | some _ =>
    let need := fun l : Fin 2 =>
      ! x.skip.contains l.val &&
        (match x.due.head? with
         | some (i, _) => trimLane i == l
         | none => true)
    if (need 0 && s.laneState n 0 != 4) || (need 1 && s.laneState n 1 != 4) then 2 else 0
  | none => 0

/-- The registers of a scope that begins to measure or to trim off line, and its hidden state. -/
def State.scopeStart (s : State) (n : Ch) (scope state : Nat) : State :=
  let s1 := (s.set n DRESS.STATUS_STATE state).set n DRESS.STATUS_SCOPE_ACTIVE (2 ^ scope)
  s1.modDress n fun x =>
    { x with round := 0, measured := 0, due := [], dynamic := false, limited := false, swapped := false }

/-- A running pass at rest: its registers, and what remains of its hidden state. -/
def State.passIdle (s : State) (n : Ch) : State :=
  let s1 := ((s.set n DRESS.STATUS_STATE 0).set n DRESS.STATUS_SCOPE_ACTIVE 0).set n DRESS.STATUS_DEFER_CAUSE 0
  (s1.set n DRESS.BUSY_LONG_OP 0).modDress n fun x => { x with scopes := [], due := [], aborting := false }

/-- PASS_RESULT and the figures of the last pass (R282, R294). -/
def State.passResult (s : State) (n : Ch) (status : Nat) : State :=
  let x := (s.chan n).dress
  let r := fun k : Nat => ((x.results.find? fun p => p.1 == k).map Prod.snd).getD 0
  let s1 := s.set n DRESS.PASS_RESULT
    (status * 2 ^ 28 + x.trigger * 2 ^ 24 + x.most * 2 ^ 16 + r 3 * 2 ^ 12 + r 2 * 2 ^ 8 + r 1 * 16 + r 0)
  (s1.setSat n DRESS.PASS_US (x.ps / 1000000)).set n DRESS.PASS_TRIMS_COUNT x.changed.length

/-- A pass ends complete: PASS_DONE, and REF where every AUTO_SCOPE bit was asked for (R285, R294). -/
def State.passDone (s : State) (n : Ch) : State :=
  let x := (s.chan n).dress
  let s1 := ((s.passResult n 1).irq n DRESS.IRQ_PASS_DONE).sat n DRESS.PASS_COUNT_DONE
  let s2 := s1.set n DRESS.LAST_DONE_SEC s.dev.time.sec
  let auto := s.get n DRESS.SCOPE_AUTO_SCOPE
  let s3 :=
    if x.asked &&& auto = auto then (s2.set n DRESS.TEMP_REF (s.get n DRESS.TEMP_NOW)).set n DRESS.STATUS_REF_VALID 1
    else s2
  s3.passIdle n

/-- A pass ends early with a status and the result of its running scope; a step in flight stays in flight (R292). -/
def State.passCut (s : State) (n : Ch) (status result : Nat) : State :=
  let sc := ((s.chan n).dress.scopes.head?).getD 0
  let s1 := s.modDress n fun x => { x with results := x.results ++ [(sc, result)] }
  let s2 := ((s1.passResult n status).sat n DRESS.PASS_COUNT_ABORTED).passIdle n
  if s2.swapState n = 1 then s2.set n LRX.STATUS_SWAP_STATE 0 else s2

/-- A pass aborted: ABORTED and PASS_ABORTED (R292). -/
def State.passAbort (s : State) (n : Ch) : State :=
  if s.dressing n then (s.passCut n 2 7).irq n DRESS.IRQ_PASS_ABORTED else s

/-- The next of the remaining scopes that has work begins; scopes without it end at once; with none left the pass is
done (R279, R281, R291). -/
def State.passNext (s : State) (n : Ch) : List Nat → State
  | [] => s.passDone n
  | k :: ks =>
    let skip := (if s.laneSkips n 0 then [0] else []) ++ (if s.laneSkips n 1 then [1] else [])
    let s1 := s.modDress n fun x => { x with scopes := k :: ks, skip }
    let ends := fun r : Nat => (s1.modDress n fun x => { x with results := x.results ++ [(k, r)] }).passNext n ks
    if k = 0 ∧ s.shadowMode n = true then
      if s.is n LRX.BANK_CFG_SHADOW_EN = false then ends 4
      else if s.swapState n = 0 then (s1.scopeStart n 0 5).set n LRX.STATUS_SWAP_STATE 1
      else s1.scopeStart n 0 2
    else if (k = 1 ∨ k = 3) ∧ skip.length = 2 then ends 3
    else s1.scopeStart n k 2

/-- The running scope ends with a result (R279). -/
def State.scopeEnd (s : State) (n : Ch) (result : Nat) : State :=
  let x := (s.chan n).dress
  (s.modDress n fun y => { y with results := y.results ++ [(x.scopes.headD 0, result)], due := [] }).passNext n
    x.scopes.tail

/-- A pass starts over the scopes of a mask (R279, R284, R288). -/
def State.passStart (s : State) (n : Ch) (mask trigger : Nat) : State :=
  let scopes := (List.range 4).filter fun k => mask.testBit k
  let s1 := (s.set n DRESS.BUSY_LONG_OP 1).irq n DRESS.IRQ_PASS_START
  let s2 := if trigger = 1 then s1 else s1.irq n DRESS.IRQ_AUTO_START
  let s3 := s2.modDress n fun x => { flight := x.flight, temps := x.temps, seen := x.seen, asked := mask, trigger }
  (s3.set n DRESS.DEFER_US 0).passNext n scopes

/-- A round has stepped the last of its trims: the next round measures, or the limit is met (R279). -/
def State.roundEnd (s : State) (n : Ch) : State :=
  let limit := max 1 (s.get n DRESS.CFG_MAX_ROUNDS)
  let k := (s.chan n).dress.round + 1
  let s1 := s.modDress n fun x => { x with round := k }
  if limit ≤ k then s1.scopeEnd n 2 else s1.set n DRESS.STATUS_STATE 2

/-- Whether the temperature trigger holds (R285). -/
def State.tempTrigger (s : State) (n : Ch) : Bool :=
  let d := clampN 4 256 (s.get n DRESS.TEMP_CFG_DELTA)
  s.is n DRESS.CTRL_AUTO_EN && s.is n DRESS.STATUS_REF_VALID && s.is n DRESS.STATUS_TEMP_VALID &&
    decide (d < (s.getI n DRESS.TEMP_NOW - s.getI n DRESS.TEMP_REF).natAbs) &&
    s.passMay n (s.get n DRESS.SCOPE_AUTO_SCOPE)

/-- Whether the first-pass trigger holds, but for its times (R286). -/
def State.firstTrigger (s : State) (n : Ch) : Bool :=
  let auto := s.get n DRESS.SCOPE_AUTO_SCOPE
  s.is n DRESS.CTRL_AUTO_EN && !s.is n DRESS.STATUS_REF_VALID && s.passMay n auto &&
    (!auto.testBit 0 || s.shadowMode n || s.is n EQ.STATUS_DRESS_OK)

/-- A trigger 2 or 3 that arises: a pass starts, or AUTO_PENDING while one runs (R285, R286, R288). -/
def State.autoTrigger (s : State) (n : Ch) (k : Nat) : State :=
  if s.dressing n then (s.set n DRESS.STATUS_AUTO_PENDING 1).modDress n fun x => { x with pend := k }
  else s.passStart n (s.get n DRESS.SCOPE_AUTO_SCOPE) k

/-- A held CMD.PASS of the page (R12). -/
def State.passHeld (s : State) (n : Ch) : Bool := s.dev.held.contains (DRESS.CMD.addr n, 0)

/-- AUTO_PENDING evaluated at rest, after a held CMD.PASS (R288, R292). -/
def State.autoPending (s : State) (n : Ch) : State :=
  if s.dressState n = 0 ∧ s.is n DRESS.STATUS_AUTO_PENDING = true ∧ s.passHeld n = false then
    let k := (s.chan n).dress.pend
    let s1 := s.set n DRESS.STATUS_AUTO_PENDING 0
    if (k = 2 ∧ s1.tempTrigger n = true) ∨ (k = 3 ∧ s1.firstTrigger n = true) then
      s1.passStart n (s1.get n DRESS.SCOPE_AUTO_SCOPE) k
    else s1
  else s

/-- The writes and requests of R292 that end a pass where they come, but not where they came before it started. -/
def State.passEnders (s : State) (n : Ch) : List (Bool × Nat) :=
  [(!s.is n TOP.CTRL_EN, 0), (s.is n FLT.STATUS_SAFE, 1)]

/-- Whether an event of R292 ends the pass, after a Dresser's pass over its conditions that saw `seen`. -/
def State.passMustEnd (s : State) (n : Ch) (seen : Nat) : Bool :=
  ! (s.chRun n && s.modeActive n) || !(risen seen 0 (s.passEnders n)).isEmpty

/-- Lanes that have to be skipped from now on (R281). -/
def State.passSkips (s : State) (n : Ch) : State :=
  let x := (s.chan n).dress
  match x.scopes.head? with
  | some k =>
    if k = 1 ∨ k = 3 then
      let add := fun l : Fin 2 => if s.laneSkips n l && !x.skip.contains l.val then [l.val] else []
      let skip := x.skip ++ add 0 ++ add 1
      if skip = x.skip then s
      else
        let due := x.due.filter fun d => !skip.contains (trimLane d.1).val
        let s1 := s.modDress n fun y => { y with skip, due }
        if skip.length = 2 then s1.scopeEnd n 3
        else if due = [] ∧ x.due ≠ [] ∧ x.flight = none then s1.roundEnd n
        else s1
    else s
  | none => s

/-- Deferring and resuming (R281, R292): a window is given up as soon as its condition fails, a step waits when it is
due. -/
def State.passDefer (s : State) (n : Ch) : State :=
  let c := s.deferCause n
  match s.dressState n with
  | 2 =>
    if (s.chan n).dress.scopes.head? = some 0 ∧ s.shadowMode n = true then
      if s.swapState n = 0 then (s.set n DRESS.STATUS_STATE 5).set n LRX.STATUS_SWAP_STATE 1 else s
    else if c = 0 then s
    else ((s.set n DRESS.STATUS_STATE 4).set n DRESS.STATUS_DEFER_CAUSE c).modDress n fun x => { x with waited := true }
  | 4 =>
    if c = 0 then
      (s.set n DRESS.STATUS_STATE (if (s.chan n).dress.due = [] then 2 else 3)).set n DRESS.STATUS_DEFER_CAUSE 0
    else s.set n DRESS.STATUS_DEFER_CAUSE c
  | _ => s

/-- What LRX makes of an offline trim and of the swap after it (R290, R291). -/
def State.passSwap (s : State) (n : Ch) : State :=
  let reason := s.get n LRX.SWAP_INFO_REASON
  let x := (s.chan n).dress
  match s.dressState n with
  | 5 => if s.swapState n = 1 then s else if reason = 2 then s.scopeEnd n 4 else s.passAbort n
  | 6 =>
    if s.swapState n = 5 then s.modDress n fun y => { y with swapped := true }
    else if s.swapState n ≠ 0 then s
    else if x.swapped then s.scopeEnd n (if x.limited then 2 else 1)
    else if reason = 8 then s.passAbort n
    else if reason = 4 ∨ reason = 2 then s.scopeEnd n 6
    else s.scopeEnd n 5
  | _ => s

/-- CMD.ABORT and EN = 0: the pass ends at once unless a step is in flight (R292). -/
def State.passStop (s : State) (n : Ch) : State :=
  if ! s.dressing n then s
  else if (s.chan n).dress.flight.isSome then s.modDress n fun x => { x with aborting := true }
  else s.passAbort n

/-- The Dresser's pass over its conditions; a parity error ends a pass without PASS_ABORTED (R292). -/
def State.dressLevel (s : State) (n : Ch) : State :=
  let s0 := s.modDress n fun x => { x with seen := flagsNat ((s.passEnders n).map Prod.fst) }
  let s1 :=
    if ! s0.dressing n then s0
    else if s0.is n DRESS.FLT_DRESS_FSM_PAR then s0.passCut n 2 7
    else if s0.passMustEnd n (s.chan n).dress.seen then s0.passAbort n
    else if ! s0.is n DRESS.CTRL_EN then s0.passStop n
    else ((s0.passSwap n).passSkips n).passDefer n
  s1.autoPending n

end Sys2Proof.Machine
end

