-- ==== Sys2Proof/Machine/LvlHfec.lean ====
section
/-! DEFINITION. The marker hunters and the Local Fault generators as far as conditions alone move them (R157 to R161,
R170 to R172). -/

namespace Sys2Proof.Machine

/-- The HFEC state of channel `n` rewritten. -/
def State.modHfec (s : State) (n : Ch) (f : HfecSt → HfecSt) : State := s.modCh n fun c => { c with hfec := f c.hfec }

/-- The hunters: 0 HL2n, 1 HL2n+1, 2 line. -/
def HfecSt.hunter (x : HfecSt) (h : Fin 3) : Hunter := if h = 0 then x.h0 else if h = 1 then x.h1 else x.line

/-- A hunter replaced. -/
def HfecSt.setHunter (x : HfecSt) (h : Fin 3) (v : Hunter) : HfecSt :=
  if h = 0 then { x with h0 := v } else if h = 1 then { x with h1 := v } else { x with line := v }

/-- Whether the MANUAL setting in force applies to a hunter (R163). -/
def HfecSt.manual (x : HfecSt) (h : Fin 3) : Bool := if h = 2 then x.manLine else x.manHost

/-- The width of a hunter's word: 512 bits on the host side, 480 on the line side (R157). -/
def hunterWidth (h : Fin 3) : Nat := if h = 2 then 480 else 512

/-- Whether the channel runs host option P. -/
def State.optP (s : State) (n : Ch) : Bool := s.is n TOP.STATUS_ACTIVE_HOST_OPT

/-- Whether a hunter's stream is available. -/
def State.streamUp (s : State) (n : Ch) (h : Fin 3) : Bool :=
  if h = 2 then s.is n BOLT.STATUS_BLOCK_LOCK
  else
    s.is n TOP.STATUS_HOST_LOCK && (!s.optP n || s.is n TOP.STATUS_HOST_LOCK_P) && (h = 0 || s.optP n)

/-- Whether the host side counts as LOCKED: in P both hunters and the deskew (R161). -/
def State.hostLocked (s : State) (n : Ch) : Bool :=
  let x := (s.chan n).hfec
  if s.optP n then x.h0.state == 4 && x.h1.state == 4 && s.is n HFEC.STATUS_DESKEW_LOCK else x.h0.state == 4

/-- Whether side `d` (0 host, 1 line) is LOCKED. -/
def State.sideLocked (s : State) (n : Ch) (d : Fin 2) : Bool :=
  if d = 0 then s.hostLocked n else (s.chan n).hfec.line.state == 4

/-- HOST_ALIGN, LINE_ALIGN and the alignment offsets brought up to date (R176). -/
def State.alignStatus (s : State) (n : Ch) : State :=
  let x := (s.chan n).hfec
  let host := if s.optP n then min x.h0.state x.h1.state else x.h0.state
  let s1 := (s.set n HFEC.STATUS_HOST_ALIGN host).set n HFEC.STATUS_LINE_ALIGN x.line.state
  (s1.set n HFEC.ALIGN_POS_HOST_OFFSET x.h0.pos).set n HFEC.ALIGN_POS_LINE_OFFSET x.line.pos

/-- A hunter whose stream comes or goes (R159): from OFF to HUNT at offset 0, or in MANUAL to CHECK at the position last
held; to OFF without an alarm.  R158 does not say when there is no previous valid marker: the hunter forgets its lane set in
OFF, and keeps it across a loss of lock or a slip (the model's choice, log entry 69). -/
def State.hunterLevel (s : State) (n : Ch) (h : Fin 3) : State :=
  let x := (s.chan n).hfec
  let v := x.hunter h
  if s.streamUp n h then
    if v.state = 0 then
      s.modHfec n fun y => y.setHunter h { v with state := if x.manual h then 2 else 1, start := 0, bad := 0, skewBad := 0 }
    else s
  else if v.state = 0 then s
  else
    let s1 := s.modHfec n fun y => y.setHunter h { v with state := 0, bad := 0, skewBad := 0, lanes := 0 }
    if h = 2 then s1 else s1.set n HFEC.STATUS_DESKEW_LOCK 0

/-- Whether the Terminate path of a channel drives its outputs (R167, R170). -/
def State.terminating (s : State) (n : Ch) : Bool :=
  s.modeActive n && s.chRun n && s.is n TOP.CTRL_EN && s.is n TOP.STATUS_ACTIVE_OUTER

/-- LF_TO_LINE and LF_TO_HOST as far as conditions decide them: on while a side is not LOCKED, on to the host in a
channel-safe state unless HFEC_FSM_PAR distrusts the generator, off outside Terminate (R170, R172).  A generator that
runs when its side locks yields at the first marker (R171). -/
def State.lfLevel (s : State) (n : Ch) : State :=
  if s.terminating n then
    let s1 := if s.sideLocked n 0 then s else s.set n HFEC.STATUS_LF_TO_LINE 1
    if s.is n HFEC.FLT_HFEC_FSM_PAR then s1.set n HFEC.STATUS_LF_TO_HOST 0
    else if s.is n FLT.STATUS_SAFE || !s.sideLocked n 1 then s1.set n HFEC.STATUS_LF_TO_HOST 1
    else s1
  else (s.set n HFEC.STATUS_LF_TO_LINE 0).set n HFEC.STATUS_LF_TO_HOST 0

/-- The HFEC pass. -/
def State.hfecLevel (s : State) (n : Ch) : State :=
  ((((s.hunterLevel n 0).hunterLevel n 1).hunterLevel n 2).alignStatus n).lfLevel n

end Sys2Proof.Machine
end

