-- ==== Sys2Proof/Machine/LvlMr.lean ====
section
/-! DEFINITION. The Millrace as far as conditions alone move it (R301, R303 to R306, R310). -/

namespace Sys2Proof.Machine

/-- The Millrace state of channel `n` rewritten. -/
def State.modMr (s : State) (n : Ch) (f : MrSt → MrSt) : State := s.modCh n fun c => { c with mr := f c.mr }

/-- RX_STATE (R306): 0 OFF, 1 SEARCH, 2 PREAMBLE, 3 HEADER, 4 PAYLOAD. -/
def State.mrRx (s : State) (n : Ch) : Nat := s.get n MRACE.STATUS_RX_STATE

/-- The conditions of R301 beside the gap. -/
def State.mrTxMay (s : State) (n : Ch) : Bool :=
  s.is n MRACE.CTRL_EN && s.is n MRACE.CTRL_TX_EN && s.ltxState n == 3 && s.is n LTX.CFG_DITHER_EN &&
    !s.is n MRACE.FLT_MR_FSM_PAR

/-- The conditions of R304, and no state machine parity error (R323). -/
def State.mrRxMay (s : State) (n : Ch) : Bool :=
  s.is n MRACE.CTRL_EN && s.is n MRACE.CTRL_RX_EN && s.is n LRX.CTRL_EN && (s.listening n || (s.chRun n && s.modeActive n)) &&
    !s.inTrial n && !s.is n MRACE.FLT_MR_FSM_PAR

/-- The STATUS fields that count what the Millrace holds (R324). -/
def State.mrStatus (s : State) (n : Ch) : State :=
  let x := (s.chan n).mr
  let b := fun (y : Bool) => if y then 1 else 0
  let s1 := (s.set n MRACE.STATUS_FIFO_COUNT x.fifo.length).set n MRACE.STATUS_QUEUE_COUNT x.queue.length
  let s2 := s1.set n MRACE.STATUS_PRIO_PENDING (b (x.beacon || x.echo || x.rsp.isSome))
  s2.set n MRACE.STATUS_ECHO_OUTSTANDING (b x.outstanding.isSome)

/-- The gain code in use: the manual code at all times in manual (R305). -/
def State.mrGain (s : State) (n : Ch) : State :=
  if s.is n MRACE.CFG_RX_GAIN_MAN then s.set n MRACE.RX_GAIN_CODE (s.get n MRACE.RX_GAIN_MAN_CODE) else s

/-- Entry into SEARCH: the gain thaws, RX_K applies (R297, R305). -/
def State.mrSearch (s : State) (n : Ch) : State :=
  ((s.set n MRACE.STATUS_RX_STATE 1).set n MRACE.STATUS_RX_GAIN_FROZEN 0).modMr n fun x =>
    { x with rxK := clampN 1 9 (s.get n MRACE.CFG_RX_K), header := [] }

/-- A frame under reception abandoned (R310). -/
def State.mrAbandon (s : State) (n : Ch) : State :=
  if 2 ≤ s.mrRx n then (s.incr n MRACE.RX_ABORTED).mrSearch n else s

/-- A frame on the line that cannot finish (R303). -/
def State.mrCut (s : State) (n : Ch) : State :=
  if (s.chan n).mr.air.isSome && !(s.chan n).mr.cut then
    s.modMr n fun x => { x with cut := true, cutAt := s.dev.time.units - x.began }
  else s

/-- The lead-in and the lead-out, and the coded part of the frame on the line, in 1/65,536 ns (R298). -/
def mrLead : Nat := 65536 * 8000
def MrSt.coded (x : MrSt) : Nat := (18 + x.slopes.length) * (65536 * x.chirpNs)

/-- TX_STATE (R301, R303, R324): 0 OFF, 1 IDLE, 2 LEAD_IN, 3 FRAME, 4 LEAD_OUT, 5 GAP, by the place that device time has reached
in the frame; a frame that was cut off is in its lead-out (log entry 42). -/
def State.mrTxState (s : State) (n : Ch) : Nat :=
  let x := (s.chan n).mr
  let now := s.dev.time.units
  if x.air.isSome then
    if x.cut then 4
    else if now - x.began < mrLead then 2
    else if now - x.began < mrLead + x.coded then 3
    else 4
  else if ! s.mrTxMay n then 0
  else if now < x.gapEnd then 5
  else 1

/-- The receiver's conditions. -/
def State.mrRxLevel (s : State) (n : Ch) : State :=
  if s.mrRxMay n then (if s.mrRx n = 0 then s.mrSearch n else s)
  else if s.mrRx n = 0 then s
  else ((s.mrAbandon n).set n MRACE.STATUS_RX_STATE 0).set n MRACE.STATUS_RX_GAIN_FROZEN 0

/-- The transmitter's conditions: a frame on the line that loses one is cut. -/
def State.mrTxLevel (s : State) (n : Ch) : State :=
  let x := (s.chan n).mr
  if x.air.isSome then
    if s.is n MRACE.CTRL_EN && s.is n MRACE.CTRL_TX_EN && s.ltxState n == 3 && !s.is n MRACE.FLT_MR_FSM_PAR &&
        s.chState n == x.startState && s.chPhase n == 0 then s
    else s.mrCut n
  else s

/-- The Millrace pass. -/
def State.mrLevel (s : State) (n : Ch) : State := (((s.mrGain n).mrRxLevel n).mrTxLevel n).mrStatus n

end Sys2Proof.Machine
end

