-- ==== Sys2Proof/Machine/LvlOut.lean ====
section
/-! DEFINITION. The output DACs, the Kiln and the Gauge as far as conditions alone move them (R329, R332, R335, R345 to
R351, R353, R358). -/

namespace Sys2Proof.Machine

/-! ## DACs -/

/-- The hidden state of DAC `d`, and its rewriting. -/
def State.dac (s : State) (n : Ch) (d : Fin 3) : DacSt :=
  if d = 0 then (s.chan n).dac0 else if d = 1 then (s.chan n).dac1 else (s.chan n).dac2
def State.modDac (s : State) (n : Ch) (d : Fin 3) (f : DacSt → DacSt) : State :=
  s.modCh n fun c =>
    if d = 0 then { c with dac0 := f c.dac0 } else if d = 1 then { c with dac1 := f c.dac1 }
    else { c with dac2 := f c.dac2 }

/-- STATEd (R346): 0 CLAMP_INIT, 1 CLAMP_RANGE, 2 DRIVE, 3 HOLD, 4 SAFE, 5 CLAMP_VOUTN. -/
def dacField (d : Fin 3) : Field := { OUT.STATUS_STATE0 with lo := 4 * d.val }
def State.dacState (s : State) (n : Ch) (d : Fin 3) : Nat := s.get n (dacField d)
def State.setDacState (s : State) (n : Ch) (d : Fin 3) (v : Nat) : State := s.set n (dacField d) v

/-- SPAN with codes above 4 acting as NONE; whether it is bipolar (R344). -/
def State.dacSpan (s : State) (n : Ch) (d : Fin 3) : Nat :=
  let v := s.get n (OUT.D_CFG_SPAN d)
  if 4 < v then 0 else v
def State.bipolar (s : State) (n : Ch) (d : Fin 3) : Bool := decide (3 ≤ s.dacSpan n d)

/-- Whether the Kiln owns DAC2 (R353). -/
def State.kilnOwns (s : State) (n : Ch) (d : Fin 3) : Bool := d == 2 && s.get n KILN.STATUS_STATE != 0

/-- The queue rewritten, with FILL (R361). -/
def State.setQueue (s : State) (n : Ch) (d : Fin 3) (q : List Nat) : State :=
  (s.modDac n d fun x => { x with queue := q }).set n (OUT.D_OUTPUT_FILL d) q.length

/-- The code in force, 0 while clamped. -/
def State.dacOut (s : State) (n : Ch) (d : Fin 3) (c : Nat) : State :=
  if s.get n (OUT.D_OUTPUT_CODE d) = c then s
  else (s.set n (OUT.D_OUTPUT_CODE d) c).modDac n d fun x => { x with moved := true }

/-- CLAMP_RANGE from step 2 of R349: the clamp closes and its period starts. -/
def State.dacRange (s : State) (n : Ch) (d : Fin 3) : State :=
  ((s.setDacState n d 1).dacOut n d 0).modDac n d fun x => { x with released := false, act := 0 }

/-- A DAC clamped with an empty queue in a state (CLAMP_INIT, CLAMP_VOUTN). -/
def State.dacClamp (s : State) (n : Ch) (d : Fin 3) (st : Nat) : State :=
  (((s.setQueue n d []).setDacState n d st).dacOut n d 0).modDac n d fun x => { x with released := false, act := 0 }

/-- The channel-safe request acts on a DAC, or a shut Sluice overrides what it did (R351). -/
def State.dacSafe (s : State) (n : Ch) (d : Fin 3) : State :=
  let st := s.dacState n d
  let act := if s.outputsShut then 0 else s.get n (OUT.D_CFG_SAFE_ACT d) % 3
  if st = 0 ∨ st = 5 then s
  else if st = 4 then
    if s.outputsShut = true ∧ (s.dac n d).act ≠ 0 then
      ((s.setQueue n d []).dacOut n d 0).modDac n d fun x => { x with act := 0 }
    else s
  else
    let s1 := (s.setDacState n d 4).modDac n d fun x => { x with back := st, act := act }
    match act with
    | 0 => (s1.setQueue n d []).dacOut n d 0
    | 1 => s1
    | _ => (s1.setQueue n d []).dacOut n d (s.get n (OUT.D_SAFE_CODE d))

/-- The request is released (R350, R351). -/
def State.dacRelease (s : State) (n : Ch) (d : Fin 3) : State :=
  if s.dacState n d ≠ 4 then s
  else
    let x := s.dac n d
    if x.act = 1 ∧ x.back ≠ 1 then s.setDacState n d x.back else s.dacRange n d

/-- One DAC under its conditions (R351). -/
def State.dacLevel (s : State) (n : Ch) (d : Fin 3) : State :=
  let st := s.dacState n d
  if s.is n OUT.FLT_OUT_FSM_PAR then (if st = 0 then s else s.dacClamp n d 0)
  else if s.chState n = 0 then s
  else if s.outputsShut || (s.is n FLT.STATUS_SAFE && !s.kilnOwns n d) then s.dacSafe n d
  else
    let s1 := s.dacRelease n d
    if s1.chState n = 3 ∧ s1.is n (OUT.D_CFG_WATCH_HOLD d) = false ∧ 2 ≤ s1.dacState n d ∧ s1.dacState n d ≤ 3 then
      s1.dacRange n d
    else s1

/-- The three DACs. -/
def State.outLevel (s : State) (n : Ch) : State := ((s.dacLevel n 0).dacLevel n 1).dacLevel n 2

/-! ## Kiln -/

/-- The Kiln state of channel `n` rewritten. -/
def State.modKiln (s : State) (n : Ch) (f : KilnSt → KilnSt) : State := s.modCh n fun c => { c with kiln := f c.kiln }

/-- The Kiln's state (R353): 0 OFF, 1 SOFTSTART, 2 RUN, 3 SUSPEND, 4 FAULT. -/
def State.kilnState (s : State) (n : Ch) : Nat := s.get n KILN.STATUS_STATE

/-- Whether the channel state lets the loop run. -/
def State.analogOn (s : State) (n : Ch) : Bool :=
  let st := s.chState n
  st == 1 || st == 2 || st == 4

/-- The loop at OFF. -/
def State.kilnOff (s : State) (n : Ch) : State :=
  (s.set n KILN.STATUS_STATE 0).set n KILN.BUSY_LONG_OP 0

/-- The loop leaves OFF or FAULT: a new soft-start, or RUN where none is asked for (R353, R356). -/
def State.kilnStart (s : State) (n : Ch) : State :=
  let s0 := (s.modKiln n fun _ => {}).modDac n 2 fun x => { x with parked := true }
  let s1 := if s0.get n (OUT.D_CFG_MODE 2) = 1 then s0.setQueue n 2 [] else s0
  if s1.get n KILN.SOFTSTART_MS = 0 then (s1.set n KILN.STATUS_STATE 2).irq n KILN.IRQ_RUN_ENTER
  else (s1.set n KILN.STATUS_STATE 1).set n KILN.BUSY_LONG_OP 1

/-- Whether DAC2 and the channel let the loop leave OFF (R353, R358). -/
def State.kilnMay (s : State) (n : Ch) : Bool :=
  s.dacState n 2 != 0 && s.dacState n 2 != 5 && s.analogOn n && !s.outputsShut

/-- The Kiln's moves on its conditions (R353, R357, R358). -/
def State.kilnLevel (s : State) (n : Ch) : State :=
  let st := s.kilnState n
  let s1 :=
    if s.outputsShut || s.chState n == 0 || s.dacState n 2 == 5 then (if st = 0 then s else s.kilnOff n)
    else
      match st with
      | 0 => if s.is n KILN.CTRL_EN && s.kilnMay n then s.kilnStart n else s
      | 1 => if s.chState n = 3 then s.set n KILN.STATUS_STATE 3 else s
      | 2 => if s.chState n = 3 then s.set n KILN.STATUS_STATE 3 else s
      | 3 => if s.analogOn n then s.set n KILN.STATUS_STATE 2 else s
      | _ => if (s.chan n).kiln.cycled && s.get n KILN.FLT_RAW % 2 == 0 && !s.is n KILN.FLT_KILN_NO_SENSE &&
                !s.is n KILN.FLT_KILN_FSM_PAR && s.kilnMay n then s.kilnStart n else s
  s1.set n KILN.STATUS_WAIT_DAC (if s1.kilnState n = 0 ∧ s1.is n KILN.CTRL_EN = true then 1 else 0)

/-! ## Gauge -/

/-- The Gauge state of channel `n` rewritten. -/
def State.modGauge (s : State) (n : Ch) (f : GaugeSt → GaugeSt) : State := s.modCh n fun c => { c with gauge := f c.gauge }

/-- The input and PGA of a converter's previous conversion; a reconnected ball counts as another input (R330, R340). -/
def State.gaugePrev (s : State) (n : Ch) (b : Bool) (input : Nat) : Option (Nat × Nat) :=
  let x := (s.chan n).gauge
  if x.dirty = some input then none else if b then x.b.prev else x.a.prev

/-- The discards D of a unit (R330). -/
def discards (prev : Option (Nat × Nat)) (input pga discard : Nat) : Nat :=
  match prev with
  | none => max (max 1 discard) 2
  | some p => max (if p.1 = input then 0 else max 1 discard) (if p.2 = pga then 0 else 2)

/-- A conversion of an input made on a converter, and `k` conversions counted. -/
def State.converted (s : State) (n : Ch) (b : Bool) (input pga k : Nat) : State :=
  (s.incr n GAUGE.CONV_COUNT k).modGauge n fun x =>
    let y := { x with dirty := if x.dirty = some input then none else x.dirty }
    if b then { y with b := { y.b with prev := some (input, pga) } }
    else { y with a := { y.a with prev := some (input, pga) } }

/-- Fields of an entry word. -/
def entConv (w : Word) : Nat := getBits w 24 2 % 3
def entDiscard (w : Word) : Nat := getBits w 20 2
def entPga (w : Word) : Nat := getBits w 16 2
def entLog (w : Word) : Nat := min 8 (getBits w 8 4)
def entInput (w : Word) : Nat := getBits w 0 4

/-- D of an entry on the converter or converters it names (R330, R336). -/
def State.entD (s : State) (n : Ch) (w : Word) : Nat :=
  let da := discards (s.gaugePrev n false (entInput w)) (entInput w) (entPga w) (entDiscard w)
  let db := discards (s.gaugePrev n true (entInput w)) (entInput w) (entPga w) (entDiscard w)
  match entConv w with
  | 0 => da
  | 1 => db
  | _ => max da db

/-- Whether a stream or a slot that has fallen due holds the converters of an entry word (R338). -/
def State.unitDue (s : State) (n : Ch) (w : Word) : Bool :=
  let x := (s.chan n).gauge
  let a := x.a.stream
  let b := x.b.stream || x.die || !x.readback.isEmpty
  match entConv w with
  | 0 => a
  | 1 => b
  | _ => a || b

/-- The discards that a unit on an entry word's converters makes now, or the marking that a marked entry notes instead
(R330, R331, R338). -/
def State.payDiscard (s : State) (n : Ch) (w : Word) : State :=
  let d := s.entD n w
  let mark := getBits w 30 1 = 1
  s.modGauge n fun x =>
    { x with settle := x.settle || decide (mark ∧ 0 < d), extra := x.extra + (if mark then 0 else d) }

/-- Entry `e` of the run starts: its discards are counted, unless a stream or a slot runs before it (R330, R331). -/
def State.entryStart (s : State) (n : Ch) (e : Nat) : State :=
  let w := (s.chan n).gauge.entries.getD e 0
  let s1 := (s.set n GAUGE.STATUS_CUR_ENTRY e).modGauge n fun x => { x with settle := false, extra := 0 }
  if s1.unitDue n w then s1 else s1.payDiscard n w

/-- FRESH cleared in RESULT0 to RESULTk (R334). -/
def State.clearFresh (s : State) (n : Ch) : Nat → State
  | 0 => s.set n (GAUGE.RESULT_FRESH 0) 0
  | k + 1 => (s.clearFresh n k).set n (GAUGE.RESULT_FRESH (k + 1)) 0

/-- A run starts: configuration latched, FRESH cleared, entry 0 (R332, R334). -/
def State.runStart (s : State) (n : Ch) : State :=
  let len := s.get n GAUGE.SEQ_CFG_LEN
  let words := (List.range 16).map fun e => BitVec.ofNat 32 (s.get n (GAUGE.ENTRY_CFG e))
  let s1 := ((s.clearFresh n len).set n GAUGE.STATUS_SEQ_BUSY 1).modGauge n fun x => { x with entries := words, len }
  s1.entryStart n 0

/-- Whether sequences and diagnosis may run (R329, R342). -/
def State.gaugeMay (s : State) (n : Ch) : Bool :=
  s.analogOn n && s.is n GAUGE.CTRL_EN && !s.inTrial n && !s.is n GAUGE.FLT_GAUGE_FSM_PAR

/-- A diagnosis begins to convert (R340). -/
def State.diagStart (s : State) (n : Ch) : State :=
  (s.set n GAUGE.STATUS_DIAG_BUSY 1).modGauge n fun x => { x with diagWait := false, extra := 0 }

/-- With neither a run nor a diagnosis in progress, a waiting diagnosis, then a pending trigger (R333, R340). -/
def State.gaugeNext (s : State) (n : Ch) : State :=
  if ! s.gaugeMay n || s.is n GAUGE.STATUS_SEQ_BUSY || s.is n GAUGE.STATUS_DIAG_BUSY then s
  else if (s.chan n).gauge.diagWait then s.diagStart n
  else if s.is n GAUGE.STATUS_TRIG_PENDING then (s.set n GAUGE.STATUS_TRIG_PENDING 0).runStart n
  else s

/-- A run and a diagnosis end early (R335, R341). -/
def State.gaugeStop (s : State) (n : Ch) : State :=
  let run := s.is n GAUGE.STATUS_SEQ_BUSY
  let s1 := if run then (s.set n GAUGE.STATUS_SEQ_BUSY 0).irq n GAUGE.IRQ_SEQ_ABORT else s
  let s2 := if run then s1.set n GAUGE.STATUS_TRIG_PENDING 0 else s1
  if s2.is n GAUGE.BUSY_LONG_OP then
    let s3 := ((s2.set n GAUGE.DIAG_RESULT 0).set n GAUGE.STATUS_DIAG_BUSY 0).set n GAUGE.BUSY_LONG_OP 0
    (s3.irq n GAUGE.IRQ_DIAG_DONE).modGauge n fun x => { x with diagWait := false }
  else s2

/-- The Gauge's conditions: PWR, the streams, early ends (R329, R335, R337). -/
def State.gaugeLevel (s : State) (n : Ch) : State :=
  let b := fun (x : Bool) => if x then 1 else 0
  let on := s.analogOn n
  let par := s.is n GAUGE.FLT_GAUGE_FSM_PAR
  let loop := s.kilnState n == 1 || s.kilnState n == 2
  let st0 := on && !par && (loop || s.is n GAUGE.CTRL_STREAM0_EN)
  let st1 := !par && ((on && s.is n GAUGE.CTRL_STREAM1_EN) || s.chState n == 3)
  let s1 := (s.set n GAUGE.STATUS_PWR (b on)).set n GAUGE.STATUS_STREAM0_ACTIVE (b st0)
  let s2 := s1.set n GAUGE.STATUS_STREAM1_ACTIVE (b st1)
  let s3 := s2.modGauge n fun x =>
    { x with a := { x.a with stream := x.a.stream && st0 }, b := { x.b with stream := x.b.stream && st1 },
             die := x.die && on, readback := if on then x.readback else [] }
  let stop := !on || s.inTrial n || !s.is n GAUGE.CTRL_EN
  (if stop then s3.gaugeStop n else s3).gaugeNext n

end Sys2Proof.Machine
end

