-- ==== Sys2Proof/Machine/LvlPat.lean ====
section
/-! DEFINITION. The pattern units' conditions (R477 to R481): which units run, and a checker that stops or starts. -/

namespace Sys2Proof.Machine

/-- Whether unit `u` is enabled and runs: a host unit in PATTERN, the line generator while LTX is ON, the line checker
while EQ is in ACQ or TRACK (R479). -/
def State.patOn (s : State) (n : Ch) (u : Nat) : Bool :=
  s.is n (PAT.U_CFG_EN u) &&
    match u with
    | 0 => s.laneState n 0 == 6
    | 1 => s.laneState n 1 == 6
    | 2 => s.ltxState n == 3
    | 3 => s.laneState n 0 == 6
    | 4 => s.laneState n 1 == 6
    | _ => decide (2 ≤ s.eqState n)

/-- LOCK_STATE of checker `c`, the unit c + 3: 0 OFF, 1 HUNT, 2 LOCK. -/
def State.patLock (s : State) (n : Ch) (c : Nat) : Nat := s.get n (PAT.C_STATE_LOCK_STATE c)

/-- A checker is in a lock state; leaving LOCK with the gate open sets LOST_IN_GATE (R481). -/
def State.patSet (s : State) (n : Ch) (c st : Nat) : State :=
  let s1 :=
    if s.patLock n c = 2 ∧ st ≠ 2 ∧ s.get n (PAT.C_STATE_GATE c) = 2 then s.set n (PAT.C_STATE_LOST_IN_GATE c) 1 else s
  (s1.set n (PAT.C_STATE_LOCK_STATE c) st).set n (PAT.STATUS_LOCK.bit c) (if st = 2 then 1 else 0)

/-- GATE of checker `c`: 0 closed, 1 waiting for lock, 2 open, 3 done. -/
def State.patGate (s : State) (n : Ch) (c : Nat) : Nat := s.get n (PAT.C_STATE_GATE c)

/-- Bits and errors counted while the gate is open and the checker in LOCK (R481). -/
def State.patCount (s : State) (n : Ch) (c bits errs : Nat) : State :=
  if s.patGate n c = 2 ∧ s.patLock n c = 2 then (s.sat64 n (PAT.C_BITS_LO c) bits).sat64 n (PAT.C_ERRS_LO c) errs else s

/-- What an open gate has counted up to an act whose command does not state it: free values (log entry 3). -/
def State.patDraw (s : State) (n : Ch) (c : Nat) : State :=
  if s.patGate n c = 2 ∧ s.patLock n c = 2 then
    let a := s.draw
    let b := a.2.draw
    b.2.patCount n c (a.1 % 2 ^ 48) (b.1 % 2 ^ 48)
  else s

/-- One checker follows its conditions. -/
def State.patChecker (s : State) (n : Ch) (c : Nat) : State :=
  if s.patOn n (c + 3) then (if s.patLock n c = 0 then s.patSet n c 1 else s)
  else if s.patLock n c = 0 then s else (s.patDraw n c).patSet n c 0

/-- ACTIVE of the units below `k`. -/
def State.patActive (s : State) (n : Ch) : Nat → State
  | 0 => s
  | k + 1 => (s.patActive n k).set n (PAT.STATUS_ACTIVE.bit k) (if s.patOn n k then 1 else 0)

/-- The pattern pass. -/
def State.patLevel (s : State) (n : Ch) : State :=
  (((s.patActive n 6).patChecker n 0).patChecker n 1).patChecker n 2

end Sys2Proof.Machine
end

