-- ==== Sys2Proof/Machine/LvlMem.lean ====
section
/-! DEFINITION. The scrubber's summary and its early end (R430, R432). -/

namespace Sys2Proof.Machine

/-- The channel and page of a scope, its hidden scrub and march state, and its scratchpad (R435). -/
def scopeCh : Scope → Ch
  | .ch n => n
  | .dev => 0
def scopeF (x : Scope) (f : Field) : Field :=
  match x with
  | .ch _ => f
  | .dev => f.inPage 0xA000
def scopePad : Scope → Nat
  | .ch n => chMem n 6
  | .dev => devMem 2
def State.scrubSt (s : State) : Scope → ScrubSt
  | .ch n => (s.chan n).scrub
  | .dev => s.dev.memScrub
def State.modScrub (s : State) (x : Scope) (f : ScrubSt → ScrubSt) : State :=
  match x with
  | .ch n => s.modCh n fun c => { c with scrub := f c.scrub }
  | .dev => s.modDev fun d => { d with memScrub := f d.memScrub }
def State.marchSt (s : State) : Scope → MarchSt
  | .ch n => (s.chan n).march
  | .dev => s.dev.memMarch
def State.modMarch (s : State) (x : Scope) (f : MarchSt → MarchSt) : State :=
  match x with
  | .ch n => s.modCh n fun c => { c with march := f c.march }
  | .dev => s.modDev fun d => { d with memMarch := f d.memMarch }

/-- A field of a scope's page read, set, raised as an event. -/
def State.xget (s : State) (x : Scope) (f : Field) : Nat := s.get (scopeCh x) (scopeF x f)
def State.xset (s : State) (x : Scope) (f : Field) (v : Nat) : State := s.set (scopeCh x) (scopeF x f) v
def State.xirq (s : State) (x : Scope) (f : Field) : State := s.irq (scopeCh x) (scopeF x f)

/-- What a pass has counted: CE, UE and POISON words, and the byte offsets of the first and the last UE. -/
structure ScrubSum where
  ce : Nat := 0
  ue : Nat := 0
  poison : Nat := 0
  first : Option Nat := none
  last : Option Nat := none
deriving DecidableEq, Repr

/-- The summary registers written together (R430). -/
def State.scrubSummary (s : State) (x : Scope) (words : Nat) (a : ScrubSum) (us : Nat) : State :=
  let ue := fun o : Option Nat =>
    match o with
    | some b => 2 ^ 31 + b
    | none => 0
  let s1 := ((s.xset x MEM.SCRUB_WORDS words).xset x MEM.SCRUB_CE a.ce).xset x MEM.SCRUB_UE a.ue
  let s2 := ((s1.xset x MEM.SCRUB_POISON a.poison).xset x MEM.SCRUB_FIRST_UE (ue a.first)).xset x MEM.SCRUB_LAST_UE
    (ue a.last)
  s2.xset x MEM.SCRUB_US (min us (2 ^ 32 - 1))

/-- The scrubber at rest. -/
def State.scrubIdle (s : State) (x : Scope) : State :=
  ((s.xset x MEM.STATUS_SCRUB_BUSY 0).xset x MEM.STATUS_SCRUB_CONT 0).modScrub x fun _ => {}

/-- A pass ends early (R432).  The model's scrubber reads its range at the end of the pass, so an aborted one has read
no word. -/
def State.scrubAbort (s : State) (x : Scope) : State :=
  if (s.scrubSt x).active then ((s.scrubSummary x 0 {} 0).scrubIdle x).xirq x MEM.IRQ_SCRUB_ABORTED else s

end Sys2Proof.Machine
end

