-- ==== Sys2Proof/Machine/LvlTally.lean ====
section
/-! DEFINITION. Tally's states as far as conditions alone move them (R363, R367, R371, R384, R385). -/

namespace Sys2Proof.Machine

/-- The Tally state of channel `n` rewritten. -/
def State.modTally (s : State) (n : Ch) (f : TallySt → TallySt) : State := s.modCh n fun c => { c with tally := f c.tally }

/-- STATE (R384): 0 OFF, 1 INIT, 2 IDLE, 3 RUN, 4 FAULT. -/
def State.tallyState (s : State) (n : Ch) : Nat := s.get n TALLY.STATUS_STATE

/-- The staged template, codes 5 to 7 acting as 0 (R367), and the staged seeds. -/
def State.tallyTemplate (s : State) (n : Ch) : Nat :=
  let t := s.get n TALLY.CFG_TEMPLATE
  if 4 < t then 0 else t
def State.tallySeeds (s : State) (n : Ch) : List Nat := (List.range 5).map fun r => s.get n (TALLY.SEED r)

/-- Whether a staged value differs from the one in force (R385). -/
def State.tallyStaged (s : State) (n : Ch) : Bool :=
  s.get n TALLY.CFG_DIR != s.get n TALLY.STATUS_DIR_ACTIVE ||
    s.tallyTemplate n != s.get n TALLY.STATUS_TEMPLATE_ACTIVE || s.tallySeeds n != (s.chan n).tally.seeds

/-- Whether the conditions of RUN hold (R384). -/
def State.tallyRuns (s : State) (n : Ch) : Bool :=
  s.is n TALLY.CTRL_EN && s.is n TALLY.STATUS_INIT_DONE && s.modeActive n && s.chRun n

/-- INIT starts: the staged settings come into force; a scrub of a Tally memory ends (R385, R432). -/
def State.tallyInitStart (s : State) (n : Ch) : State :=
  let sc := (s.chan n).scrub
  let s0 := if sc.active && decide (sc.mem % 8 < 3) then s.scrubAbort (.ch n) else s
  let s1 := (s0.set n TALLY.STATUS_STATE 1).set n TALLY.BUSY_LONG_OP 1
  let s2 := ((s1.set n TALLY.STATUS_INIT_DONE 0).set n TALLY.STATUS_SWEEPING 0).set n TALLY.STATUS_DIR_ACTIVE
    (s.get n TALLY.CFG_DIR)
  (s2.set n TALLY.STATUS_TEMPLATE_ACTIVE (s.tallyTemplate n)).modTally n fun x => { x with seeds := s.tallySeeds n }

/-- A sweep starts (R370, R371). -/
def State.sweepStart (s : State) (n : Ch) : State :=
  (s.set n TALLY.SWEEP_PTR_WORD 0).set n TALLY.STATUS_SWEEPING 1

/-- Whether the monitor copy of the direction in force arrives (R363). -/
def State.tallyInput (s : State) (n : Ch) : Bool :=
  s.modeActive n && s.sideLocked n (if s.is n TALLY.STATUS_DIR_ACTIVE then 0 else 1) &&
    (s.is n TOP.STATUS_ACTIVE_OUTER || s.is n HFEC.CTRL_EN)

/-- Tally's moves on its conditions. -/
def State.tallyMove (s : State) (n : Ch) : State :=
  let change := s.is n TALLY.STATUS_INIT_DONE && s.tallyStaged n && s.modeActive n && !s.is n TALLY.BUSY_LONG_OP
  match s.tallyState n with
  | 0 => if s.is n TALLY.CTRL_EN && s.modeActive n then s.tallyInitStart n else s
  | 1 => s
  | 2 =>
    if change then s.tallyInitStart n
    else if s.tallyRuns n then (s.set n TALLY.STATUS_STATE 3).sweepStart n
    else s
  | 3 => if change then s.tallyInitStart n else if s.tallyRuns n then s else s.set n TALLY.STATUS_STATE 2
  | _ => if change && !s.is n TALLY.FLT_TALLY_FSM_PAR then s.tallyInitStart n else s

/-- The Tally pass. -/
def State.tallyLevel (s : State) (n : Ch) : State :=
  let s1 := s.tallyMove n
  s1.set n TALLY.STATUS_INPUT (if s1.tallyInput n then 1 else 0)

end Sys2Proof.Machine
end

