-- ==== Sys2Proof/Machine/Levels.lean ====
section
/-! DEFINITION. What a channel's blocks do when one of their conditions comes or goes: one pass over the blocks of a
channel in signal order, made after every change of a condition. -/

namespace Sys2Proof.Machine

/-- One pass over the blocks of channel `n`. -/
def State.levels (s : State) (n : Ch) : State :=
  let s1 := (((((s.lrxLevel n).rxLevel n).laneLevel n 0).laneLevel n 1).holdoverLevel n).hfecLevel n
  let s2 := (((s1.ltxLevel n).mrLevel n).kilnLevel n).outLevel n
  ((((s2.gaugeLevel n).dressLevel n).tallyLevel n).cntLevel n).patLevel n

/-- One pass over every channel of a list. -/
def State.levelsAll (s : State) : List Ch → State
  | [] => s
  | n :: ns => (s.levels n).levelsAll ns

end Sys2Proof.Machine
end

