-- ==== Sys2Proof/Machine/Faults.lean ====
section
/-! DEFINITION. The fault cells and the collector's summaries (R441 to R447, R453, R455, R457): latching a fault,
forwarding it, withdrawing it, and the channel-safe request that follows. -/

namespace Sys2Proof.Machine

/-! ## Sources and classes -/

/-- Whether a field lies in a channel page. -/
def Field.isCh (f : Field) : Bool := decide (0x100000 ≤ f.base)

/-- The number of a field's page in its scope: p for a channel page, k for a device page. -/
def Field.page (f : Field) : Nat := f.base % 0x100000 / 0x1000

/-- The source ID of a fault bit (R441). -/
def Field.source (n : Ch) (f : Field) : Nat := if f.isCh then 64 * n.val + f.page else 0x200 + f.page

/-- The CLASS field of a fault bit (R443). -/
def Field.classOf (f : Field) : Field :=
  ⟨if f.isCh then 0x113000 else 0x7000, 0x100 + 4 * f.page, 2 * f.lo, 2⟩

/-- The FLT_EN bit of a fault bit. -/
def Field.enOf (f : Field) : Field := { f with off := 0x1C }

/-- The STATUS register of a fault bit's page. -/
def Field.statusOf (f : Field) : Field := ⟨f.base, 8, 0, 32⟩

/-- Whether a source ID lies in channel `n`. -/
def srcIn (n : Ch) (src : Nat) : Bool := src / 64 == n.val

/-- The highest class of a list of latches, 0 for none. -/
def maxClass (l : List Latched) : Nat := l.foldl (fun m e => max m e.cls) 0

/-- The bit vector of the pages (bits [5:0] of the source) of a list of latches. -/
def pageBits (l : List Latched) : Nat := l.foldl (fun m e => m ||| 2 ^ (e.src % 64)) 0

/-! ## Pins and summaries -/

/-- Whether the flag pins are released high: without power and in RESET (R82). -/
def State.flagsReleased (s : State) : Bool := s.dev.state == .off || s.dev.state == .reset

/-- Whether FAULT_N is low (R446); in RESET it is released (R82). -/
def State.faultPin (s : State) : Bool :=
  !s.flagsReleased &&
    ((s.dev.forwarded.any fun e => decide (s.dget SLUICE.CFG_FAULT_PIN_MIN ≤ e.cls)) || s.dev.shut)

/-- The collector's STATUS, CH_SUM and CH_SAFE brought up to date (R462). -/
def State.sluiceSum (s : State) : State :=
  let fw := s.dev.forwarded
  let b := fun (x : Bool) => if x then 1 else 0
  let s1 := s.dset SLUICE.STATUS_MAX_CLASS (maxClass fw)
  let s2 := s1.dset SLUICE.STATUS_FAULT_PIN (b s.faultPin)
  let s3 := s2.dset SLUICE.STATUS_ANY (b (! fw.isEmpty))
  let s4 := s3.dset SLUICE.STATUS_SHUT (b s.dev.shut)
  let s5 := s4.dset SLUICE.CH_SUM_DEV (pageBits (fw.filter fun e => decide (0x200 ≤ e.src)))
  s5.dset SLUICE.CH_SUM_CH
    (allCh.foldl (fun m n => if fw.any (fun e => srcIn n e.src) then m ||| 2 ^ n.val else m) 0)

/-- Whether a forwarded Channel-stop of channel `n` is uncleared. -/
def State.chStop (s : State) (n : Ch) : Bool :=
  s.dev.forwarded.any fun e => srcIn n e.src && e.cls == 2

/-- The channel-safe request of channel `n` (R447). -/
def State.safeWanted (s : State) (n : Ch) : Bool := s.chStop n || s.dev.shut || s.inTrial n

/-- The fault cell of channel `n` brought up to date, with SAFE_ENTER, SAFE_EXIT and SAFE_COUNT at the request's
edges (R447, R463), and the blocks that test the request after it.  The cell of a DARK channel is off, the collector's
view of the request is not (R462). -/
def State.safeUpdate (s : State) (n : Ch) : State :=
  let b := fun (x : Bool) => if x then 1 else 0
  if s.chState n = 0 then (s.dset (SLUICE.CH_SAFE_SAFE.bit n.val) (b (s.safeWanted n))).sluiceSum
  else
    let fw := s.dev.forwarded.filter fun e => srcIn n e.src
    let want := s.safeWanted n
    let had := s.is n FLT.STATUS_SAFE
    let s1 := s.set n FLT.STATUS_MAX_CLASS (maxClass fw)
    let s2 := s1.set n FLT.STATUS_TRIAL_SAFE (b (s.inTrial n))
    let s3 := s2.set n FLT.STATUS_DEV_STOP (b s.dev.shut)
    let s4 := s3.set n FLT.STATUS_CH_STOP (b (s.chStop n))
    let s5 := s4.set n FLT.STATUS_SAFE (b want)
    let s6 := s5.set n FLT.PAGE_SUM_PAGE (pageBits fw)
    let s7 := s6.dset (SLUICE.CH_SAFE_SAFE.bit n.val) (b want)
    let s8 :=
      if want && !had then (s7.irq n FLT.IRQ_SAFE_ENTER).sat n FLT.SAFE_COUNT_COUNT
      else if had && !want then s7.irq n FLT.IRQ_SAFE_EXIT
      else s7
    s8.sluiceSum.levels n

/-- `safeUpdate` over a list of channels. -/
def State.safeUpdateAll (s : State) : List Ch → State
  | [] => s
  | n :: ns => (s.safeUpdate n).safeUpdateAll ns

/-! ## Latching -/

/-- What a fault's log entry carries beside its source (R459): FLAGS, a DETAIL other than STATUS, the requester. -/
structure FaultNote where
  flags : Nat := 0
  detail : Option Word := none
  req : Option Nat := none
deriving DecidableEq, Repr

/-- The log entry of a fault at its latch (R459); `status` is the page's STATUS then. -/
def State.logRec (s : State) (n : Ch) (f : Field) (status : Word) (note : FaultNote) : LogRec :=
  { ts := s.dev.time, src := f.source n, bit := f.lo, cls := s.get n f.classOf, flags := note.flags,
    dflt := getBits (resetWord (f.classOf.addr n)) f.classOf.lo 2,
    detail := note.detail.getD status,
    req := match note.req with
      | some r => reqByte r
      | none => 0,
    chState := if f.isCh then s.chState n else 0, devState := s.dev.state.code }

/-- A latched fault forwarded to the collector with the class in force (R443, R455).  FIRST_STOP records the Channel-stop
that makes the request rise (R447). -/
def State.forwardRec (s : State) (n : Ch) (f : Field) (r : LogRec) : State :=
  let cls := s.get n f.classOf
  let s1 := s.modDev fun d =>
    { d with forwarded := d.forwarded ++ [⟨f.source n, f.lo, cls⟩], collect := d.collect ++ [{ r with cls }] }
  if f.isCh then
    let s2 :=
      if cls = 2 ∧ s.is n FLT.STATUS_SAFE = false then
        ((s1.set n FLT.FIRST_STOP_VALID 1).set n FLT.FIRST_STOP_SOURCE (f.source n)).set n FLT.FIRST_STOP_BIT f.lo
      else s1
    s2.safeUpdate n
  else s1.sluiceSum

/-- A fault forwarded as it latches; `status` is the page's STATUS at the latch. -/
def State.forward (s : State) (n : Ch) (f : Field) (status : Word) (note : FaultNote) : State :=
  s.forwardRec n f (s.logRec n f status note)

/-- With ON_FAULT, a latch of class Degrade or higher in a channel triggers a Hopper dump (R405). -/
def State.hopFault (s : State) (n : Ch) (f : Field) (cls : Nat) : State :=
  if f.isCh && decide (1 ≤ cls) && s.is n HOP.CTRL_EN && s.is n HOP.CFG_ON_FAULT && !s.is n HOP.STATUS_SUSPENDED &&
      !(s.chan n).hop.stopped && s.chState n != 0 then
    s.modHop n fun x => { x with trig := x.trig ||| 4 }
  else s

/-- A fault's FLT_RAW bit set: a bit that was 0 latches, is counted (R391, R399) and, with FLT_EN 1 and the channel not
in Trial, is forwarded; in Trial its entry waits for the Trial's end (R64, R443, R456, R473). -/
def State.raise (s : State) (n : Ch) (f : Field) (note : FaultNote := {}) : State :=
  if s.is n f then s
  else
    let cls := s.get n f.classOf
    let status := s.word (f.statusOf.addr n)
    let s1 := s.set n f 1
    let s2 := if f.isCh then s1.count n 0x50 0 cls else s1
    let s3 := (s2.dcount 0x62 cls).hopFault n f cls
    if f.isCh && s.inTrial n then
      s3.modCh n fun c => { c with trial := { c.trial with pend := c.trial.pend ++ [s.logRec n f status note] } }
    else if s3.is n f.enOf then s3.forward n f status note
    else s3

/-- A device page's fault. -/
def State.draise (s : State) (f : Field) (note : FaultNote := {}) : State := s.raise 0 f note

/-- A latch withdrawn from the collector (R453, R455). -/
def State.withdraw (s : State) (n : Ch) (f : Field) : State :=
  let s1 := s.modDev fun d =>
    { d with forwarded := d.forwarded.filter fun e => ! (e.src == f.source n && e.bit == f.lo) }
  if f.isCh then s1.safeUpdate n else s1.sluiceSum

/-! ## Injection (R457) -/

/-- Whether INJECT bit `b` is armed on the page of a field. -/
def State.armed (s : State) (n : Ch) (f : Field) (b : Nat) : Bool := s.is n ⟨f.base, 0x20, b, 1⟩

/-- An armed injection consumed. -/
def State.disarm (s : State) (n : Ch) (f : Field) (b : Nat) : State := s.set n ⟨f.base, 0x20, b, 1⟩ 0

/-- INJECT.TARGET of a page; in `DEV.MEM` its bits [1:0] select for FSM_PAR (R439). -/
def State.fsmTarget (s : State) (n : Ch) (f : Field) : Nat :=
  s.get n ⟨f.base, 0x20, 8, if f.base = 0xA000 then 2 else 8⟩

/-- A parity fault of state machine `k` of a page: an FSM_PAR armed on that machine (INJECT.TARGET = k) is consumed and tags
the entry INJECTED (R457). -/
def State.raiseFsm (s : State) (n : Ch) (f : Field) (k : Nat := 0) : State :=
  if s.armed n f 3 && s.fsmTarget n f == k then (s.disarm n f 3).raise n f { flags := 1 } else s.raise n f

/-! ## Latches of a page that a reset or DARK removes (R456) -/

/-- The address of FLT_RAW of the page of a source ID (R441). -/
def srcRaw (src : Nat) : Nat :=
  if src < 0x200 then 0x100018 + src / 64 * 0x20000 + src % 64 * 0x1000 else src % 64 * 0x1000 + 0x18

/-- Forwarded latches whose FLT_RAW bit a reset or DARK has cleared are gone from the collector. -/
def State.dropCleared (s : State) : State :=
  (s.modDev fun d =>
    { d with forwarded := d.forwarded.filter fun e => (s.word (srcRaw e.src)).getLsbD e.bit }).sluiceSum

end Sys2Proof.Machine
end

