-- ==== Sys2Proof/Machine/Box.lean ====
section
/-! DEFINITION. Where the mailboxes lie and whether they are FULL (R114, R115, R131, R132). -/

namespace Sys2Proof.Machine

/-- The channel, page base and offset of a mailbox block. -/
def boxCh : Box → Ch
  | .h2m _ => 0
  | .m2h _ => 0
  | .m2w n _ => n
  | .w2m n _ => n
def boxBase : Box → Nat
  | .h2m _ => 0x5000
  | .m2h _ => 0x5000
  | .m2w _ _ => 0x117000
  | .w2m _ _ => 0x117000
def boxOff : Box → Nat
  | .h2m k => 0x100 + 0x80 * k.val
  | .m2h k => 0x300 + 0x80 * k.val
  | .m2w _ j => 0x100 + 0x80 * j.val
  | .w2m _ j => 0x200 + 0x80 * j.val

/-- A field of a mailbox block read and set. -/
def State.bget (s : State) (b : Box) (f : Nat → Nat → Field) : Nat := s.get (boxCh b) (f (boxBase b) (boxOff b))
def State.bset (s : State) (b : Box) (f : Nat → Nat → Field) (v : Nat) : State :=
  s.set (boxCh b) (f (boxBase b) (boxOff b)) v

/-- Whether a mailbox is FULL. -/
def State.boxFull (s : State) (b : Box) : Bool := s.bget b BOX.STATE_FULL == 1

/-- Whether a mailbox between the Miller and wright `n` is FULL (R497, code 0x5). -/
def State.wrightBoxFull (s : State) (n : Ch) : Bool :=
  s.boxFull (.m2w n 0) || s.boxFull (.m2w n 1) || s.boxFull (.w2m n 0) || s.boxFull (.w2m n 1)

/-- Whether an H2M, M2W or W2M mailbox is FULL. -/
def State.millerBoxFull (s : State) : Bool :=
  s.boxFull (.h2m 0) || s.boxFull (.h2m 1) || s.boxFull (.h2m 2) || s.boxFull (.h2m 3) ||
    allCh.any fun n => s.wrightBoxFull n

/-! ## Posting and taking (R115, R118, R119) -/

/-- The epoch of a mailbox's sender. -/
def State.boxEpoch (s : State) : Box → Nat
  | .h2m _ => s.dget MBX.HOST_EPOCH
  | .m2h _ => s.dget BOOT.MILLER_EPOCH
  | .m2w _ _ => s.dget BOOT.MILLER_EPOCH
  | .w2m n _ => s.get n MBXW.WRIGHT_EPOCH

/-- The event that tells the host of a message in a mailbox, and of its taking; between processors there is none in a
register (R120, R131). -/
def State.boxMsg (s : State) : Box → State
  | .h2m _ => s
  | .m2h k => s.dirq (MBX.IRQ_MSG.bit k)
  | .m2w _ _ => s
  | .w2m _ _ => s
def State.boxTaken (s : State) : Box → State
  | .h2m k => s.dirq (MBX.IRQ_TAKEN.bit k)
  | .m2h _ => s
  | .m2w _ _ => s
  | .w2m _ _ => s

/-- The sender and the receiver of a mailbox (R114). -/
def boxSender : Box → Nat
  | .h2m _ => reqHost
  | .m2h _ => reqMiller
  | .m2w _ _ => reqMiller
  | .w2m n _ => reqWright n
def boxReceiver : Box → Nat
  | .h2m _ => reqMiller
  | .m2h _ => reqHost
  | .m2w n _ => reqWright n
  | .w2m _ _ => reqMiller

/-- RING of an EMPTY mailbox. -/
def State.boxRing (s : State) (b : Box) : State :=
  let s1 := (s.bset b BOX.STATE_FULL 1).bset b BOX.STATE_AGE 0
  let s2 := (s1.bset b BOX.EPOCH_SENDER_EPOCH (s.boxEpoch b)).bset b BOX.STATE_RECEIVER_RESET_SINCE_POST 0
  ((s2.bset b BOX.STATE_POST_COUNT (s.bget b BOX.STATE_POST_COUNT + 1)).boxMsg b).dcount 0x60 (boxSender b)

/-- TAKE by the receiver: the mailbox empties, or TAKE_SPURIOUS is set; SPURIOUS tells the host of a spurious TAKE by the
Miller on H2M (R131). -/
def State.boxTake (s : State) (b : Box) : State :=
  if s.boxFull b then (s.bset b BOX.STATE_FULL 0).boxTaken b
  else
    let s1 := s.bset b BOX.STATE_TAKE_SPURIOUS 1
    match b with
    | .h2m k => s1.dirq (MBX.IRQ_SPURIOUS.bit k)
    | .m2h _ => s1
    | .m2w _ _ => s1
    | .w2m _ _ => s1

/-- The receiver's epoch increments. -/
def State.boxReset (s : State) (b : Box) : State :=
  if s.boxFull b then s.bset b BOX.STATE_RECEIVER_RESET_SINCE_POST 1 else s
def State.boxResets (s : State) : List Box → State
  | [] => s
  | b :: l => (s.boxReset b).boxResets l

/-- The mailboxes whose receiver is the host, wright `n`, the Miller. -/
def hostBoxes : List Box := [.m2h 0, .m2h 1, .m2h 2, .m2h 3]
def wrightBoxes (n : Ch) : List Box := [.m2w n 0, .m2w n 1]
def millerBoxes : List Box := [.h2m 0, .h2m 1, .h2m 2, .h2m 3] ++ allCh.flatMap fun n => [.w2m n 0, .w2m n 1]

/-- The address of payload word `i` of a mailbox. -/
def boxData (b : Box) (i : Nat) : Nat := boxBase b + (boxCh b).val * 0x20000 + boxOff b + 4 * i

/-- A payload word stored with its parity: sound, or spoiled by an armed REG_PAR of its page (R120, R457). -/
def State.boxStore (s : State) (b : Box) (i : Nat) (w : Word) : State :=
  let par : Field := ⟨boxBase b, 0x20, 2, 1⟩
  let hit := s.is (boxCh b) par
  let s1 := (if hit then s.set (boxCh b) par 0 else s).setWord (boxData b i) w
  s1.modDev fun d =>
    let l := d.badRegs.filter fun a => a != boxData b i
    { d with badRegs := if hit then boxData b i :: l else l }

/-- Words stored in a mailbox's payload from word `i` on. -/
def State.boxWords (s : State) (b : Box) (i : Nat) : List Word → State
  | [] => s
  | w :: l => State.boxWords (s.boxStore b i w) b (i + 1) l

/-- Payload word `i` of a mailbox. -/
def State.boxWord (s : State) (b : Box) (i : Nat) : Word := s.word (boxData b i)

/-! ## Answers (R122, R124 to R126) -/

/-- A response's words: OPCODE and TAG of the request, STATUS, RLEN, results. -/
def responseWords (request : Word) (status : Nat) (results : List Word) : List Word :=
  BitVec.ofNat 32 (request.toNat / 65536 * 65536 + status * 256 + results.length % 16) :: results

/-- A command's entry in firmware's record rewritten. -/
def State.modFw (s : State) (k : Fin 4) (f : FwCmd → FwCmd) : State :=
  s.modDev fun d => { d with fw := d.fw.map fun c => if c.box = k then f c else c }

/-- The command taken from H2M `k` and unanswered. -/
def State.fwCmd (s : State) (k : Fin 4) : Option FwCmd := s.dev.fw.find? fun c => c.box == k

/-- A response is posted where M2H `k` is EMPTY, else it waits in firmware (R122). -/
def State.fwPost (s : State) (k : Fin 4) (words : List Word) : State :=
  if s.boxFull (.m2h k) then s.modFw k fun c => { c with phase := .answered words }
  else
    ((s.boxWords (.m2h k) 0 words).boxRing (.m2h k)).modDev fun d => { d with fw := d.fw.filter fun c => c.box != k }

/-- The command of H2M `k` is answered with a status and results. -/
def State.fwAnswer (s : State) (k : Fin 4) (status : Nat) (results : List Word := []) : State :=
  match s.fwCmd k with
  | none => s
  | some c => s.fwPost k (responseWords (c.words.headD 0) status results)

/-- OPCODE and CHAN of a request. -/
def fwOp (c : FwCmd) : Nat := getBits (c.words.headD 0) 24 8
def fwChan (c : FwCmd) : Nat := getBits (c.words.headD 0) 12 4

/-- Whether firmware serves the mailboxes (R110, R121). -/
def State.fwServes (s : State) : Bool :=
  s.dget MILLER.STATUS_CORE == 1 && (s.dget MILLER.FW_STATE_STATE == 2 || s.dget MILLER.FW_STATE_STATE == 3)

/-- The commands of channel `n` whose exchange with the wright a restart cuts are answered WRIGHT_RESTARTED, by firmware that
serves; firmware that does not answers them RESTARTED later (R124, R125). -/
def State.fwWrightLost (s : State) (n : Ch) : List FwCmd → State
  | [] => s
  | c :: l =>
    (if s.fwServes = true ∧ fwChan c = n.val ∧ c.phase = .begun true then s.fwAnswer c.box 0x0D else s).fwWrightLost n l

/-- A CH_POWER of channel `n` whose request was refused, or whose path was aborted, notes the first code (R498, R505). -/
def State.fwPowerRefused (s : State) (n : Ch) (code : Nat) : State :=
  s.modDev fun d =>
    { d with fw := d.fw.map fun c =>
        if fwOp c = 0x10 ∧ fwChan c = n.val ∧ c.phase = .begun false ∧ c.note = 0 then { c with note := code } else c }

end Sys2Proof.Machine
end

