-- ==== Sys2Proof/Machine/MemOps.lean ====
section
/-! DEFINITION. Reads and writes of the memories with what their outcomes do: correction and write-back, leaky buckets,
uncorrectable accounting, partial writes, injected check bits (R419, R422 to R426, R439, R457). -/

namespace Sys2Proof.Machine

/-- The channel of a memory (0 for the device memories), the base of its page, and its index there (R418). -/
def memCh (m : Nat) : Ch := if m < 64 then Fin.ofNat 8 (m / 8) else 0
def memPageBase (m : Nat) : Nat := if m < 64 then 0x112000 else 0xA000
def memIdx (m : Nat) : Nat := if m < 64 then m % 8 else m - 64

/-- The MEM code of a memory (R67); the fault log's is 0x1F (R430). -/
def memCode (m : Nat) : Nat :=
  if m < 64 then
    match m % 8 with
    | 0 => 1
    | 1 => 2
    | i => i + 2
  else if m = 67 then 0x1F
  else m - 48

/-- A field of a memory's page. -/
def memF (m : Nat) (f : Field) : Field := f.inPage (memPageBase m)

/-- The bank of a word: contexts have a bank per way, the sketch one per row (R369, R372, R418). -/
def memBank (m w : Nat) : Nat :=
  if m < 64 ∧ m % 8 = 0 then w / 4 % 8 else if m < 64 ∧ m % 8 = 1 then w / 131072 else 0

/-- The queued write-backs of the page that holds memory `m`. -/
def State.wbList (s : State) (m : Nat) : List WbEntry := if m < 64 then (s.chan (memCh m)).wb else s.dev.memWb

/-- They are rewritten. -/
def State.modWb (s : State) (m : Nat) (f : List WbEntry → List WbEntry) : State :=
  if m < 64 then s.modCh (memCh m) fun c => { c with wb := f c.wb }
  else s.modDev fun d => { d with memWb := f d.memWb }

/-- Whether a word is tagged by an injection and not yet written again (R457). -/
def State.memTagged (s : State) (m w : Nat) : Bool := s.dev.tagged.contains ⟨m, w⟩

/-- A memory event of R391 (0x10 to 0x14), counted with its requester and location (R392). -/
def State.countMem (s : State) (m w cls req : Nat) (amount : Nat := 1) : State :=
  s.countBus (if m < 64 then some (memCh m) else none) cls req (memLoc (memCode m) (8 * w)) amount

/-! ## Writes -/

/-- The page whose INJECT arms CE and UE on a word, and whether its TARGET selects this memory (R439, and the owners'
chapters). -/
def memInject (m w : Nat) : Field :=
  if 64 ≤ m then DMEM.INJECT
  else
    match m % 8 with
    | 0 => TALLY.INJECT
    | 1 => TALLY.INJECT
    | 2 => TALLY.INJECT
    | 3 => HOP.INJECT
    | 4 => LRX.INJECT
    | 5 => if w < 4096 then DRESS.INJECT else EQ.INJECT
    | _ => MEM.INJECT

def State.memTarget (s : State) (m w : Nat) : Bool :=
  let t := getBits (s.word ((memInject m w).addr (memCh m))) 8 8
  if 64 ≤ m then t / 16 % 4 == m - 64
  else if m % 8 < 3 then t == m % 8 + 1
  else true

/-- The syndrome that the next write performed leaves, with the injection consumed: CE inverts check bit 0, UE bits 0
and 1. -/
def State.takeInject (s : State) (m w : Nat) : Nat × State :=
  let n := memCh m
  let f := memInject m w
  if s.memTarget m w then
    let ce := s.armed n f 0
    let ue := s.armed n f 1
    ((if ce then 1 else 0) ^^^ (if ue then 3 else 0), (s.disarm n f 0).disarm n f 1)
  else (0, s)

/-- A full write by a requester of the part: it always succeeds, drops a pending write-back and leaves a clean word,
but for an injection (R423, R424, R457). -/
def State.memWrite (s : State) (m w v : Nat) : State :=
  let i := s.takeInject m w
  let s1 := (i.2.memPutSyn m w v i.1).modWb m fun l => l.filter fun e => e != ⟨m, w⟩
  s1.modDev fun d =>
    { d with tagged := (d.tagged.filter fun e => e != ⟨m, w⟩) ++ (if i.1 = 0 then [] else [⟨m, w⟩]) }

/-! ## Errors found -/

/-- LAST_CE or LAST_UE of a memory. -/
def State.memLast (s : State) (m : Nat) (f : Field) (w req : Nat) (poison : Bool) : State :=
  s.set (memCh m) f
    (8 * w + (if poison then 2 ^ 26 else 0) + (if reqPriv req then 2 ^ 27 else 0) + req * 2 ^ 28)

/-- THRESH with 0 acting as 1 (R425). -/
def State.ceThresh (s : State) (m : Nat) : Nat := max 1 (s.get (memCh m) (memF m (MEM.B_THRESH_COUNT (memIdx m))))

/-- One CE, of word `w` read by `req`, in the bucket of a memory in native mode; at the threshold it empties and reports
(R425). -/
def State.bucketAdd (s : State) (m w req : Nat) : State :=
  let n := memCh m
  let i := memIdx m
  let b := memF m (MEM.B_BUCKET_LEVEL i)
  if s.get n b + 1 < s.ceThresh m then s.set n b (s.get n b + 1)
  else
    let s1 := (s.set n b 0).incr n (memF m (MEM.B_OVF_COUNT i))
    (s1.irq n ((memF m MEM.IRQ_CE_BUCKET).bit i)).raise n (memF m MEM.FLT_MEM_CE_RATE)
      { flags := if s.dev.tagged.contains ⟨m, w⟩ then 1 else 0, req := some req }

/-- A counted CE: CE_TOTAL, LAST_CE, the counters, and the bucket or CE_EACH (R425, R426). -/
def State.ceNote (s : State) (m w req : Nat) : State :=
  let n := memCh m
  let i := memIdx m
  let s1 := (s.incr n (memF m (MEM.B_CE_TOTAL i))).memLast m (memF m (MEM.B_LAST_CE i)) w req false
  let s2 := s1.countMem m w 0x13 req
  if s2.is n (memF m (MEM.B_CFG_LEGACY4106 i)) then s2.irq n ((memF m MEM.IRQ_CE_EACH).bit i) else s2.bucketAdd m w req

/-- A CE read: counted unless its write-back is pending, which native mode queues (R424, R426). -/
def State.ceRead (s : State) (m w req : Nat) : State :=
  let n := memCh m
  let i := memIdx m
  if s.is n (memF m (MEM.B_CFG_LEGACY4106 i)) then s.ceNote m w req
  else if (s.wbList m).contains ⟨m, w⟩ then s
  else
    let s1 := s.ceNote m w req
    let same := (s1.wbList m).filter fun e => e.mem == m && memBank m e.word == memBank m w
    if s1.is n (memF m MEM.STATUS_WB_STOPPED) || decide (4 ≤ same.length) then
      s1.sat n (memF m (MEM.B_WB_DROP_COUNT i))
    else s1.modWb m fun l => l ++ [⟨m, w⟩]

/-- An uncorrectable read by requester `req`: UE_TOTAL or POISON_READS, LAST_UE, the counters, and MEM_UE for a UE not
read by the scrubber (R422). -/
def State.ueRead (s : State) (m w req : Nat) : State :=
  let n := memCh m
  let i := memIdx m
  let poison := s.ecc m w == .poison
  let s0 :=
    if !poison && req != reqScrub then
      s.raise n (memF m MEM.FLT_MEM_UE) { flags := if s.memTagged m w then 1 else 0, req := some req }
    else s
  let s1 := s0.incr n (memF m (if poison then MEM.B_POISON_READS i else MEM.B_UE_TOTAL i))
  (s1.memLast m (memF m (MEM.B_LAST_UE i)) w req poison).countMem m w 0x14 req

/-! ## Reads and partial writes -/

/-- A read by requester `req`: the data, or none for an uncorrectable word, with everything the outcome does. -/
def State.memRead (s : State) (m w req : Nat) : Option Nat × State :=
  match s.ecc m w with
  | .clean => (some (s.memData m w), s)
  | .ce => (some (s.memData m w), s.ceRead m w req)
  | .poison => (none, s.ueRead m w req)
  | .ue => (none, s.ueRead m w req)

/-- A 64-bit read by an internal requester, counted as a bus transaction (R391, R392). -/
def State.busRead (s : State) (m w req : Nat) : Option Nat × State :=
  let r := (s.countMem m w 0x10 req).memRead m w req
  match r.1 with
  | some v => (some v, r.2)
  | none => (none, r.2.countMem m w 0x12 req)

/-- A full 64-bit write by an internal requester. -/
def State.busWrite (s : State) (m w v req : Nat) : State := (s.countMem m w 0x11 req).memWrite m w v

/-- A word with `k` bytes from byte `b` replaced by the little-endian `v`. -/
def mergeBytes (old b k v : Nat) : Nat :=
  let m := 2 ^ (8 * k)
  old % 2 ^ (8 * b) + v % m * 2 ^ (8 * b) + old / 2 ^ (8 * (b + k)) * 2 ^ (8 * (b + k))

/-- A write of bytes `b` to `b + k - 1` of a word: a full write, or a read-modify-write, refused on an uncorrectable
word (R423).  A correctable word counts one CE and no separate write-back is queued. -/
def State.memMerge (s : State) (m w b k v req : Nat) : Bool × State :=
  if k = 8 then (true, s.memWrite m w v)
  else
    match s.ecc m w with
    | .clean => (true, s.memWrite m w (mergeBytes (s.memData m w) b k v))
    | .ce =>
      let s1 := if (s.wbList m).contains ⟨m, w⟩ then s else s.ceNote m w req
      (true, s1.memWrite m w (mergeBytes (s.memData m w) b k v))
    | .poison => (false, s.ueRead m w req)
    | .ue => (false, s.ueRead m w req)

/-! ## Fills -/

/-- The cells of `k` clean words of zeros from word `w` on. -/
def zeroCells (m w k : Nat) : List Host.Cell := (List.range k).map fun i => (memAddr m (w + i) + 8, 0)

/-- `k` words of memory `m` from word `w` written in full with zeros; an armed injection spoils the first. -/
def State.memZero (s : State) (m w k : Nat) : State :=
  let lo := memAddr m w
  let hi := memAddr m (w + k)
  let s1 : State :=
    { s with mem := (s.mem.filter fun c => decide (c.1 < lo)) ++ zeroCells m w k ++
                    (s.mem.filter fun c => decide (hi ≤ c.1)) }
  let gone := fun e : WbEntry => e.mem == m && decide (w ≤ e.word ∧ e.word < w + k)
  let s2 := (s1.modWb m fun l => l.filter fun e => ! gone e).modDev fun d =>
    { d with tagged := d.tagged.filter fun e => ! gone e }
  if k = 0 then s2 else s2.memWrite m w 0

/-- Words from `w` on written in full. -/
def State.memWrites (s : State) (m w : Nat) : List Nat → State
  | [] => s
  | v :: vs => State.memWrites (s.memWrite m w v) m (w + 1) vs

end Sys2Proof.Machine
end

