-- ==== Sys2Proof/Machine/Mem.lean ====
section
/-! DEFINITION. The commands of CHn.MEM and DEV.MEM: scrubbing, write-backs, the leak clock, the transparent march
(R424, R425, R430 to R439, R537). -/

namespace Sys2Proof.Machine

/-! ## Scrubber -/

/-- The memory that a MEM code selects in a page (R430). -/
def scrubMem (x : Scope) (code : Nat) : Option Nat :=
  match x with
  | .ch n =>
    match code with
    | 1 => some (chMem n 0)
    | 2 => some (chMem n 1)
    | 3 => some (chMem n 1)
    | 4 => some (chMem n 2)
    | 5 => some (chMem n 3)
    | 6 => some (chMem n 4)
    | 7 => some (chMem n 5)
    | 8 => some (chMem n 6)
    | _ => none
  | .dev =>
    match code with
    | 0x10 => some (devMem 0)
    | 0x11 => some (devMem 1)
    | 0x12 => some (devMem 2)
    | 0x1F => some (devMem 3)
    | _ => none

/-- SCRUB_CMD.GO: a pass starts, or SCRUB_REFUSED (R430). -/
def State.scrubGo (s : State) (x : Scope) : State :=
  let start := s.xget x MEM.SCRUB_START_OFFSET
  let len := s.xget x MEM.SCRUB_LEN_BYTES
  let refuse := s.xirq x MEM.IRQ_SCRUB_REFUSED
  match scrubMem x (s.xget x MEM.SCRUB_CFG_MEM) with
  | none => refuse
  | some m =>
    if (s.scrubSt x).active || start % 8 != 0 || len % 8 != 0 || len == 0 || decide (8 * memWords m < start + len) ||
        s.xget x MEM.STATUS_SCRUB_STOPPED == 1 then refuse
    else
      ((s.xset x MEM.STATUS_SCRUB_BUSY 1).xset x MEM.STATUS_SCRUB_CONT (s.xget x MEM.SCRUB_CFG_CONT)).modScrub x fun _ =>
        { active := true, mem := m, start := start / 8, len := len / 8 }

/-- SCRUB_CMD.STOP: a continuous run ends with its current pass (R430). -/
def State.scrubStop (s : State) (x : Scope) : State :=
  if (s.scrubSt x).active && s.xget x MEM.STATUS_SCRUB_CONT == 1 then s.modScrub x fun y => { y with stopAfter := true }
  else s

/-- One word read by the scrubber (R430, R434). -/
def scrubWord (x : Scope) (m w : Nat) (a : ScrubSum × State) : ScrubSum × State :=
  let s := a.2.countMem m w 0x10 reqScrub
  match s.ecc m w with
  | .clean => (a.1, s)
  | .ce =>
    let s1 := if (s.wbList m).contains ⟨m, w⟩ then s else s.ceNote m w reqScrub
    ({ a.1 with ce := a.1.ce + 1 }, s1.busWrite m w (s.memData m w) reqScrub)
  | .poison => ({ a.1 with poison := a.1.poison + 1 }, s.ueRead m w reqScrub)
  | .ue =>
    let s1 := s.raise (scopeCh x) (scopeF x MEM.FLT_LATENT_UE)
      { flags := if s.memTagged m w then 1 else 0, req := some reqScrub }
    ({ a.1 with ue := a.1.ue + 1, first := a.1.first.orElse (fun _ => some (8 * w)), last := some (8 * w) },
      s1.ueRead m w reqScrub)

/-- `k` words from word `w` on, in ascending order. -/
def scrubWords (x : Scope) (m w : Nat) : Nat → ScrubSum × State → ScrubSum × State
  | 0, a => a
  | k + 1, a => scrubWords x m (w + 1) k (scrubWord x m w a)

/-- The last word of the range is read, `us` microseconds after the pass began (R430). -/
def doScrubPassEnd (x : Scope) (us : Nat) (s : State) : State :=
  let y := s.scrubSt x
  if ! y.active then s
  else
    let r := scrubWords x y.mem y.start y.len ({}, s)
    let s1 := (r.2.scrubSummary x y.len r.1 us).incr (scopeCh x) (scopeF x MEM.SCRUB_PASSES)
    let s2 := s1.xirq x MEM.IRQ_SCRUB_DONE
    if s2.xget x MEM.STATUS_SCRUB_CONT = 1 ∧ y.stopAfter = false then s2 else s2.scrubIdle x

/-! ## Write-back and leak clock -/

/-- The queued write-back number `k` of a page lands, if it is the oldest of its bank (R424). -/
def doEccWriteback (x : Scope) (k : Nat) (s : State) : State :=
  let l := s.wbList (scopePad x)
  match l[k]? with
  | none => s
  | some e =>
    let older := (l.take k).any fun f => f.mem == e.mem && memBank f.mem f.word == memBank e.mem e.word
    if older || s.xget x MEM.STATUS_WB_STOPPED == 1 then s
    else s.memWrite e.mem e.word (s.memData e.mem e.word)

/-- A tick of the leak clock of memory `i` of a page (R425). -/
def doLeakTick (x : Scope) (i : Fin 7) (s : State) : State :=
  s.xset x (MEM.B_BUCKET_LEVEL i) (s.xget x (MEM.B_BUCKET_LEVEL i) - 1)

/-- A write of CFG: LEGACY4106 empties the bucket (R426, R438). -/
def State.writeMemCfg (s : State) (x : Scope) (i : Nat) (data : Word) : State :=
  let s1 := s.xset x (MEM.B_CFG i) (data.toNat &&& 0x800FFFFF)
  if s1.xget x (MEM.B_CFG_LEGACY4106 i) = 1 then s1.xset x (MEM.B_BUCKET_LEVEL i) 0 else s1

/-! ## March -/

/-- Whether `[a, a + k)` and `[b, b + l)` share a byte. -/
def overlap (a k b l : Nat) : Bool := decide (0 < k ∧ 0 < l ∧ a < b + l ∧ b < a + k)

/-- Whether a region meets one of the pinned regions (R436). -/
def State.pinned (s : State) (x : Scope) (start len : Nat) : Bool :=
  (List.range 4).any fun p => overlap start len (s.xget x (MEM.PIN_BASE_OFFSET p)) (s.xget x (MEM.PIN_LEN_BYTES p))

/-- MARCH_CMD.GO: a slice starts, or is refused with its result (R436). -/
def State.marchGo (s : State) (x : Scope) : State :=
  let start := s.xget x MEM.MARCH_START_OFFSET
  let len := s.xget x MEM.MARCH_LEN_BYTES
  let refuse := fun r : Nat => (s.xset x MEM.MARCH_RESULT (r * 2 ^ 29)).xirq x MEM.IRQ_MARCH_DONE
  if start % 8 ≠ 0 ∨ len % 8 ≠ 0 ∨ len = 0 ∨ 8 * memWords (scopePad x) < start + len then refuse 5
  else if s.pinned x start len then refuse 4
  else if s.xget x MEM.STATUS_MARCH_STOPPED = 1 then refuse 6
  else
    ((s.xset x MEM.STATUS_MARCH_BUSY 1).xset x MEM.BUSY_LONG_OP 1).modMarch x fun _ =>
      { active := true, start := start / 8, len := len / 8 }

/-- The slice ends with a result (0x1 PASS, 0x2 FAIL, 0x3 INCOMPLETE) and an offset (R436, R437). -/
def State.marchEnd (s : State) (x : Scope) (result off : Nat) : State :=
  let s0 := if result = 2 then s.raise (scopeCh x) (scopeF x MEM.FLT_MARCH_FAIL) { req := some reqTrial } else s
  let s1 := (s0.xset x MEM.STATUS_MARCH_BUSY 0).xset x MEM.BUSY_LONG_OP 0
  ((s1.xset x MEM.MARCH_RESULT (result * 2 ^ 29 + off)).xirq x MEM.IRQ_MARCH_DONE).modMarch x fun _ => {}

/-- The bus transactions of a march over `k` words: three reads and two writes a word, twice (R435). -/
def State.marchBus (s : State) (m w : Nat) : Nat → State
  | 0 => s
  | k + 1 => ((s.countMem m w 0x10 reqTrial 6).countMem m w 0x11 reqTrial 4).marchBus m (w + 1) k

/-- The failing words left as their last writes left them. -/
def State.marchFails (s : State) (m : Nat) : List MarchFail → State
  | [] => s
  | f :: l => (s.memPutSyn m f.word f.data f.syn.toNat).marchFails m l

/-- A slice runs to its end: PASS leaves every word as it was, FAIL leaves the failing words as the march left them
(R435). -/
def doMarchSliceEnd (x : Scope) (fails : List MarchFail) (s : State) : State :=
  let y := s.marchSt x
  if ! y.active then s
  else
    let m := scopePad x
    let bad := fails.filter fun f => decide (y.start ≤ f.word ∧ f.word < y.start + y.len)
    let s1 := (s.marchBus m y.start y.len).marchFails m bad
    match bad with
    | [] => s1.marchEnd x 1 0
    | f :: _ => s1.marchEnd x 2 (8 * f.word)

/-- A running slice ends early with its word restored (R436, R537). -/
def State.marchStop (s : State) (x : Scope) : State := if (s.marchSt x).active then s.marchEnd x 3 0 else s

/-- The slice reaches its budget (R436). -/
def doMarchBudgetEnd (x : Scope) (s : State) : State := s.marchStop x

/-! ## Parity -/

/-- What the march engine's own parity error does to the word in progress (R537): left complemented in its 72 bits, it
reads as the check matrix of the code makes it, which the spec does not give: a free value (log entry 3). -/
def State.marchTorn (s : State) (x : Scope) (word : Nat) (complemented : Bool) : State :=
  if complemented then
    let d := s.draw
    let e := d.2.draw
    e.2.memPutSyn (scopePad x) word (d.1 % 2 ^ 64) (e.1 % 256)
  else s

/-- What a parity error of an engine of the page does beside its fault (R432, R439, R537). -/
def State.memParity (s : State) (x : Scope) (e : MemEngine) : State :=
  let s1 := s.scrubAbort x
  match e with
  | .scrubber => (s1.xset x MEM.STATUS_SCRUB_STOPPED 1).marchStop x
  | .writeBack => (s1.xset x MEM.STATUS_WB_STOPPED 1).marchStop x
  | .march w c =>
    let s2 := s1.xset x MEM.STATUS_MARCH_STOPPED 1
    if (s2.marchSt x).active then (s2.marchTorn x w c).marchEnd x 3 (8 * w) else s2

/-- MEM_CTRL_PAR cleared: the engines run again (R439). -/
def State.memResume (s : State) (x : Scope) : State :=
  ((s.xset x MEM.STATUS_SCRUB_STOPPED 0).xset x MEM.STATUS_MARCH_STOPPED 0).xset x MEM.STATUS_WB_STOPPED 0

end Sys2Proof.Machine
end

