-- ==== Sys2Proof/Machine/Lrx.lean ====
section
/-! DEFINITION. The line-receive commands: signal detect and gain, plausibility and swaps, capture (R199 to R225). -/

namespace Sys2Proof.Machine

/-! ## Signal detect and gain -/


/-- SIG_DET falls in a state other than OFF: SIG_LOSS and LINE_SIG_LOST (R206). -/
def State.sigFall (s : State) (n : Ch) : State :=
  if s.is n LRX.STATUS_SIG_DET then
    let s1 := s.raise n LRX.FLT_LINE_SIG_LOST
    ((s1.sigOff n).irq n LRX.IRQ_SIG_LOSS).count n 0x30 2 0
  else s

/-- The controller after LRX_FSM_PAR is cleared (R224): from ACQ it acquires anew, REACQ ends in FROZEN, and the rises and falls
of SD_RAW that it has not followed it follows now (log entry 36). -/
def State.gainResume (s : State) (n : Ch) : State :=
  let s1 := s.modLrx n fun y => { y with parHeld := false }
  let sd := s.is n LRX.STATUS_SD_RAW
  let drop := (s1.set n LRX.STATUS_GAIN_STATE 1).sigFall n
  match s.gainState n with
  | 1 => s1.gainWait n
  | 2 => s1.gainWait n
  | 3 => if sd then s1 else drop
  | 4 => if sd then s1.set n LRX.STATUS_GAIN_STATE 3 else drop
  | 5 => if sd then s1.sigRise n else s1.sigFall n
  | 6 => if sd then s1.sigRise n else s1.sigFall n
  | _ => s1

/-- SD_CFG.SD_ON, whose values below 2 act as 2, and LOS_HOLD, whose 0 acts as 1 (R203). -/
def State.sdOn (s : State) (n : Ch) : Nat := max 2 (s.get n LRX.SD_CFG_SD_ON)
def State.losHold (s : State) (n : Ch) : Nat := max 1 (s.get n LRX.SD_CFG_LOS_HOLD)

/-- The input's amplitude has risen to `mv` mVppd: above 10 × SD_ON the energy detector sets SD_RAW (R203, R204). -/
def doSdRawRise (n : Ch) (mv : Nat) (s : State) : State :=
  if s.gainState n = 0 ∨ mv ≤ 10 * s.sdOn n then s
  else
    let s1 := s.set n LRX.STATUS_SD_RAW 1
    if s.gainHeld n then s1
    else
      match s.gainState n with
      | 1 => s1.gainAcq n
      | 5 => (s1.sigRise n).levels n
      | 6 => (s1.sigRise n).levels n
      | _ => s1

/-- The input's amplitude has not exceeded `mv` mVppd for `us` µs: SD_RAW falls once it has stayed below half the threshold for
LOS_HOLD (R203, R204, R208). -/
def doSdRawFall (n : Ch) (mv us : Nat) (s : State) : State :=
  if s.gainState n = 0 ∨ 5 * s.sdOn n ≤ mv ∨ us < s.losHold n then s
  else
    let s1 := s.set n LRX.STATUS_SD_RAW 0
    if s.gainHeld n then s1
    else
      match s.gainState n with
      | 2 => s1.set n LRX.STATUS_GAIN_STATE 1
      | 3 => ((s1.set n LRX.STATUS_GAIN_STATE 1).sigFall n).levels n
      | 4 => ((s1.set n LRX.STATUS_GAIN_STATE 1).sigFall n).levels n
      | 5 => (s1.sigFall n).levels n
      | 6 => (s1.sigFall n).levels n
      | _ => s1

/-- TARGET clamped to 16 to 80, in 1/16 code (R205). -/
def State.agcTarget (s : State) (n : Ch) : Nat := 16 * clampN 16 80 (s.get n LRX.AGC_CFG_TARGET)

/-- How many whole codes `a` lies above `b`, as 20 log10 (a/b) in steps of 0.25 dB rounded to the nearest and limited
to `k`: step `i` is passed when (a/b)^160 reaches 10^(2i - 1). -/
def codesAbove (a b : Nat) : Nat → Nat
  | 0 => 0
  | k + 1 =>
    let m := codesAbove a b k
    if m = k ∧ b ^ 160 * 10 ^ (2 * k + 1) ≤ a ^ 160 then k + 1 else m

/-- The error of an RMS from TARGET in codes, rounded and limited to ±24 (R205); both in 1/16 code. -/
def gainError (target rms : Nat) : Int :=
  if rms ≤ target then (codesAbove target rms 24 : Int) else - (codesAbove rms target 24 : Int)

/-- Whether the error is less than 2 codes, 0.5 dB: (a/b)^40 below 10 either way (R205). -/
def gainGood (target rms : Nat) : Bool :=
  decide (target ^ 40 < 10 * rms ^ 40) && decide (rms ^ 40 < 10 * target ^ 40)

/-- The code moved by an error. -/
def State.gainMove (s : State) (n : Ch) (e : Int) : State :=
  s.gainTo n (clampI 0 96 ((s.get n LRX.GAIN_CODE : Int) + e)).toNat

/-- An entry into FROZEN: the code and the time `t` (10 ns) are recorded, SIG_DET is set (R205, R207). -/
def State.gainFreeze (s : State) (n : Ch) (t : Nat) (rail : Bool) : State :=
  let s1 := (s.set n LRX.STATUS_GAIN_STATE 3).set n LRX.GAIN_FROZEN_CODE (s.get n LRX.GAIN_CODE)
  let s2 := (s1.setSat n LRX.GAIN_ACQ_TIME t).irq n LRX.IRQ_GAIN_FROZEN
  let s3 :=
    if rail && (s.get n LRX.GAIN_CODE == 0 || s.get n LRX.GAIN_CODE == 96) then
      (s2.set n LRX.STATUS_GAIN_RAIL 1).irq n LRX.IRQ_GAIN_RAIL
    else s2
  ((s3.modLrx n fun x => { x with frozenOnce := true }).sigRise n).levels n

/-- An ACQ measurement ends: `rms` in 1/16 code, `t` the time since SD_RAW rose in 10 ns (R205).  Every measurement moves the
code, the one that freezes it included. -/
def doGainMeasurement (n : Ch) (rms t : Nat) (s : State) : State :=
  if s.gainState n ≠ 2 ∨ s.gainHeld n = true then s
  else
    let s1 := s.gainMove n (gainError (s.agcTarget n) rms)
    if gainGood (s.agcTarget n) rms then
      if (s.chan n).lrx.good = 1 then s1.gainFreeze n t false else s1.modLrx n fun x => { x with good := 1 }
    else s1.modLrx n fun x => { x with good := 0 }

/-- 4 µs of ACQ have passed (R205). -/
def doGainAcqTimeout (n : Ch) (s : State) : State :=
  if s.gainState n = 2 ∧ s.gainHeld n = false then s.gainFreeze n 400 true else s

/-- CMD.GAIN_REACQ accepted: REACQ from FROZEN, elsewhere no effect (R207). -/
def State.gainReacq (s : State) (n : Ch) : State :=
  if s.gainState n = 3 ∧ s.gainHeld n = false then
    ((s.set n LRX.STATUS_GAIN_STATE 4).modLrx n fun x => { x with good := 0, steps := 0 }).lrxBusy n
  else s

/-- A dress notice on its way to the equaliser: 0 Dresser, 1 REACQ, 2 swap (R241). -/
def State.notice (s : State) (n : Ch) (source : Nat) : State :=
  s.modCh n fun c => { c with notices := c.notices ++ [source] }

/-- A REACQ measurement ends: `rms` in 1/16 code, `t` the time since the start of REACQ in 10 ns (R207).  Every measurement
moves the code by 1 towards TARGET, the last one included. -/
def doReacqStep (n : Ch) (rms t : Nat) (s : State) : State :=
  if s.gainState n ≠ 4 ∨ s.gainHeld n = true then s
  else
    let x := (s.chan n).lrx
    let good := gainGood (s.agcTarget n) rms
    let e := gainError (s.agcTarget n) rms
    let dir : Int := if 0 < e then 1 else if e < 0 then -1 else 0
    let s1 := s.modLrx n fun y => { y with good := if good then 1 else 0, steps := y.steps + 1 }
    let s2 := s1.gainMove n dir
    let s3 := if s2.get n LRX.GAIN_CODE = s.get n LRX.GAIN_CODE then s2 else s2.notice n 1
    if good && x.good == 1 then (s3.gainFreeze n t false).lrxBusy n
    else if 96 ≤ x.steps + 1 then (s3.gainFreeze n t true).lrxBusy n
    else s3

/-- An RMS window ends, `rms` in 1/16 code (R207). -/
def doRmsWindow (n : Ch) (rms : Nat) (s : State) : State :=
  if s.gainState n = 0 then s
  else
    let s1 := s.setSat n LRX.RMS_RMS rms
    if s.gainState n ≠ 3 then s1
    else
      let d := max 1 (s.get n LRX.AGC_CFG_DRIFT_DB)
      let tg := s.agcTarget n
      let out := decide (tg ^ 20 * 10 ^ d < rms ^ 20) || decide (rms ^ 20 * 10 ^ d < tg ^ 20)
      let s2 := s1.modLrx n fun x => { x with drifted := out }
      if out && ! (s.chan n).lrx.drifted then s2.irq n LRX.IRQ_GAIN_DRIFT else s2

/-- A write of GAIN_CFG (R208). -/
def State.writeGainCfg (s : State) (n : Ch) (data : Word) : State :=
  let old := s.get n LRX.GAIN_CFG_MODE
  let s1 := s.set n LRX.GAIN_CFG (data.toNat &&& 0x7F7F7F03)
  let new := s1.get n LRX.GAIN_CFG_MODE
  let st := s.gainState n
  if st = 0 ∨ s.gainHeld n = true then s1
  else if st = 6 then s1.gainTo n (s1.get n LRX.GAIN_CFG_LISTEN_CODE)
  else if new = 1 then
    if st = 5 then s1.gainTo n (s1.get n LRX.GAIN_CFG_MAN_CODE)
    else
      let s2 := s1.gainFixed n 5 (s1.get n LRX.GAIN_CFG_MAN_CODE)
      ((if s2.is n LRX.STATUS_SD_RAW then s2 else s2.sigFall n).lrxBusy n).levels n
  else if old = 1 then ((s1.sigFall n).gainWait n).levels n
  else s1

/-! ## Tandem, plausibility and swaps -/

/-- A Tandem window ends: the spur below signal in 1/16 dB and the timing error in fs (R210). -/
def doTandemWindow (n : Ch) (spur : Nat) (skew : Int) (s : State) : State :=
  if s.get n LRX.STATUS_BANK_MODE = 1 ∧ s.lrxRun n = true then
    let s1 := (s.setSat n LRX.TANDEM_EST_SPUR spur).setI n LRX.TANDEM_EST_SKEW_FS skew
    let run := if spur < s.get n LRX.TANDEM_CFG_SPUR_MIN then (s.chan n).lrx.lowRun + 1 else 0
    let s2 := s1.modLrx n fun x => { x with lowRun := min run 4 }
    if 4 ≤ run then s2.raise n LRX.FLT_TANDEM_MISMATCH else s2
  else s

/-- PLAUS_CFG.COUNT with 0 acting as 1 (R212). -/
def State.plausCount (s : State) (n : Ch) : Nat := max 1 (s.get n LRX.PLAUS_CFG_COUNT)

/-- A swap refused (R214, R215). -/
def State.swapRefuse (s : State) (n : Ch) (reason : Nat) : State :=
  ((s.set n LRX.SWAP_INFO_REASON reason).sat n LRX.SWAP_FAILS_REFUSED).irq n LRX.IRQ_SWAP_REFUSED

/-- A swap request from the host or the Dresser (R214). -/
def State.swapRequest (s : State) (n : Ch) : State :=
  if s.get n LRX.STATUS_BANK_MODE ≠ 2 then s.swapRefuse n 1
  else if s.is n LRX.BANK_CFG_SHADOW_EN = false then s.swapRefuse n 2
  else if s.swapState n = 1 then s.swapRefuse n 9
  else
    let v := max 1 (s.get n LRX.BANK_CFG_VERIFY)
    ((s.set n LRX.STATUS_SWAP_STATE 2).modLrx n fun x => { x with left := v }).levels n

/-- A judged window outside the self-test: the counts and the runs of R212. -/
def State.plausJudge (s : State) (n : Ch) (fail : Bool) : State :=
  if fail then
    let run := (s.chan n).lrx.failRun + 1
    let s1 := (s.sat n LRX.PLAUS_STAT_FAIL_WINDOWS).capTrig n 4
    if s.plausCount n ≤ run then
      ((s1.raise n LRX.FLT_SHADOW_IMPLAUSIBLE).set n LRX.STATUS_PLAUS_OK 0).modLrx n fun x => { x with failRun := 0 }
    else s1.modLrx n fun x => { x with failRun := run }
  else (s.set n LRX.STATUS_PLAUS_OK 1).modLrx n fun x => { x with failRun := 0 }

/-- What a judged window does to a swap in VERIFY or WAIT_GUARD (R215). -/
def State.swapJudge (s : State) (n : Ch) (fail : Bool) : State :=
  let st := s.swapState n
  if st ≠ 2 ∧ st ≠ 3 then s
  else if fail then
    (((s.set n LRX.STATUS_SWAP_STATE 0).modLrx n fun x => { x with left := 0 }).swapRefuse n 3).levels n
  else if st = 3 then s
  else
    let left := (s.chan n).lrx.left - 1
    let s1 := s.modLrx n fun x => { x with left := left }
    if 0 < left then s1
    else s1.set n LRX.STATUS_SWAP_STATE (if s.is n EQ.STATUS_GUARD_HOLD then 3 else 4)

/-- A plausibility window ends with `d` in 1/16 LSB² (R212, R213, R215). -/
def doPlausWindow (n : Ch) (d : Nat) (s : State) : State :=
  let x := (s.chan n).lrx
  let st := s.swapState n
  if ! s.is n LRX.STATUS_SHADOW_PWR then s
  else if st = 5 then
    let s1 := s.modLrx n fun y => { y with left := y.left - 1, skip := false }
    if x.left ≤ 1 then (s1.set n LRX.STATUS_SWAP_STATE 0).levels n else s1
  else if st = 1 ∨ st = 4 ∨ x.skip = true then s.modLrx n fun y => { y with skip := false }
  else
    let fail := decide (s.get n LRX.PLAUS_CFG_THRESH < d)
    let s1 := s.setSat n LRX.PLAUS_D_LAST d
    let s2 := s1.setSat n LRX.PLAUS_D_MAX (max d (s.get n LRX.PLAUS_D_MAX))
    if x.testing then
      s2.modLrx n fun y => { y with testLeft := y.testLeft - 1, testPassed := y.testPassed || ! fail }
    else (s2.plausJudge n fail).swapJudge n fail

/-- CMD.PLAUS_TEST accepted (R213). -/
def State.plausTest (s : State) (n : Ch) : State :=
  if s.get n LRX.STATUS_BANK_MODE = 2 ∧ s.is n LRX.BANK_CFG_SHADOW_EN = true ∧ s.swapState n = 0 ∧
      s.is n LRX.STATUS_SHADOW_PWR = true then
    (s.modLrx n fun x => { x with testing := true, testLeft := s.plausCount n, testPassed := false }).lrxBusy n
  else (s.set n LRX.PLAUS_STAT_TEST_RESULT 3).irq n LRX.IRQ_PLAUS_TEST_DONE

/-- The self-test's windows have ended (R213). -/
def doPlausTestEnd (n : Ch) (s : State) : State :=
  let x := (s.chan n).lrx
  if x.testing && x.testLeft == 0 then
    let s1 := (s.modLrx n fun y => { y with testing := false }).lrxBusy n
    let s2 := if x.testPassed then s1.raise n LRX.FLT_SHADOW_IMPLAUSIBLE else s1
    (s2.set n LRX.PLAUS_STAT_TEST_RESULT (if x.testPassed then 2 else 1)).irq n LRX.IRQ_PLAUS_TEST_DONE
  else s

/-- WAIT_GUARD has lasted 100 ms (R215). -/
def doWaitGuardTimeout (n : Ch) (s : State) : State :=
  if s.swapState n = 3 then (s.swapEnd n 4).levels n else s

/-- The switch of a primed swap (R216). -/
def doBankSwapSwitch (n : Ch) (s : State) : State :=
  if s.swapState n = 4 then
    let settle := max 1 (s.get n LRX.BANK_CFG_SETTLE)
    let s1 := (s.set n LRX.STATUS_ACTIVE_BANK (s.get n LRX.STATUS_ACTIVE_BANK + 1)).sat n LRX.SWAP_INFO_COUNT
    let s2 := ((s1.irq n LRX.IRQ_SWAP_DONE).count n 0x35 2 0).notice n 2
    let s3 := (s2.capEpoch n true).capTrig n 3
    ((s3.set n LRX.STATUS_SWAP_STATE 5).modLrx n fun x => { x with left := settle }).levels n
  else s

/-- A write of BANK_CFG (R211). -/
def State.writeBankCfg (s : State) (n : Ch) (data : Word) : State :=
  (s.set n LRX.BANK_CFG (data.toNat &&& 0xFF03)).levels n

/-! ## Capture -/

/-- CAP_CTRL.ARM (R219, R220): no effect in LISTEN or while a capture runs. -/
def State.capArm (s : State) (n : Ch) : State :=
  if s.capturing n || s.chState n == 2 then s
  else
    let e := s.epochNow n false
    let now := s.get n LRX.CAP_CFG_TRIG == 0 || s.get n LRX.CAP_CFG_TRIG == 7
    let s1 := (s.set n LRX.CAP_STATUS_STATE 1).set n LRX.STATUS_CAP_BUSY 1
    (s1.modLrx n fun x => { x with trig := now, pre := 0, epochs := [e], dropped := false, due := false }).levels n

/-- The samples before the trigger that CAP_CFG asks for; an immediate trigger has none (R220). -/
def State.capPre (s : State) (n : Ch) : Nat :=
  if s.get n LRX.CAP_CFG_TRIG = 0 ∨ s.get n LRX.CAP_CFG_TRIG = 7 then 0 else s.get n LRX.CAP_CFG_PRE * 32768

/-- PRE × 32,768 samples are stored (R220). -/
def doCapPreFilled (n : Ch) (s : State) : State :=
  if s.capState n = 1 then s.set n LRX.CAP_STATUS_STATE 2 else s

/-- The trigger that fell due is taken: `stored` samples stand before it when it comes in PRE (R220, R223). -/
def doCapTrigger (n : Ch) (stored : Nat) (s : State) : State :=
  if (s.capState n = 1 ∨ s.capState n = 2) ∧ (s.chan n).lrx.trig = true then
    let full := s.capPre n
    let pre := if s.capState n = 2 then full else min full stored
    let s1 := (s.set n LRX.CAP_STATUS_STATE 3).modLrx n fun x => { x with trig := false, pre, trigAt := s.dev.ticks }
    (s1.set n LRX.CAP_TS_NS s.dev.time.ns).set n LRX.CAP_TS_SEC s.dev.time.sec
  else s

/-- The epochs of a record with their starts: those that begin before the oldest sample leave their last one as entry 0
(R222). -/
def capTrim : List (CapEpoch × Int) → List (CapEpoch × Int)
  | a :: b :: l => if b.2 ≤ 0 then capTrim (b :: l) else a :: b :: l
  | l => l

/-- Entries of the epoch table written from `i` on, starts counted from `base`. -/
def State.putEpochs (s : State) (n : Ch) (base : Int) (i : Nat) : List (CapEpoch × Int) → State
  | [] => s
  | (e, k) :: l =>
    let s1 := s.set n (LRX.EPOCH_A_TYPE i) (if e.swap then 1 else 0)
    let s2 := (s1.set n (LRX.EPOCH_A_BANK i) e.bank).set n (LRX.EPOCH_A_CODE i) e.code
    let s3 := s2.set n (LRX.EPOCH_A_START i) (if i = 0 then 0 else (k - base).toNat)
    State.putEpochs (s3.set n (LRX.EPOCH_B_GAIN_EPOCH i) e.epoch) n base (i + 1) l

/-- The little-endian value of up to eight samples (R221). -/
def packBytes : List Byte → Nat
  | [] => 0
  | b :: l => b.toNat + 256 * packBytes l

/-- Samples written to the capture memory as full words from word `w` on, around its end (R221). -/
def State.putSamples (s : State) (n : Ch) (w : Nat) : List Byte → Nat → State
  | _, 0 => s
  | [], _ => s
  | l, k + 1 => State.putSamples (s.memWrite (chMem n 4) (w % 32768) (packBytes (l.take 8))) n (w + 1) (l.drop 8) k

/-- Two lists in turn. -/
def inTurn {α : Type} : List α → List α → List α
  | x :: xs, y :: ys => x :: y :: inTurn xs ys
  | _, _ => []

/-- The samples of an ADC word that a capture source takes: the active stream, or one bank (R200, R219). -/
def wordSamples (tandem : Bool) (src : Nat) (w : AdcWord) : List Byte :=
  match src with
  | 1 => w.a
  | 2 => w.b
  | _ => if tandem then inTurn w.a w.b else if w.bank = 0 then w.a else w.b

/-- One word of every `k`, `i` words before the next. -/
def thin {α : Type} (k : Nat) : Nat → List α → List α
  | _, [] => []
  | 0, w :: ws => w :: thin k (k - 1) ws
  | i + 1, _ :: ws => thin k i ws

/-- The samples that a capture stores of a run of ADC words: SRC selects them, DECIM keeps one word of every 2^DECIM (R219). -/
def State.capSamples (s : State) (n : Ch) (ws : List AdcWord) : List Byte :=
  (thin (2 ^ s.get n LRX.CAP_CFG_DECIM) 0 ws).flatMap
    (wordSamples (s.get n TOP.STATUS_ACTIVE_MODE == 3) (s.get n LRX.CAP_CFG_SRC))

/-- The POST samples are stored, or the record of a capture that ended otherwise is described (R220 to R222). -/
def doCapDone (n : Ch) (r : CapRecord) (s : State) : State :=
  let x := (s.chan n).lrx
  if s.capState n ≠ 3 ∧ x.due = false then s
  else
    let s1 := s.putSamples n r.start (s.capSamples n r.words) 32768
    let post := 262144 - s.capPre n
    let count := if s.capState n = 3 then min 262144 (x.pre + post) else min 262144 r.count
    let ep := capTrim (x.epochs.zip r.starts)
    let base : Int := if x.dropped then max 0 ((ep.head?.map Prod.snd).getD 0) else 0
    let s2 := (s1.set n LRX.CAP_STATUS_COUNT (count - base.toNat)).set n LRX.CAP_START_WORD
      (r.start + base.toNat / 8)
    let s3 := s2.set n LRX.CAP_TRIG_POS_INDEX (x.pre - base.toNat)
    let s4 := (s3.putEpochs n base 0 ep).set n LRX.CAP_EPOCHS_ENTRIES ep.length
    let s5 := s4.modLrx n fun y => { y with due := false }
    if s.capState n = 3 then
      ((s5.set n LRX.CAP_STATUS_STATE 4).set n LRX.STATUS_CAP_BUSY 0).irq n LRX.IRQ_CAP_DONE
    else s5

/-- CAP_CTRL.ABORT (R220). -/
def State.capAbort (s : State) (n : Ch) : State := if s.capturing n then s.capStop n 5 else s

/-! ## Windows, statistics, parity -/

/-- A clip window of the active stream ends (R224). -/
def doClipWindow (n : Ch) (clipped : Nat) (s : State) : State :=
  if s.gainState n = 0 then s
  else
    let s1 := s.sat n LRX.CLIP_COUNT clipped
    if s.get n LRX.CLIP_CFG_THRESH < clipped then (s1.raise n LRX.FLT_ADC_OVERRANGE).capTrig n 6 else s1

/-- CMD.CLR_STATS (R225). -/
def State.lrxClear (s : State) (n : Ch) : State :=
  ((((s.set n LRX.PLAUS_D_MAX 0).set n LRX.PLAUS_STAT_FAIL_WINDOWS 0).set n LRX.SWAP_INFO_COUNT 0).set n
    LRX.SWAP_FAILS 0).set n LRX.CLIP_COUNT 0

/-- What a parity error of a controller or the page's registers does beside its fault: the gain frozen, any swap ended,
any capture aborted (R224). -/
def State.lrxParity (s : State) (n : Ch) : State :=
  let s1 := (s.modLrx n fun x => { x with parHeld := true }).swapEnd n 8
  ((if s1.capturing n then s1.capStop n 5 else s1).lrxBusy n).levels n

end Sys2Proof.Machine
end

