-- ==== Sys2Proof/Machine/Dress.lean ====
section
/-! DEFINITION. The Dresser's commands: seeding, loading, windows, steps, triggers (R271 to R293). -/

namespace Sys2Proof.Machine

/-! ## The trim memory (R272) -/

/-- The byte of a trim index: the line set of the active bank mode, then the other groups. -/
def State.trimByte (s : State) (n : Ch) (i : Nat) : Nat :=
  if i < 8192 then (if s.get n LRX.STATUS_BANK_MODE = 1 then i else 8192 + i) else 8192 + i

/-- The code of the trim at byte `b`; memory and converters agree on the sets in use (R273). -/
def State.trimCode (s : State) (n : Ch) (b : Nat) : Int :=
  toSigned 8 (s.memData (chMem n 5) (b / 8) / 2 ^ (8 * (b % 8)) % 256)

/-- The seed byte of byte `b`: the nominal code of a trim, 0 in the working state (R274). -/
def seedByte (n : Ch) (b : Nat) : Nat := if b < 0x6400 then ofSigned 8 (Config.trimSeed n.val b) else 0

/-- The seeds of word `w`. -/
def seedWord (n : Ch) (w : Nat) : Nat := packBytes ((List.range 8).map fun k => BitVec.ofNat 8 (seedByte n (8 * w + k)))

/-- Words `w` to `w + k - 1` written with their seeds. -/
def State.seedWords (s : State) (n : Ch) (w : Nat) : Nat → State
  | 0 => s
  | k + 1 => (s.busWrite (chMem n 5) w (seedWord n w) reqDresser).seedWords n (w + 1) k

/-- Seeding after DARK: every word of bytes 0x0000 to 0x7FFF, then SEED_DONE (R274). -/
def State.dressSeed (s : State) (n : Ch) : State :=
  let s1 := s.seedWords n 0 4096
  let s2 := ((s1.set n DRESS.STATUS_STATE 0).set n DRESS.BUSY_LONG_OP 0).set n DRESS.STATUS_REF_VALID 0
  s2.irq n DRESS.IRQ_SEED_DONE

/-- One word loaded into the converters: an uncorrectable one gives its trims their seeds (R275). -/
def State.trimLoadWord (s : State) (n : Ch) (w : Nat) : State :=
  let r := s.busRead (chMem n 5) w reqDresser
  match r.1 with
  | some _ => r.2
  | none =>
    (r.2.raise n DRESS.FLT_TRIM_MEM_UE { req := some reqDresser }).busWrite (chMem n 5) w (seedWord n w) reqDresser

/-- Words `w` to `w + k - 1` loaded. -/
def State.trimLoadWords (s : State) (n : Ch) (w : Nat) : Nat → State
  | 0 => s
  | k + 1 => (s.trimLoadWord n w).trimLoadWords n (w + 1) k

/-- Step 4 of the mode sequence: the line set of the new bank mode, the host-lane and the DAC sets (R275). -/
def State.trimLoad (s : State) (n : Ch) (tandem : Bool) : State :=
  (s.trimLoadWords n (if tandem then 0 else 1024) 1024).trimLoadWords n 2048 1152

/-- Whether a host write of byte `b` of the trim memory is refused (R273). -/
def State.trimWriteRefused (s : State) (n : Ch) (b : Nat) : Bool :=
  decide (b < 0x8000) &&
    (s.is n DRESS.BUSY_LONG_OP ||
      (s.modeActive n &&
        (if b < 0x2000 then s.get n LRX.STATUS_BANK_MODE == 1
         else if b < 0x4000 then s.get n LRX.STATUS_BANK_MODE != 1
         else decide (b < 0x6400))))

/-! ## Time -/

/-- STEP_INT in ps (R276). -/
def State.stepPs (s : State) (n : Ch) : Nat := 500000 * clampN 1 128 (s.get n DRESS.CFG_STEP_INT)

/-- The window of the running scope in ps (R280). -/
def State.dressWindowPs (s : State) (n : Ch) : Nat :=
  let slow := 2 ^ (3 - s.get n TOP.STATUS_ACTIVE_MODE)
  match ((s.chan n).dress.scopes.head?).getD 0 with
  | 0 => if s.shadowMode n then 279620267 * slow / 2 else 279620267
  | 1 => 315806118 * slow * (if s.is n TOP.STATUS_ACTIVE_HOST_OPT then 2 else 1)
  | _ => 256000000

/-- Time that the pass has waited, in ps, since its last event (R282). -/
def State.addWait (s : State) (n : Ch) (ps : Nat) : State :=
  if (s.chan n).dress.waited then
    let d := (s.chan n).dress.deferPs + ps
    (s.modDress n fun x => { x with deferPs := d, waited := false, ps := x.ps + s.stepPs n }).setSat n DRESS.DEFER_US
      (d / 1000000)
  else s

/-- Time that the pass has run. -/
def State.addRun (s : State) (n : Ch) (ps : Nat) : State := s.modDress n fun x => { x with ps := x.ps + ps }

/-! ## Rails and steps -/

/-- A trim at its rail: TRIM_RAIL, RAIL, and no further part in the pass (R287). -/
def State.trimRail (s : State) (n : Ch) (i : Nat) (up : Bool) : State :=
  if (s.chan n).dress.railed.contains i then s
  else
    let s1 := (s.raise n DRESS.FLT_TRIM_RAIL).irq n DRESS.IRQ_TRIM_RAIL
    (s1.set n DRESS.RAIL (2 ^ 31 + (if up then 2 ^ 16 else 0) + i)).modDress n fun x => { x with railed := x.railed ++ [i] }

/-- Whether a trim index is a fine skew trim of a sub-converter: slot 3 (R271, R278). -/
def isFineSkew (i : Nat) : Bool := decide (i < 16384) && i % 32 == 3

/-- Whether a step of a trim in a direction is a carry: a fine skew trim beyond ±120 (R278). -/
def State.isCarry (s : State) (n : Ch) (i : Nat) (up : Bool) : Bool :=
  let c := s.trimCode n (s.trimByte n i)
  isFineSkew i && (if up then decide (120 ≤ c) else decide (c ≤ -120))

/-- Whether a trim cannot take a step in service in a direction (R278, R287). -/
def State.atRail (s : State) (n : Ch) (i : Nat) (up : Bool) : Bool :=
  let c := s.trimCode n (s.trimByte n (if s.isCarry n i up then i - 1 else i))
  if up then decide (127 ≤ c) else decide (c ≤ -127)

/-- The trims of a round that can step, the others at their rail (R279, R287). -/
def State.splitRails (s : State) (n : Ch) : List (Nat × Bool) → List (Nat × Bool) × State
  | [] => ([], s)
  | (i, up) :: l =>
    if s.atRail n i up then (s.trimRail n i up).splitRails n l
    else
      let r := s.splitRails n l
      ((i, up) :: r.1, r.2)

/-- A new code written to memory: an uncorrectable word is written whole from the converters' codes (R276, R293). -/
def State.putTrim (s : State) (n : Ch) (b : Nat) (code : Int) : State :=
  let m := chMem n 5
  let v := ofSigned 8 code
  let r := (s.countMem m (b / 8) 0x11 reqDresser).memMerge m (b / 8) (b % 8) 1 v reqDresser
  let s1 :=
    if r.1 then r.2
    else
      (r.2.raise n DRESS.FLT_TRIM_MEM_UE { req := some reqDresser }).memWrite m (b / 8)
        (mergeBytes (s.memData m (b / 8)) (b % 8) 1 v)
  s1.modDress n fun x => { x with changed := if x.changed.contains b then x.changed else x.changed ++ [b] }

/-- A step counted: STEPS and the DRESS_STEP counters (R276, R391). -/
def State.countStep (s : State) (n : Ch) (i : Nat) : State :=
  let k := if i < 8192 then 0 else if i < 16384 then 1 else if i < 16896 then 2 else 3
  (s.incr n DRESS.STEPS).count n 0x34 (if k % 2 = 0 then 2 else 1) k

/-- A step takes effect: one code, or a carry (R276, R278). -/
def State.trimStep (s : State) (n : Ch) (i : Nat) (up : Bool) : State :=
  if s.atRail n i up then s.trimRail n i up
  else
    let d : Int := if up then 1 else -1
    let b := s.trimByte n i
    let s1 :=
      if s.isCarry n i up then
        (s.putTrim n (b - 1) (s.trimCode n (b - 1) + d)).putTrim n b (s.trimCode n b - 8 * d)
      else s.putTrim n b (s.trimCode n b + d)
    s1.countStep n i

/-- The step in flight takes effect, and with it an abort that waited for it (R276, R292). -/
def State.flightLands (s : State) (n : Ch) : State :=
  match (s.chan n).dress.flight with
  | none => s
  | some (i, up) =>
    let s1 := ((s.trimStep n i up).set n DRESS.STATUS_STEP_IN_FLIGHT 0).modDress n fun x => { x with flight := none }
    if ! s1.dressing n then s1
    else if (s1.chan n).dress.aborting then (s1.passAbort n).levels n
    else if (s1.chan n).dress.due = [] ∧ s1.dressState n = 3 then (s1.roundEnd n).levels n
    else s1

/-- The next step of the round is announced or decided (R276). -/
def State.stepBegins (s : State) (n : Ch) : State :=
  match (s.chan n).dress.due with
  | [] => s
  | (i, up) :: rest =>
    let s1 := (s.addRun n (s.stepPs n)).modDress n fun x => { x with due := rest, flight := some (i, up) }
    let s2 := s1.set n DRESS.STATUS_STEP_IN_FLIGHT 1
    if i < 8192 then s2.notice n 0 else s2

/-- A trim step falls due, `wait` ps of deferral having passed since the pass's last event (R276, R281, R282). -/
def doTrimStep (n : Ch) (part : StepPart) (wait : Nat) (s : State) : State :=
  if (s.chan n).dress.flight.isSome then
    match part with
    | .announced => s
    | .carriedOut => s.flightLands n
  else if s.dressState n ≠ 3 then s
  else if s.deferCause n ≠ 0 then
    ((s.set n DRESS.STATUS_STATE 4).set n DRESS.STATUS_DEFER_CAUSE (s.deferCause n)).modDress n fun x =>
      { x with waited := true }
  else
    let s1 := (s.addWait n wait).stepBegins n
    match part with
    | .announced => s1
    | .carriedOut => s1.flightLands n

/-! ## Measurement windows -/

/-- DEADBAND in quarter-codes (R279). -/
def State.deadband (s : State) (n : Ch) : Nat := clampN 2 15 (s.get n DRESS.CFG_DEADBAND)

/-- Whether a trim index belongs to the running scope and its lanes that are not skipped; off line, to the phase's slots
of the shadow bank (R272, R281, R290). -/
def State.inScope (s : State) (n : Ch) (i : Nat) : Bool :=
  let x := (s.chan n).dress
  match (x.scopes.head?).getD 4 with
  | 0 =>
    decide (i < 8192) &&
      (! s.shadowMode n ||
        ((i / 4096 != s.get n LRX.STATUS_ACTIVE_BANK) && ((decide (1 ≤ i % 32 ∧ i % 32 ≤ 4)) == x.dynamic)))
  | 1 => decide (8192 ≤ i ∧ i < 16384) && !x.skip.contains (trimLane i).val
  | 2 => decide (16384 ≤ i ∧ i < 16896)
  | 3 => decide (16896 ≤ i ∧ i < 17408) && !x.skip.contains (trimLane i).val
  | _ => false

/-- The estimates that call for a step (R279, R287). -/
def State.toStep (s : State) (n : Ch) (est : List TrimError) : List TrimError :=
  est.filter fun e =>
    s.inScope n e.index && decide (s.deadband n ≤ e.quarters.natAbs) && !(s.chan n).dress.railed.contains e.index

/-- An offline round writes each trim to its estimated code, at most its rail (R287, R290). -/
def State.offlineTrims (s : State) (n : Ch) : List TrimError → State
  | [] => s
  | e :: l =>
    let b := s.trimByte n e.index
    let want := s.trimCode n b + (2 * e.quarters + 4) / 8
    let s1 := if want < -127 ∨ 127 < want then s.trimRail n e.index (decide (0 < want)) else s
    let code := clampI (-127) 127 want
    (if code = s.trimCode n b then s1 else (s1.putTrim n b code).countStep n e.index).offlineTrims n l

/-- A phase of an offline trim ends: DYNAMIC after STATIC, then the swap or NO_SWAP (R290). -/
def State.phaseEnd (s : State) (n : Ch) (limit : Bool) : State :=
  let s1 := s.modDress n fun x => { x with limited := x.limited || limit, round := 0, measured := 0 }
  if ! (s.chan n).dress.dynamic then s1.modDress n fun x => { x with dynamic := true }
  else
    let s2 := s1.set n LRX.STATUS_SWAP_STATE 0
    if s.is n LRX.BANK_CFG_SWAP_AUTO then ((s2.set n DRESS.STATUS_STATE 6).swapRequest n).levels n
    else (s2.scopeEnd n 9).levels n

/-- A measurement window of the running scope ends with its estimates (R279, R280, R290). -/
def doMeasureWindowEnd (n : Ch) (est : List TrimError) (wait : Nat) (s : State) : State :=
  let st := s.dressState n
  if st ≠ 2 ∧ st ≠ 5 then s
  else if st = 2 ∧ (s.chan n).dress.scopes.head? = some 0 ∧ s.shadowMode n = true then s
  else
    let gap := if (s.chan n).dress.round = 0 ∨ st = 5 then 0 else s.stepPs n
    let s1 := (s.addWait n wait).addRun n (gap + s.dressWindowPs n)
    let k := (s.chan n).dress.measured + 1
    let s2 := s1.modDress n fun x => { x with measured := k, most := max x.most (min k 15) }
    let todo := s2.toStep n est
    if st = 5 then
      if todo = [] then s2.phaseEnd n false
      else
        let s3 := (s2.offlineTrims n todo).modDress n fun x => { x with round := x.round + 1 }
        if max 1 (s.get n DRESS.CFG_MAX_ROUNDS) ≤ (s3.chan n).dress.round then s3.phaseEnd n true else s3
    else
      let r := s2.splitRails n (todo.map fun e => (e.index, decide (0 < e.quarters)))
      if r.2.dressState n ≠ 2 then r.2
      else if r.1 = [] then (r.2.scopeEnd n 1).levels n
      else (r.2.modDress n fun x => { x with due := r.1 }).set n DRESS.STATUS_STATE 3

/-! ## Passes -/

/-- CMD.PASS accepted with the page at rest: a pass, or REFUSED (R284). -/
def State.dressPass (s : State) (n : Ch) : State :=
  let mask := s.get n DRESS.SCOPE_CMD_SCOPE
  if s.passMay n mask then (s.passStart n mask 1).levels n
  else
    ((s.set n DRESS.PASS_RESULT (4 * 2 ^ 28 + 1 * 2 ^ 24)).sat n DRESS.PASS_COUNT_ABORTED).irq n DRESS.IRQ_PASS_ABORTED

/-- A first pass falls due (R286). -/
def doFirstPassTrigger (n : Ch) (s : State) : State :=
  if s.firstTrigger n then (s.autoTrigger n 3).levels n else s

/-- A reading of the die temperature, in 1/16 °C, or an invalid one (R285, R338). -/
def State.dressTemp (s : State) (n : Ch) (reading : Option Int) : State :=
  match reading with
  | none => s.set n DRESS.STATUS_TEMP_VALID 0
  | some t =>
    let l := (t :: (s.chan n).dress.temps).take 16
    let s1 := (s.modDress n fun x => { x with temps := l }).setI n DRESS.TEMP_NOW (l.sum / l.length)
    let s2 := s1.set n DRESS.STATUS_TEMP_VALID (if l.length = 16 then 1 else 0)
    if s2.tempTrigger n then (s2.autoTrigger n 2).levels n else s2

/-- Deferred time exceeds LIMIT_MS: TIMED_OUT (R282). -/
def doDeferTimeout (n : Ch) (s : State) : State :=
  if s.dressing n && ((s.chan n).dress.waited || s.dressState n == 4) then
    let us := 1000 * max 1 (s.get n DRESS.DEFER_CFG_LIMIT_MS)
    let s1 := (s.raise n DRESS.FLT_PASS_TIMEOUT).setSat n DRESS.DEFER_US us
    if s1.dressing n then ((s1.passCut n 3 8).irq n DRESS.IRQ_PASS_TIMEOUT).levels n
    else s1.irq n DRESS.IRQ_PASS_TIMEOUT
  else s

/-- What a parity error of the Dresser or of the page's registers does beside its fault: the pass has ended (R292). -/
def State.dressParity (s : State) (n : Ch) : State := s.levels n

end Sys2Proof.Machine
end

