-- ==== Sys2Proof/Machine/Gauge.lean ====
section
/-! DEFINITION. The Gauge commands: sequences, streams, housekeeping slots, path diagnosis (R326 to R343). -/

namespace Sys2Proof.Machine

/-! ## What a conversion reads (R326 to R328, R330) -/

/-- The code of a voltage in nV at a PGA code of gain 2^pga (R327). -/
def gaugeCode (nV pga : Nat) : Nat := min 16383 (nV * 2 ^ pga * 16384 / 1200000000)

/-- The voltages at the PGA of a DAC output within its span, of the die at a temperature in 1/16 °C, and of the test DAC, in nV
(R326, R327). -/
def readbackNv (out low high : Nat) : Nat := 1200000000 * (out - low) / (high - low)
def dieNv (c16 : Int) : Int := 600000000 + 2500000 * (c16 - 400) / 16
def State.testNv (s : State) (n : Ch) : Nat := 1200000000 * s.get n GAUGE.TESTV_CODE / 1023

/-- The triangular filter's result over 2L conversions, in 1/4 LSB: weights 0 to L and down again, with unity gain (R330). -/
def triangular (l : Nat) (codes : List Nat) : Nat :=
  4 * ((List.range (2 * l)).map fun i => min i (2 * l - i) * codes.getD i 0).sum / (l * l)

/-! ## Triggers -/

/-- A trigger: a run, a pending trigger, or a lost one (R333). -/
def State.gaugeTrigger (s : State) (n : Ch) : State :=
  if ! s.is n GAUGE.CTRL_EN || s.inTrial n then s
  else if s.gaugeMay n && !s.is n GAUGE.STATUS_SEQ_BUSY && !s.is n GAUGE.BUSY_LONG_OP then s.runStart n
  else if s.is n GAUGE.STATUS_TRIG_PENDING then
    ((s.sat n GAUGE.COUNTS_TRIGGER_LOST).irq n GAUGE.IRQ_TRIG_LOST).count n 0x51 0 0
  else s.set n GAUGE.STATUS_TRIG_PENDING 1

/-- The sequence timer, or a second boundary, where TRIG_SRC selects it (R333). -/
def doGaugeTimerTrigger (n : Ch) (second : Bool) (s : State) : State :=
  if bitOf (s.get n GAUGE.SEQ_CFG_TRIG_SRC) (if second then 1 else 0) then s.gaugeTrigger n else s

/-! ## Entries -/

/-- A result in whole LSB (R340). -/
def wholeLsb (v : Nat) : Nat := min 16383 ((v + 2) / 4)

/-- The latest RXPWR result at x1 (R337). -/
def State.noteRxpwr (s : State) (n : Ch) (input pga v : Nat) : State :=
  if input = 0 ∧ pga = 0 then (s.set n GAUGE.LAST_RXPWR_CODE (wholeLsb v)).set n GAUGE.LAST_RXPWR_VALID 1 else s

/-- The conversions of the entry made on the converters it names (R330). -/
def State.entryConverted (s : State) (n : Ch) (w : Word) : State :=
  let k := (s.chan n).gauge.extra + 2 * 2 ^ entLog w
  let i := entInput w
  let g := entPga w
  match entConv w with
  | 0 => s.converted n false i g k
  | 1 => s.converted n true i g k
  | _ => (s.converted n false i g k).converted n true i g k

/-- RESULTe and RESULT_Xe written together (R334, R336). -/
def State.writeResult (s : State) (n : Ch) (e : Nat) (w : Word) (a b : Nat) (failed : Bool) : State :=
  let conv := entConv w
  let word := 2 ^ 31 + (if (s.chan n).gauge.settle then 2 ^ 29 else 0) + (if failed then 2 ^ 28 else 0) +
    conv * 2 ^ 26 + entPga w * 2 ^ 24 + entInput w * 2 ^ 20 + a
  let s1 := (s.set n (GAUGE.RESULT e) word).set n (GAUGE.RESULT_X e)
    ((if conv = 2 then b else 0) * 65536 + s.get n GAUGE.RUNS % 65536)
  s1.modGauge n fun x => { x with seen := x.seen.filter fun p => p.1 != e }

/-- What a failed check pair does beside its flag and fault (R336). -/
def State.disagreed (s : State) (n : Ch) (e diff : Nat) : State :=
  let s1 := (s.set n GAUGE.LAST_DISAGREE_DIFF diff).set n GAUGE.LAST_DISAGREE_ENTRY e
  (s1.sat n GAUGE.COUNTS_DISAGREE).irq n GAUGE.IRQ_DISAGREE

/-- The entry after `e`, or the end of the run (R332). -/
def State.entryNext (s : State) (n : Ch) (e : Nat) : State :=
  if e < (s.chan n).gauge.len then s.entryStart n (e + 1)
  else
    let s1 := (s.set n GAUGE.STATUS_SEQ_BUSY 0).incr n GAUGE.RUNS
    (s1.irq n GAUGE.IRQ_SEQ_DONE).gaugeNext n

/-- A sequence entry ends with the results of converter A and converter B, of which it takes what CONV names (R332,
R334, R336); an injected CE with TARGET 2 adds 256 to B's in a pair (R342). -/
def doEntryComplete (n : Ch) (va vb : BitVec 16) (s : State) : State :=
  if ! s.is n GAUGE.STATUS_SEQ_BUSY || s.is n GAUGE.FLT_GAUGE_FSM_PAR then s
  else
    let e := s.get n GAUGE.STATUS_CUR_ENTRY
    let w := (s.chan n).gauge.entries.getD e 0
    let pair := entConv w == 2
    let hit := pair && s.armed n GAUGE.STATUS 0 && s.get n GAUGE.INJECT_TARGET == 2
    let s0 := if hit then s.disarm n GAUGE.STATUS 0 else s
    let b := if hit then min 65535 (vb.toNat + 256) else vb.toNat
    let a := if entConv w = 1 then vb.toNat else va.toNat
    let diff := (a - b) + (b - a)
    let failed := pair && decide (s.get n GAUGE.CHECK_WINDOW_Q < diff)
    let s1 := if failed then s0.raise n GAUGE.FLT_GAUGE_DISAGREE { flags := if hit then 1 else 0 } else s0
    if ! s1.is n GAUGE.STATUS_SEQ_BUSY then s1
    else
      let s2 := (s1.entryConverted n w).writeResult n e w a b failed
      let s3 := (if failed then s2.disagreed n e diff else s2).noteRxpwr n (entInput w) (entPga w) a
      let s4 := if w.getLsbD 31 then s3.irq n GAUGE.IRQ_ENTRY_DONE else s3
      s4.entryNext n e

/-- READ of RESULTe for a requester, and its read noted (R334). -/
def State.resultRead (s : State) (n : Ch) (e req : Nat) : Bool × State :=
  if (s.chan n).gauge.seen.contains (e, req) then (true, s)
  else (false, s.modGauge n fun x => { x with seen := (e, req) :: x.seen })

/-! ## Streams and slots -/

/-- The unit on converter A (false) or B has ended: a preempted entry or diagnosis that no other unit holds back resumes
with its discards (R338). -/
def State.unitEnd (s : State) (n : Ch) (b : Bool) : State :=
  let x := (s.chan n).gauge
  if s.is n GAUGE.STATUS_SEQ_BUSY then
    let w := x.entries.getD (s.get n GAUGE.STATUS_CUR_ENTRY) 0
    let uses := entConv w == 2 || (entConv w == 1) == b
    if uses && !s.unitDue n w then s.payDiscard n w else s
  else if s.is n GAUGE.STATUS_DIAG_BUSY && x.diagCfg.getLsbD 4 == b then
    let i := getBits x.diagCfg 0 4
    let g := getBits x.diagCfg 6 2
    let d := discards (s.gaugePrev n b i) i g 3
    let w := BitVec.ofNat 32 (if b then 2 ^ 24 else 0)
    if s.unitDue n w then s else s.modGauge n fun x => { x with extra := x.extra + d }
  else s

/-- Stream `k`: its converter's flag. -/
def State.streamDue (s : State) (n : Ch) (k : Fin 2) : Bool :=
  if k = 0 then (s.chan n).gauge.a.stream else (s.chan n).gauge.b.stream
def State.setStreamDue (s : State) (n : Ch) (k : Fin 2) (v : Bool) : State :=
  s.modGauge n fun x => if k = 0 then { x with a := { x.a with stream := v } } else { x with b := { x.b with stream := v } }

/-- STREAMx_CFG, STREAMx_DATA and STREAMx_ACTIVE of stream `k`. -/
def streamF (k : Fin 2) (f : Field) : Field := { f with off := f.off + 4 * k.val }
def streamActive (k : Fin 2) : Field := GAUGE.STATUS_STREAM0_ACTIVE.bit k.val
def streamInput (k : Fin 2) : Nat := if k = 0 then 4 else 0

/-- A stream conversion falls due; in WATCH only the Watch sample starts one (R337, R339). -/
def doStreamDue (n : Ch) (k : Fin 2) (s : State) : State :=
  if s.is n (streamActive k) && s.chState n != 3 then s.setStreamDue n k true else s

/-- A stream's result is written (R337, R330). -/
def State.streamWrite (s : State) (n : Ch) (k : Fin 2) (v : Nat) : State :=
  let cfg := streamF k GAUGE.STREAM0_CFG
  let sub := fun lo w : Nat => s.get n { cfg with lo, w }
  let i := streamInput k
  let pga := sub 8 2
  let d := discards (s.gaugePrev n (k == 1) i) i pga (sub 4 2)
  let data := streamF k GAUGE.STREAM0_DATA_NEW
  let late := s.is n data
  let s1 := (s.converted n (k == 1) i pga (d + 2 * 2 ^ min 2 (sub 0 2))).setStreamDue n k false
  let s2 := if late then
      (s1.set n (streamF k GAUGE.STREAM0_DATA_OVERRUN) 1).irq n (GAUGE.IRQ_STREAM0_OVERRUN.bit k.val)
    else s1
  let s3 := (s2.set n (streamF k GAUGE.STREAM0_DATA_VALUE) v).set n data 1
  (if k = 1 then s3.noteRxpwr n 0 pga v else s3).unitEnd n (k == 1)

/-- A stream conversion that is due ends with a value. -/
def doStreamResult (n : Ch) (k : Fin 2) (v : BitVec 16) (s : State) : State :=
  if s.streamDue n k && !s.is n GAUGE.FLT_GAUGE_FSM_PAR then s.streamWrite n k v.toNat else s

/-- The consumer takes a stream's value (R337). -/
def State.streamTake (s : State) (n : Ch) (k : Fin 2) : State := s.set n (streamF k GAUGE.STREAM0_DATA_NEW) 0

/-- The die-temperature slot falls due (R338). -/
def doDieTempDue (n : Ch) (s : State) : State :=
  if s.analogOn n then s.modGauge n fun x => { x with die := true } else s

/-- 1/16 degrees of a die reading: 25 + (code - TCAL) / 34.133, rounded (R328). -/
def dieC16 (tcal : Int) (code : Nat) : Int := 400 + (2 * ((code : Int) - tcal) * 16000 + 34133) / 68266

/-- The die temperature is read (R338, R285). -/
def doDieTempResult (n : Ch) (code : BitVec 14) (s : State) : State :=
  if ! (s.chan n).gauge.die || s.is n GAUGE.FLT_GAUGE_FSM_PAR then s
  else
    let c := code.toNat
    let t := dieC16 (Config.tempSeed n.val) c
    let ok := decide (c ≠ 0 ∧ c ≠ 16383 ∧ -640 ≤ t ∧ t ≤ 2400)
    let runs := if ok then 0 else (s.chan n).gauge.invalid + 1
    let s0 := if 3 ≤ runs then s.raise n GAUGE.FLT_DIE_TEMP_INVALID else s
    let d := discards (s0.gaugePrev n true 11) 11 0 3
    let s1 := (s0.converted n true 11 0 (d + 2)).modGauge n fun x => { x with die := false, invalid := runs }
    let s2 := (s1.set n GAUGE.DIE_TEMP_CODE c).setI n GAUGE.DIE_TEMP_C16 t
    let s3 := s2.set n GAUGE.DIE_TEMP_VALID (if ok then 1 else 0)
    (s3.unitEnd n true).dressTemp n (if ok then some t else none)

/-! ## Path diagnosis -/

/-- CMD.DIAG: refused at once, or accepted; it begins when no run is in progress (R340). -/
def State.gaugeDiag (s : State) (n : Ch) : State :=
  let p := s.get n GAUGE.DIAG_CFG_PATH
  if 7 < p ∨ (p = 4 ∧ s.is n GAUGE.STATUS_STREAM0_ACTIVE = true) ∨
      (p = 0 ∧ s.is n GAUGE.STATUS_STREAM1_ACTIVE = true) ∨ s.is n GAUGE.CTRL_EN = false then
    (s.set n GAUGE.DIAG_RESULT (3 * 2 ^ 30)).irq n GAUGE.IRQ_DIAG_DONE
  else
    let s1 := (s.set n GAUGE.BUSY_LONG_OP 1).modGauge n fun x =>
      { x with diagCfg := s.word (GAUGE.DIAG_CFG.addr n), diagWait := true }
    s1.levels n

/-- The diagnosis unit ends with a value (R340). -/
def doDiagDone (n : Ch) (v : BitVec 16) (s : State) : State :=
  if ! s.is n GAUGE.STATUS_DIAG_BUSY || s.is n GAUGE.FLT_GAUGE_FSM_PAR then s
  else
    let cfg := (s.chan n).gauge.diagCfg
    let i := getBits cfg 0 4
    let g := getBits cfg 6 2
    let m := wholeLsb v.toNat
    let e := min 16383 ((2 * getBits cfg 16 10 * 2 ^ g * 16384 + 1023) / 2046)
    let ok := decide ((m - e) + (e - m) ≤ max 1 (getBits cfg 8 8))
    let s1 := if ok then s else s.raise n GAUGE.FLT_GAUGE_PATH_FAIL
    if ! s1.is n GAUGE.STATUS_DIAG_BUSY then s1
    else
      let s2 := (s1.converted n (cfg.getLsbD 4) i g (35 + (s1.chan n).gauge.extra)).modGauge n fun x =>
        { x with dirty := some i }
      let s3 := s2.set n GAUGE.DIAG_RESULT ((if ok then 1 else 2) * 2 ^ 30 + e * 2 ^ 16 + m)
      let s4 := (s3.set n GAUGE.STATUS_DIAG_BUSY 0).set n GAUGE.BUSY_LONG_OP 0
      (s4.irq n GAUGE.IRQ_DIAG_DONE).gaugeNext n

/-- CMD.CLR_STATS (R343). -/
def State.gaugeClear (s : State) (n : Ch) : State := (s.set n GAUGE.COUNTS 0).set n GAUGE.LAST_DISAGREE 0

/-- What a parity error of the sequencer or the scheduler does beside its fault: every unit stands still (R342). -/
def State.gaugeParity (s : State) (n : Ch) : State := s.levels n

end Sys2Proof.Machine
end

