-- ==== Sys2Proof/Machine/Out.lean ====
section
/-! DEFINITION. The output DACs and the Kiln heater loop (R344 to R362). -/

namespace Sys2Proof.Machine

/-! ## DAC writes -/

/-- Whether VOUTN is present (R345). -/
def State.voutn (s : State) : Bool := s.dev.rails.getLsbD 5

/-- A range change: the queue is flushed, the clamp closes and its period starts; under a channel-safe request the DAC
stays in SAFE, clamped (R349, R350). -/
def State.rangeChange (s : State) (n : Ch) (d : Fin 3) : State :=
  let s1 := s.setQueue n d []
  if s1.dacState n d = 4 then (s1.dacOut n d 0).modDac n d fun x => { x with act := 0, back := 1 }
  else s1.dacRange n d

/-- What a stored CFG write does, `spanWas` and `modeWas` being the fields before it (R347 to R349). -/
def State.cfgEffect (s : State) (n : Ch) (d : Fin 3) (spanWas modeWas : Nat) : State :=
  let st := s.dacState n d
  if s.is n (OUT.D_CFG_EN d) = false then (if st = 0 then s else s.dacClamp n d 0)
  else if st = 0 then (if s.dacSpan n d = 0 ∨ s.is n OUT.FLT_OUT_FSM_PAR = true then s else s.rangeChange n d)
  else if st = 5 ∨ s.get n (OUT.D_CFG_SPAN d) ≠ spanWas then s.rangeChange n d
  else if s.get n (OUT.D_CFG_MODE d) ≠ modeWas then s.setQueue n d []
  else s

/-- A write of a DAC's CFG: whether it completes OK, and the state (R345, R347, R349, R353). -/
def State.writeDacCfg (s : State) (n : Ch) (d : Fin 3) (data : Word) : Bool × State :=
  let span := getBits data 8 3
  if s.kilnOwns n d then (false, s)
  else if (span = 3 ∨ span = 4) ∧ s.voutn = false then (true, s.irq n OUT.IRQ_SPAN_REFUSED)
  else
    let spanWas := s.get n (OUT.D_CFG_SPAN d)
    let modeWas := s.get n (OUT.D_CFG_MODE d)
    let s1 := (s.set n (OUT.D_CFG d) (data.toNat &&& 0x01310701)).modDac n d fun x => { x with parked := false }
    (true, (s1.cfgEffect n d spanWas modeWas).levels n)

/-- A write of a DAC's DATA: whether it completes OK, and the state (R348, R350, R353). -/
def State.pushDac (s : State) (n : Ch) (d : Fin 3) (code : Nat) : Bool × State :=
  let st := s.dacState n d
  let q := (s.dac n d).queue
  if s.kilnOwns n d then (false, s)
  else if st = 0 ∨ st = 5 then (true, s)
  else
    let s1 := s.modDac n d fun x => { x with parked := false }
    if s1.get n (OUT.D_CFG_MODE d) = 0 then (true, s1.setQueue n d [code % 65536])
    else if q.length < 64 then (true, s1.setQueue n d (q ++ [code % 65536]))
    else
      let s2 := (s1.set n (OUT.D_FLAGS_OVERFLOW d) 1).sat n (OUT.D_COUNTS_OVERFLOWS d)
      (false, s2.irq n (OUT.IRQ_OVERFLOW.bit d.val))

/-! ## Ticks -/

/-- A tick with a code queued (R348, R349). -/
def State.dacPop (s : State) (n : Ch) (d : Fin 3) (c : Nat) (q : List Nat) : State :=
  let ranged := s.dacState n d == 1
  let s1 := ((s.setQueue n d q).dacOut n d c).setDacState n d 2
  if ranged then s1.irq n (OUT.IRQ_RANGE_DONE.bit d.val) else s1

/-- A tick with an empty queue in STREAM mode: HOLD and an underrun, once per run of empty ticks (R348). -/
def State.dacUnderrun (s : State) (n : Ch) (d : Fin 3) : State :=
  let s1 := (s.setDacState n d 3).set n (OUT.D_FLAGS_UNDERRUN d) 1
  (s1.sat n (OUT.D_COUNTS_UNDERRUNS d)).irq n (OUT.IRQ_UNDERRUN.bit d.val)

/-- A sample tick of a DAC (R346, R348, R349, R351). -/
def doDacTick (n : Ch) (d : Fin 3) (s : State) : State :=
  let x := s.dac n d
  let static := s.get n (OUT.D_CFG_MODE d) == 0 || s.kilnOwns n d || x.parked
  if s.chState n = 3 then s
  else
    match s.dacState n d, x.queue with
    | 1, c :: q => if x.released && s.dacSpan n d != 0 then s.dacPop n d c q else s
    | 2, c :: q => s.dacPop n d c q
    | 2, [] => if static then s else s.dacUnderrun n d
    | 3, c :: q => s.dacPop n d c q
    | _, _ => s

/-- The clamp period of a range change ends; the clamp stays closed (R349). -/
def doClampPeriodEnd (n : Ch) (d : Fin 3) (s : State) : State :=
  if s.dacState n d = 1 then s.modDac n d fun x => { x with released := true } else s

/-! ## VOUTN (R345) -/

/-- Whether DAC `d` is in a bipolar span, outside CLAMP_INIT and CLAMP_VOUTN. -/
def State.losesVoutn (s : State) (n : Ch) (d : Fin 3) : Bool :=
  s.bipolar n d && s.dacState n d != 0 && s.dacState n d != 5

/-- A bipolar DAC clamps in CLAMP_VOUTN. -/
def State.voutnClamp (s : State) (n : Ch) (d : Fin 3) : State := if s.losesVoutn n d then s.dacClamp n d 5 else s

/-- The bipolar DACs of a channel lose VOUTN. -/
def State.voutnLost (s : State) (n : Ch) : State :=
  if s.chState n != 0 && (s.losesVoutn n 0 || s.losesVoutn n 1 || s.losesVoutn n 2) then
    ((((s.raise n OUT.FLT_VOUTN_LOST).voutnClamp n 0).voutnClamp n 1).voutnClamp n 2).levels n
  else s

/-- The bipolar DACs of every channel of a list. -/
def State.voutnLostAll (s : State) : List Ch → State
  | [] => s
  | n :: ns => (s.voutnLost n).voutnLostAll ns

/-- VOUTN has been out of range for 2 µs. -/
def doVoutnLost (s : State) : State :=
  (s.modDev fun d => { d with rails := d.rails &&& 0x1F }).voutnLostAll allCh

/-- VOUTN returns; the clamped DACs stay clamped. -/
def doVoutnReturn (s : State) : State := s.modDev fun d => { d with rails := d.rails ||| 0x20 }

/-! ## Readback supervision (R352) -/

/-- A readback slot falls due. -/
def doReadbackDue (n : Ch) (d : Fin 3) (s : State) : State :=
  if s.is n (OUT.D_SUPV_CFG_EN d) && s.dacSpan n d != 0 && s.analogOn n &&
      !(s.chan n).gauge.readback.contains d.val then
    (s.modGauge n fun x => { x with readback := x.readback ++ [d.val] }).modDac n d fun x => { x with moved := false }
  else s

/-- The expected readback. -/
def State.dacExpected (s : State) (n : Ch) (d : Fin 3) : Nat :=
  let c := s.get n (OUT.D_OUTPUT_CODE d)
  if s.bipolar n d then (c + 32768) % 65536 else c

/-- The readback fault of DAC `d`. -/
def readbackFail (d : Fin 3) : Field := OUT.FLT_READBACK_FAIL0.bit d.val

/-- A readback compared with its expected value. -/
def State.readbackCompare (s : State) (n : Ch) (d : Fin 3) (v : Nat) (hit : Bool) : State :=
  let e := s.dacExpected n d
  let s0 := (s.set n (OUT.D_FLAGS_SUPV_STARVED d) 0).modDac n d fun x => { x with skips := 0 }
  if (v - e) + (e - v) ≤ s.get n (OUT.D_SUPV_CFG_TOL d) then s0.set n (OUT.D_SUPV_STAT_BAD_RUN d) 0
  else if s.get n (OUT.D_SUPV_STAT_BAD_RUN d) < 2 then s0.incr n (OUT.D_SUPV_STAT_BAD_RUN d)
  else
    let s1 := s0.raise n (readbackFail d) { flags := if hit then 1 else 0 }
    (s1.sat n (OUT.D_SUPV_STAT_FAIL_COUNT d)).set n (OUT.D_SUPV_STAT_BAD_RUN d) 0

/-- A comparison skipped because the output moved. -/
def State.readbackSkip (s : State) (n : Ch) (d : Fin 3) : State :=
  let k := (s.dac n d).skips + 1
  let s1 := s.modDac n d fun x => { x with skips := k }
  if 16 ≤ k then s1.set n (OUT.D_FLAGS_SUPV_STARVED d) 1 else s1

/-- A readback slot that is due ends with a value; `moved` says whether the output changed in the 5 µs before the slot
fell due (changes after that the DAC has noted itself).  An injected CE with TARGET d + 1 adds 1,024 (R359). -/
def doReadbackResult (n : Ch) (d : Fin 3) (v : BitVec 16) (moved : Bool) (s : State) : State :=
  if ! (s.chan n).gauge.readback.contains d.val || s.is n GAUGE.FLT_GAUGE_FSM_PAR then s
  else
    let skip := moved || (s.dac n d).moved
    let hit := !skip && s.armed n OUT.STATUS 0 && s.get n OUT.INJECT_TARGET == d.val + 1
    let s0 := if hit then s.disarm n OUT.STATUS 0 else s
    let val := if hit then min 65535 (v.toNat + 1024) else v.toNat
    let dd := discards (s0.gaugePrev n true (8 + d.val)) (8 + d.val) 0 3
    let s1 := (s0.converted n true (8 + d.val) 0 (dd + 2)).modGauge n fun x =>
      { x with readback := x.readback.filter fun k => k != d.val }
    let s2 := (s1.unitEnd n true).set n (OUT.D_SUPV_STAT_LAST d) val
    if skip then s2.readbackSkip n d else s2.readbackCompare n d val hit

/-- What a parity error of the DAC sequencer does beside its fault (R351). -/
def State.outParity (s : State) (n : Ch) : State := s.levels n

/-! ## Kiln -/

/-- FAULT entered: the fault, then DAC2 at code 0 past the queue and the integrator at 0 (R355, R357, R358). -/
def State.kilnFault (s : State) (n : Ch) (f : Field) : State :=
  let s0 := s.raise n f
  if s0.chState n = 0 ∨ s0.outputsShut = true then s0
  else
    let s1 := ((s0.setQueue n 2 []).dacOut n 2 0).set n KILN.STATUS_STATE 4
    let s2 := ((s1.set n KILN.BUSY_LONG_OP 0).set n KILN.INTEG_LO 0).set n KILN.INTEG_HI_I 0
    (s2.modKiln n fun x => { x with cycled := false }).levels n

/-- What a parity error of the loop state machine does beside its fault: FAULT is entered at once (R358). -/
def State.kilnParity (s : State) (n : Ch) : State :=
  if s.kilnState n = 4 then s else s.kilnFault n KILN.FLT_KILN_FSM_PAR

/-- CTRL.EN written (R353, R357). -/
def State.writeKilnEn (s : State) (n : Ch) (v : Nat) : State :=
  let rise := s.is n KILN.CTRL_EN = false ∧ v % 2 = 1 ∧ s.kilnState n = 4
  let s1 := s.set n KILN.CTRL_EN v
  ((if rise then s1.modKiln n fun x => { x with cycled := true } else s1)).levels n

/-- INTEG_LO (false) or INTEG_HI written; outside OFF the write is discarded (R355). -/
def State.writeInteg (s : State) (n : Ch) (hi : Bool) (data : Word) : State :=
  if s.kilnState n ≠ 0 then s
  else if hi then s.set n KILN.INTEG_HI_I data.toNat
  else s.set n KILN.INTEG_LO data.toNat

/-- A code of DAC2 as the law reads it: signed in a bipolar span (R354). -/
def State.heatCode (s : State) (n : Ch) (v : Nat) : Int := if s.bipolar n 2 then toSigned 16 v else (v : Int)

/-- The ceiling at the tick (R356). -/
def State.kilnCeiling (s : State) (n : Ch) : Int :=
  let lo := s.heatCode n (s.get n KILN.LIMITS_OUT_MIN)
  let hi := s.heatCode n (s.get n KILN.LIMITS_OUT_MAX)
  let ms := s.get n KILN.SOFTSTART_MS
  let per := clampN 100 1000 (s.get n KILN.PERIOD_US)
  if s.kilnState n ≠ 1 ∨ ms = 0 then hi
  else lo + (hi - lo) * ((s.chan n).kiln.tick * per : Nat) / ((1000 * ms : Nat) : Int)

/-- What the law computes at a tick: the code, the integrator in 2^-24 codes, the filtered temperature in 2^-24 units,
and whether the slew limit changed the code. -/
structure LawOut where
  code : Int
  integ : Int
  tf : Int
  slewed : Bool
deriving DecidableEq, Repr

/-- The configuration and the state that the law reads (R354): gains as (MANT, SHIFT), `integ`, `tf` and `tfPrev` in
2^-24. -/
structure LawIn where
  sp : Int
  t : Int
  sigma : Int
  kp : Nat × Nat
  ki : Nat × Nat
  kd : Nat × Nat
  dfilt : Nat
  dEn : Bool
  lo : Int
  hi : Int
  slew : Nat
  prev : Int
  integ : Int
  tf : Option Int
deriving DecidableEq, Repr

/-- The law of R354 in exact integers of 2^-55 code; the integrator and the filtered temperature are kept in 2^-24, rounded
down (log entry 20). -/
def kilnLaw (x : LawIn) : LawOut :=
  let e := x.sigma * (x.sp - x.t)
  let t24 := x.t * 2 ^ 24
  let prev := x.tf.getD t24
  let tf := prev + (t24 - prev) / 2 ^ x.dfilt
  let gain := fun (g : Nat × Nat) (v : Int) => (g.1 : Int) * v * (2 ^ (55 - g.2) : Nat)
  let d := if x.dEn then -x.sigma * ((x.kd.1 : Int) * (tf - prev) * (2 ^ (31 - x.kd.2) : Nat)) else 0
  let p := gain x.kp e
  let ke := gain x.ki e
  let i55 := fun v : Int => v * 2 ^ 31
  let inew := x.integ + ke / 2 ^ 31
  let u := p + i55 inew + d
  let hi := x.hi * 2 ^ 55
  let lo := x.lo * 2 ^ 55
  let inew := if (hi < u ∧ 0 < ke) ∨ (u < lo ∧ ke < 0) then x.integ else inew
  let i := clampI (x.lo * 2 ^ 24) (x.hi * 2 ^ 24) inew
  let c := clampI x.lo x.hi ((p + i55 i + d + 2 ^ 54) / 2 ^ 55)
  let c' := if x.slew = 0 then c else clampI (x.prev - x.slew) (x.prev + x.slew) c
  { code := c', integ := i, tf, slewed := decide (c' ≠ c) }

/-- The registers as the law reads them. -/
def State.lawIn (s : State) (n : Ch) (t : Nat) : LawIn :=
  let gain := fun f : Field => (s.get n { f with lo := 0, w := 16 }, s.get n { f with lo := 16, w := 5 })
  { sp := s.get n KILN.SETPOINT_SP, t, sigma := if s.is n KILN.CFG_POL then -1 else 1,
    kp := gain KILN.KP, ki := gain KILN.KI, kd := gain KILN.KD, dfilt := s.get n KILN.CFG_DFILT,
    dEn := s.is n KILN.CFG_D_EN, lo := s.heatCode n (s.get n KILN.LIMITS_OUT_MIN), hi := s.kilnCeiling n,
    slew := s.get n KILN.SLEW_CODES, prev := s.heatCode n (s.get n (OUT.D_OUTPUT_CODE 2)),
    integ := toSigned 48 (s.get n KILN.INTEG_LO + 2 ^ 32 * s.get n KILN.INTEG_HI_I), tf := (s.chan n).kiln.tf }

/-- DAC2 takes the Kiln's code: it replaces the pending one (R353). -/
def State.kilnPush (s : State) (n : Ch) (c : Nat) : State :=
  if s.dacState n 2 = 0 ∨ s.dacState n 2 = 5 then s else s.setQueue n 2 [c]

/-- The law's results written (R354). -/
def State.lawWrite (s : State) (n : Ch) (ceil lo : Int) (r : LawOut) : State :=
  let b := fun x : Bool => if x then 1 else 0
  let i := ofSigned 48 r.integ
  let s1 := (s.set n KILN.INTEG_LO i).set n KILN.INTEG_HI_I (i / 2 ^ 32)
  let s2 := (s1.set n KILN.STATUS_AT_MAX (b (r.code == ceil))).set n KILN.STATUS_AT_MIN (b (r.code == lo))
  let s3 := s2.set n KILN.STATUS_SLEW_LIMITED (b r.slewed)
  let s4 := s3.modKiln n fun x =>
    { x with tf := some r.tf, satDone := x.satDone && (r.code == ceil || r.code == lo) }
  (s4.setI n KILN.OUTPUT_CODE r.code).kilnPush n (ofSigned 16 r.code)

/-- An accepted sample: the law runs.  With OUT_MAX below OUT_MIN the spec states no code: a free value (log entry 3). -/
def State.kilnRun (s : State) (n : Ch) (t : Nat) : State :=
  let s1 := (s.set n KILN.MEAS_T t).modKiln n fun x => { x with miss := 0, bad := 0 }
  let x := s1.lawIn n t
  if x.hi < x.lo then
    let c := s1.draw
    let i := c.2.draw
    i.2.lawWrite n x.hi x.lo { kilnLaw x with code := toSigned 16 (c.1 % 65536), integ := toSigned 48 (i.1 % 2 ^ 48) }
  else s1.lawWrite n x.hi x.lo (kilnLaw x)

/-- The tick's end: the soft-start may be over, and the next tick has the next number (R356). -/
def State.kilnAfter (s : State) (n : Ch) : State :=
  let hi := s.heatCode n (s.get n KILN.LIMITS_OUT_MAX)
  let s1 :=
    if s.kilnState n = 1 ∧ hi ≤ s.kilnCeiling n then
      ((s.set n KILN.STATUS_STATE 2).set n KILN.BUSY_LONG_OP 0).irq n KILN.IRQ_RUN_ENTER
    else s
  s1.modKiln n fun x => { x with tick := x.tick + 1 }

/-- A sample that is missing (false) or out of bounds: counted, and at the limit FAULT (R357). -/
def State.kilnBad (s : State) (n : Ch) (sensor : Bool) : State :=
  let x := (s.chan n).kiln
  if sensor then
    let s1 := (s.sat n KILN.COUNTS_SENSOR_BAD).irq n KILN.IRQ_SENSOR_BAD
    let s2 := s1.modKiln n fun y => { y with bad := x.bad + 1 }
    if max 1 (s.get n KILN.SENSOR_CFG_COUNT) ≤ x.bad + 1 then s2.kilnFault n KILN.FLT_KILN_SENSOR else s2
  else
    let s1 := (s.sat n KILN.COUNTS_MISSED).irq n KILN.IRQ_MISSED
    let s2 := s1.modKiln n fun y => { y with miss := x.miss + 1 }
    if max 1 (s.get n KILN.SENSOR_CFG_MISS_MAX) ≤ x.miss + 1 then s2.kilnFault n KILN.FLT_KILN_NO_SENSE else s2

/-- A loop tick (R353, R354, R356, R357, R358). -/
def doKilnTick (n : Ch) (s : State) : State :=
  if s.kilnState n ≠ 1 ∧ s.kilnState n ≠ 2 then s
  else
    let fresh := s.is n GAUGE.STREAM0_DATA_NEW
    let t := s.get n GAUGE.STREAM0_DATA_VALUE
    let s0 := if fresh then s.streamTake n 0 else s
    let bad := decide (t < s.get n KILN.SENSOR_LO ∨ s.get n KILN.SENSOR_HI < t)
    let ok := fresh && !bad
    let s1 := if ok then s0 else s0.kilnBad n fresh
    if s1.kilnState n = 4 ∨ s1.kilnState n = 0 then s1
    else if s1.is n KILN.CTRL_EN = false then (s1.kilnOff n).levels n
    else (if ok then s1.kilnRun n t else s1).kilnAfter n

/-- The code has stayed at a limit for longer than SAT_CFG.MS (R355). -/
def doKilnSat (n : Ch) (s : State) : State :=
  if (s.kilnState n = 1 ∨ s.kilnState n = 2) ∧ s.get n KILN.SAT_CFG_MS ≠ 0 ∧ (s.chan n).kiln.satDone = false ∧
      (s.is n KILN.STATUS_AT_MAX = true ∨ s.is n KILN.STATUS_AT_MIN = true) then
    ((s.raise n KILN.FLT_KILN_SAT).irq n KILN.IRQ_SAT).modKiln n fun x => { x with satDone := true }
  else s

end Sys2Proof.Machine
end

