-- ==== Sys2Proof/Machine/Pwr.lean ====
section
/-! DEFINITION. The power sequencer: requests, legs, refusals, wakes, Watch (R489 to R507). -/

namespace Sys2Proof.Machine

/-! ## Fields shared by CHn.PWR and DEV.PWR -/

/-- A field that lies alike in CHn.PWR and DEV.PWR (R507). -/
def pwrF (x : Scope) (f : Field) : Field :=
  match x with
  | .ch _ => f
  | .dev => f.inPage 0x4000
def State.pget (s : State) (x : Scope) (f : Field) : Nat := s.get (scopeCh x) (pwrF x f)
def State.pset (s : State) (x : Scope) (f : Field) (v : Nat) : State := s.set (scopeCh x) (pwrF x f) v
def State.pirq (s : State) (x : Scope) (f : Field) : State := s.irq (scopeCh x) (pwrF x f)

/-- The path in progress of a scope, and its rewriting. -/
def State.path (s : State) : Scope → PwrPath
  | .ch n => (s.chan n).pwr
  | .dev => s.dev.pwr
def State.modPath (s : State) (x : Scope) (f : PwrPath → PwrPath) : State :=
  match x with
  | .ch n => s.modCh n fun c => { c with pwr := f c.pwr }
  | .dev => s.modDev fun d => { d with pwr := f d.pwr }

/-- The state of a scope: the codes of R489 for a channel, of R490 for the device. -/
def State.pwrState (s : State) : Scope → Nat
  | .ch n => s.chState n
  | .dev => s.dev.state.code

/-- PHASE: 0 IDLE, 1 MOVE, 2 ARMED, 3 ENTERING, 4 EXITING. -/
def State.phase (s : State) (x : Scope) : Nat := s.pget x PWR.STATUS_PHASE

/-- The state that every path passes through: STANDBY, READY (R491). -/
def pwrHub : Scope → Nat
  | .ch _ => 1
  | .dev => 4

/-- Whether reaching a state takes an entry leg (R491). -/
def isEntry (x : Scope) (st : Nat) : Bool :=
  match x with
  | .ch _ => st == 0 || st == 2 || st == 3
  | .dev => st == 6

/-- The states that a path from `a` to `b` reaches in turn. -/
def pathLegs (x : Scope) (a b : Nat) : List Nat :=
  if a = b then [] else if a = pwrHub x ∨ b = pwrHub x then [b] else [pwrHub x, b]

/-- Whether a path contains an entry leg. -/
def hasEntry (x : Scope) (legs : List Nat) : Bool := legs.any fun st => isEntry x st

/-! ## Refusals (R497, R498) -/

/-- Whether firmware runs TRIAL_ALL. -/
def State.trialAll (s : State) : Bool := s.dev.trialAllRunning

/-- The conditions 0x3 to 0x6 of a channel entry, and 0x5 and 0xA of a device entry, in code order. -/
def State.entryRefusers (s : State) (x : Scope) : List Nat :=
  match x with
  | .ch n =>
    (if s.is n DRESS.STATUS_STEP_IN_FLIGHT then [3] else []) ++ (if s.is n HOP.STATUS_WRITING then [4] else []) ++
      (if s.wrightBoxFull n then [5] else []) ++ (if s.kilnState n = 1 then [6] else [])
  | .dev => if s.millerBoxFull then [5] else []

/-- Whether a channel's present state, or the state it is on its way to, is one the device target does not allow (R496). -/
def State.channelActive (s : State) (target : Nat) : Bool :=
  let bad := fun st : Nat => if target = 4 then st == 4 else if target = 6 then st == 1 || st == 4 else false
  allCh.any fun n => bad (s.chState n) || (s.chan n).pwr.legs.any fun st => bad st

/-- Whether the scope is busy: a transition in progress, a wake to be replayed, or a latched PWR_FSM_PAR. -/
def State.pwrBusy (s : State) (x : Scope) : Bool :=
  s.phase x != 0 || (s.path x).latched != 0 ||
    match x with
    | .ch n => s.is n PWR.FLT_PWR_FSM_PAR
    | .dev => false

/-- The conditions that hold at the acceptance of a request, in code order (R497). -/
def State.refusers (s : State) (x : Scope) (target : Nat) : List Nat :=
  let entry := isEntry x target && target != s.pwrState x
  let c := fun (b : Bool) (k : Nat) => if b then [k] else []
  let early := s.dev.state != .ready && s.dev.state != .run && s.dev.state != .watch
  match x with
  | .ch n =>
    c (s.pwrBusy x) 1 ++ c (s.inTrial n || s.trialAll) 2 ++ (if entry then s.entryRefusers x else []) ++
      c (entry && s.get n MBXW.WRIGHT_STATUS_STATE == 4) 7 ++ c (s.is n TOP.BUSY_LONG_OP) 9 ++
      c (early || (target == 4 && s.dev.state != .run)) 0xB ++ c (decide (5 ≤ target)) 0xC
  | .dev =>
    c (s.pwrBusy x) 1 ++ c s.trialAll 2 ++ (if entry then s.entryRefusers x else []) ++
      c (s.channelActive target) 0xA ++ c early 0xB ++ c (decide (target < 4 ∨ 6 < target)) 0xC

/-- The mask of a list of condition codes. -/
def refuserMask (l : List Nat) : Nat := l.foldl (fun m c => m ||| 2 ^ c) 0

/-- A refusal or an abort accounted (R498). -/
def State.pwrRefuse (s : State) (x : Scope) (code mask target : Nat) : State :=
  let s1 := (s.incr (scopeCh x) (pwrF x PWR.REFUSALS)).sat (scopeCh x) (pwrF x (PWR.REFUSER_COUNT_COUNT code))
  let s2 := (s1.pset x PWR.LAST_REFUSAL_CODE code).pset x PWR.LAST_REFUSAL_MASK mask
  (s2.pset x PWR.LAST_REFUSAL_TARGET target).pirq x PWR.IRQ_REFUSED

/-- The CH_POWER that waits for a request or a path of a scope learns of its refusal (R498). -/
def State.pwrTell (s : State) (x : Scope) (code : Nat) : State :=
  match x with
  | .ch n => s.fwPowerRefused n code
  | .dev => s

/-! ## Paths and legs -/

/-- TARGET_ACTIVE: four bits in DEV.PWR (R507). -/
def State.setTargetActive (s : State) (x : Scope) (v : Nat) : State :=
  match x with
  | .ch n => s.set n PWR.STATUS_TARGET_ACTIVE v
  | .dev => s.dset DPWR.STATUS_TARGET_ACTIVE v

/-- What follows a change of a scope's state or phase. -/
def State.pwrLevels (s : State) : Scope → State
  | .ch n => s.levels n
  | .dev => s.levelsAll allCh

/-- PHASE, with LONG_OP beside it (R506). -/
def State.setPhase (s : State) (x : Scope) (p : Nat) : State :=
  (s.pset x PWR.STATUS_PHASE p).pset x PWR.BUSY_LONG_OP (if p = 0 then 0 else 1)

/-- The path is over: at rest in the state held, latched wakes discarded. -/
def State.pathEnd (s : State) (x : Scope) : State :=
  let s1 := ((s.setPhase x 0).setTargetActive x (s.pwrState x)).pset x PWR.STATUS_WAKE_LATCHED 0
  s1.modPath x fun p => { p with legs := [], latched := 0, byWake := false, replayed := false, deaf := false }

/-- The path ends refused or aborted with one condition (R497, R498). -/
def State.pathAbort (s : State) (x : Scope) (code mask : Nat) : State :=
  let t := (s.path x).target
  (((s.pathEnd x).pwrRefuse x code mask t).pwrTell x code).pwrLevels x

/-- The wright's STATE, where it is not HELD. -/
def State.setWright (s : State) (n : Ch) (st : Nat) : State :=
  if s.get n MBXW.WRIGHT_STATUS_STATE = 4 then s else s.set n MBXW.WRIGHT_STATUS_STATE st

/-- Whether the Miller runs, sleeps or restarts, so that firmware will come to copy a wright's image. -/
def State.millerLives (s : State) : Bool := s.dget MILLER.STATUS_CORE != 0 && s.dget MILLER.STATUS_CORE != 3

/-- The first leg of a path starts: an entry arms, an exit or a move runs; a domain that leaves DARK loads its wright, as
soon as firmware runs (R107, R494, R495). -/
def State.legStart (s : State) (x : Scope) (st : Nat) : State :=
  if isEntry x st then (s.setPhase x 2).modPath x fun p => { p with deaf := false }
  else if isEntry x (s.pwrState x) then
    let s1 := s.setPhase x 4
    match x with
    | .ch n =>
      let s2 := if s1.chState n = 3 then (s1.set n PWR.STATUS_SAMPLING 0).setStreamDue n 1 false else s1
      let s3 := if s2.chState n ≠ 0 then s2.modPath x fun p => { p with relock := s2.modeActive n } else s2
      if s3.chState n = 0 ∧ s3.millerLives = true then s3.setWright n 1 else s3
    | .dev => s1
  else s.setPhase x 1

/-- A path starts. -/
def State.pathStart (s : State) (x : Scope) (target : Nat) (byWake replayed : Bool) : State :=
  let legs := pathLegs x (s.pwrState x) target
  let s1 := (s.setTargetActive x target).modPath x fun p => { p with legs, target, latched := 0, byWake, replayed }
  match legs with
  | [] => s1
  | st :: _ => (s1.legStart x st).pwrLevels x

/-- A request: refused, already fulfilled, or started (R491, R497). -/
def State.pwrRequest (s : State) (x : Scope) (target : Nat) : State :=
  let l := s.refusers x target
  match l with
  | c :: _ => (s.pwrRefuse x c (refuserMask l) target).pwrTell x c
  | [] =>
    let s1 := match x with
      | .ch n => s.set n PWR.TARGET_STATE target
      | .dev => s.dset { DPWR.TARGET with lo := 0, w := 4 } target
    if s1.pwrState x = target then s1.pirq x PWR.IRQ_DONE else s1.pathStart x target false false

/-! ## Wakes (R499 to R501) -/

/-- Whether a source acts in a state (R499). -/
def wakeActs (x : Scope) (src st : Nat) : Bool :=
  match x with
  | .ch _ =>
    match src with
    | 0 => st == 3
    | 1 => st == 3 || st == 2
    | 2 => st == 3 || st == 2 || st == 0
    | 3 => st == 2
    | 4 => st == 3 || st == 2
    | _ => false
  | .dev => st == 6 && (src == 1 || src == 2 || src == 4 || src == 5)

/-- A wake of one scope: the exit starts, or joins the exit in progress, or is latched during a path that contains an entry
(R499, R501).  While the Sluice is shut no leg starts (R504). -/
def State.wakeScope (s : State) (x : Scope) (src : Nat) : State :=
  let bit := 2 ^ src
  let p := s.path x
  let en := bitOf (s.pget x PWR.WAKE_EN ) src || (x == .dev && src == 2)
  if ! en || s.dev.shut then s
  else if s.phase x = 0 ∧ p.latched = 0 then
    if wakeActs x src (s.pwrState x) then
      (s.pset x PWR.WAKE_SRC bit).pathStart x (pwrHub x) true false
    else s
  else if p.byWake then
    if wakeActs x src (s.pwrState x) then s.pset x PWR.WAKE_SRC (s.pget x PWR.WAKE_SRC ||| bit) else s
  else
    let dst := if s.phase x = 0 then s.pwrState x else p.target
    if isEntry x dst && wakeActs x src dst then
      (s.pset x PWR.STATUS_WAKE_LATCHED 1).modPath x fun q => { q with latched := q.latched ||| bit }
    else s

/-- A wake of the device. -/
def State.devWake (s : State) (src : Nat) : State := s.wakeScope .dev src

/-- A wake of a channel; in device WATCH it wakes the device too, or is ignored (R499). -/
def State.chWake (s : State) (n : Ch) (src : Nat) : State :=
  if s.dev.state = .watch ∧ bitOf (s.dget DPWR.WAKE_EN) 5 = false then s
  else
    let s1 := s.wakeScope (.ch n) src
    if s1.path (.ch n) = s.path (.ch n) then s1 else s1.devWake 5

/-- A latched wake is replayed once the entry has completed (R501). -/
def doWakeReplay (x : Scope) (s : State) : State :=
  let p := s.path x
  if s.phase x ≠ 0 ∨ p.latched = 0 ∨ s.dev.shut = true then s
  else
    let s1 := ((s.pset x PWR.STATUS_WAKE_LATCHED 0).pset x PWR.WAKE_SRC p.latched).pirq x PWR.IRQ_BOUNCED
    let s2 := (s1.sat (scopeCh x) (pwrF x PWR.BOUNCES_COUNT)).pathStart x (pwrHub x) true true
    match x with
    | .ch _ => s2.devWake 5
    | .dev => s2

/-- WAKE_TIMER expires (R499). -/
def doWakeTimerExpiry (x : Scope) (s : State) : State :=
  if s.pget x PWR.WAKE_TIMER_MS = 0 then s
  else
    match x with
    | .ch n => s.chWake n 4
    | .dev => s.devWake 4

/-! ## What a leg does when it completes -/

/-- The pages of a channel whose domain DARK switches off (R489): all but CHn.PWR and CHn.MBXW. -/
def darkPages : List Nat := (List.range 0x16)

/-- Pages at their Wake values (R14). -/
def State.wakePages (s : State) (n : Ch) : List Nat → State
  | [] => s
  | p :: ps => (s.wakePage (chPage n p)).wakePages n ps

/-- The channel whose CHn page (but CHn.PWR and CHn.MBXW) an address lies in. -/
def inDomain (n : Ch) (a : Nat) : Bool := decide (chPage n 0 ≤ a ∧ a < chPage n 0x16)

/-- What waits on, or is noted of, a channel's pages is gone with them. -/
def State.forgetPages (s : State) (n : Ch) : State :=
  s.modDev fun d =>
    { d with held := d.held.filter (fun h => !inDomain n h.1), badRegs := d.badRegs.filter fun a => !inDomain n a }

/-- DARK: Wake values, poisoned memories, no hidden state but the sequencer's, the wright's and the relay table (R14, R325,
R420, R456). -/
def State.goDark (s : State) (n : Ch) : State :=
  let s1 := (s.wakePages n darkPages).poisonCh n
  let s2 := s1.modCh n fun c =>
    { pwr := c.pwr, wright := { recent := c.wright.recent }, ltx := { pol := s.is n LTX.CFG_TXDIS_POL },
      mr := { relay := c.mr.relay, relayBad := c.mr.relayBad, relayTag := c.mr.relayTag } }
  let s3 := (s2.forgetPages n).modDev fun d =>
    { d with tagged := d.tagged.filter fun e => e.mem / 8 != n.val }
  (s3.dropCleared.safeUpdate n).setWright n 0

/-- A channel enters WATCH or LISTEN: the engines on its memories stop, the wright sleeps, the PLL leaves the mode
frequencies (R432, R489, R537). -/
def State.goAsleep (s : State) (n : Ch) (st : Nat) : State :=
  let s1 := (s.set n TOP.CLK_STATUS_CH_PLL_LOCK 0).modCh n fun c => { c with top := { c.top with pllBad := false } }
  if st = 3 then
    let s2 := ((s1.scrubAbort (.ch n)).marchStop (.ch n)).set n PWR.STATUS_RETENTION 1
    s2.set n PWR.WATCH_LAST_RUN 0
  else s1

/-- A channel has reached STANDBY from DARK: the trims are seeded (R274, R495). -/
def State.fromDark (s : State) (n : Ch) : State := (s.dressSeed n).safeUpdate n

/-- The Miller sleeps in its WAIT, and resumes after it (R121, R130, R500); its watchdog does not count meanwhile (R109). -/
def State.millerSleep (s : State) : State :=
  let s1 := s.dset MILLER.STATUS_CORE 4
  if s1.dget MILLER.FW_STATE_STATE = 2 then s1.dset MILLER.FW_STATE_STATE 4 else s1
def State.millerWake (s : State) : State :=
  let s1 := if s.dget MILLER.STATUS_CORE = 4 then s.dset MILLER.STATUS_CORE 1 else s
  if s1.dget MILLER.FW_STATE_STATE = 4 then s1.dset MILLER.FW_STATE_STATE 2 else s1

/-- STATE changes at the end of a leg. -/
def State.pwrReach (s : State) (x : Scope) (st : Nat) : State :=
  match x with
  | .ch n =>
    let was := s.chState n
    let s1 := s.set n PWR.STATUS_STATE st
    if st = 0 then s1.goDark n
    else if st = 2 ∨ st = 3 then s1.goAsleep n st
    else if was = 0 then s1.fromDark n
    else if was = 2 ∨ was = 3 then
      let s2 := s1.set n PWR.STATUS_RETENTION 0
      if s2.get n MBXW.WRIGHT_STATUS_STATE = 3 then s2.setWright n 2 else s2
    else s1
  | .dev =>
    let s1 := s.modDev fun d => { d with state := if st = 6 then .watch else if st = 5 then .run else .ready }
    if st = 6 then s1.millerSleep else s1.millerWake

/-- The last leg is done: DONE, or WAKE for an exit that a wake caused (R491, R495); `us` is the path's duration and
`waitUs` the time since the WAIT of a bounced entry (R501). -/
def State.pathDone (s : State) (x : Scope) (us waitUs : Nat) : State :=
  let p := s.path x
  let s1 := s.pset x PWR.TRANSITION_US (min us (2 ^ 32 - 1))
  let s2 := if p.byWake then s1.pirq x PWR.IRQ_WAKE else s1.pirq x PWR.IRQ_DONE
  let s3 := if p.replayed then s2.pset x PWR.BOUNCES_LAST_US (min waitUs 0xFFFF) else s2
  if p.latched = 0 then s3.pathEnd x
  else
    let s4 := (s3.setPhase x 0).setTargetActive x (s3.pwrState x)
    s4.modPath x fun q => { q with legs := [], byWake := false, replayed := false }

/-- Whether the leg in progress can complete: LTX is OFF (R493), the channel PLL is at the mode frequencies (R496), the
wright image is loaded (R495), the device is awake (R499). -/
def State.legMay (s : State) (x : Scope) (st : Nat) : Bool :=
  match x with
  | .ch n =>
    let was := s.chState n
    if st = 4 then !s.modeActive n || s.is n TOP.CLK_STATUS_CH_PLL_LOCK
    else if was = 4 ∨ was = 2 then s.ltxState n == 0 && !((s.path x).byWake && s.dev.state == .watch)
    else if was = 0 then
      (s.get n MBXW.WRIGHT_STATUS_STATE != 1 || !s.millerLives) && !((s.path x).byWake && s.dev.state == .watch)
    else !((s.path x).byWake && s.dev.state == .watch)
  | .dev => s.dev.state == .ready || s.dev.state == .run || s.dev.state == .watch

/-- A leg completes; the next one starts, or the path is done (R491, R494).  No leg starts while the Sluice is shut
(R504). -/
def doLegComplete (x : Scope) (us waitUs : Nat) (s : State) : State :=
  match (s.path x).legs with
  | [] => s
  | st :: rest =>
    if s.phase x = 0 ∨ s.phase x = 2 ∨ s.legMay x st = false then s
    else
      let s1 := if s.phase x = 3 then s.incr (scopeCh x) (pwrF x PWR.ENTRIES) else s
      let s2 := (s1.pwrReach x st).modPath x fun p => { p with legs := rest }
      match rest with
      | [] => (s2.pathDone x us waitUs).pwrLevels x
      | next :: _ =>
        if s2.dev.shut then (s2.pathEnd x).pwrLevels x
        else
          let l := if isEntry x next then s2.entryRefusers x else []
          match l with
          | c :: _ => s2.pathAbort x c (refuserMask l)
          | [] => (s2.legStart x next).pwrLevels x

/-- The controller executes WAIT in ARMED: the refusers are checked again, and the entry proceeds with the controller asleep
(R494, R497). -/
def doControllerWait (x : Scope) (s : State) : State :=
  let runs := match x with
    | .ch n => s.get n MBXW.WRIGHT_STATUS_STATE == 2 && !(s.chan n).wright.holding && !(s.chan n).wright.inReset
    | .dev => s.dget MILLER.STATUS_CORE == 1
  if s.phase x ≠ 2 ∨ (s.path x).deaf = true ∨ runs = false then s
  else
    let l := s.entryRefusers x ++ (if x == .dev && s.channelActive 6 then [0xA] else [])
    match l with
    | c :: _ => s.pathAbort x c (refuserMask l)
    | [] =>
      let s1 := match x with
        | .ch n => s.setWright n 3
        | .dev => s.millerSleep
      ((s1.setPhase x 3).modPath x fun p => { p with waitAt := s.dev.ticks }).pwrLevels x

/-- No WAIT within 1 ms of the start of the entry leg (R497, 0x8). -/
def doWaitTimeout (x : Scope) (s : State) : State := if s.phase x = 2 then s.pathAbort x 8 (2 ^ 8) else s

/-- The Sluice shuts: an entry leg in ARMED is aborted with DEVICE_STOP (R504). -/
def State.pwrShut (s : State) (x : Scope) : State := if s.phase x = 2 then s.pathAbort x 0xE (2 ^ 0xE) else s

/-- The channel PLL is back at the mode frequencies (R496). -/
def doChPllRelock (n : Ch) (s : State) : State :=
  let st := s.chState n
  if (s.chan n).pwr.relock && s.modeActive n && (st == 1 || st == 4) && s.dev.refclk then
    (((s.set n TOP.CLK_STATUS_CH_PLL_LOCK 1).modCh n fun c => { c with top := { c.top with pllBad := false } }).modPath
      (.ch n) fun p => { p with relock := false }).levels n
  else s

/-! ## Watch (R502, R503, R339) -/

/-- The Watch period expires: a sample starts, with the mux treated as changed. -/
def doWatchSampleStart (n : Ch) (s : State) : State :=
  if s.chState n = 3 ∧ s.chPhase n = 0 ∧ s.is n PWR.STATUS_SAMPLING = false then
    ((s.set n PWR.STATUS_SAMPLING 1).setStreamDue n 1 true).modGauge n fun x =>
      { x with b := { x.b with prev := x.b.prev.map fun p => (16, p.2) } }
  else s

/-- Whether a value hits under WATCH_WIN (R503). -/
def State.watchHit (s : State) (n : Ch) (v : Nat) : Bool :=
  let lo := s.get n PWR.WATCH_WIN_LO
  let hi := s.get n PWR.WATCH_WIN_HI
  if s.get n PWR.WATCH_CFG_WIN_MODE = 1 then decide (lo ≤ v ∧ v ≤ hi) else decide (v < lo ∨ hi < v)

/-- The sample's conversion is written, taken and judged. -/
def doWatchSampleResult (n : Ch) (v : BitVec 16) (s : State) : State :=
  if ! s.is n PWR.STATUS_SAMPLING || ! s.streamDue n 1 || s.is n GAUGE.FLT_GAUGE_FSM_PAR then s
  else
    let s1 := ((s.streamWrite n 1 v.toNat).streamTake n 1).incr n PWR.SAMPLES
    let run := s1.get n PWR.WATCH_LAST_RUN
    let hit := s1.watchHit n v.toNat
    let s2 := (s1.set n PWR.WATCH_LAST_VALUE v.toNat).set n PWR.WATCH_LAST_VALID 1
    let s3 := s2.set n PWR.WATCH_LAST_RUN (if hit then min 15 (run + 1) else 0)
    if hit ∧ run + 1 = max 1 (s.get n PWR.WATCH_CFG_HITS) then
      ((s3.irq n PWR.IRQ_WATCH_HIT).sat n PWR.WATCH_COUNTS_HITS).chWake n 0
    else s3

/-- The sample time is over; without a result it is a miss (R339, R503). -/
def doWatchSampleEnd (n : Ch) (s : State) : State :=
  if s.is n PWR.STATUS_SAMPLING = false then s
  else
    let s1 := s.set n PWR.STATUS_SAMPLING 0
    if s1.streamDue n 1 then
      (((s1.setStreamDue n 1 false).irq n PWR.IRQ_SAMPLE_MISS).sat n PWR.WATCH_COUNTS_MISSES).incr n PWR.SAMPLES
    else s1

/-! ## Statistics and faults -/

/-- CMD.CLR_STATS: 0x060 to 0x0BC at zero (R506, R507). -/
def State.pwrClear (s : State) (x : Scope) : State :=
  let b := match x with
    | .ch n => chPage n 0x16
    | .dev => 0x4000
  s.mapRegs (b + 0x60) (b + 0xC0) fun _ _ => 0

/-- What a parity error of the channel sequencer does beside its fault: the transition ends, accounted as SEQUENCER_BUSY
(R505). -/
def State.pwrParity (s : State) (n : Ch) : State :=
  if s.phase (.ch n) = 0 then
    if (s.path (.ch n)).latched = 0 then s else s.pathEnd (.ch n)
  else s.pathAbort (.ch n) 1 2

end Sys2Proof.Machine
end

