-- ==== Sys2Proof/Machine/Cnt.lean ====
section
/-! DEFINITION. The counter banks' commands and device time (R389 to R404, R413). -/

namespace Sys2Proof.Machine

/-! ## Selectors and presets -/

/-- The page of a scope's counter bank. -/
def cntBase : Scope → Nat
  | .ch _ => cntPage
  | .dev => dcntPage

/-- Counters of a scope's bank (R389, R399). -/
def cntSize : Scope → Nat
  | .ch _ => 64
  | .dev => 16

/-- A field of a counter of a scope's bank. -/
def cntF (x : Scope) (f : Nat → Field) (c : Nat) : Field := (f c).inPage (cntBase x)

/-- WRAP_ANY brought up to date. -/
def State.wrapAny (s : State) (x : Scope) : State :=
  let n := scopeCh x
  let lo := s.get n (CNT.WRAP_LO.inPage (cntBase x))
  let hi := s.get n (CNT.WRAP_HI.inPage (cntBase x))
  s.set n (CNT.STATUS_WRAP_ANY.inPage (cntBase x)) (if lo = 0 ∧ hi = 0 then 0 else 1)

/-- A selector's parity error is over once the selector is written (R413). -/
def State.selMended (s : State) (x : Scope) (c : Nat) : State :=
  s.modDev fun d => { d with badRegs := d.badRegs.filter fun a => a != selAddr (scopeCh x) (cntBase x) c }

/-- A write of SELc (`range` false) or RANGEc (R395). -/
def State.writeSelector (s : State) (x : Scope) (c : Nat) (range : Bool) (data : Word) : State :=
  let n := scopeCh x
  let was := s.get n (cntF x CNT.SEL_CLASS c)
  let s1 := if range then s.set n (cntF x CNT.RANGE c) data.toNat
    else s.set n (cntF x CNT.SEL c) (data.toNat &&& 0xFFFFCCFF)
  let s2 := s1.selMended x c
  let s3 := match x with
    | .ch m => s2.modHop m fun h => { h with selChanged := h.selChanged ||| 2 ^ c }
    | .dev => s2
  if was = 0 then s3
  else ((s3.set64 n (cntF x CNT.CNT_LO c) 0).set n (wrapBit (cntBase x) c) 0).wrapAny x

/-- A write of CNTc_LO or CNTc_HI: a preset while CLASS is 0x00, discarded otherwise (R396). -/
def State.presetCounter (s : State) (x : Scope) (c : Nat) (hi : Bool) (data : Word) : State :=
  let n := scopeCh x
  if s.get n (cntF x CNT.SEL_CLASS c) ≠ 0 then s
  else s.set n (cntF x (if hi then CNT.CNT_HI else CNT.CNT_LO) c) data.toNat

/-- A selector's parity error: its fault, and the counter counts nothing (R413). -/
def State.selParity (s : State) (x : Scope) (c : Nat) (note : FaultNote) : State :=
  let f := match x with
    | .ch _ => CNT.FLT_CNT_SEL_PAR
    | .dev => DCNT.FLT_DEV_CNT_PAR
  let s1 := s.raise (scopeCh x) f note
  s1.modDev fun d => { d with badRegs := selAddr (scopeCh x) (cntBase x) c ::
    (d.badRegs.filter fun a => a != selAddr (scopeCh x) (cntBase x) c) }

/-! ## Read latches (R56, R393, R401) -/

/-- A requester's latch of a register replaced. -/
def State.latchRead (s : State) (req addr : Nat) (hi flags : Word) : State :=
  s.modDev fun d =>
    { d with latches := ⟨req, addr, hi, flags⟩ :: d.latches.filter fun l => !(l.req == req && l.addr == addr) }

/-- A requester's latch of a register, 0 before its first read of the low word. -/
def State.latchOf (s : State) (req addr : Nat) : Word × Word :=
  match s.dev.latches.find? (fun l => l.req == req && l.addr == addr) with
  | some l => (l.hi, l.flags)
  | none => (0, 0)

/-! ## Device time (R400) -/

/-- RATE limited to 500 ppm, in 2^-16 ppm. -/
def State.timeRate (s : State) : Int := clampI (-32768000) 32768000 (s.getI 0 TIME.RATE)

/-- Fraction units that `k` nominal steps add from a phase: 104,858 at four edges in five, 104,856 at the fifth. -/
def stepUnits (phase k : Nat) : Nat := 104858 * k - 2 * ((phase + k) / 5)

/-- The time `u` fraction units after a time; the seconds wrap at 2^48. -/
def TimeVal.plus (t : TimeVal) (u : Nat) : TimeVal :=
  let v := t.units + u
  { sec := v / 65536 / 1000000000 % 2 ^ 48, ns := v / 65536 % 1000000000, frac := v % 65536 }

/-- Whole fraction units that `k` ticks add, and the new accumulator (in 2^-16 × 10^-6 unit). -/
def State.tickUnits (s : State) (k : Nat) : Nat × Nat :=
  let d : Int := 65536000000
  let a := (s.dev.timeAcc : Int) + (stepUnits s.dev.timePhase k : Int) * (d + s.timeRate)
  ((a / d).toNat, (a % d).toNat)

/-- Count-clock cycles in 1/48 per tick: the symbol-core clock in RUN, the 221.35 MHz clock otherwise (R389). -/
def State.cycleRate (s : State) (n : Ch) : Nat :=
  if s.is n CNT.STATUS_CLK_CORE then
    match s.get n TOP.STATUS_ACTIVE_MODE with
    | 1 => 17
    | 2 => 34
    | _ => 68
  else 17

/-- `k` ticks of one channel: COUNT_CYCLE, TIME_US, and the millisecond counts (R314, R391; R132 for the wright's
HEARTBEAT). -/
def State.elapseCh (s : State) (n : Ch) (k us ms : Nat) : State :=
  let c := (s.chan n).hop.cycle + k * s.cycleRate n
  let s1 := if s.bankOn n then (s.count n 0x01 0 0 (c / 48)).modHop n fun x => { x with cycle := c % 48 } else s
  let s2 := if us = 0 then s1 else s1.count n 0x02 0 0 us
  if ms = 0 then s2
  else
    let s3 := if s2.get n MBXW.WRIGHT_STATUS_STATE = 2 then s2.incr n MBXW.HEARTBEAT ms else s2
    if s3.chState n ≠ 0 ∧ s3.is n MRACE.STATUS_FAR_VALID = true then s3.sat n MRACE.FAR_LOCAL_SINCE_MS ms else s3

def State.elapseChs (s : State) (k us ms : Nat) : List Ch → State
  | [] => s
  | n :: ns => (s.elapseCh n k us ms).elapseChs k us ms ns

/-- ABOVE_S counts the whole seconds of device time with ABOVE = 1 (R531). -/
def State.elapseAbove (s : State) (ms : Nat) : State :=
  if s.is 0 SENS.STATUS_ABOVE then
    let a := s.dev.aboveMs + ms
    (s.modDev fun d => { d with aboveMs := a % 1000 }).sat 0 SENS.ABOVE_S (a / 1000)
  else s

/-- STATUS_WORD.ELAPSED counts the milliseconds since the blocking period started, 625,000 ticks each (R74).  Outside a
period it keeps its last value until the next one starts: the model's choice (log entry 62). -/
def State.elapseBlock (s : State) (k : Nat) : State :=
  if s.dev.blocking.isSome then
    let t := s.dev.blockTicks + k
    (s.modDev fun d => { d with blockTicks := t % 625000 }).sat 0 HOST.STATUS_WORD_ELAPSED (t / 625000)
  else s

/-- The ticks since the Miller's last kick of its watchdog, while it runs (R109, R130).  Once a millisecond serving firmware may
kick: whether it does is a free value (log entry 67). -/
def State.elapseWdog (s : State) (k ms : Nat) : State :=
  if s.dget MILLER.STATUS_CORE ≠ 1 then s
  else if ms = 0 ∨ s.dget MILLER.FW_STATE_STATE = 1 then s.modDev fun d => { d with wdogTicks := d.wdogTicks + k }
  else s.draw.2.modDev fun d => { d with wdogTicks := if s.draw.1 % 2 = 0 then 0 else d.wdogTicks + k }

/-- `k` ticks of the time clock pass (R400, R404, R399; R131 for HEARTBEAT, R74 for ELAPSED). -/
def State.elapse (s0 : State) (k : Nat) : State :=
  let s := s0.modDev fun d => { d with ticks := d.ticks + k }
  if ! s.dev.timeRunning then s
  else
    let u := s.tickUnits k
    let t0 := s.dev.time
    let t1 := t0.plus u.1
    let us := (t0.units + u.1) / 65536000 - t0.units / 65536000
    let ms := us / 1000 + (if t0.units / 65536000 % 1000 + us % 1000 < 1000 then 0 else 1)
    let rise := t1.sec != t0.sec && s.is 0 TIME.CTRL_PPS_OUT_EN
    let s1 := s.modDev fun d =>
      { d with time := t1, timeAcc := u.2, timePhase := (d.timePhase + k) % 5, ppsTicks := d.ppsTicks + k,
               ppsOut := d.ppsOut || rise, cycle := (d.cycle + 4 * k) % 5 }
    let s2 := s1.elapseChs k us ms allCh
    let s3 := s2.dcount 0x01 0 ((s.dev.cycle + 4 * k) / 5)
    let s4 := ((if us = 0 then s3 else s3.dcount 0x02 0 us).elapseBlock k).elapseWdog k ms
    if ms = 0 then s4
    else
      let s5 := if (s4.dget MILLER.FW_STATE_STATE = 2 ∨ s4.dget MILLER.FW_STATE_STATE = 3) ∧ s4.dget MILLER.STATUS_CORE = 1 then
          s4.set 0 MILLER.HEARTBEAT (s4.dget MILLER.HEARTBEAT + ms)
        else s4
      s5.elapseAbove ms

/-- Ticks until device time passes its next whole second. -/
def State.ticksToSecond (s : State) : Nat :=
  let d : Int := 65536000000
  let left : Int := ((1000000000 - s.dev.time.ns) * 65536 - s.dev.time.frac : Nat)
  let need := (left * d - s.dev.timeAcc + (d + s.timeRate) - 1) / (d + s.timeRate)
  let k0 := need.toNat / 524288 * 5
  let enough := fun k : Nat => decide (need.toNat ≤ stepUnits s.dev.timePhase k)
  match (List.range 8).find? (fun j => enough (k0 + j)) with
  | some j => k0 + j
  | none => k0 + 8

/-- Device time runs on to the next whole second (R404). -/
def doSecondRollover (s : State) : State := s.elapse s.ticksToSecond

/-- The PPS_OUT pulse ends (R404). -/
def doPpsOutPulseEnd (s : State) : State := s.modDev fun d => { d with ppsOut := false }

/-! ## Steps of device time (R401, R402) -/

/-- The Hoppers of a list of channels note a step. -/
def State.hopStepped (s : State) : List Ch → State
  | [] => s
  | n :: ns => (s.modHop n fun x => { x with stepped := true }).hopStepped ns

/-- STEPPED raised. -/
def State.timeStepped (s : State) : State := (s.dirq TIME.IRQ_STEPPED).hopStepped allCh

/-- CMD.SET. -/
def State.timeSet (s : State) : State :=
  if ! s.dev.timeRunning then s
  else
    let t := TimeVal.ofWords (s.word (TIME.SET0.addr 0)) (s.word (TIME.SET1.addr 0)) (s.word (TIME.SET2.addr 0))
    let s1 := s.modDev fun d => { d with time := { t with ns := min t.ns 999999999 } }
    (s1.dset TIME.STATUS_VALID 1).timeStepped

/-- CMD.ADJUST. -/
def State.timeAdjust (s : State) : State :=
  if ! s.dev.timeRunning then s
  else
    let t := s.dev.time
    let v := ((t.sec * 1000000000 + t.ns : Nat) : Int) + s.getI 0 TIME.ADJ
    let top : Int := 2 ^ 48 * 1000000000
    let stop := fun t' : TimeVal => (s.modDev fun d => { d with time := t', timeAcc := 0 }).dset TIME.STATUS_VALID 0
    let s1 :=
      if v < 0 then stop {}
      else if top ≤ v then stop { sec := 2 ^ 48 - 1, ns := 999999999, frac := 0xFFFF }
      else s.modDev fun d =>
        { d with time := { sec := (v / 1000000000).toNat, ns := (v % 1000000000).toNat, frac := t.frac } }
    s1.timeStepped

/-- A word of a timestamp held in three registers. -/
def State.setTime (s : State) (f : Field) (t : TimeVal) : State :=
  ((s.set 0 f t.word0.toNat).set 0 f.next t.word1.toNat).set 0 f.next.next t.word2.toNat

/-- The alignment of R402, step 3. -/
def State.ppsAlign (s : State) (err : Int) : State :=
  let t := s.dev.time
  let armed := s.is 0 TIME.NEXT_SEC_HI_ARM
  let sec :=
    if armed then s.dget TIME.NEXT_SEC_LO + 2 ^ 32 * s.dget TIME.NEXT_SEC_HI_SEC
    else if err < 0 then (t.sec + 1) % 2 ^ 48 else t.sec
  let rise := s.is 0 TIME.CTRL_PPS_OUT_EN && decide (500000000 ≤ t.ns)
  let s1 := s.modDev fun d => { d with time := { sec, ns := 0, frac := 0 }, ppsOut := d.ppsOut || rise }
  if armed then ((s1.dset TIME.NEXT_SEC_HI_ARM 0).dset TIME.STATUS_NEXT_ARMED 0).dset TIME.STATUS_VALID 1 else s1

/-- A PPS wake of the channels of a list (R499). -/
def State.ppsWake (s : State) : List Ch → State
  | [] => s
  | n :: ns => (s.chWake n 1).ppsWake ns

/-- A rising edge of PPS_IN, `after` ticks from now (R402, R403, R499). -/
def doPpsEdge (after : Nat) (s : State) : State :=
  let s0 := s.elapse after
  if ! s0.dev.timeRunning then s0
  else if s0.dev.ppsSeen && decide (s0.dev.ppsTicks < 312500000) then
    (s0.sat 0 TIME.PPS_COUNTS_GLITCH).dirq TIME.IRQ_PPS_GLITCH
  else
    let t := s0.dev.time
    let err : Int := if t.ns < 500000000 then (t.ns : Int) else (t.ns : Int) - 1000000000
    let late := decide (1000 * max 1 (s0.dget TIME.PPS_CFG_WINDOW_US) < err.natAbs)
    let s1 := if late then s0.draise TIME.FLT_PPS_WINDOW else s0
    let s2 := ((s1.setTime TIME.PPS_CAP0 t).dirq TIME.IRQ_PPS_EDGE).setI 0 TIME.PPS_ERR err
    let s3 := s2.incr 0 TIME.EDGES
    let s4 := if s3.dget TIME.STATUS_PPS_STATE = 1 then s3
      else (s3.dset TIME.STATUS_PPS_STATE 1).dirq TIME.IRQ_PPS_FOUND
    let s5 := s4.modDev fun d => { d with ppsSeen := true, ppsTicks := 0 }
    let s6 := if s5.is 0 TIME.CTRL_ALIGN_EN then s5.ppsAlign err else s5
    let s7 := if late then s6.timeStepped else s6
    (s7.ppsWake allCh).devWake 1

/-- 1.5 s without an accepted edge (R403). -/
def doPpsLoss (s : State) : State :=
  if s.dget TIME.STATUS_PPS_STATE ≠ 1 then s
  else
    let s1 := (s.draise TIME.FLT_PPS_LOSS).dirq TIME.IRQ_PPS_LOSS
    let s2 := (s1.sat 0 TIME.PPS_COUNTS_LOSS_COUNT).dset TIME.STATUS_PPS_STATE 2
    s2.modDev fun d => { d with ppsTicks := max d.ppsTicks 937500000 }

/-- What a parity error of the accumulator or of the time registers does beside its fault (R413). -/
def State.timeParity (s : State) : State := s.dset TIME.STATUS_VALID 0

end Sys2Proof.Machine
end

