-- ==== Sys2Proof/Machine/Datapath.lean ====
section
/-! DEFINITION. The functions of the symbol path that the spec defines bit by bit: the inner code, the Gray map, the
precoder and Chase-II decoding (R178 to R180, R239, R254, R255, R262 to R265). -/

namespace Sys2Proof.Machine

/-! ## The (128,120) code (R254) -/

/-- The number of set bits among the low `k` bits of a number. -/
def bitCount (v : Nat) : Nat → Nat
  | 0 => 0
  | k + 1 => bitCount v k + (if v.testBit k then 1 else 0)

/-- The columns of the message bits: the values 1 to 127 with at least two bits set, rising. -/
def msgColumns : List Nat := (List.range 128).filter fun v => decide (2 ≤ bitCount v 7)

/-- The columns h(0) to h(127). -/
def columns : List Nat := msgColumns ++ (List.range 7).map (fun j => 2 ^ j) ++ [0]

/-- The XOR of the columns of the bits that are 1. -/
def syndrome : List Nat → List Bool → Nat
  | c :: cs, b :: bs => (if b then c else 0) ^^^ syndrome cs bs
  | _, _ => 0

/-- The XOR of a list of bits. -/
def parity : List Bool → Bool
  | [] => false
  | b :: bs => xor b (parity bs)

/-- The block of a 120-bit message (R178). -/
def innerEncode (msg : List Bool) : List Bool :=
  let p := syndrome columns msg
  let b := msg ++ (List.range 7).map fun j => p.testBit j
  b ++ [parity b]

/-- What a hard-decision decoder finds: a codeword, a single error at a bit, or no codeword. -/
inductive Hard where
  | codeword | single (bit : Nat) | double
deriving DecidableEq, Repr

/-- The hard decision of a block from its syndrome and parity. -/
def hardDecode (b : List Bool) : Hard :=
  let s := syndrome columns b
  if parity b then .single (columns.idxOf s)
  else if s = 0 then .codeword
  else .double

/-! ## Gray map and precoding (R179, R180, R239) -/

/-- The Gray symbol of a pair of bits. -/
def grayOf : Bool → Bool → Fin 4
  | false, false => 0
  | false, true => 1
  | true, true => 2
  | true, false => 3

/-- The pair of bits of a Gray symbol. -/
def bitsOfGray (g : Fin 4) : List Bool := [decide (2 ≤ g.val), g.val == 1 || g.val == 2]

/-- The line symbols of Gray symbols under 1/(1+D) precoding from the state `p` (R180). -/
def precode (p : Fin 4) : List (Fin 4) → List (Fin 4)
  | [] => []
  | g :: gs => (g - p) :: precode (g - p) gs

/-- What EQ undoes: G(j) = P(j) + P(j - 1) (R239). -/
def unprecode (p : Fin 4) : List (Fin 4) → List (Fin 4)
  | [] => []
  | x :: xs => (x + p) :: unprecode x xs

/-! ## Reliabilities (R255, R256) -/

/-- min(15, ⌊|y - t|⌋) for a value in 1/32 and a threshold given as the sum of two levels in 2^-28 of the outer level. -/
def nearness (y sum : Int) : Nat := min 15 ((y * 16777216 - sum).natAbs / 16777216)

/-- The reliabilities of the two bits of a symbol from the four levels. -/
def reliability (mu : List Int) (y : Int) : Nat × Nat :=
  let m := fun i : Nat => mu.getD i 0
  (nearness y (m 1 + m 2), min (nearness y (m 0 + m 1)) (nearness y (m 2 + m 3)))

/-- The reliabilities of a run of symbols after the value `prev`; precoding takes the lower of the two symbols'. -/
def reliabilities (mu : List Int) (pre : Bool) (prev : Int) : List Int → List Nat
  | [] => []
  | y :: ys =>
    let r := reliability mu y
    let q := reliability mu prev
    (if pre then [min r.1 q.1, min r.2 q.2] else [r.1, r.2]) ++ reliabilities mu pre y ys

/-! ## Chase-II (R262 to R265) -/

/-- The position with the lowest value among those of `rel` not in `taken`, the first among equals; `i` numbers the
head. -/
def weakest (taken : List Nat) (i : Nat) : List Nat → Option (Nat × Nat)
  | [] => none
  | r :: rs =>
    let rest := weakest taken (i + 1) rs
    if taken.contains i then rest
    else
      match rest with
      | none => some (i, r)
      | some (j, v) => if v < r then some (j, v) else some (i, r)

/-- The `k` least reliable positions beside `taken`, the least reliable first. -/
def weakestK (rel : List Nat) : Nat → List Nat → List Nat
  | 0, taken => taken
  | k + 1, taken =>
    match weakest taken 0 rel with
    | none => taken
    | some (i, _) => weakestK rel k (taken ++ [i])

/-- The positions of test pattern `k` among the least reliable ones. -/
def patternBits (weak : List Nat) (k : Nat) : List Nat :=
  ((List.range 4).filter fun m => k.testBit m).map fun m => weak.getD m 0

/-- A list of bits with the bits at some positions inverted; `i` numbers the head. -/
def flipBits (at_ : List Nat) (i : Nat) : List Bool → List Bool
  | [] => []
  | b :: bs => (if at_.contains i then !b else b) :: flipBits at_ (i + 1) bs

/-- The bits in which the codeword of a test pattern differs from the hard decisions, or none without a codeword. -/
def patternDiff (bits : List Bool) (flips : List Nat) : Option (List Nat) :=
  match hardDecode (flipBits flips 0 bits) with
  | .codeword => some flips
  | .single e => some (if flips.contains e then flips.filter fun f => f != e else flips ++ [e])
  | .double => none

/-- A candidate: its metric and the bits in which it differs from the hard decisions. -/
structure Candidate where
  metric : Nat
  diff : List Nat
deriving DecidableEq, Repr

/-- The candidate of pattern `k`. -/
def candidateOf (bits : List Bool) (rel weak : List Nat) (k : Nat) : Option Candidate :=
  (patternDiff bits (patternBits weak k)).map fun d => ⟨(d.map fun i => rel.getD i 0).sum, d⟩

/-- Whether two candidates are one codeword. -/
def Candidate.same (a b : Candidate) : Bool := a.diff.all (fun i => b.diff.contains i) && a.diff.length == b.diff.length

/-- The candidate with the lowest metric, the first among equals. -/
def bestCandidate : List Candidate → Option Candidate
  | [] => none
  | c :: cs =>
    match bestCandidate cs with
    | none => some c
    | some d => if d.metric < c.metric then some d else some c

/-- What the decoder makes of a block: the chosen candidate, and the metric of the best candidate that is another
codeword. -/
def chase (bits : List Bool) (rel : List Nat) : Option (Candidate × Option Nat) :=
  let weak := weakestK rel 4 []
  let cands := (List.range 16).filterMap (candidateOf bits rel weak)
  (bestCandidate cands).map fun c =>
    (c, (bestCandidate (cands.filter fun d => !d.same c)).map fun d => d.metric)

/-- The hard bits of a run of Gray symbols. -/
def hardBits : List (Fin 4) → List Bool
  | [] => []
  | g :: gs => bitsOfGray g ++ hardBits gs

/-! ## Cyclic redundancy checks (R300, R368) -/

/-- One bit of the reflected CRC-32 of IEEE 802.3. -/
def crc32Step (r : Nat) : Nat := if r % 2 = 1 then (r / 2) ^^^ 0xEDB88320 else r / 2

/-- `f` applied `k` times. -/
def iter {α : Type} (f : α → α) : Nat → α → α
  | 0, x => x
  | k + 1, x => iter f k (f x)

/-- The CRC-32 register after a run of bytes. -/
def crc32Run : Nat → List Byte → Nat
  | r, [] => r
  | r, b :: bs => crc32Run (iter crc32Step 8 (r ^^^ b.toNat)) bs

/-- The CRC-32 of a byte string from a given initial register, with the final complement. -/
def crc32 (init : Nat) (bs : List Byte) : Nat := crc32Run init bs ^^^ 0xFFFFFFFF

/-- One bit of the CRC-16 with generator x^16 + x^12 + x^5 + 1. -/
def crc16Step (r : Nat) : Nat := if 32768 ≤ r then (2 * r % 65536) ^^^ 0x1021 else 2 * r % 65536

/-- The CRC-16 of a byte string, most significant bit first (log entry 15), from 0xFFFF, not inverted. -/
def crc16 : Nat → List Byte → Nat
  | r, [] => r
  | r, b :: bs => crc16 (iter crc16Step 8 (r ^^^ (b.toNat * 256))) bs

/-- The `k` little-endian bytes of a number (R8). -/
def leBytes (v : Nat) : Nat → List Byte
  | 0 => []
  | k + 1 => BitVec.ofNat 8 v :: leBytes (v / 256) k

/-- The number that little-endian bytes hold. -/
def leNat : List Byte → Nat
  | [] => 0
  | b :: bs => b.toNat + 256 * leNat bs

/-! ## The Millrace code (R300) -/

/-- The bits of a byte string, bytes in ascending order, least significant bit first. -/
def bitsOfBytes : List Byte → List Bool
  | [] => []
  | b :: bs => ((List.range 8).map fun i => b.toNat.testBit i) ++ bitsOfBytes bs

/-- The rate-1/2, K = 7 code with generators 171 and 133; `st` holds the last six bits, the latest in bit 5. -/
def convEncode (st : Nat) : List Bool → List Bool
  | [] => []
  | b :: bs =>
    let r := (if b then 64 else 0) + st
    let out := fun g : Nat => decide (bitCount (r &&& g) 7 % 2 = 1)
    out 0o171 :: out 0o133 :: convEncode (r / 2) bs

/-- A coded block: tail, code and the interleaver of `rows` rows of 16. -/
def mrBlock (bs : List Byte) (rows : Nat) : List Bool :=
  let code := convEncode 0 (bitsOfBytes (bs ++ [0]))
  (List.range 16).flatMap fun c => (List.range rows).map fun r => code.getD (16 * r + c) false

/-- The slopes of the coded chirps after the second sync chirp. -/
def slopesFrom (c : Bool) : List Bool → List Bool
  | [] => []
  | x :: xs => xor c x :: slopesFrom (xor c x) xs

end Sys2Proof.Machine
end

