-- ==== Sys2Proof/Machine/Mrace.lean ====
section
/-! DEFINITION. The Millrace and relay commands (R295 to R325). -/

namespace Sys2Proof.Machine

/-! ## Time and identity -/

/-- A point of device time `u` units of 1/65,536 ns after 0. -/
def TimeVal.ofUnits (u : Nat) : TimeVal :=
  { sec := u / 65536 / 1000000000, ns := u / 65536 % 1000000000, frac := u % 65536 }

/-- A point of device time `ns` nanoseconds later. -/
def TimeVal.later (t : TimeVal) (ns : Nat) : TimeVal := TimeVal.ofUnits (t.units + ns * 65536)

/-- The twelve bytes of a timestamp in a frame (R299). -/
def TimeVal.bytes (t : TimeVal) : List Byte := leBytes t.frac 2 ++ leBytes t.ns 4 ++ leBytes t.sec 6

/-- A timestamp from its twelve bytes. -/
def TimeVal.ofBytes (b : List Byte) : TimeVal :=
  { frac := leNat (b.take 2), ns := leNat ((b.drop 2).take 4), sec := leNat ((b.drop 6).take 6) }

/-- The part's own UID, and the broadcast destination (R299). -/
def State.uid (s : State) : Nat := s.dev.uid.toNat
def mrBroadcast : Nat := 0xFFFFFFFFFFFF

/-! ## Frames on the line (R298 to R300) -/

/-- Header bytes 0 to 31. -/
def MrFrame.head (f : MrFrame) : List Byte :=
  leBytes f.src 6 ++ [BitVec.ofNat 8 (f.srcCh % 8 * 32 + f.typ % 32), BitVec.ofNat 8 f.ttl] ++ leBytes f.age 2 ++
    leBytes f.seq 2 ++ f.ts.bytes ++ leBytes f.dst 6 ++
    [BitVec.ofNat 8 f.payload.length,
     BitVec.ofNat 8 (f.payload.length / 256 % 2 + (if f.relayed then 2 else 0))]

/-- The 34 header bytes. -/
def MrFrame.header (f : MrFrame) : List Byte := f.head ++ leBytes (crc16 0xFFFF f.head) 2

/-- The payload and its CRC-32. -/
def MrFrame.body (f : MrFrame) : List Byte := f.payload ++ leBytes (crc32 0xFFFFFFFF (f.header ++ f.payload)) 4

/-- The slopes of the coded chirps of a frame. -/
def MrFrame.slopes (f : MrFrame) : List Bool :=
  slopesFrom true (mrBlock f.header 35 ++ mrBlock f.body (f.payload.length + 5))

/-- A frame from its header bytes and payload. -/
def MrFrame.ofBytes (h payload : List Byte) : MrFrame :=
  let b := fun i : Nat => (h.getD i 0).toNat
  { src := leNat (h.take 6), srcCh := b 6 / 32, typ := b 6 % 32, ttl := b 7, age := leNat ((h.drop 8).take 2),
    seq := leNat ((h.drop 10).take 2), ts := TimeVal.ofBytes ((h.drop 12).take 12), dst := leNat ((h.drop 24).take 6),
    relayed := (b 31).testBit 1, payload }

/-- The payload length that a header names. -/
def mrLen (h : List Byte) : Nat := (h.getD 30 0).toNat + (h.getD 31 0).toNat % 2 * 256

/-! ## Queue, slots, FIFO -/

/-- T in ns for the k of TX_K, and the receiver's for the k it took at its entry to SEARCH (R297). -/
def State.chirpNs (s : State) (n : Ch) : Nat := 1000 * 2 ^ clampN 1 9 (s.get n MRACE.CFG_TX_K)
def State.rxChirpNs (s : State) (n : Ch) : Nat := 1000 * 2 ^ (s.chan n).mr.rxK

/-- LEVEL_ATT, in half decibels below −18 dB; 37 to 63 act as 36 (R296, R324). -/
def State.mrAtt (s : State) (n : Ch) : Nat := min 36 (s.get n MRACE.CFG_LEVEL_ATT)

/-- A SEQ reserved (R302). -/
def State.mrSeq (s : State) (n : Ch) : Nat × State :=
  (s.get n MRACE.TX_SEQ_NEXT, s.incr n MRACE.TX_SEQ_NEXT)

/-- A CE injection with a TARGET taken by the next word it names (R323). -/
def State.mrInject (s : State) (n : Ch) (f : Field) (target : Nat) : Bool × State :=
  if s.armed n f 0 && s.get n ⟨f.base, 0x20, 8, 8⟩ == target then (true, s.disarm n f 0) else (false, s)

/-- A frame enters a queue that has room. -/
def State.mrPush (s : State) (n : Ch) (o : MrOut) : State :=
  let i := s.mrInject n MRACE.STATUS 2
  (i.2.modMr n fun x => { x with queue := x.queue ++ [{ o with bad := i.1 }] }).mrStatus n

/-- MR_SEND's frame enqueued with the SEQ it reserves, or none with the queue full (R301, R302). -/
def State.mrSend (s : State) (n : Ch) (ttl : Nat) (payload : List Byte) : Option Nat × State :=
  if 4 ≤ (s.chan n).mr.queue.length then (none, s)
  else
    let q := s.mrSeq n
    let dst := s.get n MRACE.TX_DST_LO + s.get n MRACE.TX_DST_HI_ID * 2 ^ 32
    let f : MrFrame :=
      { src := s.uid, srcCh := n.val, typ := 1, ttl, age := 0, seq := q.1, ts := {}, dst, relayed := false, payload }
    (some q.1, q.2.mrPush n { frame := f, own := true })

/-- Frames at the head of the FIFO whose words show bad parity are dropped (R323). -/
def State.fifoCheck (s : State) (n : Ch) : List MrIn → State
  | [] => (s.modMr n fun x => { x with fifo := [] }).mrStatus n
  | e :: l =>
    if e.bad then
      let s1 := s.raise n MRACE.FLT_MR_MEM_PAR { flags := 1 }
      State.fifoCheck (s1.incr n MRACE.RX_DROP_FULL) n l
    else (s.modMr n fun x => { x with fifo := e :: l }).mrStatus n

/-- Local delivery (R308). -/
def State.mrDeliver (s : State) (n : Ch) (f : MrFrame) (rx : TimeVal) (rssi : Int) : State :=
  let q := (s.chan n).mr.fifo
  if 4 ≤ q.length then (s.incr n MRACE.RX_DROP_FULL).irq n MRACE.IRQ_RX_OVERFLOW
  else
    let i := s.mrInject n MRACE.STATUS 3
    (i.2.irq n MRACE.IRQ_RX_FRAME).fifoCheck n (q ++ [{ frame := f, rx, rssi, bad := i.1 }])

/-- CMD.RX_POP (R309). -/
def State.mrPop (s : State) (n : Ch) : State := s.fifoCheck n (s.chan n).mr.fifo.tail

/-- CMD.TX_FLUSH (R301). -/
def State.mrFlush (s : State) (n : Ch) : State :=
  (s.modMr n fun x => { x with queue := [], beacon := false, echo := false, rsp := none }).mrStatus n

/-- CMD.ECHO (R315). -/
def State.mrEcho (s : State) (n : Ch) : State := (s.modMr n fun x => { x with echo := true }).mrStatus n

/-- A beacon falls due (R312). -/
def doBeaconDue (n : Ch) (s : State) : State :=
  if s.get n MRACE.BEACON_CFG_PERIOD = 0 ∨ s.chState n = 0 then s
  else (s.modMr n fun x => { x with beacon := true }).mrStatus n

/-! ## Transmitting -/

/-- The 12 bytes of a beacon (R312). -/
def State.beaconBytes (s : State) (n : Ch) : List Byte :=
  let b := fun (f : Field) => s.get n f
  let line := if (s.chan n).hfec.line.state = 4 then 1 else 0
  let valid := b BOLT.BER_EST_VALID
  let link := s.chState n + 8 * b LRX.STATUS_SIG_DET + 16 * b TIM.STATUS_TIM_LOCK + 32 * b BOLT.STATUS_BLOCK_LOCK +
    64 * line + 128 * b TOP.STATUS_HOST_LOCK
  let mode := b TOP.STATUS_ACTIVE_MODE + 4 * b TOP.STATUS_ACTIVE_OUTER + 8 * valid
  let pwr := b GAUGE.LAST_RXPWR_CODE + 32768 * b GAUGE.LAST_RXPWR_VALID
  let rssi :=
    match (s.chan n).mr.rssi with
    | some r => ofSigned 16 r
    | none => 0x8000
  leBytes link 1 ++ leBytes (if valid = 1 then b BOLT.BER_EST_CODE else 0) 1 ++ leBytes mode 1 ++
    leBytes (b MRACE.CFG_TX_K + 16 * b MRACE.CFG_RX_K) 1 ++ leBytes pwr 2 ++ leBytes rssi 2 ++ [0, 0, 0, 0]

/-- A frame takes the line: its lead-in starts (R298, R300). -/
def State.mrStart (s : State) (n : Ch) (o : MrOut) : State :=
  s.modMr n fun x =>
    { x with air := some o, slopes := o.frame.slopes, chirpNs := s.chirpNs n, att := s.mrAtt n,
             began := s.dev.time.units, startState := s.chState n, cut := false, cutAt := 0 }

/-- The instant of the first sync chirp of a frame that starts now (R302). -/
def State.mrSync (s : State) (n : Ch) : TimeVal := s.dev.time.later (8000 + 16 * s.chirpNs n)

/-- A link-local frame originated now (R302). -/
def State.mrLocal (s : State) (n : Ch) (typ dst : Nat) (payload : List Byte) : State :=
  let q := s.mrSeq n
  let f : MrFrame :=
    { src := s.uid, srcCh := n.val, typ, ttl := 1, age := 0, seq := q.1, ts := s.mrSync n, dst, relayed := false, payload }
  let s1 := if typ = 3 then q.2.modMr n fun x => { x with outstanding := some (q.1, s.mrSync n) } else q.2
  s1.mrStart n { frame := f, own := true }

/-- A relayed copy's AGE at its sync (R319). -/
def relayAge (age : Nat) (sync rx : TimeVal) : Nat :=
  min 65535 (age + (sync.units - rx.units + 65536000000 - 1) / 65536000000)

/-- The next frame of the queue that may go starts; copies over AGE_MAX and frames with bad parity leave it
(R301, R319, R323). -/
def State.mrFromQueue (s : State) (n : Ch) : List MrOut → State
  | [] => s.modMr n fun x => { x with queue := [] }
  | o :: l =>
    let s1 := s.modMr n fun x => { x with queue := l }
    if o.bad then
      let s2 := s1.raise n MRACE.FLT_MR_MEM_PAR { flags := 1 }
      State.mrFromQueue (s2.incr n MRACE.TX_ABORTED) n l
    else if o.own then s1.mrStart n { o with frame := { o.frame with ts := s.mrSync n } }
    else
      let age := relayAge o.frame.age (s.mrSync n) o.rx
      let cap := s.get n MRLY.CFG_AGE_MAX
      if cap ≠ 0 ∧ cap < age then
        State.mrFromQueue ((s1.incr n MRLY.AGE_DROP).irq n MRLY.IRQ_AGE_DROP) n l
      else s1.mrStart n { o with frame := { o.frame with age := age } }

/-- The gap that a frame leaves behind: 4 × T from now (R298, R301). -/
def State.mrGapFrom (s : State) (n : Ch) : Nat := s.dev.time.units + 4 * 65536 * (s.chan n).mr.chirpNs

/-- The lead-in of the next eligible frame starts: ECHO_RSP, BEACON, ECHO_REQ, then the queue (R301). -/
def doMrFrameStart (n : Ch) (s : State) : State :=
  let x := (s.chan n).mr
  if ! s.mrTxMay n || x.air.isSome || decide (s.dev.time.units < x.gapEnd) then s
  else
    let far := s.get n MRACE.FAR_ID_LO + s.get n MRACE.FAR_ID_HI_ID * 2 ^ 32
    let s1 :=
      match x.rsp with
      | some e =>
        let turn := ((s.mrSync n).units + 2 ^ 64 - e.rx.units) % 2 ^ 64
        (s.modMr n fun y => { y with rsp := none }).mrLocal n 4 e.dst
          (leBytes e.seq 2 ++ e.ts.bytes ++ leBytes turn 8 ++ [0, 0])
      | none =>
        if x.beacon then
          (s.modMr n fun y => { y with beacon := false }).mrLocal n 2 mrBroadcast (s.beaconBytes n)
        else if x.echo then
          (s.modMr n fun y => { y with echo := false }).mrLocal n 3
            (if s.is n MRACE.STATUS_FAR_VALID then far else mrBroadcast) []
        else s.mrFromQueue n x.queue
    s1.mrStatus n

/-- A frame ends its lead-out (R303, R312, R321). -/
def doMrFrameEnd (n : Ch) (s : State) : State :=
  match (s.chan n).mr.air with
  | none => s
  | some o =>
    if (s.chan n).mr.cut then s
    else
      let s1 := ((s.irq n MRACE.IRQ_TX_DONE).incr n MRACE.TX_FRAMES).set n MRACE.TX_LAST_SENT_SEQ o.frame.seq
      let s2 := (s1.count n 0x40 2 0).modMr n fun x => { x with gapEnd := s.mrGapFrom n }
      let s3 := if o.own then s2 else s2.incr n MRLY.RELAY_TX
      let e := s.get n MRACE.BEACON_CFG_ECHO_EVERY
      let s4 := s3.modMr n fun x =>
        if o.frame.typ = 2 ∧ o.own = true ∧ e ≠ 0 then
          if e ≤ x.sinceEcho + 1 then { x with air := none, slopes := [], sinceEcho := 0, echo := true }
          else { x with air := none, slopes := [], sinceEcho := x.sinceEcho + 1 }
        else { x with air := none, slopes := [] }
      (s4.mrTxLevel n).mrStatus n

/-- A frame that cannot finish has left the line (R303). -/
def doMrTxAbort (n : Ch) (s : State) : State :=
  match (s.chan n).mr.air with
  | none => s
  | some o =>
    if (s.chan n).mr.cut then
      let s1 := ((s.irq n MRACE.IRQ_TX_ABORTED).incr n MRACE.TX_ABORTED).set n MRACE.TX_LAST_ABORT_SEQ o.frame.seq
      let s2 := s1.modMr n fun x => { x with air := none, slopes := [], cut := false, gapEnd := s.mrGapFrom n }
      (s2.mrTxLevel n).mrStatus n
    else s

/-! ## Receiving -/

/-- Two up-chirps (R306). -/
def doPreambleDetect (n : Ch) (s : State) : State := if s.mrRx n = 1 then s.set n MRACE.STATUS_RX_STATE 2 else s

/-- Two down-chirps: HEADER, with the gain frozen at the code it has reached (R305, R306). -/
def doSyncDetect (n : Ch) (gain : BitVec 7) (s : State) : State :=
  if s.mrRx n = 2 then
    let s1 := (s.set n MRACE.STATUS_RX_STATE 3).set n MRACE.STATUS_RX_GAIN_FROZEN 1
    if s.is n MRACE.CFG_RX_GAIN_MAN then s1 else s1.set n MRACE.RX_GAIN_CODE gain.toNat
  else s

/-- A receive error of kind 0 CRC, 1 header, 2 no sync (R306, R391). -/
def State.mrRxErr (s : State) (n : Ch) (kind : Nat) (f : Field) : State :=
  (((s.incr n f).irq n MRACE.IRQ_RX_ERR).count n 0x42 2 kind).mrSearch n

/-- No sync within 20 chirps (R306). -/
def doRxNosync (n : Ch) (s : State) : State := if s.mrRx n = 2 then s.mrRxErr n 2 MRACE.RX_NOSYNC else s

/-- The header block decoded: HCRC and LEN (R306). -/
def doHeaderDecoded (n : Ch) (h : List Byte) (s : State) : State :=
  if s.mrRx n ≠ 3 then s
  else if leNat ((h.drop 32).take 2) = crc16 0xFFFF (h.take 32) ∧ mrLen h ≤ 256 then
    (s.set n MRACE.STATUS_RX_STATE 4).modMr n fun x => { x with header := h.take 34 }
  else s.mrRxErr n 1 MRACE.RX_HDR_ERR

/-! ## Beacons and echoes -/

/-- An accepted beacon updates the far-end view (R314). -/
def State.mrBeacon (s : State) (n : Ch) (f : MrFrame) (rssi ppm : Int) : State :=
  let b := fun i : Nat => (f.payload.getD i 0).toNat
  let was := s.is n MRACE.STATUS_FAR_VALID
  let old := s.get n MRACE.FAR_ID_LO + s.get n MRACE.FAR_ID_HI_ID * 2 ^ 32
  let moved := was && (old != f.src || s.get n MRACE.FAR_ID_HI_CH != f.srcCh)
  let s0 := if moved then (s.raise n MRACE.FLT_FAR_CHANGED).irq n MRACE.IRQ_FAR_CHANGED else s
  let s1 := if was then s0 else s0.irq n MRACE.IRQ_FAR_FOUND
  let s2 := (s1.set n MRACE.FAR_ID_LO f.src).set n MRACE.FAR_ID_HI (f.src / 2 ^ 32 + f.srcCh * 2 ^ 16)
  let s3 := s2.set n MRACE.FAR_LINK (b 0 + b 1 * 2 ^ 8 + b 2 * 2 ^ 16 + b 3 * 2 ^ 24)
  let s4 := (s3.set n MRACE.FAR_PWR_RXPWR (b 4 + 256 * b 5)).set n MRACE.FAR_PWR_MR_RSSI (b 6 + 256 * b 7)
  let s5 := (s4.setI n MRACE.FAR_LOCAL_RSSI rssi).set n MRACE.FAR_LOCAL_SINCE_MS 0
  ((s5.setI n MRACE.FAR_PPM_PPM ppm).set n MRACE.STATUS_FAR_VALID 1).incr n MRACE.BEACON_RX

/-- The round-trip time in 1/16 ns, saturating, rounded down (R316). -/
def rttOf (t4 t1 turn : Nat) (ppm : Int) : Nat :=
  let d : Int := 16000000 + ppm
  let v : Int := (((t4 : Int) - t1) * d - (turn : Int) * 16000000) / (4096 * d)
  (clampI 0 4294967295 v).toNat

/-- An accepted echo response (R316). -/
def State.mrEchoRsp (s : State) (n : Ch) (f : MrFrame) (rx : TimeVal) (ppm : Int) : State :=
  match (s.chan n).mr.outstanding with
  | none => s
  | some (seq, t1) =>
    if f.dst = s.uid ∧ leNat (f.payload.take 2) = seq then
      let turn := leNat ((f.payload.drop 14).take 8)
      let s1 := s.set n MRACE.RTT (rttOf rx.units t1.units turn ppm)
      let s2 := (s1.set n MRACE.RTT_INFO_VALID 1).set n MRACE.RTT_INFO_SEQ seq
      ((s2.modMr n fun x => { x with outstanding := none }).irq n MRACE.IRQ_ECHO_DONE).mrStatus n
    else s

/-- An accepted echo request (R315). -/
def State.mrEchoReq (s : State) (n : Ch) (f : MrFrame) (rx : TimeVal) : State :=
  if f.dst = s.uid ∨ f.dst = mrBroadcast then
    (s.modMr n fun x => { x with rsp := some { seq := f.seq, ts := f.ts, dst := f.src, rx } }).mrStatus n
  else s

/-! ## Relay (R317 to R321) -/

/-- An injected cache entry is found by the next search and discarded (R323). -/
def State.dupScrub (s : State) (n : Ch) : State :=
  if s.dev.dup.any fun e => e.bad then
    (s.raise n MRLY.FLT_RELAY_PAR { flags := 1 }).modDev fun d => { d with dup := d.dup.filter fun e => !e.bad }
  else s

/-- Step 2: whether the frame is a duplicate, and the cache after it (R317, R320). -/
def State.dupCheck (s : State) (n : Ch) (f : MrFrame) : Bool × State :=
  if s.dev.dupCfg.toNat.testBit 31 then
    let s0 := s.dupScrub n
    if s0.dev.dup.any fun e => e.src == f.src && e.srcCh == f.srcCh && e.seq == f.seq then (true, s0)
    else
      let i := s0.mrInject n MRLY.STATUS 1
      let k : DupKey := { src := f.src, srcCh := f.srcCh, seq := f.seq, bad := i.1 }
      (false, i.2.modDev fun d => { d with dup := (if 64 ≤ d.dup.length then d.dup.tail else d.dup) ++ [k] })
  else (false, s)

/-- Whether a committed entry matches a frame (R318). -/
def relayMatch (f : MrFrame) (w0 w1 : Word) : Bool :=
  let id := getBits w0 0 16 * 2 ^ 32 + w1.toNat
  getBits w0 31 1 == 1 &&
    (match getBits w0 24 2 with
     | 0 => f.dst == id
     | 1 => f.src == id
     | 2 => true
     | _ => false)

/-- The lowest-numbered valid entry that matches (R317, R318). -/
def State.relayEntry (s : State) (n : Ch) (f : MrFrame) : Option Word :=
  let x := (s.chan n).mr
  let hits := x.relay.filter fun e => !x.relayBad.contains e.1 && relayMatch f e.2.1 e.2.2
  (hits.foldl (fun (m : Option (Nat × Word × Word)) e =>
    match m with
    | none => some e
    | some b => if e.1 < b.1 then some e else some b) none).map fun e => e.2.1

/-- Tagged table entries are found by a search and match no more (R323). -/
def State.relayScrub (s : State) (n : Ch) : State :=
  if (s.chan n).mr.relayTag = [] then s
  else
    (s.raise n MRLY.FLT_RELAY_PAR { flags := 1 }).modMr n fun x =>
      { x with relayBad := x.relayBad ++ x.relayTag, relayTag := [] }

/-- One copy to channel `m` (R319, R321); the flag says that it entered a queue. -/
def State.relayCopy (s : State) (n m : Ch) (f : MrFrame) (rx : TimeVal) : Bool × State :=
  if s.chState m = 0 ∨ s.inTrial m = true then (false, (s.incr n MRLY.DROP_DARK).irq n MRLY.IRQ_DROP_DARK)
  else if 4 ≤ (s.chan m).mr.queue.length then (false, (s.incr m MRLY.DROP_FULL).irq m MRLY.IRQ_DROP_FULL)
  else (true, s.mrPush m { frame := { f with ttl := f.ttl - 1, relayed := true }, own := false, rx })

/-- The copies to a list of channels. -/
def State.relayCopies (s : State) (n : Ch) (f : MrFrame) (rx : TimeVal) : List Ch → Bool × State
  | [] => (false, s)
  | m :: ms =>
    let a := s.relayCopy n m f rx
    let b := a.2.relayCopies n f rx ms
    (a.1 || b.1, b.2)

/-- Step 5 (R317, R319). -/
def State.relayForward (s : State) (n : Ch) (f : MrFrame) (rx : TimeVal) (w : Word) : State :=
  let outs := allCh.filter fun m => m != n && (getBits w 16 8).testBit m.val
  if outs = [] then s
  else if f.ttl ≤ 1 then (s.incr n MRLY.TTL_DROP).irq n MRLY.IRQ_TTL_DROP
  else
    let r := s.relayCopies n f rx outs
    if r.1 then r.2.incr n MRLY.RELAYED else r.2

/-- Whether the relay engine works in the device state (R321). -/
def State.relayOn (s : State) : Bool :=
  match s.dev.state with
  | .off => false
  | .reset => false
  | .holding => false
  | .boot => true
  | .ready => true
  | .run => true
  | .watch => true

/-- The relay engine on an accepted DATA or reserved-type frame (R317). -/
def State.relay (s : State) (n : Ch) (f : MrFrame) (rx : TimeVal) (rssi : Int) : State :=
  if ! s.relayOn then s
  else if f.src = s.uid then (s.incr n MRLY.LOOP_DROP).irq n MRLY.IRQ_LOOP_DROP
  else
    let d := s.dupCheck n f
    if d.1 then d.2.incr n MRLY.DUP_DROP
    else if f.dst = s.uid then d.2.mrDeliver n f rx rssi
    else
      let local1 := f.dst == mrBroadcast
      let s1 := if local1 then d.2.mrDeliver n f rx rssi else d.2
      if ! s1.is n MRLY.CTRL_EN then s1
      else
        let s2 := s1.relayScrub n
        match s2.relayEntry n f with
        | none => s2
        | some w =>
          let s3 := if getBits w 30 1 = 1 ∧ local1 = false then s2.mrDeliver n f rx rssi else s2
          s3.relayForward n f rx w

/-- Whether an accepted frame requests a wake in LISTEN (R322). -/
def State.mrWakes (s : State) (n : Ch) (f : MrFrame) : Bool :=
  match f.typ with
  | 2 => s.is n MRACE.CFG_WAKE_BEACON
  | 3 => s.is n MRACE.CFG_WAKE_ECHO
  | 4 => false
  | _ => s.is n MRACE.CFG_WAKE_DATA && (f.dst == s.uid || f.dst == mrBroadcast)

/-- An accepted frame (R308, R322). -/
def State.mrAccept (s : State) (n : Ch) (f : MrFrame) (rx : TimeVal) (rssi ppm : Int) : State :=
  let s0 := ((s.incr n MRACE.RX_GOOD).count n 0x41 2 0).mrSearch n
  let s1 := s0.modMr n fun x => { x with rssi := some rssi }
  let s2 :=
    match f.typ with
    | 2 => s1.mrBeacon n f rssi ppm
    | 3 => s1.mrEchoReq n f rx
    | 4 => s1.mrEchoRsp n f rx ppm
    | _ => s1.relay n f rx rssi
  if s.chState n = 2 ∧ s.mrWakes n f = true then (s2.irq n MRACE.IRQ_WAKE_FRAME).chWake n 3 else s2

/-- The payload block decoded: CRC-32 (R306, R307). -/
def doPayloadDecoded (n : Ch) (p : MrPayload) (s : State) : State :=
  if s.mrRx n ≠ 4 then s
  else
    let h := (s.chan n).mr.header
    let l := mrLen h
    let data := p.bytes.take l
    if leNat ((p.bytes.drop l).take 4) = crc32 0xFFFFFFFF (h ++ data) then
      s.mrAccept n (MrFrame.ofBytes h data) (TimeVal.ofUnits (s.dev.time.units - p.back)) p.rssi p.ppm
    else s.mrRxErr n 0 MRACE.RX_CRC_ERR

/-- SINCE_MS reaches TIMEOUT (R314). -/
def doFarLost (n : Ch) (s : State) : State :=
  if s.is n MRACE.STATUS_FAR_VALID then
    let s1 := (s.raise n MRACE.FLT_FAR_LOST).irq n MRACE.IRQ_FAR_LOST
    (s1.set n MRACE.STATUS_FAR_VALID 0).setSat n MRACE.FAR_LOCAL_SINCE_MS (10 * max 1 (s.get n MRACE.FAR_CFG_TIMEOUT))
  else s

/-- A duplicate cache entry expires (R320). -/
def doDupExpire (k : Nat) (s : State) : State := s.modDev fun d => { d with dup := d.dup.eraseIdx k }

/-- A write of a table word, with the injection it may take (R318, R323). -/
def State.relayWord (s : State) (n : Ch) (f : Field) (e : Nat) (data : Word) : State :=
  let i := s.mrInject n MRLY.STATUS 0
  let s1 := i.2.set n f data.toNat
  if i.1 then s1.modMr n fun x => { x with relayTag := x.relayTag ++ [e] } else s1

/-- A write of ENTRYe_W1, staged (R318). -/
def State.writeRelayW1 (s : State) (n : Ch) (e : Nat) (data : Word) : State := s.relayWord n (MRLY.ENTRY_W1 e) e data

/-- A write of ENTRYe_W0 commits the pair; an entry written again is sound unless this write is tagged (R318, R323). -/
def State.writeRelayW0 (s : State) (n : Ch) (e : Nat) (data : Word) : State :=
  let s0 := s.modMr n fun x =>
    { x with relayBad := x.relayBad.filter fun k => k != e, relayTag := x.relayTag.filter fun k => k != e }
  let s1 := s0.relayWord n (MRLY.ENTRY_W0 e) e data
  let w1 := BitVec.ofNat 32 (s.get n (MRLY.ENTRY_W1 e))
  s1.modMr n fun x => { x with relay := (x.relay.filter fun p => p.1 != e) ++ [(e, data, w1)] }

/-! ## Parity (R323) -/

/-- What a parity error of a queue, slot or FIFO word does beside its fault: that frame is dropped and counted. -/
def State.mrDrop (s : State) (n : Ch) (w : MrWord) : State :=
  let x := (s.chan n).mr
  match w with
  | .queue k =>
    if k < x.queue.length then
      ((s.modMr n fun y => { y with queue := y.queue.eraseIdx k }).incr n MRACE.TX_ABORTED).mrStatus n
    else s
  | .slot k =>
    let held := if k = 0 then x.rsp.isSome else if k = 1 then x.beacon else x.echo
    if held then
      ((s.modMr n fun y =>
        if k = 0 then { y with rsp := none } else if k = 1 then { y with beacon := false }
        else { y with echo := false }).incr n MRACE.TX_ABORTED).mrStatus n
    else s
  | .fifo k =>
    if k < x.fifo.length then
      ((s.modMr n fun y => { y with fifo := y.fifo.eraseIdx k }).incr n MRACE.RX_DROP_FULL).mrStatus n
    else s

/-- What a parity error of the relay does beside its fault. -/
def State.relayLose (s : State) (n : Ch) (w : RelayWord) : State :=
  match w with
  | .table e => s.modMr n fun x => { x with relayBad := x.relayBad ++ [e.val] }
  | .cache k => s.modDev fun d => { d with dup := d.dup.eraseIdx k }

/-- What a parity error of the state machines or of the page's registers does beside its fault (R323). -/
def State.mrParity (s : State) (n : Ch) : State := s.levels n

end Sys2Proof.Machine
end

