-- ==== Sys2Proof/Machine/Sens.lean ====
section
/-! DEFINITION. DEV.SENS: the temperature readings and the grade limits (R3, R530 to R532). -/

namespace Sys2Proof.Machine

/-- LIMITS.UPPER and LIMITS.LOWER of the grade, in 1/16 degree (R532). -/
def State.tjUpper (s : State) : Int := if s.dev.order = 1 then 1680 else 1520
def State.tjLower (s : State) : Int := if s.dev.order = 1 then -80 else 0

/-- HYST in 1/16 degree; 0 acts as 1. -/
def State.tjHyst (s : State) : Int := 16 * (max 1 (s.dget SENS.CFG_HYST) : Nat)

/-- Whether channel `n` gives a valid reading (R530). -/
def State.tempValid (s : State) (n : Ch) : Bool :=
  s.chState n != 0 && s.chState n != 3 && s.is n GAUGE.DIE_TEMP_VALID

/-- The readings of the channels taken into CH_TEMPn; the last valid value is kept (R530). -/
def State.takeTemps (s : State) : List Ch → State
  | [] => s
  | n :: ns =>
    let s1 :=
      if s.tempValid n then
        (s.dset (SENS.CH_TEMP_VALID n.val) 1).dset (SENS.CH_TEMP_C16 n.val) (s.get n GAUGE.DIE_TEMP_C16)
      else s.dset (SENS.CH_TEMP_VALID n.val) 0
    s1.takeTemps ns

/-- The valid readings with their sources, the channels' first. -/
def State.tempList (s : State) : List (Nat × Int) :=
  ((allCh.filter fun n => s.is 0 (SENS.CH_TEMP_VALID n.val)).map fun n => (n.val, toSigned 16 (s.dget (SENS.CH_TEMP_C16 n.val)))) ++
    (if s.is 0 SENS.COMPLEX_VALID then [(8, toSigned 16 (s.dget SENS.COMPLEX_C16))] else [])

/-- The hottest of a list of readings, the lowest source on a tie. -/
def hottest : List (Nat × Int) → Option (Nat × Int)
  | [] => none
  | x :: l =>
    match hottest l with
    | none => some x
    | some y => if x.2 < y.2 then some y else some x

/-- MAX, and PEAK where MAX exceeds it (R530). -/
def State.tempMax (s : State) (m : Option (Nat × Int)) : State :=
  match m with
  | none => s
  | some x =>
    let s1 := (s.dset SENS.MAX_SRC x.1).set 0 SENS.MAX_C16 (ofSigned 16 x.2)
    if s.dev.peakSeen && decide (x.2 ≤ toSigned 16 (s.dget SENS.PEAK_C16)) then s1
    else ((s1.dset SENS.PEAK_SRC x.1).set 0 SENS.PEAK_C16 (ofSigned 16 x.2)).modDev fun d => { d with peakSeen := true }

/-- What a threshold with hysteresis reads next (R531). -/
def thresholdNext (now : Bool) (upper hyst : Int) (l : List Int) : Bool :=
  if now then l.any fun v => decide (upper - hyst < v) else l.any fun v => decide (upper < v)

/-- The 1 ms update (R531): `complex` is the reading of the complex's own sensor, none where it is invalid. -/
def doSensUpdate (complex : Option (BitVec 16)) (s : State) : State :=
  let s1 := s.takeTemps allCh
  let s2 :=
    match complex with
    | some v => (s1.dset SENS.COMPLEX_VALID 1).dset SENS.COMPLEX_C16 v.toNat
    | none => s1.dset SENS.COMPLEX_VALID 0
  let l := s2.tempList
  let vs := l.map Prod.snd
  let s3 := s2.tempMax (hottest l)
  let was := s3.is 0 SENS.STATUS_ABOVE
  let above := thresholdNext was s3.tjUpper s3.tjHyst vs
  let warned := s3.is 0 SENS.STATUS_WARN
  let warn := thresholdNext warned (toSigned 16 (s3.dget SENS.CFG_WARN)) s3.tjHyst vs
  let cold := s3.is 0 SENS.STATUS_BELOW
  let below := vs.any fun v => decide (v < s3.tjLower)
  let b := fun (x : Bool) => if x then 1 else 0
  let s4 := ((s3.dset SENS.STATUS_ABOVE (b above)).dset SENS.STATUS_WARN (b warn)).dset SENS.STATUS_BELOW (b below)
  let s5 := if above && !was then (s4.draise SENS.FLT_TJ_ABOVE_GRADE).dirq SENS.IRQ_ABOVE else s4
  let s6 := if was && !above then s5.dirq SENS.IRQ_ABOVE_CLEAR else s5
  let s7 := if warn && !warned then s6.dirq SENS.IRQ_WARN else s6
  if below && !cold then s7.dirq SENS.IRQ_BELOW_GRADE else s7

/-- CMD.CLR_PEAK: PEAK is set to MAX (R532). -/
def State.clrPeak (s : State) : State := s.dset SENS.PEAK (s.dget SENS.MAX)

end Sys2Proof.Machine
end

