-- ==== Sys2Proof/Machine/Tally.lean ====
section
/-! DEFINITION. The Tally commands: frames, epochs, sweeps, scans, spills, queries (R363 to R388). -/

namespace Sys2Proof.Machine

/-! ## Numbers and bytes -/

/-- Bits `lo` to `lo + w - 1` of a long number, and the number with them replaced. -/
def natGet (v lo w : Nat) : Nat := v / 2 ^ lo % 2 ^ w
def natPut (v lo w x : Nat) : Nat := v % 2 ^ lo + x % 2 ^ w * 2 ^ lo + v / 2 ^ (lo + w) * 2 ^ (lo + w)

/-- The big-endian value of `k` bytes from byte `o`; bytes past the end read as 0. -/
def beNat (l : List Byte) (o : Nat) : Nat → Nat
  | 0 => 0
  | k + 1 => (beNat l o k) * 256 + (l.getD (o + k) 0).toNat

/-! ## Parsing (R364 to R368) -/

/-- Whether a tag begins at byte `o` (R366). -/
def isTag (l : List Byte) (o : Nat) : Bool := beNat l o 2 == 0x8100 || beNat l o 2 == 0x88A8

/-- What the parser finds in a frame: the outer VID and PCP, where the EtherType stands. -/
structure Parsed where
  tagged : Bool
  second : Bool
  vid : Nat
  pcp : Nat
  etAt : Nat
deriving DecidableEq, Repr

def parseFrame (l : List Byte) : Parsed :=
  let tagged := isTag l 12
  let second := tagged && isTag l 16
  let tci := beNat l 14 2
  { tagged, second, vid := if tagged then tci % 4096 else 0xFFF, pcp := if tagged then tci / 8192 else 0,
    etAt := if second then 20 else if tagged then 16 else 12 }

/-- Whether the frame is IPv4, or IPv6; its header must lie before the FCS. -/
def isIp4 (l : List Byte) (p : Parsed) : Bool :=
  let b := (l.getD (p.etAt + 2) 0).toNat
  beNat l p.etAt 2 == 0x0800 && b / 16 == 4 && decide (5 ≤ b % 16) && decide (p.etAt + 22 ≤ l.length - 4)
def isIp6 (l : List Byte) (p : Parsed) : Bool :=
  beNat l p.etAt 2 == 0x86DD && (l.getD (p.etAt + 2) 0).toNat / 16 == 6 && decide (p.etAt + 42 ≤ l.length - 4)

/-- The key of a frame under a template, or none where the template's fields are absent (R366, R367). -/
def frameKey (t : Nat) (l : List Byte) : Option Nat :=
  let p := parseFrame l
  let ip := p.etAt + 2
  match t with
  | 0 => some (beNat l 0 6 * 2 ^ 60 + beNat l 6 6 * 2 ^ 12 + p.vid)
  | 1 => some (beNat l 0 6)
  | 2 => some (beNat l 6 6 * 2 ^ 12 + p.vid)
  | 3 => some (beNat l p.etAt 2 * 2 ^ 15 + p.vid * 8 + p.pcp)
  | _ =>
    if isIp4 l p then some (beNat l (ip + 12) 3 * 2 ^ 24 + beNat l (ip + 16) 3)
    else if isIp6 l p then some (2 ^ 107 + beNat l (ip + 8) 6 * 2 ^ 48 + beNat l (ip + 24) 6)
    else none

/-- The byte positions that the key of a frame needs (R365, row 3): its fields and what locates them. -/
def keyBytes (t : Nat) (l : List Byte) : List Nat :=
  let p := parseFrame l
  let span := fun o k : Nat => (List.range k).map fun i => o + i
  let tag := if p.tagged then [14, 15] else []
  let types := [12, 13] ++ (if p.tagged then [16, 17] else []) ++ (if p.second then [20, 21] else [])
  let ip := p.etAt + 2
  match t with
  | 0 => span 0 14 ++ tag
  | 1 => span 0 6
  | 2 => span 6 8 ++ tag
  | 3 => types ++ tag
  | _ =>
    types ++ [ip] ++ (if isIp4 l p then span (ip + 12) 3 ++ span (ip + 16) 3
      else if isIp6 l p then span (ip + 8) 6 ++ span (ip + 24) 6 else [])

/-- Whether the FCS of a frame holds (R364). -/
def fcsGood (l : List Byte) : Bool :=
  crc32 0xFFFFFFFF (l.take (l.length - 4)) == leNat (l.drop (l.length - 4))

/-- The 14 bytes that are hashed, and the hash of row `r` (R368). -/
def tallyString (t key : Nat) : List Byte := leBytes (key % 2 ^ 108 + t * 2 ^ 108) 14
def State.tallyHash (s : State) (n : Ch) (t key r : Nat) : Nat :=
  crc32 ((s.chan n).tally.seeds.getD r 0) (tallyString t key)

/-! ## Counters and faults -/

/-- A 64-bit counter (R388): 0 PARSED, 1 CTX_FRAMES, 2 FCS_BAD, 3 ERR_UNKEYED, 4 NO_KEY, 5 LEN_BAD, 6 PROMOTED,
7 PROMOTE_FAIL, 8 SPILLED, 9 AGE_HELD, 10 SWEEP_SKIP, 11 CTX_UE. -/
def State.tallyCount (s : State) (n : Ch) (c : Nat) (k : Nat := 1) : State := s.add64 n (TALLY.CNT_LO c) k

/-- The side of Tally's counter events (R391). -/
def State.tallySide (s : State) (n : Ch) : Nat := if s.is n TALLY.STATUS_DIR_ACTIVE then 1 else 2

/-- An uncorrectable word met in a context or sketch access (R369, R386, R387). -/
def State.tallyUe (s : State) (n : Ch) : State :=
  (s.raise n TALLY.FLT_TALLY_MEM_UE { req := some reqTally }).tallyCount n 11

/-- The Tally millisecond count (R374). -/
def State.tallyMs (s : State) : Nat := s.dev.time.ms % 2 ^ 24

/-! ## Sketch (R369 to R371) -/

/-- The word of the sketch that holds entry `e` of row `r`. -/
def sketchWord (r e : Nat) : Nat := r * 131072 + e / 4

/-- Bus writes of `k` words from word `w` on, counted by 4 KiB of location. -/
def State.countSpan (s : State) (m cls w k : Nat) : Nat → State
  | 0 => s
  | f + 1 =>
    if k = 0 then s
    else
      let c := min k (512 - w % 512)
      (s.countMem m w cls reqTally c).countSpan m cls (w + c) (k - c) f

/-- `k` words cleared by TALLY_MAINT. -/
def State.tallyZero (s : State) (m w k : Nat) : State := (s.countSpan m 0x11 w k (k / 512 + 2)).memZero m w k

/-- The sweep has cleared the words below `p` in every row. -/
def State.sweepTo (s : State) (n : Ch) (p : Nat) : State :=
  let q := s.get n TALLY.SWEEP_PTR_WORD
  let k := min p 131072 - q
  if s.is n TALLY.STATUS_SWEEPING = false ∨ k = 0 then s
  else
    let m := chMem n 1
    let s1 := (((s.tallyZero m q k).tallyZero m (131072 + q) k).tallyZero m (262144 + q) k).tallyZero m (393216 + q) k
    s1.set n TALLY.SWEEP_PTR_WORD (q + k)

/-- Whether a row's entry lies in a word that the sweep has not cleared. -/
def State.sweepSkips (s : State) (n : Ch) (e : Nat) : Bool :=
  s.is n TALLY.STATUS_SWEEPING && decide (s.get n TALLY.SWEEP_PTR_WORD ≤ e / 4)

/-- One entry counted: its new value, or none in a row skipped (R369, R371). -/
def State.sketchAdd (s : State) (n : Ch) (r e : Nat) : Option Nat × State :=
  if s.sweepSkips n e then (none, s.tallyCount n 10)
  else
    let m := chMem n 1
    let w := sketchWord r e
    let x := s.memRead m w reqTally
    let old := x.1.getD 0
    let s1 := if x.1.isNone then x.2.tallyUe n else x.2
    let v := min 65535 (natGet old (16 * (e % 4)) 16 + 1)
    (some v, s1.memWrite m w (natPut old (16 * (e % 4)) 16 v))

/-- The smaller of two estimates, none for a row skipped. -/
def estMin : Option Nat → Option Nat → Option Nat
  | none, b => b
  | a, none => a
  | some a, some b => some (min a b)

/-- Rows below `r` counted; the estimate over them. -/
def State.sketchRows (s : State) (n : Ch) (t key : Nat) : Nat → Option Nat × State
  | 0 => (none, s)
  | r + 1 =>
    let a := s.sketchRows n t key r
    let b := a.2.sketchAdd n r (s.tallyHash n t key r % 2 ^ 19)
    (estMin a.1 b.1, b.2)

/-- Rows below `r` looked up: the estimate and the mask of the rows counted; a query changes no entry (R381). -/
def State.sketchLook (s : State) (n : Ch) (t key : Nat) : Nat → (Option Nat × Nat) × State
  | 0 => ((none, 0), s)
  | r + 1 =>
    let a := s.sketchLook n t key r
    let e := s.tallyHash n t key r % 2 ^ 19
    if s.sweepSkips n e then a
    else
      let x := a.2.memRead (chMem n 1) (sketchWord r e) reqTally
      let v := natGet (x.1.getD 0) (16 * (e % 4)) 16
      ((estMin a.1.1 (some v), a.1.2 + 2 ^ r), if x.1.isNone then x.2.tallyUe n else x.2)

/-! ## Contexts (R372 to R374) -/

/-- The record of context `i` as stored, whatever its check bits. -/
def State.ctxRaw (s : State) (n : Ch) (i : Nat) : Nat :=
  let d := fun k => s.memData (chMem n 0) (4 * i + k)
  d 0 + d 1 * 2 ^ 64 + d 2 * 2 ^ 128 + d 3 * 2 ^ 192

/-- A record written in full. -/
def State.ctxWrite (s : State) (n : Ch) (i v : Nat) : State :=
  s.memWrites (chMem n 0) (4 * i) [natGet v 0 64, natGet v 64 64, natGet v 128 64, natGet v 192 64]

/-- Four words read, each counted as a bus read where `bus` says so. -/
def State.ctxWords (s : State) (n : Ch) (i : Nat) (bus : Bool) : Nat → Option Nat × State
  | 0 => (some 0, s)
  | k + 1 =>
    let a := s.ctxWords n i bus k
    let m := chMem n 0
    let x := if bus then a.2.busRead m (4 * i + k) reqTally else a.2.memRead m (4 * i + k) reqTally
    match a.1, x.1 with
    | some u, some v => (some (u + v * 2 ^ (64 * k)), x.2)
    | _, _ => (none, x.2)

/-- A context read: an uncorrectable one is cleared, not spilled, and reads as not VALID (R386). -/
def State.ctxRead (s : State) (n : Ch) (i : Nat) (bus : Bool) : Nat × State :=
  let x := s.ctxWords n i bus 4
  match x.1 with
  | some v => (v, x.2)
  | none =>
    let s1 := x.2.tallyUe n
    let s2 := if (s1.ctxRaw n i).testBit 111 then
        s1.set n TALLY.CTX_USED_COUNT (s1.get n TALLY.CTX_USED_COUNT - 1)
      else s1
    (0, s2.ctxWrite n i 0)

/-- The ways of a set below `k`: the records read (R372). -/
def State.ctxSet (s : State) (n : Ch) (set : Nat) : Nat → List Nat × State
  | 0 => ([], s)
  | k + 1 =>
    let a := s.ctxSet n set k
    let x := a.2.ctxRead n (8 * set + k) false
    (a.1 ++ [x.1], x.2)

/-- Whether a record matches a key under a template. -/
def ctxMatches (t key v : Nat) : Bool := v.testBit 111 && natGet v 108 3 == t && natGet v 0 108 == key

/-- A counted frame added to a record (R374). -/
def ctxAdd (v len ms : Nat) : Nat :=
  let b := natGet v 112 48 + len
  let f := natGet v 161 40 + 1
  let v1 := natPut v 112 48 b
  let v2 := if 2 ^ 48 ≤ b then natPut v1 160 1 1 else v1
  let v3 := natPut v2 161 40 f
  let v4 := if 2 ^ 40 ≤ f then natPut v3 201 1 1 else v3
  natPut v4 226 24 ms

/-- The record of a promoted flow, its first frame counted. -/
def ctxNew (t key len ms : Nat) : Nat :=
  ctxAdd (natPut (key % 2 ^ 108 + t * 2 ^ 108 + 2 ^ 111) 202 24 ms) len ms

/-- A row-4 frame added to a record. -/
def ctxFcs (v ms : Nat) : Nat := natPut (natPut v 250 6 (min 63 (natGet v 250 6 + 1))) 226 24 ms

/-- A flow promoted into a free way, or PROMOTE_FAIL (R372). -/
def State.tallyPromote (s : State) (n : Ch) (t key len set : Nat) (ways : List Nat) : State :=
  match ways.findIdx? (fun v => !v.testBit 111) with
  | some w =>
    let s1 := (s.ctxWrite n (8 * set + w) (ctxNew t key len s.tallyMs)).tallyCount n 6
    (s1.incr n TALLY.CTX_USED_COUNT).count n 0x4A (s.tallySide n) 0
  | none => (s.tallyCount n 7).irq n TALLY.IRQ_PROMOTE_FAIL

/-! ## Frames (R365) -/

/-- Row 4: a matching context counts an FCS error. -/
def State.frameFcs (s : State) (n : Ch) (t : Nat) (key : Option Nat) : State :=
  let s1 := s.tallyCount n 2
  match key with
  | none => s1
  | some key =>
    let set := s1.tallyHash n t key 4 % 2 ^ 14
    let r := s1.ctxSet n set 8
    match r.1.findIdx? (ctxMatches t key) with
    | some w => r.2.ctxWrite n (8 * set + w) (ctxFcs (r.1.getD w 0) s.tallyMs)
    | none => r.2

/-- Row 6: the sketch and the contexts. -/
def State.frameGood (s : State) (n : Ch) (t key len : Nat) : State :=
  let s1 := s.count n 0x49 (s.tallySide n) 0 len
  let e := s1.sketchRows n t key 4
  let set := s.tallyHash n t key 4 % 2 ^ 14
  let r := e.2.ctxSet n set 8
  match r.1.findIdx? (ctxMatches t key) with
  | some w => (r.2.ctxWrite n (8 * set + w) (ctxAdd (r.1.getD w 0) len s.tallyMs)).tallyCount n 1
  | none =>
    match e.1 with
    | some est =>
      if max 1 (s.get n TALLY.CFG_PROMOTE) ≤ est then r.2.tallyPromote n t key len set r.1 else r.2
    | none => r.2

/-- A frame ends (R363 to R374). -/
def doTallyFrame (n : Ch) (f : TallyFrame) (s : State) : State :=
  if s.tallyState n ≠ 3 ∨ s.tallyInput n = false ∧ f.truncated = false then s
  else
    let t := s.get n TALLY.STATUS_TEMPLATE_ACTIVE
    let s1 := (s.sweepTo n f.swept).tallyCount n 0
    let s2 := s1.count n 0x48 (s.tallySide n) 0
    let len := f.bytes.length
    let errors := f.errors.getD []
    let key := frameKey t f.bytes
    if f.truncated then s2.tallyCount n 3
    else if len < 64 ∨ 16383 < len then s2.tallyCount n 5
    else if errors.any (fun i => (keyBytes t f.bytes).contains i) then s2.tallyCount n 3
    else if f.errors.isSome || !fcsGood f.bytes then s2.frameFcs n t key
    else
      match key with
      | none => s2.tallyCount n 4
      | some k => s2.frameGood n t k len

/-! ## Epochs and sweeps -/

/-- An epoch boundary (R370).  Tables are kept outside RUN (R384), so boundaries act in RUN alone. -/
def doEpochBoundary (n : Ch) (s : State) : State :=
  if s.tallyState n ≠ 3 then s else ((s.incr n TALLY.EPOCH).irq n TALLY.IRQ_EPOCH).sweepStart n

/-- The last sketch word is cleared (R371). -/
def doSweepDone (n : Ch) (s : State) : State :=
  if s.is n TALLY.STATUS_SWEEPING = false ∨ s.tallyState n = 4 then s
  else ((s.sweepTo n 131072).set n TALLY.STATUS_SWEEPING 0).irq n TALLY.IRQ_SWEEP_DONE

/-! ## Spills (R376 to R378) -/

/-- COUNT of the ring for given pointers, and SPILL_STAT and SPILL_FULL brought up to date. -/
def spillCount (wr rd : Nat) : Nat := (wr + 4096 - rd) % 4096
def State.spillStat (s : State) (n : Ch) : State :=
  let c := spillCount (s.get n TALLY.SPILL_WR_IDX) (s.get n TALLY.SPILL_RD_IDX)
  (s.set n TALLY.SPILL_STAT_COUNT c).set n TALLY.STATUS_SPILL_FULL (if c = 4095 then 1 else 0)

/-- The eight words of a spill entry. -/
def State.spillEntry (s : State) (n : Ch) (i v reason : Nat) : List Nat :=
  let t := s.dev.time
  let info := i % 2 ^ 17 + reason * 2 ^ 20 + s.get n TALLY.STATUS_DIR_ACTIVE * 2 ^ 24
  [natGet v 0 64, natGet v 64 64, natGet v 128 64, natGet v 192 64,
   (s.chan n).tally.seq % 2 ^ 32 + t.word0.toNat * 2 ^ 32, t.word1.toNat + t.word2.toNat * 2 ^ 32,
   info + s.get n TALLY.EPOCH * 2 ^ 32, 0]

/-- Words written over the bus by TALLY_MAINT. -/
def State.tallyPuts (s : State) (m w : Nat) : List Nat → State
  | [] => s
  | v :: vs => (s.busWrite m w v reqTally).tallyPuts m (w + 1) vs

/-- A context spilled into a ring that has room (R376, R377). -/
def State.spill (s : State) (n : Ch) (i v reason : Nat) : State :=
  let wr := s.get n TALLY.SPILL_WR_IDX
  let s1 := (s.tallyPuts (chMem n 2) (8 * wr) (s.spillEntry n i v reason)).tallyPuts (chMem n 0) (4 * i) [0, 0, 0, 0]
  let s2 := (s1.tallyCount n 8).set n TALLY.CTX_USED_COUNT (s1.get n TALLY.CTX_USED_COUNT - 1)
  let s3 := (s2.set n TALLY.SPILL_WR_IDX (wr + 1)).modTally n fun x => { x with seq := (x.seq + 1) % 2 ^ 32 }
  let s4 := (s3.spillStat n).count n 0x4B (s.tallySide n) 0
  let c := s4.get n TALLY.SPILL_STAT_COUNT
  let s5 := if c = max 1 (s4.get n TALLY.SPILL_CFG_LEVEL) then s4.irq n TALLY.IRQ_SPILL_LEVEL else s4
  if c = 4095 then (s5.raise n TALLY.FLT_SPILL_FULL).irq n TALLY.IRQ_SPILL_FULL else s5

/-- Whether the ring is full. -/
def State.spillFull (s : State) (n : Ch) : Bool := s.is n TALLY.STATUS_SPILL_FULL

/-- The age of a record (R375). -/
def ctxAge (now v : Nat) : Nat :=
  let a := (now + 2 ^ 24 - natGet v 226 24) % 2 ^ 24
  if 2 ^ 23 < a then 0 else a

/-- One context of a scan pass. -/
def State.scanOne (s : State) (n : Ch) (i : Nat) : State :=
  let x := s.ctxRead n i true
  let lim := s.get n TALLY.AGE_CFG_AGE_OUT
  if x.1.testBit 111 && lim != 0 && decide (lim ≤ ctxAge s.tallyMs x.1) then
    if x.2.spillFull n then x.2.tallyCount n 9 else x.2.spill n i x.1 1
  else x.2

/-- `k` contexts from index `i` on. -/
def State.scanFrom (s : State) (n : Ch) (i : Nat) : Nat → State
  | 0 => s
  | k + 1 => (s.scanOne n i).scanFrom n (i + 1) k

/-- A scan pass, each millisecond in RUN (R375). -/
def doScanPass (n : Ch) (s : State) : State := if s.tallyState n ≠ 3 then s else s.scanFrom n 0 131072

/-- The flush visits contexts in rising order until the ring is full (R378). -/
def State.flushRun (s : State) (n : Ch) : Nat → State
  | 0 => s
  | k + 1 =>
    let i := (s.chan n).tally.flushIdx
    if 131072 ≤ i || s.spillFull n then s
    else
      let x := s.ctxRead n i true
      let s1 := if x.1.testBit 111 then x.2.spill n i x.1 2 else x.2
      (s1.modTally n fun y => { y with flushIdx := i + 1 }).flushRun n k

/-- Whether SNAP, QUERY and FLUSH are accepted, and INIT (R382). -/
def State.tallyMayInit (s : State) (n : Ch) : Bool := s.modeActive n && s.tallyState n != 4
def State.tallyMay (s : State) (n : Ch) : Bool := s.tallyMayInit n && s.is n TALLY.STATUS_INIT_DONE

/-- CMD.FLUSH (R378). -/
def State.tallyFlush (s : State) (n : Ch) : State :=
  if ! s.tallyMay n then s.irq n TALLY.IRQ_CMD_REFUSED
  else
    let s1 := (s.set n TALLY.BUSY_LONG_OP 1).set n TALLY.STATUS_FLUSHING 1
    (s1.modTally n fun x => { x with flushIdx := 0 }).flushRun n 131072

/-- The flush has visited the last index (R378). -/
def doFlushDone (n : Ch) (s : State) : State :=
  if s.is n TALLY.STATUS_FLUSHING = false then s
  else
    let s1 := s.flushRun n 131072
    if (s1.chan n).tally.flushIdx < 131072 then s1
    else (((s1.set n TALLY.STATUS_FLUSHING 0).set n TALLY.BUSY_LONG_OP 0).irq n TALLY.IRQ_FLUSH_DONE).levels n

/-- SPILL_RD written: entries consumed, or the write discarded (R377); a waiting flush goes on. -/
def State.writeSpillRd (s : State) (n : Ch) (rd : Nat) : State :=
  let wr := s.get n TALLY.SPILL_WR_IDX
  if s.get n TALLY.SPILL_STAT_COUNT < spillCount wr (rd % 4096) then s.irq n TALLY.IRQ_SPILL_RD_BAD
  else
    let s1 := (s.set n TALLY.SPILL_RD_IDX rd).spillStat n
    if s1.is n TALLY.STATUS_FLUSHING then s1.flushRun n 131072 else s1

/-! ## SNAP, QUERY, INIT -/

/-- CMD.SNAP (R380). -/
def State.tallySnap (s : State) (n : Ch) : State :=
  if ! s.tallyMay n then s.irq n TALLY.IRQ_CMD_REFUSED
  else
    let x := s.ctxRead n (s.get n TALLY.SNAP_IDX_IDX) false
    let g := natGet x.1
    let s1 := ((x.2.set n (TALLY.SNAP_KEY 0) (g 0 32)).set n (TALLY.SNAP_KEY 1) (g 32 32)).set n (TALLY.SNAP_KEY 2) (g 64 32)
    let s2 := s1.set n TALLY.SNAP_KEY3 (g 96 16)
    let s3 := (s2.set n TALLY.SNAP_BYTES_LO (g 112 32)).set n TALLY.SNAP_BYTES_HI (g 144 16 + g 160 1 * 2 ^ 31)
    let s4 := (s3.set n TALLY.SNAP_FRAMES_LO (g 161 32)).set n TALLY.SNAP_FRAMES_HI (g 193 8 + g 201 1 * 2 ^ 31)
    let s5 := (s4.set n TALLY.SNAP_FIRST_MS (g 202 24)).set n TALLY.SNAP_LAST_MS (g 226 24)
    (s5.set n TALLY.SNAP_FCS_COUNT (g 250 6)).irq n TALLY.IRQ_SNAP_DONE

/-- The key in QUERY_KEY0 to QUERY_KEY3. -/
def State.queryKey (s : State) (n : Ch) : Nat :=
  s.get n (TALLY.QUERY_KEY 0) + s.get n (TALLY.QUERY_KEY 1) * 2 ^ 32 + s.get n (TALLY.QUERY_KEY 2) * 2 ^ 64 +
    s.get n TALLY.QUERY_KEY3_KEY * 2 ^ 96

/-- CMD.QUERY (R381).  With every row skipped the spec states no EST: a free value (log entry 3). -/
def State.tallyQuery (s : State) (n : Ch) : State :=
  if ! s.tallyMay n then s.irq n TALLY.IRQ_CMD_REFUSED
  else
    let t := s.get n TALLY.STATUS_TEMPLATE_ACTIVE
    let key := s.queryKey n
    let e := s.sketchLook n t key 4
    let set := s.tallyHash n t key 4 % 2 ^ 14
    let r := e.2.ctxSet n set 8
    let d := r.2.draw
    let s1 := if e.1.1.isSome then r.2 else d.2
    let est := e.1.1.getD (d.1 % 65536)
    let rows := e.1.2
    let partly := if s.is n TALLY.STATUS_SWEEPING ∧ rows ≠ 15 then 1 else 0
    let found := r.1.findIdx? (ctxMatches t key)
    let s2 := s1.set n TALLY.QUERY_RESULT
      (est + rows * 2 ^ 16 + partly * 2 ^ 21 + (if found.isSome then 2 ^ 22 else 0))
    let s3 := match found with
      | some w => s2.set n TALLY.QUERY_CTX_IDX (8 * set + w)
      | none => s2
    s3.irq n TALLY.IRQ_QUERY_DONE

/-- CMD.INIT (R382, R385). -/
def State.tallyInit (s : State) (n : Ch) : State :=
  if s.tallyMayInit n then (s.tallyInitStart n).levels n else s.irq n TALLY.IRQ_CMD_REFUSED

/-- CTRL.EN written (R384, R385): 1 with INIT_DONE = 0 leaves even a FAULT that has been cleared. -/
def State.writeTallyEn (s : State) (n : Ch) (v : Nat) : State :=
  let s1 := s.set n TALLY.CTRL_EN v
  if v % 2 = 1 ∧ s.tallyState n = 4 ∧ s.is n TALLY.STATUS_INIT_DONE = false ∧ s.is n TALLY.FLT_TALLY_FSM_PAR = false ∧
      s.modeActive n = true then (s1.tallyInitStart n).levels n
  else s1.levels n

/-- INIT completes: every word of the three memories written, pointers at 0 (R385). -/
def doInitDone (n : Ch) (s : State) : State :=
  if s.tallyState n ≠ 1 then s
  else
    let s1 := ((s.tallyZero (chMem n 0) 0 524288).tallyZero (chMem n 1) 0 524288).tallyZero (chMem n 2) 0 32768
    let s2 := ((s1.set n TALLY.SPILL_WR_IDX 0).set n TALLY.SPILL_RD_IDX 0).spillStat n
    let s3 := ((s2.set n TALLY.EPOCH 0).set n TALLY.CTX_USED_COUNT 0).set n TALLY.SWEEP_PTR_WORD 0
    let s4 := (s3.modTally n fun x => { x with seq := 0 }).set n TALLY.STATUS_INIT_DONE 1
    ((((s4.set n TALLY.BUSY_LONG_OP 0).set n TALLY.STATUS_STATE 2).irq n TALLY.IRQ_INIT_DONE)).levels n

/-- CMD.CLR_CNT (R388). -/
def State.tallyClear (s : State) (n : Ch) : State :=
  let b := chPage n 0xF
  s.mapRegs (b + 0x100) (b + 0x160) fun _ _ => 0

/-- What a parity error of a Tally control does beside its fault: FAULT, everything stopped (R387). -/
def State.tallyParity (s : State) (n : Ch) : State :=
  let s1 := ((s.set n TALLY.STATUS_STATE 4).set n TALLY.STATUS_FLUSHING 0).set n TALLY.STATUS_SWEEPING 0
  s1.set n TALLY.BUSY_LONG_OP 0

end Sys2Proof.Machine
end

