-- ==== Sys2Proof/Machine/View.lean ====
section
/-! DEFINITION. What a register reads as: the stored word, or for registers whose value the part computes the value of the
state they show (R1, R26 to R29, R56, R64, R71, R73, R74, R103 to R105, R130, R131, R324, R507, R532). -/

namespace Sys2Proof.Machine

/-! ## Reach and interrupts -/

/-- Whether an entry leg into a state is 8 µs, 5,000 ticks, past its WAIT (R494, step 4). -/
def State.pastStep4 (s : State) (n : Ch) (st : Nat) : Bool :=
  let p := (s.chan n).pwr
  s.chPhase n == 3 && p.legs.head? == some st && decide (p.waitAt + 5000 ≤ s.dev.ticks)

/-- Whether an entry into DARK has opened the domain power switch. -/
def State.switchOpen (s : State) (n : Ch) : Bool := s.pastStep4 n 0

/-- The state whose powering channel `n` has: the one held, and from step 4 of an entry into DARK or WATCH the one entered
(R494). -/
def State.powerAs (s : State) (n : Ch) : Nat := if s.switchOpen n then 0 else if s.pastStep4 n 3 then 3 else s.chState n

/-- Whether page `p` of channel `n` is powered (R62, R489). -/
def State.pageOn (s : State) (n : Ch) (p : Nat) : Bool :=
  p == 0x16 || p == 0x17 ||
    match s.powerAs n with
    | 0 => false
    | 3 => p == 0xB || p == 0xC || p == 0xD || p == 0xE || p == 0x13
    | _ => true

/-- Whether the memories of channel `n` are powered (R62, R489). -/
def State.memOn (s : State) (n : Ch) : Bool := s.powerAs n != 0 && s.powerAs n != 3

/-- IRQ_PEND of the page at a base address (R64). -/
def State.irqPend (s : State) (base : Nat) : Word := s.word (base + 0xC) &&& s.word (base + 0x10)

/-- Whether page `p` of channel `n`, or device page `k`, signals an interrupt; an unpowered page does not (R71). -/
def State.pagePends (s : State) (n : Ch) (p : Nat) : Bool := s.pageOn n p && s.irqPend (chPage n p) != 0
def State.devPends (s : State) (k : Nat) : Bool := s.irqPend (k * 0x1000) != 0

/-- A bit vector of the numbers below `k` that satisfy a test. -/
def maskOf (k : Nat) (p : Nat → Bool) : Nat := ((List.range k).filter p).foldl (fun m i => m + 2 ^ i) 0

/-- PAGE_SUMn and CH_SUM of DEV.ID (R71). -/
def State.pageSum (s : State) (n : Ch) : Nat := maskOf 24 fun p => s.pagePends n p
def State.chSum (s : State) : Nat :=
  maskOf 8 (fun n => s.pageSum (Fin.ofNat 8 n) != 0) + 0x10000 * maskOf 16 fun k => s.devPends k

/-- INT_N is low (R71). -/
def State.intPin (s : State) : Bool := !s.flagsReleased && BitVec.ofNat 32 s.chSum &&& s.word 0x58 != 0

/-- BUSY_N is low (R58, R80). -/
def State.busyPin (s : State) : Bool := s.dev.blocking.isSome || s.dev.state == .reset || s.dev.state == .off

/-! ## Ports -/

/-- The state of a port. -/
def State.port (s : State) : Port → PortState
  | .primary => s.dev.primary
  | .secondary => s.dev.secondary

/-- The status byte of a port (R43). -/
def State.statusByte (s : State) (p : Port) : Nat :=
  let b := fun (x : Bool) (k : Nat) => if x then k else 0
  b s.intPin 128 + b s.faultPin 64 + b s.busyPin 32 + b (s.dev.state == .holding) 16 +
    b (!(s.port p).buf.isEmpty) 8 + (s.port p).code

/-- STATUS_WORD (R57, R74). -/
def State.statusWord (s : State) : Word :=
  let cmd := match s.dev.blocking with
    | some x => x.code
    | none => 0
  BitVec.ofNat 32 (cmd * 2 ^ 28 + s.dget HOST.STATUS_WORD_ELAPSED * 2 ^ 16 + s.dev.state.code * 256 + s.statusByte .primary)

/-! ## OTP (R99 to R101, R105) -/

/-- The bits an OTP word holds in its fuses, VALID or not. -/
def State.otpBits (s : State) (w : Nat) : Word :=
  match s.dev.fuseWords.find? fun e => e.1 == w with
  | some e => e.2
  | none => if w < 8 then Config.otpFactory w else 0

/-- Whether a word's VALID fuse is set, and the word's shadow. -/
def State.otpValid (s : State) (w : Nat) : Bool := s.dev.fuseValid.getLsbD w
def State.otpWord (s : State) (w : Nat) : Word := if s.otpValid w then s.otpBits w else 0

/-- The number of consecutive set bits from bit `i` of a number, at most `k`. -/
def onesFrom (v i : Nat) : Nat → Nat
  | 0 => 0
  | k + 1 => if v.testBit i then 1 + onesFrom v (i + 1) k else 0

/-- The rollback floor: over VALID words only (R99). -/
def State.otpFloor (s : State) : Nat := onesFrom ((s.otpWord 25).toNat + 2 ^ 32 * (s.otpWord 26).toNat) 0 64

/-- Whether key slot `k` is usable (R100). -/
def State.slotUsable (s : State) (k : Nat) : Bool :=
  let c := (s.otpWord 24).toNat
  c.testBit k && !c.testBit (4 + k) && (List.range 8).all fun i => s.otpValid (8 + 8 * k + i)

/-- Whether some word holds set bits without VALID (R105). -/
def State.otpPartial (s : State) : Bool := (List.range 64).any fun w => !s.otpValid w && s.otpBits w != 0

/-! ## Latency (R26 to R29) -/

/-- LAT_TX_PS and LAT_RX_PS by mode (1 M106, 2 M212, 3 M425): the totals of R26 and the additions of R27, in ps. -/
def latBase (m : Nat) : Nat × Nat :=
  match m with
  | 1 => (196200, 641900)
  | 2 => (104700, 338200)
  | _ => (58900, 186300)
def latOuter (m : Nat) : Nat × Nat :=
  match m with
  | 1 => (385600, 974400)
  | 2 => (192800, 487200)
  | _ => (96400, 243600)
def latP (m : Nat) : Nat × Nat :=
  match m with
  | 1 => (0, 0)
  | 2 => (15100, 4700)
  | _ => (7500, 2400)

/-- The deskew delay in ps, rounded: (C + F/64) line UI; a UI is 3/680 ns in M425 and doubles with each lower mode. -/
def deskewPs (m c f : Nat) : Nat :=
  let k := match m with
    | 1 => 4
    | 2 => 2
    | _ => 1
  ((64 * c + f) * 3000 * k * 2 + 43520) / (2 * 43520)

/-- The two latencies of the active configuration; 0 without a mode. -/
def State.latencies (s : State) (n : Ch) : Nat × Nat :=
  if ! s.modeActive n then (0, 0)
  else
    let m := s.get n TOP.STATUS_ACTIVE_MODE
    let z := fun (b : Bool) (p : Nat × Nat) => if b then p else (0, 0)
    let o := z (s.is n TOP.STATUS_ACTIVE_OUTER) (latOuter m)
    let p := z (s.is n TOP.STATUS_ACTIVE_HOST_OPT) (latP m)
    ((latBase m).1 + o.1 + p.1, (latBase m).2 + o.2 + p.2 + deskewPs m (s.get n TIM.DESKEW_COARSE) (s.get n TIM.DESKEW_FINE))

/-! ## Fused values (R1, R2, R73) -/

/-- CAPS.MODES and TANDEM_OK of the ordering code. -/
def State.caps (s : State) : Nat := if s.dev.order = 3 then 3 else 15

/-! ## Registers of 64 bits and their latches (R56, R173, R267, R388, R393, R401, R481) -/

/-- Whether an offset of a channel page (by page code of pageCode) or of DEV.CNT is a LO word whose read latches the words
that follow it: their number, 0 for none. -/
def latchSpan (a : Nat) : Nat :=
  let o := a % 0x1000
  let pair := fun (lo n : Nat) => decide (lo ≤ o ∧ o < lo + 8 * n) && (o - lo) % 8 == 0
  match pageCode a with
  | 0x09 => if o = 0x40 then 2 else 0
  | 0x0C => if 0x400 ≤ o ∧ o < 0x500 ∧ o % 16 = 0 then 2 else 0
  | 0x30 => if 0x400 ≤ o ∧ o < 0x800 ∧ o % 16 = 0 then 2 else 0
  | 0x23 => if pair 0x100 5 || pair 0x140 16 || pair 0x200 5 || pair 0x240 16 then 1 else 0
  | 0x28 => if pair 0x100 4 || pair 0x140 6 then 1 else 0
  | 0x2F => if pair 0x100 12 then 1 else 0
  | 0x35 => if pair 0x1D8 2 || pair 0x218 2 || pair 0x258 2 then 1 else 0
  | _ => 0

/-- The LO word whose latch a HI, FLAGS, NOW1 or NOW2 word shows, and which of the two it is. -/
def latchHome (a : Nat) : Option (Nat × Bool) :=
  if a < 8 then none
  else if 1 ≤ latchSpan (a - 4) then some (a - 4, false)
  else if latchSpan (a - 8) = 2 then some (a - 8, true)
  else none

/-! ## The view -/

/-- The low word of device time or of a stored register. -/
def State.stored (s : State) (a : Nat) : Word := if a = 0x9040 then s.dev.time.word0 else s.word a

/-- What the words after a LO word latch at its read. -/
def State.latchWords (s : State) (a : Nat) : Word × Word :=
  if a = 0x9040 then (s.dev.time.word1, s.dev.time.word2)
  else if latchSpan a = 2 then
    let ch := decide (0x100000 ≤ a)
    let n : Ch := if ch then Fin.ofNat 8 ((a - 0x100000) / 0x20000) else 0
    (s.word (a + 4), BitVec.ofNat 32 (s.get n (wrapBit (if ch then cntPage else dcntPage) ((a % 0x1000 - 0x400) / 16))))
  else (s.word (a + 4), 0)

/-- A bit of a word replaced. -/
def withBits (x : Word) (f : Field) (v : Nat) : Word := setBits x f.lo f.w v

/-- A device register as it reads. -/
def State.viewDev (s : State) (a : Nat) : Word :=
  let w := s.word a
  let b := fun (x : Bool) => if x then 1 else 0
  let o := a % 0x1000
  match a / 0x1000 with
  | 0x0 =>
    if o = 0x40 then withBits w ID.DEVICE_ORDER s.dev.order
    else if o = 0x48 then BitVec.ofNat 32 s.caps
    else if o = 0x4C then BitVec.ofNat 32 s.dev.uid.toNat
    else if o = 0x50 then BitVec.ofNat 32 (s.dev.uid.toNat / 2 ^ 32)
    else if o = 0x54 then BitVec.ofNat 32 s.chSum
    else if 0x5C ≤ o ∧ o < 0x7C then BitVec.ofNat 32 (s.pageSum (Fin.ofNat 8 ((o - 0x5C) / 4)))
    else w
  | 0x1 => if o = 0x40 then BitVec.ofNat 32 (s.dev.straps &&& 0xB).toNat else if o = 0x5C then s.statusWord else w
  | 0x2 =>
    if o = 8 then withBits w CLK.STATUS_REFCLK_OK (b s.dev.refclk)
    else if o = 0x40 then BitVec.ofNat 32 (maskOf 8 fun n => s.is (Fin.ofNat 8 n) TOP.CLK_STATUS_CH_PLL_LOCK)
    else w
  | 0x3 =>
    if o = 0x64 then withBits w BOOT.SEC_FLOOR s.otpFloor
    else if o = 0x70 then BitVec.ofNat 32 s.dev.rails.toNat
    else w
  | 0x4 =>
    if o = 8 then
      let w1 := withBits w DPWR.STATUS_STATE s.dev.state.code
      if s.phase .dev = 0 then withBits w1 DPWR.STATUS_TARGET_ACTIVE s.dev.state.code else w1
    else if o = 0xC0 then BitVec.ofNat 32 (allCh.foldl (fun m n => m + s.chState n * 8 ^ n.val) 0)
    else w
  | 0x5 =>
    if o = 0x44 then
      let full := fun (f : Fin 4 → Box) => maskOf 4 fun k => s.boxFull (f (Fin.ofNat 4 k))
      BitVec.ofNat 32 (full .h2m + 16 * full .m2h)
    else w
  | 0x6 =>
    if o = 0x4C then BitVec.ofNat 32 (min 65535 (s.dev.wdogTicks / 625000))
    else if o = 0x50 then BitVec.ofNat 32 (maskOf 4 fun k => (s.fwCmd (Fin.ofNat 4 k)).isSome)
    else w
  | 0xE =>
    if o = 0x40 then BitVec.ofNat 32 (ofSigned 16 s.tjUpper * 65536 + ofSigned 16 s.tjLower) else w
  | 0xF =>
    if o = 8 then withBits w OTP.STATUS_PARTIAL (b s.otpPartial)
    else if o = 0x48 then BitVec.ofNat 32 (s.otpFloor + 65536 * (b (s.slotUsable 0) + 2 * b (s.slotUsable 1)))
    else if o = 0x4C then BitVec.ofNat 32 s.dev.fuseValid.toNat
    else if o = 0x50 then BitVec.ofNat 32 (s.dev.fuseValid.toNat / 2 ^ 32)
    else if 0x100 ≤ o ∧ o < 0x200 then s.otpWord ((o - 0x100) / 4)
    else w
  | _ => w

/-- The oldest frame of the RX FIFO as its registers show it (R309, R324). -/
def MrIn.view (x : MrIn) (o : Nat) : Nat :=
  let f := x.frame
  if o = 0x100 then f.src % 2 ^ 32
  else if o = 0x104 then f.srcCh * 2 ^ 29 + f.typ * 2 ^ 24 + f.ttl * 65536 + f.src / 2 ^ 32
  else if o = 0x108 then f.seq * 65536 + f.age
  else if o = 0x10C then ofSigned 16 x.rssi * 65536 + (if f.relayed then 512 else 0) + f.payload.length
  else if o = 0x110 then f.ts.word0.toNat
  else if o = 0x114 then f.ts.word1.toNat
  else if o = 0x118 then f.ts.word2.toNat
  else if o = 0x11C then x.rx.word0.toNat
  else if o = 0x120 then x.rx.word1.toNat
  else if o = 0x124 then x.rx.word2.toNat
  else if o = 0x128 then f.dst % 2 ^ 32
  else if o = 0x12C then f.dst / 2 ^ 32
  else if 0x200 ≤ o ∧ o < 0x300 then
    let i := o - 0x200
    let g := fun k => (f.payload.getD (i + k) 0).toNat
    g 0 + 256 * g 1 + 65536 * g 2 + 16777216 * g 3
  else 0

/-- A channel register as it reads by requester `req`. -/
def State.viewCh (s : State) (n : Ch) (req a : Nat) : Word :=
  let w := s.word a
  let o := a % 0x1000
  match pageCode a - 0x20 with
  | 0x0 =>
    if o = 0x48 then BitVec.ofNat 32 s.caps
    else if o = 0x4C then BitVec.ofNat 32 (s.latencies n).1
    else if o = 0x50 then BitVec.ofNat 32 (s.latencies n).2
    else w
  | 0x1 => viewLane w o 0
  | 0x2 => viewLane w o 1
  | 0x4 => if o = LTX.ENVELOPE_G.off then BitVec.ofNat 32 (s.envelope n) else w
  | 0x7 => if o = EQ.GUARD_TIME.off then BitVec.ofNat 32 (min 4294967295 (s.heldTicks n / 625)) else w
  | 0xA =>
    if o = 8 then withBits w MRACE.STATUS_TX_STATE (s.mrTxState n)
    else if 0x100 ≤ o ∧ o < 0x300 then
      match (s.chan n).mr.fifo with
      | [] => 0
      | x :: _ => BitVec.ofNat 32 (x.view o)
    else w
  | 0xB =>
    if o = 8 then withBits w MRLY.STATUS_DUP_ENTRIES s.dev.dup.length
    else if o = MRLY.DUP_CFG_DUP_EN.off then s.dev.dupCfg
    else w
  | 0xC =>
    if 0x100 ≤ o ∧ o < 0x180 ∧ o % 8 = 0 then
      let i := (o - 0x100) / 8
      withBits w (GAUGE.RESULT_READ i) (if (s.chan n).gauge.seen.contains (i, req) then 1 else 0)
    else w
  | 0xD => if o = 8 then withBits w OUT.STATUS_VOUTN_OK (if s.voutn then 1 else 0) else w
  | 0xF => if o = TALLY.MS_NOW_MS.off then BitVec.ofNat 32 s.tallyMs else w
  | _ => w
where
  /-- CTLE of a lane reads the trained code while training sets it (R139). -/
  viewLane (w : Word) (o : Nat) (l : Fin 2) : Word :=
    if o = (HL.CTLE_PEAK l).off ∧ s.is n (HL.CFG_TRAIN_EN l) = true then
      withBits (withBits w (HL.CTLE_PEAK l) (s.lane n l).peak) (HL.CTLE_DCGAIN l) (s.lane n l).gain
    else w

/-- The channel of a channel address. -/
def chOf (a : Nat) : Ch := Fin.ofNat 8 ((a - 0x100000) / 0x20000)

/-- The header registers that are alike in every page: PAGE_ID, IRQ_PEND, BUSY (R61, R64). -/
def State.viewHeader (s : State) (a : Nat) : Option Word :=
  let o := a % 0x1000
  let ch := decide (0x100000 ≤ a)
  if o = 0 then
    some (BitVec.ofNat 32 (pageCode a * 2 ^ 24 + (if ch then (chOf a).val else 0xF) * 2 ^ 20 + 2 ^ 16))
  else if o = 0x14 then some (s.irqPend (a - 0x14))
  else if o = 0x24 ∧ ch = true then some (withBits (s.word a) ⟨0, 0, 1, 1⟩ (if s.inTrial (chOf a) then 1 else 0))
  else if 0x28 ≤ o ∧ o < 0x40 then some 0
  else none

/-- What a register reads as for requester `req`, without any effect of the read. -/
def State.regView (s : State) (a req : Nat) : Word :=
  match s.viewHeader a with
  | some w => w
  | none =>
    match latchHome a with
    | some (lo, second) => if second then (s.latchOf req lo).2 else (s.latchOf req lo).1
    | none =>
      if latchSpan a ≠ 0 then s.stored a
      else if a < 0x10000 then s.viewDev a
      else s.viewCh (chOf a) req a

end Sys2Proof.Machine
end

