-- ==== Sys2Proof/Machine/Hop.lean ====
section
/-! DEFINITION. The Hopper: triggers, records, the ring (R405 to R413). -/

namespace Sys2Proof.Machine

/-- A trigger waits for the next latch edge; a stopped or suspended Hopper takes none (R405, R411, R413). -/
def State.hopTrigger (s : State) (n : Ch) (bit : Nat) : State :=
  if (s.chan n).hop.stopped || s.is n HOP.STATUS_SUSPENDED then s
  else s.modHop n fun x => { x with trig := x.trig ||| bit }

/-- A periodic boundary: a trigger, or one more missed (R405, R411). -/
def doHopperBoundary (n : Ch) (s : State) : State :=
  if s.chState n = 0 ∨ s.is n HOP.CTRL_EN = false ∨ s.get n HOP.CFG_PERIOD_MS = 0 then s
  else if (s.chan n).hop.stopped || s.is n HOP.STATUS_SUSPENDED then
    (s.sat n HOP.COUNTS_MISSED).modHop n fun x => { x with missed := min 65535 (x.missed + 1) }
  else s.hopTrigger n 1

/-- The channel registers of a record's snapshot, as offsets in the channel (R408). -/
def hopFields : List Field :=
  [TOP.CLK_STATUS, TOP.XING_STATUS, TOP.CORE_TX_OFFSET, TOP.CORE_RX_OFFSET,
   HL.SNR 0, HL.CDR_STATUS 0, HL.COUNTS1 0, HL.SNR 1, HL.CDR_STATUS 1, HL.COUNTS1 1,
   HFEC.LOSS_COUNT, HFEC.ALIGN_POS_HOST, HFEC.ALIGN_POS_LINE,
   LTX.ENVELOPE, LTX.SAT_COUNT,
   LRX.GAIN, LRX.RMS, LRX.PLAUS_D, LRX.TANDEM_EST, LRX.CLIP_COUNT, LRX.SWAP_INFO,
   TIM.FREQ, TIM.PHASE_ERR, TIM.DESKEW_ACTIVE, TIM.COUNTS,
   EQ.SNR, EQ.SNR_L01, EQ.SNR_L23, EQ.OCC01, EQ.OCC23, EQ.TRANS, EQ.GUARD_COUNT, EQ.GUARD_TIME,
   BOLT.BER_EST, BOLT.WIN_CORR, BOLT.WIN_UNC, BOLT.LOCK_COUNT,
   DRESS.TEMP, DRESS.PASS_RESULT, DRESS.STEPS,
   MRACE.FAR_LINK, MRACE.FAR_PWR, MRACE.FAR_LOCAL, MRACE.FAR_PPM, MRACE.RTT,
   GAUGE.DIE_TEMP, GAUGE.LAST_RXPWR, KILN.MEAS]

/-- Whether an address lies on a register that its page lists (R16, R60). -/
def decoded (a : Nat) : Bool :=
  pageCode a != 0x100 && (a < 0x10000 || decide ((a - 0x100000) % 0x20000 < 0x18000)) &&
    ((regDef a).isSome || decide (0x28 ≤ a % 0x1000 ∧ a % 0x1000 < 0x40))

/-- The address that user word `k` of a record copies, none where it is off or undecoded (R408). -/
def State.hopUser (s : State) (n : Ch) (k : Nat) : Option Nat :=
  let a := chPage n 0 + s.get n (HOP.STATUS_SEL_OFFSET k) / 4 * 4
  if s.is n (HOP.STATUS_SEL_EN k) && decoded a then some a else none

/-- The addresses of the 112 snapshot words (R408). -/
def State.hopAddrs (s : State) (n : Ch) : List (Option Nat) :=
  (List.range 24).map (fun p => some (chPage n p + 8)) ++ (List.range 24).map (fun p => some (chPage n p + 0x18)) ++
    hopFields.map (fun f => some (f.addr n)) ++ (List.range 16).map fun k => s.hopUser n k

/-- The snapshot words, each as the Hopper reads it; a word of an unpowered page reads 0 (R406). -/
def State.hopWords (s : State) (n : Ch) (l : List (Option Nat)) : List Nat :=
  l.map fun a =>
    match a with
    | some a => if s.pageOn n ((a - chPage n 0) / 0x1000) then (s.regView a reqHopper).toNat else 0
    | none => 0

/-- 32-bit words paired into 64-bit words. -/
def pairWords : List Nat → List Nat
  | a :: b :: l => (a + 2 ^ 32 * b) :: pairWords l
  | [a] => [a]
  | [] => []

/-- The first eight words of a record without its CRC, WRITING 0 (R407). -/
def State.hopHeader (s : State) (n : Ch) : List Nat :=
  let x := (s.chan n).hop
  let b := fun (v : Bool) (k : Nat) => if v then k else 0
  let t := s.dev.time
  let flags := b (s.is 0 TIME.STATUS_VALID) 1 + b x.stepped 2 + b (x.missed != 0) 4 + b x.fresh 8
  let st := s.chState n + 8 * s.get n CNT.STATUS_CLK_CORE
  [0x52504F48 + 0x01 * 2 ^ 32 + n.val * 2 ^ 40 + x.trig * 2 ^ 48 + flags * 2 ^ 56,
   s.get n HOP.SEQ_NEXT + t.word0.toNat * 2 ^ 32,
   t.word1.toNat + t.word2.toNat * 2 ^ 32,
   s.get n HOP.CFG_PERIOD_MS + x.missed * 2 ^ 16 + st * 2 ^ 32,
   s.get n CNT.WRAP_LO + s.get n CNT.WRAP_HI * 2 ^ 32,
   x.selChanged,
   s.get n TALLY.EPOCH + s.get n TALLY.CTX_USED * 2 ^ 32,
   s.dget TIME.STATUS]

/-- The bytes of a record that its CRC covers (R407). -/
def recordBytes (header rest : List Nat) : List Byte :=
  ((header.flatMap fun v => leBytes v 8).take 60) ++ rest.flatMap fun v => leBytes v 8

/-- The latch edge: counters, header and snapshot are latched, and the first word is written with WRITING = 1 (R406, R409). -/
def doHopperLatch (n : Ch) (s : State) : State :=
  let x := (s.chan n).hop
  if x.trig = 0 ∨ x.stopped = true ∨ s.is n HOP.STATUS_WRITING = true ∨ s.is n HOP.STATUS_SUSPENDED = true ∨ s.chState n = 0 then s
  else
    let header := s.hopHeader n
    let counters := (List.range 64).map fun c => s.get64 n (CNT.CNT_LO c)
    let snap := s.hopWords n (s.hopAddrs n)
    let rest := counters ++ pairWords snap
    let crc := crc32 0xFFFFFFFF (recordBytes header rest)
    let words := header.take 7 ++ [header.getD 7 0 + crc * 2 ^ 32] ++ rest
    let slot := s.get n HOP.WR_IDX_IDX
    let s1 := s.modHop n fun _ => { words, slot, cycle := x.cycle }
    (s1.set n HOP.STATUS_WRITING 1).busWrite (chMem n 3) (128 * slot) (header.headD 0 + 2 ^ 47) reqHopper

/-- Words of a record written in turn. -/
def State.hopPuts (s : State) (m w : Nat) : List Nat → State
  | [] => s
  | v :: l => (s.busWrite m w v reqHopper).hopPuts m (w + 1) l

/-- COUNT of the ring reaches LEVEL (R410). -/
def State.hopLevelIrq (s : State) (n : Ch) (was : Nat) : State :=
  let lim := clampN 1 256 (s.get n HOP.CFG_LEVEL)
  let c := s.get n HOP.FILL_COUNT
  if was < lim ∧ lim ≤ c then s.irq n HOP.IRQ_LEVEL else s

/-- The last word of a record is written, and the ring advances (R409, R410). -/
def doHopperWriteDone (n : Ch) (s : State) : State :=
  let x := (s.chan n).hop
  if s.is n HOP.STATUS_WRITING = false ∨ s.memOn n = false then s
  else
    let m := chMem n 3
    let base := 128 * x.slot
    let s1 := s.hopPuts m (base + 8) (x.words.drop 8)
    let s2 := s1.hopPuts m (base + 1) ((x.words.drop 1).take 7)
    let s3 := s2.hopPuts m base (x.words.take 1)
    let was := s3.get n HOP.FILL_COUNT
    let s4 := (s3.set n HOP.WR_IDX_IDX (x.slot + 1)).set n HOP.SEQ_NEXT (s3.get n HOP.SEQ_NEXT + 1)
    let s5 :=
      if was = 256 then
        (((s4.set n HOP.RD_IDX_IDX (s4.get n HOP.RD_IDX_IDX + 1)).set n HOP.FILL_LAPPED 1).irq n HOP.IRQ_LAPPED).sat n
          HOP.COUNTS_LAPPED
      else (s4.set n HOP.FILL_COUNT (was + 1)).hopLevelIrq n was
    ((s5.set n HOP.STATUS_WRITING 0).irq n HOP.IRQ_DUMP).modHop n fun y => { y with words := [], slot := 0 }

/-- A write of RD_IDX (R410). -/
def State.writeHopRd (s : State) (n : Ch) (rd : Nat) : State :=
  let c := (s.get n HOP.WR_IDX_IDX + 256 - rd % 256) % 256
  if s.get n HOP.FILL_COUNT < c then s.irq n HOP.IRQ_RD_BAD
  else (s.set n HOP.RD_IDX_IDX rd).set n HOP.FILL_COUNT c

/-- A write of CTRL.EN: 0 stops periodic and fault triggers; 0 then 1 after the fault's clear lets the Hopper write again
(R411, R413). -/
def State.writeHopEn (s : State) (n : Ch) (v : Nat) : State :=
  let was := s.is n HOP.CTRL_EN
  let s1 := s.set n HOP.CTRL_EN v
  if v % 2 = 0 then s1.modHop n fun x => { x with trig := x.trig &&& 2 }
  else if !was && !s1.is n HOP.FLT_HOP_FSM_PAR then s1.modHop n fun x => { x with stopped := false }
  else s1

/-- What a Hopper parity error does beside its fault: no record is written (R413). -/
def State.hopParity (s : State) (n : Ch) : State :=
  (s.set n HOP.STATUS_WRITING 0).modHop n fun x => { x with stopped := true, trig := 0, words := [], slot := 0 }

end Sys2Proof.Machine
end

