-- ==== Sys2Proof/Machine/RxPath.lean ====
section
/-! DEFINITION. The receive path from the converter's samples to the Bolter, stage by stage, as the registers set it (R226 to
R229, R231, R236, R238 to R240, R249).  No command carries samples or symbols, so of these only the saturation enters a step. -/

namespace Sys2Proof.Machine

/-- A stage at the limits of its number range: the value it gives, and whether it saturated (R228).  Bits 0 to 4 of TIM's
SAT_FLAGS number its stages, 16 and up those of EQ. -/
def saturated (stage : Nat) (v : Int) : Int × Bool :=
  let m : Int := Config.numberLimit stage
  (clampI (-m) m v, decide (v < -m ∨ m < v))

/-- Value `j` of a stream; outside it 0. -/
def valueAt (x : List Int) (j : Int) : Int := if j < 0 then 0 else x.getD j.toNat 0

/-- A sum of products of taps, the first at place `j` of the stream and the next one place earlier. -/
def dot (x : List Int) (j : Int) : List Int → Int
  | [] => 0
  | c :: cs => c * valueAt x j + dot x (j - 1) cs

/-! ## Resampler (R226, R227, R229) -/

/-- The taps of the prefilter: tap k and tap 14 − k use PREFILTER_Ck, as applied. -/
def State.prefilterTaps (s : State) (n : Ch) : List Int :=
  (List.range 15).map fun k => s.getI n (TIM.PF_ACTIVE_COEF (min k (14 - k)))

/-- The prefilter's output for sample `j`, in 1/1024 of a sample's unit. -/
def State.prefilter (s : State) (n : Ch) (x : List Int) (j : Int) : Int × Bool :=
  saturated 0 (dot x j (s.prefilterTaps n))

/-- The interpolator at a phase from its first input sample on. -/
def interpolate (x : List Int) (first : Int) (phase : Nat) : Int × Bool :=
  saturated 1 ((List.range 8).map fun k : Nat => Config.interpTap phase k * valueAt x (first + k)).sum

/-- The nominal increment 1 + 0x0F0F0F0F × 2^-32, and F, both in 2^-32 of a sample. -/
def ncoNominal : Int := 4294967296 + 0x0F0F0F0F
def State.loopFreq (s : State) (n : Ch) : Int := s.getI n TIM.FREQ_PPM * ncoNominal / 16000000

/-- An output symbol's advance INC with the proportional term `p`, and the accumulator after it. -/
def State.ncoInc (s : State) (n : Ch) (p : Int) : Int := ncoNominal + s.loopFreq n + p
def State.ncoNext (s : State) (n : Ch) (p : Int) : State :=
  s.modTim n fun x =>
    let v := (4294967296 * (x.sample : Int) + x.frac + s.ncoInc n p).toNat
    { x with sample := v / 4294967296, frac := v % 4294967296 }

/-- The phase that the fraction's top six bits select, and the 26 bits that carry it forward. -/
def TimSt.phase (x : TimSt) : Nat := x.frac / 67108864
def TimSt.carry (x : TimSt) : Nat := x.frac % 67108864

/-! ## Timing detector (R231) -/

/-- e(n) = y(n) d(n−1) − y(n−1) d(n). -/
def muellerError (y d before dBefore : Int) : Int := y * dBefore - before * d

/-- The level a value is decided as: the thresholds lie midway between adjacent levels (R238). -/
def slice (mu : List Int) (v : Int) : Fin 4 :=
  let m := fun i : Nat => mu.getD i 0
  if 2 * v < m 0 + m 1 then 0 else if 2 * v < m 1 + m 2 then 1 else if 2 * v < m 2 + m 3 then 2 else 3

/-- The quick equaliser's taps and levels: before the first copy the cursor tap alone. -/
def TimSt.quickTaps (x : TimSt) : List Int := if x.quick = [] then [0, 0, 512 * tapUnit, 0, 0] else x.quick
def TimSt.quickMu (x : TimSt) : List Int := if x.quickLevels = [] then startLevels else x.quickLevels

/-- The quick equaliser's sum for symbol `j`, tap 0 standing two symbols ahead of the cursor, and its decision. -/
def TimSt.quickSum (x : TimSt) (stream : List Int) (j : Int) : Int × Bool :=
  let r := saturated 2 (dot stream (j + 2) x.quickTaps)
  (r.1 / (512 * tapUnit), r.2)
def TimSt.quickDecision (x : TimSt) (stream : List Int) (j : Int) : Fin 4 := slice x.quickMu (x.quickSum stream j).1

/-! ## Coarse deskew (R236) -/

/-- The symbols of a word whose first is symbol `k` of the stream, behind a delay of `c` symbols: a word under a greater delay
repeats symbols of the word before it, one under a smaller delay leaves some out. -/
def deskewed (c : Nat) (x : List Int) (k : Nat) : List Int :=
  (List.range 256).map fun i : Nat => valueAt x ((k : Int) + i - c)

/-! ## Equaliser (R238, R239) -/

/-- The FFE's sum for symbol `j`: the taps before the cursor see the symbols after it. -/
def EqSt.ffeSum (x : EqSt) (stream : List Int) (j : Int) : Int × Bool :=
  let r := saturated 16 (dot stream (j + x.cursor) x.taps)
  (r.1 / (512 * tapUnit), r.2)

/-- The feedback for the two symbols before, at their level estimates (log entry 71). -/
def EqSt.dfeSum (x : EqSt) (p1 p2 : Fin 4) : Int × Bool :=
  let r := saturated 17 (x.dfe.getD 0 0 * x.mu.getD p1.val 0 + x.dfe.getD 1 0 * x.mu.getD p2.val 0)
  (r.1 / (512 * tapUnit), r.2)

/-- The equalised value, and the four decisions that the unrolled first tap prepares, one for each previous decision. -/
def EqSt.equalised (x : EqSt) (y : Int) (p1 p2 : Fin 4) : Int := y - (x.dfeSum p1 p2).1
def EqSt.speculate (x : EqSt) (y : Int) (p2 : Fin 4) : List (Fin 4) :=
  [0, 1, 2, 3].map fun p1 => slice x.mu (x.equalised y p1 p2)

/-- The decisions of a run of FFE sums after the decisions `p1` and, before it, `p2`. -/
def EqSt.decide (x : EqSt) (p1 p2 : Fin 4) : List Int → List (Fin 4)
  | [] => []
  | y :: ys =>
    let d := (x.speculate y p2).getD p1.val 0
    d :: EqSt.decide x d p1 ys

/-- The Gray symbols that EQ hands on after the line symbol `p` (R239), and a value as the Bolter takes it, 8 bits in 1/32. -/
def State.eqSymbols (s : State) (n : Ch) (p : Fin 4) (line : List (Fin 4)) : List (Fin 4) :=
  if s.is n EQ.STATUS_PRECODE_ACTIVE then unprecode p line else line
def softValue (y : Int) : Int := clampI (-128) 127 (y / 8388608)

/-- The accumulated sgn(err) × sgn(data) of a tap (R240), of the pairs of a run of symbols. -/
def signSum (run : List (Int × Int)) : Int := (run.map fun e => e.1.sign * e.2.sign).sum

/-- The amplitude bin of the eye monitor for a value in 2^-28 of the outer level (R249). -/
def eyeAmplitude (y : Int) : Nat := (clampI 0 255 ((y + 1073741824) / 8388608)).toNat

end Sys2Proof.Machine
end

