-- ==== Sys2Proof/Machine/Tim.lean ====
section
/-! DEFINITION. The resampler, timing-loop and deskew commands (R226 to R237, R251, R252). -/

namespace Sys2Proof.Machine

/-- Sticky saturation flags set in a page's SAT_FLAGS; a bit that goes from 0 to 1 raises SAT (R228). -/
def State.satFlags (s : State) (n : Ch) (f irq : Field) (mask : Nat) : State :=
  let old := s.get n f
  let new := old ||| mask
  if new = old then s else (s.set n f new).irq n irq

/-- Staged prefilter coefficients made active (R226). -/
def State.pfCopy (s : State) (n : Ch) : Nat → State
  | 0 => s
  | k + 1 => (State.pfCopy s n k).set n (TIM.PF_ACTIVE_COEF k) (s.get n (TIM.PREFILTER_C_COEF k))

/-- CMD.PF_APPLY (R226). -/
def State.pfApply (s : State) (n : Ch) : State := s.pfCopy n 8

/-- The offset of CORE_RX in 1/16 ppm: it follows F, within 1 ppm of FREQ.PPM while TIM_LOCK = 1 (R230). -/
def State.coreRxOffset (s : State) (n : Ch) (rx : Int) : Int :=
  let f := s.getI n TIM.FREQ_PPM
  if s.is n TIM.STATUS_TIM_LOCK then clampI (f - 16) (f + 16) rx else clampI (-8016) 8016 rx

/-- CORE_RX_OFFSET held to FREQ.PPM where F or TIM_LOCK has moved (R230). -/
def State.coreRxFollow (s : State) (n : Ch) : State :=
  s.setI n TOP.CORE_RX_OFFSET_PPM (s.coreRxOffset n (s.getI n TOP.CORE_RX_OFFSET_PPM))

/-- CORE_RX_LOCK rises once TIM_LOCK = 1 and LINE_IN has reached its set fill of 3 words (R23, R235). -/
def State.coreRxLock (s : State) (n : Ch) (lineIn : Nat) : State :=
  if s.is n TIM.STATUS_TIM_LOCK && lineIn == 3 then s.set n TOP.CLK_STATUS_CORE_RX_LOCK 1 else s

/-- A timing-error window ends: RMS and mean of the error in 1/256 UI, the stages that saturated in it (R228, R235), and the
fill of LINE_IN. -/
def doPhaseErrWindow (n : Ch) (rms : Nat) (mean : Int) (sat : BitVec 4) (lineIn : Nat) (s : State) : State :=
  let st := s.loopState n
  if st = 0 ∨ st = 4 then s
  else
    let s1 := (s.setSat n TIM.PHASE_ERR_RMS rms).setI n TIM.PHASE_ERR_MEAN mean
    let s2 := (s1.satFlags n TIM.SAT_FLAGS TIM.IRQ_SAT sat.toNat).coreRxLock n lineIn
    if st = 1 then
      if rms < s.get n TIM.LOCK_CFG_LOCK_THR then
        let s3 := ((s2.set n TIM.STATUS_TIM_LOCK 1).set n TIM.STATUS_LOOP_STATE 2).irq n TIM.IRQ_LOCK
        ((s3.coreRxLock n lineIn).coreRxFollow n).levels n
      else s2
    else if s.get n TIM.LOCK_CFG_UNLOCK_THR < rms then
      if (s.chan n).tim.badRun < 3 then s2.modTim n fun x => { x with badRun := x.badRun + 1 }
      else
        let s3 := s2.raise n TIM.FLT_TIM_LOCK_LOST
        let s4 := ((s3.irq n TIM.IRQ_LOCK_LOST).sat n TIM.COUNTS_LOCK_LOST).count n 0x31 2 0
        (if s4.loopState n = 2 ∨ s4.loopState n = 3 then s4.loopAcq n else s4).levels n
    else s2.modTim n fun x => { x with badRun := 0 }

/-- F has been held at a limit for 2^16 symbols (R230). -/
def doTimRange (n : Ch) (s : State) : State :=
  if s.loopState n = 0 ∨ s.loopState n = 4 then s
  else
    ((s.raise n TIM.FLT_TIM_RANGE).set n TIM.STATUS_RANGE_CLAMP 1).satFlags n TIM.SAT_FLAGS TIM.IRQ_SAT 16

/-- CMD.REACQ accepted (R235). -/
def State.timReacq (s : State) (n : Ch) : State :=
  if s.loopState n = 2 ∨ s.loopState n = 3 then (s.loopAcq n).levels n else s

/-- The quick equaliser copies five FFE taps around the cursor and the slicer levels, but not before EQ first enters ACQ, during
a notice freeze or during a hold (R231). -/
def doQuickEqRefresh (n : Ch) (s : State) : State :=
  if s.loopState n = 0 ∨ (s.chan n).tim.acqSeen = false ∨ s.is n EQ.STATUS_NOTICE_ACTIVE = true ∨
      s.is n EQ.STATUS_GUARD_HOLD = true then s
  else
    let x := (s.chan n).eq
    s.modTim n fun t =>
      { t with quick := (List.range 5).map fun i => if x.cursor + i < 2 then 0 else x.taps.getD (x.cursor + i - 2) 0,
               quickLevels := x.mu }

/-- F as FREQ.PPM, in 1/16 ppm limited to ±500 ppm, with the fraction of the last output symbol's instant, whose top six bits
are the interpolator phase, every 1 ms; HOLD keeps F, and CORE_RX follows it (R229, R230, R233). -/
def doFreqUpdate (n : Ch) (ppm : Int) (frac : BitVec 32) (s : State) : State :=
  let st := s.loopState n
  if st = 0 then s
  else
    let s1 := (s.modTim n fun x => { x with frac := frac.toNat }).set n TIM.FREQ_PHASE (frac.toNat / 2 ^ 26)
    if st = 4 then s1
    else
      let f := clampI (-8000) 8000 ppm
      let s2 := (s1.setI n TIM.FREQ_PPM f).set n TIM.STATUS_RANGE_CLAMP (if f = 8000 ∨ f = -8000 then 1 else 0)
      s2.coreRxFollow n

/-- The word boundary at which a new COARSE delay takes effect (R236), with the Bolter's relock (R260). -/
def doDeskewCoarse (n : Ch) (s : State) : State :=
  let c := s.get n TIM.DESKEW_COARSE
  if s.modeActive n = false ∨ s.is n TIM.FLT_TIM_FSM_PAR = true ∨ c = s.get n TIM.DESKEW_ACTIVE_COARSE then s
  else
    let s1 := (s.set n TIM.DESKEW_ACTIVE_COARSE c).irq n TIM.IRQ_DESKEW_APPLIED
    let s2 := if s.eqState n = 3 then s1.irq n TIM.IRQ_DESKEW_JUMP else s1
    if s.boltState n = 2 ∨ s.boltState n = 3 then
      (((s2.boltDrop n 1).irq n BOLT.IRQ_DESKEW_RELOCK).sat n BOLT.LOCK_COUNT_RELOCK).levels n
    else s2

/-- 256 host word clocks have passed: the rotator moves one step towards FINE (R237). -/
def doFineSlewStep (n : Ch) (s : State) : State :=
  let want := s.get n TIM.DESKEW_FINE
  let now := s.get n TIM.DESKEW_ACTIVE_FINE
  if s.modeActive n = false ∨ s.is n TIM.FLT_TIM_FSM_PAR = true ∨ want = now then s
  else (s.set n TIM.DESKEW_ACTIVE_FINE (if now < want then now + 1 else now - 1)).deskewLevel n

/-- CMD.CLR_STATS (R252). -/
def State.timClear (s : State) (n : Ch) : State := (s.set n TIM.COUNTS 0).set n TIM.PHASE_ERR 0

/-- What a parity error of the loop, the deskew controller or the page's registers does beside its fault (R251). -/
def State.timParity (s : State) (n : Ch) : State := (if s.loopState n = 0 then s else s.loopOff n).levels n

end Sys2Proof.Machine
end

