-- ==== Sys2Proof/Machine/Eq.lean ====
section
/-! DEFINITION. The equaliser commands: adaptation, notices, the guard, the eye monitor (R238 to R253). -/

namespace Sys2Proof.Machine

/-- STEP in force: clamped to 8 to 20, in ACQ 4 less with a floor of 8 (R240). -/
def State.eqStep (s : State) (n : Ch) : Nat :=
  let k := clampN 8 20 (s.get n EQ.CFG_STEP)
  if s.eqState n = 2 then max 8 (k - 4) else k

/-- The FFE taps after an update; the cursor tap never adapts (R238, R240). -/
def lmsFfe (cursor step : Nat) (i : Nat) : List Int → List Int → List Int × Bool
  | [], _ => ([], false)
  | v :: vs, signs =>
    let rest := lmsFfe cursor step (i + 1) vs signs.tail
    if i = cursor then (v :: rest.1, rest.2)
    else
      let m := lmsMove (2048 * tapUnit) (-2048 * tapUnit) (2047 * tapUnit) step (signs.headD 0) v
      (m.1 :: rest.1, m.2 || rest.2)

/-- The levels after an update, each moved by 2^-step of the outer level and held in the range of its stage, whose limits are
free; the flag says that one met them (R228, R240). -/
def lmsLevels (step : Nat) : List Int → List Int → List Int × Bool
  | [], _ => ([], false)
  | v :: vs, signs =>
    let rest := lmsLevels step vs signs.tail
    let m := saturated 20 (v + (signs.headD 0).sign * (268435456 / 2 ^ step))
    (m.1 :: rest.1, m.2 || rest.2)

/-- 1,024 symbols have passed: the update by the signs of the accumulated products, unless adaptation is frozen (R240,
R245). -/
def doLmsUpdate (n : Ch) (ffe dfe levels : List Int) (s : State) : State :=
  if s.is n EQ.STATUS_ADAPT_FROZEN then s
  else
    let k := s.eqStep n
    let x := (s.chan n).eq
    let f := lmsFfe x.cursor k 0 x.taps ffe
    let d1 := lmsMove (384 * tapUnit) 0 (384 * tapUnit) k (dfe.getD 0 0) (x.dfe.getD 0 0)
    let d2 := lmsMove (128 * tapUnit) (-128 * tapUnit) (128 * tapUnit) k (dfe.getD 1 0) (x.dfe.getD 1 0)
    let on := s.is n EQ.CFG_DFE_EN
    let l := lmsLevels k x.mu levels
    let s1 := s.modEq n fun y => { y with taps := f.1, dfe := if on then [d1.1, d2.1] else [0, 0], mu := l.1 }
    let mask := (if f.2 then 4 else 0) + (if on && (d1.2 || d2.2) then 8 else 0) + (if l.2 then 16 else 0)
    (s1.putTaps n).satFlags n EQ.SAT_FLAGS EQ.IRQ_SAT mask

/-- A host write of FFE tap `t`: the cursor tap's is discarded, another's is the value adaptation continues from
(R240). -/
def State.writeFfeTap (s : State) (n : Ch) (t : Nat) (data : Word) : State :=
  if t = (s.chan n).eq.cursor then s
  else
    let s1 := s.set n (EQ.FFE_TAP_COEF t) data.toNat
    let v := s1.getI n (EQ.FFE_TAP_COEF t) * tapUnit
    s1.modEq n fun x => { x with taps := (if x.taps = [] then cursorTaps x.cursor else x.taps).set t v }

/-- A host write of DFE (R239, R240): a value beyond a tap's range is held at the limit and sets DFE_TAP (R228). -/
def State.writeDfe (s : State) (n : Ch) (data : Word) : State :=
  let s1 := s.set n EQ.DFE (data.toNat &&& 0x03FF03FF)
  let d1 := s1.getI n EQ.DFE_TAP1
  let d2 := s1.getI n EQ.DFE_TAP2
  let t1 := clampI 0 384 d1
  let t2 := clampI (-128) 128 d2
  let s2 := (s1.setI n EQ.DFE_TAP1 t1).setI n EQ.DFE_TAP2 t2
  let s3 := s2.modEq n fun x => { x with dfe := [t1 * tapUnit, t2 * tapUnit] }
  (s3.satFlags n EQ.SAT_FLAGS EQ.IRQ_SAT (if t1 = d1 ∧ t2 = d2 then 0 else 8)).eqStatus n

/-- A dress notice reaches EQ (R241). -/
def doDressNotice (n : Ch) (s : State) : State :=
  match (s.chan n).notices with
  | [] => s
  | src :: rest =>
    let s1 := s.modCh n fun c => { c with notices := rest }
    let s2 := (s1.incr n EQ.NOTICE_COUNT).count n 0x33 2 src
    (s2.modEq n fun x => { x with frozen := x.frozen + 1 }).eqStatus n

/-- HOLD core words have passed since the first symbol of a notice; the freeze lasts until the latest of the overlapping
ends (R241). -/
def doNoticeEnd (n : Ch) (s : State) : State :=
  if (s.chan n).eq.frozen = 0 then s
  else (s.modEq n fun x => { x with frozen := x.frozen - 1 }).eqStatus n

/-! ## Guard and measurements -/

/-- GUARD % and TRANS_MIN % as R243 limits them. -/
def State.guardPct (s : State) (n : Ch) : Nat := max 1 (s.get n EQ.GUARD_CFG_GUARD)
def State.transMin (s : State) (n : Ch) : Nat := clampN 25 75 (s.get n EQ.GUARD_CFG_TRANS_MIN)

/-- The five tests of a window of 2^20 symbols as GUARD_CAUSE shows them: [4] transitions, [3:0] the levels (R243). -/
def State.guardCause (s : State) (n : Ch) (occ : List Nat) (trans : Nat) : Nat :=
  let g := s.guardPct n
  let bad := fun o : Nat => decide (100 * o < (25 - g) * 1048576) || decide ((25 + g) * 1048576 < 100 * o)
  let b := fun i : Nat => if bad (occ.getD i 0) then 2 ^ i else 0
  b 0 + b 1 + b 2 + b 3 + (if 100 * trans < s.transMin n * 1048576 then 16 else 0)


/-- The guard's judgement of a window in TRACK (R243, R244). -/
def State.guardJudge (s : State) (n : Ch) (cause : Nat) : State :=
  if ! s.is n EQ.GUARD_CFG_EN then s
  else
    let s0 := if cause = 0 then s else s.set n EQ.STATUS_GUARD_CAUSE cause
    if s.is n EQ.STATUS_GUARD_HOLD then
      if cause ≠ 0 then s0.modEq n fun x => { x with passes := 0 }
      else if (s.chan n).eq.passes < 3 then s0.modEq n fun x => { x with passes := x.passes + 1 }
      else ((s0.holdDrop n).irq n EQ.IRQ_GUARD_RELEASE).levels n
    else if cause = 0 then s0
    else
      let s1 := (s0.set n EQ.STATUS_GUARD_HOLD 1).irq n EQ.IRQ_GUARD_ENTER
      let s2 := (s1.sat n EQ.GUARD_COUNT_ENTRIES).count n 0x32 2 0
      (s2.modEq n fun x => { x with passes := 0, holdAt := s.dev.ticks, longSeen := false }).levels n

/-- 10 log10(a / b) in 1/16 dB, rounded down: the greatest k with 10^k b^160 ≤ a^160 from `k` on; 0 below 0 dB, and at its limit
where the noise is 0, whose logarithm the spec does not state (log entry 39). -/
def dbSearch (a b k : Nat) : Nat → Nat
  | 0 => k
  | fuel + 1 => if 10 * b ≤ a then dbSearch a (10 * b) (k + 1) fuel else k
def snr16 (a b : Nat) : Nat := if b = 0 then 65535 else dbSearch (a ^ 160) (b ^ 160) 0 4096

/-- The SNRs of a window (R248) from the variances of y about the levels, in 2^-32 of the square of half the level spacing. -/
def levelSnr (w : EqWindow) (k : Nat) : Nat := snr16 4294967296 (w.vars.getD k 0)
def overallSnr (w : EqWindow) : Nat :=
  snr16 (20 * 4294967296) (w.vars.getD 0 0 + w.vars.getD 1 0 + w.vars.getD 2 0 + w.vars.getD 3 0)

/-- The measurements of a window reported (R243, R248); a level with no symbols reads 0. -/
def State.eqReport (s : State) (n : Ch) (w : EqWindow) : State :=
  let occ := fun i : Nat => w.occ.getD i 0
  let snr := fun i : Nat => if occ i = 0 then 0 else levelSnr w i
  let mean := fun i : Nat => if occ i = 0 then (0 : Int) else w.means.getD i 0
  let s1 := (s.setSat n EQ.SNR_L01_LOW (snr 0)).setSat n EQ.SNR_L01_HIGH (snr 1)
  let s2 := (s1.setSat n EQ.SNR_L23_LOW (snr 2)).setSat n EQ.SNR_L23_HIGH (snr 3)
  let s3 := (s2.setI n EQ.LEVEL01_LOW (mean 0)).setI n EQ.LEVEL01_HIGH (mean 1)
  let s4 := (s3.setI n EQ.LEVEL23_LOW (mean 2)).setI n EQ.LEVEL23_HIGH (mean 3)
  let s5 := (s4.setSat n EQ.OCC01_LOW (occ 0 / 16)).setSat n EQ.OCC01_HIGH (occ 1 / 16)
  let s6 := (s5.setSat n EQ.OCC23_LOW (occ 2 / 16)).setSat n EQ.OCC23_HIGH (occ 3 / 16)
  let s7 := (s6.setSat n EQ.TRANS_DENSITY (w.trans / 16)).setSat n EQ.SNR_DB16 (overallSnr w)
  s7.satFlags n EQ.SAT_FLAGS EQ.IRQ_SAT w.sat.toNat

/-- A window of 2^20 symbols ends in ACQ or TRACK (R242, R243, R248). -/
def doGuardWindow (n : Ch) (w : EqWindow) (s : State) : State :=
  match s.eqState n with
  | 2 =>
    let s1 := s.eqReport n w
    let k := (s.chan n).eq.windows + 1
    if max 1 (s.get n EQ.CFG_ACQ_WINDOWS) ≤ k then
      let s2 := (s1.set n EQ.STATUS_EQ_STATE 3).modEq n fun x => { x with windows := 0, lowRun := 0 }
      (s2.irq n EQ.IRQ_EQ_READY).levels n
    else s1.modEq n fun x => { x with windows := k }
  | 3 =>
    let s1 := s.eqReport n w
    let low := decide (overallSnr w < s.get n EQ.SNR_CFG_FLOOR)
    let run := if low && ! s.is n EQ.STATUS_GUARD_HOLD then (s.chan n).eq.lowRun + 1 else 0
    let s2 := (if low then s1.irq n EQ.IRQ_SNR_LOW else s1).modEq n fun x => { x with lowRun := run }
    if 4 ≤ run then
      let s3 := (s2.raise n EQ.FLT_EQ_DIVERGE).irq n EQ.IRQ_DIVERGE
      if s3.eqState n = 3 then ((s3.eqEnter n 2).eqTapsReset n).levels n else s3
    else s2.guardJudge n (s.guardCause n w.occ w.trans)
  | _ => s

/-- One hold has outlasted LONG_MS (R244). -/
def doGuardLong (n : Ch) (s : State) : State :=
  if s.is n EQ.STATUS_GUARD_HOLD && ! (s.chan n).eq.longSeen then
    ((s.raise n EQ.FLT_GUARD_LONG).sat n EQ.GUARD_COUNT_LONG).modEq n fun x => { x with longSeen := true }
  else s

/-- CMD.RESTART accepted (R247). -/
def State.eqRestart (s : State) (n : Ch) : State :=
  if s.eqState n = 0 then s
  else ((s.eqWait n).eqTapsReset n).levels n

/-! ## Eye monitor -/

/-- EYE_CTRL.START: in TRACK with no run, the region is cleared and phase 0 starts (R250). -/
def State.eyeStart (s : State) (n : Ch) : State :=
  if s.eqState n = 3 ∧ s.is n EQ.BUSY_LONG_OP = false then
    (((s.memZero (chMem n 5) 4096 4096).set n EQ.EYE_STATUS_STATE 2).set n EQ.EYE_STATUS_PHASE 0).set n
      EQ.BUSY_LONG_OP 1
  else s

/-- Bin (a, p) plus a count, saturating; a word that has gone uncorrectable since the clearing step takes no increment
(R249, R422). -/
def State.eyeBin (s : State) (n : Ch) (a p k : Nat) : State :=
  let m := chMem n 5
  let b := 0x8000 + 2 * (64 * a + p)
  match s.memRead m (b / 8) reqDresser with
  | (none, s1) => s1
  | (some v, s1) =>
    let new := min 65535 (v / 2 ^ (b % 8 * 8) % 65536 + k)
    let s2 := s1.memWrite m (b / 8) (mergeBytes v (b % 8) 2 new)
    if new = 65535 then s2.satFlags n EQ.SAT_FLAGS EQ.IRQ_SAT 64 else s2

/-- The bins of one phase. -/
def State.eyeBins (s : State) (n : Ch) (p : Nat) : List (Fin 256 × Nat) → State
  | [] => s
  | (a, k) :: l => State.eyeBins (s.eyeBin n a p k) n p l

/-- The dwell of a phase ends: its bins take their counts, and the next phase or EYE_DONE follows (R249, R250). -/
def doEyePhaseEnd (n : Ch) (hits : List (Fin 256 × Nat)) (s : State) : State :=
  if s.get n EQ.EYE_STATUS_STATE ≠ 2 ∨ s.is n EQ.BUSY_LONG_OP = false then s
  else
    let p := s.get n EQ.EYE_STATUS_PHASE
    let s1 := s.eyeBins n p hits
    if p < 63 then s1.set n EQ.EYE_STATUS_PHASE (p + 1)
    else ((s1.set n EQ.EYE_STATUS_STATE 3).set n EQ.BUSY_LONG_OP 0).irq n EQ.IRQ_EYE_DONE

/-- CMD.CLR_STATS (R253). -/
def State.eqClear (s : State) (n : Ch) : State :=
  ((s.set n EQ.GUARD_COUNT 0).set n EQ.NOTICE_COUNT 0).modEq n fun x => { x with held := 0, holdAt := s.dev.ticks }

/-- What a parity error of EQ, the guard, the eye monitor or the page's registers does beside its fault (R251). -/
def State.eqParity (s : State) (n : Ch) : State := (if s.eqState n = 0 then s else s.eqOff n).levels n

end Sys2Proof.Machine
end

