-- ==== Sys2Proof/Machine/Bolt.lean ====
section
/-! DEFINITION. The Bolter commands: acquisition and lock windows, block decoding, the error estimate (R254 to R269). -/

namespace Sys2Proof.Machine

/-- ACQ_FRAC and LOSS_FRAC with 0 acting as 1, LOSS_FRAC at most ACQ_FRAC, and LOSS_COUNT at least 16 (R258, R259). -/
def State.acqFrac (s : State) (n : Ch) : Nat := max 1 (s.get n BOLT.LOCK_CFG_ACQ_FRAC)
def State.lossFrac (s : State) (n : Ch) : Nat := min (s.acqFrac n) (max 1 (s.get n BOLT.LOCK_CFG_LOSS_FRAC))
def State.lossCount (s : State) (n : Ch) : Nat := max 16 (s.get n BOLT.LOCK_CFG_LOSS_COUNT)

/-- The winner among the offsets from `o` on, `k` of them: the highest count at the threshold or above, the lowest offset
among equals (R258). -/
def huntWinner (counts : List Nat) (thr o : Nat) : Nat → Option Nat
  | 0 => none
  | k + 1 =>
    let c := counts.getD o 0
    match huntWinner counts thr (o + 1) k with
    | some w => if thr ≤ c ∧ counts.getD w 0 ≤ c then some o else some w
    | none => if thr ≤ c then some o else none

/-- An acquisition window ends with `counts` passing blocks at the 64 offsets (R258). -/
def doAcqWindowEnd (n : Ch) (counts : List Nat) (s : State) : State :=
  let thr := s.acqFrac n * 4
  let x := (s.chan n).bolt
  if s.eqState n ≠ 2 ∧ s.eqState n ≠ 3 then s
  else
    match s.boltState n with
    | 1 =>
      match huntWinner counts thr x.group 16 with
      | some o =>
        ((s.set n BOLT.STATUS_STATE 2).set n BOLT.STATUS_OFFSET o).modBolt n fun y => { y with confirms := 0 }
      | none => s.modBolt n fun y => { y with group := (y.group + 16) % 64 }
    | 2 =>
      let o := s.get n BOLT.STATUS_OFFSET
      if thr ≤ counts.getD o 0 then
        if x.confirms = 0 then s.modBolt n fun y => { y with confirms := 1 }
        else
          let s1 := (s.set n BOLT.STATUS_STATE 3).set n BOLT.STATUS_BLOCK_LOCK 1
          let s2 := s1.modBolt n fun y => { y with confirms := 0, lossRun := 0, blocks := 0, corr := 0, unc := 0 }
          (s2.irq n BOLT.IRQ_BLOCK_LOCK).levels n
      else
        (s.set n BOLT.STATUS_STATE 1).modBolt n fun y =>
          { y with confirms := 0, group := (o / 16 * 16 + 16) % 64 }
    | _ => s

/-- A lock window of 2^16 blocks ends, `zeros` of them with a zero hard-decision syndrome (R259). -/
def doLockWindowEnd (n : Ch) (zeros : Nat) (s : State) : State :=
  if s.boltState n ≠ 3 then s
  else if s.lossFrac n * 256 ≤ zeros then s.modBolt n fun x => { x with lossRun := 0 }
  else if (s.chan n).bolt.lossRun + 1 < s.lossCount n then s.modBolt n fun x => { x with lossRun := x.lossRun + 1 }
  else
    let s1 := (s.raise n BOLT.FLT_BLOCK_LOST).irq n BOLT.IRQ_BLOCK_LOST
    let s2 := s1.sat n BOLT.LOCK_COUNT_LOST
    (if s2.boltState n = 3 then s2.boltDrop n 1 else s2).levels n

/-- BITS with values above 8 acting as 8 (R265). -/
def State.eraseBits (s : State) (n : Ch) : Nat := min 8 (s.get n BOLT.ERASE_CFG_BITS)

/-- Whether a block is flagged as unreliable (R265). -/
def flagged (margin : Nat) : Option (Candidate × Option Nat) → Bool
  | none => true
  | some (_, none) => false
  | some (c, some m) => decide (m < c.metric + margin)

/-- The RS symbols that contain a marked bit, marked for the line side's decoder while it is LOCKED (R167, R265): positions
from 544 on belong to the codeword after the one in which the block begins. -/
def State.markSymbols (s : State) (n : Ch) (pos : Nat) (marks : List Nat) : State :=
  if s.sideLocked n 1 then
    s.modHfec n fun y => { y with marks := ((marks.map fun i => (pos + i) / 10) ++ y.marks).eraseDups }
  else s

/-- A block is framed: outside LOCKED its hard message bits pass; in LOCKED it is decoded, checked, flagged and counted
(R257, R262 to R267).  The check of R263 fails only through an armed CE with TARGET 0x01 (R269).  `pos` is the place of the
block's first message bit in the codeword of the line side (R167). -/
def doBlockDecode (n : Ch) (b : SoftBlock) (pos : Nat) (s : State) : State :=
  let bits := hardBits b.gray
  if ! s.modeActive n then s
  else if s.boltState n ≠ 3 then s.modBolt n fun x => { x with msg := bits.take 120, marks := [] }
  else
    let rel := reliabilities (s.chan n).eq.mu (s.is n EQ.STATUS_PRECODE_ACTIVE) b.prev b.values
    let found := chase bits rel
    let hit := s.armed n BOLT.STATUS 0 && s.get n BOLT.INJECT_TARGET == 1
    let s0 :=
      if hit then (s.disarm n BOLT.STATUS 0).raise n BOLT.FLT_DEC_CHECK { flags := 1 } else s
    let result := if hit then none else found
    let flag := flagged (s.get n BOLT.ERASE_CFG_MARGIN) result
    let marks := if flag then weakestK (rel.take 120) (s.eraseBits n) [] else []
    let s1 := (s0.markSymbols n pos marks).add64 n BOLT.BLOCKS_LO
    let s2 := if flag then s1.add64 n BOLT.FLAGGED_LO else s1
    match result with
    | some (c, _) =>
      let k := c.diff.length
      let s3 := (s2.add64 n BOLT.BITS_CORR_LO k).add64 n (BOLT.HIST_LO k)
      let s4 := if 0 < k then s3.count n 0x37 2 0 k else s3
      s4.modBolt n fun x =>
        { x with msg := (flipBits c.diff 0 bits).take 120, marks, blocks := x.blocks + 1, corr := x.corr + k }
    | none =>
      let s3 := (s2.add64 n BOLT.UNCORR_LO).count n 0x36 2 0
      s3.modBolt n fun x => { x with msg := bits.take 120, marks, blocks := x.blocks + 1, unc := x.unc + 1 }

/-- The least `c` from `c` on, at most 254, with 2^992 < S^32 × 10^(2c+1): round(-16 × log10(S / 2^31)) (R268). -/
def berCodeFrom (sum : Nat) : Nat → Nat → Nat
  | 0, c => c
  | k + 1, c => if 2 ^ 992 < sum ^ 32 * 10 ^ (2 * c + 1) then c else berCodeFrom sum k (c + 1)

/-- BER_EST.CODE of a window's sum (R268). -/
def berCode (sum : Nat) : Nat := if sum = 0 then 0xFF else berCodeFrom sum 254 0

/-- The blocks of an estimate window (R268). -/
def berWindow : Nat := 16777216

/-- A window of 2^24 blocks ends (R268). -/
def doBerWindowEnd (n : Ch) (s : State) : State :=
  if s.boltState n ≠ 3 ∨ (s.chan n).bolt.blocks < berWindow then s
  else
    let x := (s.chan n).bolt
    let code := berCode (x.corr + 4 * x.unc)
    let s1 := (s.set n BOLT.WIN_CORR x.corr).set n BOLT.WIN_UNC_COUNT x.unc
    let s2 := ((s1.set n BOLT.BER_EST_CODE code).set n BOLT.BER_EST_VALID 1).set n BOLT.STATUS_BER_VALID 1
    let s3 := (s2.irq n BOLT.IRQ_WINDOW_END).modBolt n fun y => { y with blocks := 0, corr := 0, unc := 0 }
    if code ≤ s.get n BOLT.BER_CFG_THRESH then (s3.raise n BOLT.FLT_BER_HIGH).irq n BOLT.IRQ_BER_HIGH else s3

/-- CMD.CLR_CNT: the counters and LOCK_COUNT at zero (R267). -/
def State.boltClear (s : State) (n : Ch) : State :=
  let b := chPage n 8
  (s.mapRegs (b + 0x100) (b + 0x200) (fun _ _ => 0)).set n BOLT.LOCK_COUNT 0

/-- What a parity error of the lock state machine, the decoder control or the page's registers does beside its fault:
OFF while it stays latched (R269). -/
def State.boltParity (s : State) (n : Ch) : State := s.levels n

end Sys2Proof.Machine
end

