-- ==== Sys2Proof/Machine/Outer.lean ====
section
/-! DEFINITION. The outer code bit by bit (R157, R161, R166, R167, R169, R170): codewords and their FEC lanes, the
Reed-Solomon encoder, transcoding, scrambling, Local Fault.  Where the spec names IEEE 802.3 without its text the layouts are
PRESUMED from that standard (log entry 58). -/

namespace Sys2Proof.Machine

/-! ## Codewords (R157) -/

/-- The symbols of a codeword, those of its message, and the codewords of a marker period. -/
def rsSymbols : Nat := 544
def rsMessage : Nat := 514
def markerPeriod : Nat := 4096

/-- FEC lanes of a mode: 8 in M425, 4 in M212, 1 in M106. -/
def fecLanes (mode : Nat) : Nat :=
  match mode with
  | 3 => 8
  | 2 => 4
  | _ => 1

/-- The symbols that a FEC lane carries, every `k`-th of the codeword from its own on. -/
def fecLane (k lane : Nat) (symbols : List Nat) : List Nat :=
  (List.range (symbols.length / k)).map fun i => symbols.getD (i * k + lane) 0

/-- A codeword spread over `k` FEC lanes, and put together again. -/
def interleave (k : Nat) (symbols : List Nat) : List (List Nat) := (List.range k).map fun l => fecLane k l symbols
def deinterleave (k count : Nat) (lanes : List (List Nat)) : List Nat :=
  (List.range count).map fun i => (lanes.getD (i % k) []).getD (i / k) 0

/-- The number of a run of bits, the first the least significant. -/
def natOfBits : List Bool → Nat
  | [] => 0
  | b :: bs => (if b then 1 else 0) + 2 * natOfBits bs

/-- `k` pieces of `w` bits. -/
def pieces {α : Type} (w : Nat) : Nat → List α → List (List α)
  | 0, _ => []
  | k + 1, l => l.take w :: pieces w k (l.drop w)

/-- The bits of 10-bit symbols, and the symbols of a message of 5,140 bits. -/
def bitsOfSymbols (symbols : List Nat) : List Bool :=
  symbols.flatMap fun v => (List.range 10).map fun i => v.testBit i
def messageSymbols (bits : List Bool) : List Nat := (pieces 10 rsMessage bits).map natOfBits

/-- The 20 blocks of 257 bits of a codeword. -/
def codeBlocks (symbols : List Nat) : List (List Bool) := pieces 257 20 (bitsOfSymbols (symbols.take rsMessage))

/-! ## RS(544,514) over GF(2^10), x^10 + x^3 + 1 -/

/-- A field element times α, times α^k, and a product. -/
def gfDouble (a : Nat) : Nat := if 512 ≤ a then (2 * a) ^^^ 0x409 else 2 * a
def gfMulBits (a b : Nat) : Nat → Nat
  | 0 => 0
  | k + 1 => (if b.testBit k then iter gfDouble k a else 0) ^^^ gfMulBits a b k
def gfMul (a b : Nat) : Nat := gfMulBits a b 10

/-- The coefficients below the leading one of (x + α^0)…(x + α^(k-1)), the highest first. -/
def rsGen : Nat → List Nat
  | 0 => []
  | k + 1 =>
    let c := rsGen k
    List.zipWith (fun x y => x ^^^ y) (c ++ [0]) ((1 :: c).map (gfMul (iter gfDouble k 1)))

/-- The division register after a run of message symbols. -/
def rsRun (g : List Nat) : List Nat → List Nat → List Nat
  | r, [] => r
  | r, m :: ms =>
    let q := m ^^^ r.headD 0
    rsRun g (List.zipWith (fun x y => x ^^^ y) (r.tail ++ [0]) (g.map (gfMul q))) ms

/-- A message with its 30 parity symbols. -/
def rsEncode (msg : List Nat) : List Nat := msg ++ rsRun (rsGen 30) (List.replicate 30 0) msg

/-- The result of a codeword with `errs` symbol errors, `marked` erased positions of which `hit` are in error: the
symbols corrected and the marks used, or none when it is uncorrectable (R157, R167). -/
def rsDecode (errs marked hit : Nat) : Option (Nat × Nat) :=
  if 0 < marked ∧ 2 * (errs - hit) + marked ≤ 30 then some (errs, marked)
  else if errs ≤ 15 then some (errs, 0)
  else none

/-- The positions, counted from `i`, at which two symbol strings differ. -/
def errorsFrom (i : Nat) : List Nat → List Nat → List Nat
  | x :: xs, y :: ys => if x = y then errorsFrom (i + 1) xs ys else i :: errorsFrom (i + 1) xs ys
  | _, _ => []

/-- What a side sends for a codeword in Terminate: the corrected message with its parity recomputed (R167), or a valid
codeword over the 20 blocks, each marked invalid (R169). -/
def correctedCodeword (code : List Nat) : List Nat := rsEncode (code.take rsMessage)
def invalidCodeword (rx : List Nat) : List Nat :=
  rsEncode (messageSymbols ((codeBlocks rx).flatMap Config.errorBlock))

/-! ## Transcoding and scrambling (R166, R170) -/

/-- The second nibble of the 64b/66b block type whose first nibble is `v`. -/
def typeNibble (v : Nat) : Nat := [0, 14, 13, 3, 11, 5, 6, 8, 7, 9, 10, 4, 12, 2, 1, 15].getD v 0

/-- The four bits of a nibble. -/
def nibble (v : Nat) : List Bool := (List.range 4).map fun i => v.testBit i

/-- Whether a 66-bit block is a data block. -/
def isData66 (b : List Bool) : Bool := b.take 2 == [false, true]

/-- The payloads of 66-bit blocks, the first control block's without the second nibble of its type. -/
def squeeze : Bool → List (List Bool) → List Bool
  | _, [] => []
  | done, b :: bs =>
    let p := b.drop 2
    if done || isData66 b then p ++ squeeze done bs else p.take 4 ++ p.drop 8 ++ squeeze true bs

/-- Four 66-bit blocks as one of 257 bits. -/
def transcode (bs : List (List Bool)) : List Bool :=
  if bs.all isData66 then true :: bs.flatMap (fun b => b.drop 2)
  else false :: bs.map isData66 ++ squeeze false bs

/-- The 66-bit blocks of the flags and payloads of a block with control, the first control block's type completed. -/
def unsqueeze : Bool → List Bool → List Bool → List (List Bool)
  | _, [], _ => []
  | done, true :: fs, p => ([false, true] ++ p.take 64) :: unsqueeze done fs (p.drop 64)
  | true, false :: fs, p => ([true, false] ++ p.take 64) :: unsqueeze true fs (p.drop 64)
  | false, false :: fs, p =>
    ([true, false] ++ p.take 4 ++ nibble (typeNibble (natOfBits (p.take 4))) ++ (p.drop 4).take 56) ::
      unsqueeze true fs (p.drop 60)

/-- A 257-bit block as four 66-bit blocks. -/
def transcodeBack (x : List Bool) : List (List Bool) :=
  if x.headD false then (pieces 64 4 x.tail).map fun p => [false, true] ++ p
  else unsqueeze false (x.tail.take 4) (x.drop 5)

/-- The self-synchronising scrambler 1 + x^39 + x^58 and its inverse; the state holds the last 58 scrambled bits, the latest
first. -/
def scramble (st : List Bool) : List Bool → List Bool × List Bool
  | [] => ([], st)
  | b :: bs =>
    let y := xor b (xor (st.getD 38 false) (st.getD 57 false))
    let r := scramble (y :: st.take 57) bs
    (y :: r.1, r.2)
def descramble (st : List Bool) : List Bool → List Bool × List Bool
  | [] => ([], st)
  | b :: bs =>
    let r := descramble (b :: st.take 57) bs
    (xor b (xor (st.getD 38 false) (st.getD 57 false)) :: r.1, r.2)

/-- The payloads of 66-bit blocks descrambled, their two sync bits kept. -/
def descrambleBlocks (st : List Bool) : List (List Bool) → List (List Bool) × List Bool
  | [] => ([], st)
  | b :: bs =>
    let p := descramble st (b.drop 2)
    let r := descrambleBlocks p.2 bs
    ((b.take 2 ++ p.1) :: r.1, r.2)

/-- The Local Fault ordered set in a 64b/66b block: type 0x4B, the bytes 0, 0, 1 and zeros. -/
def localFault66 : List Bool := [true, false] ++ bitsOfBytes [0x4B, 0, 0, 1, 0, 0, 0, 0]

/-- A codeword of the Local Fault generator from the scrambler state `st`: 80 blocks transcoded, scrambled and RS-encoded
(R170). -/
def faultCodeword (st : List Bool) : List Nat × List Bool :=
  let r := scramble st ((List.replicate 20 (transcode (List.replicate 4 localFault66))).flatMap id)
  (rsEncode (messageSymbols r.1), r.2)

/-! ## The lanes of P (R161) -/

/-- The words of the deskew buffer of a lane and the greatest skew it absorbs, in UI. -/
def deskewWords : Nat := 64
def deskewLimit : Nat := 15872

end Sys2Proof.Machine
end

