-- ==== Sys2Proof/Machine/Hfec.lean ====
section
/-! DEFINITION. The outer-code commands: marker periods, slips, codewords, windows (R157 to R176). -/

namespace Sys2Proof.Machine

/-- AM_TOL with 9 to 15 acting as 8 (R158, R176). -/
def State.amTol (s : State) (n : Ch) : Nat := min 8 (s.get n HFEC.CFG_AM_TOL)

/-- Whether the lane-identifying fields of a marker are admitted: as at the previous valid marker, or without one a
set the standard allows (R158). -/
def State.lanesOk (s : State) (n : Ch) (h : Fin 3) (prev lanes : Nat) : Bool :=
  if prev = 0 then lanes == 1 || (lanes == 2 && h != 2 && s.optP n) else lanes == prev

/-- Whether a marker's fixed bytes and lane fields make it valid (R158). -/
def State.markerGood (s : State) (n : Ch) (h : Fin 3) (m : Marker) : Bool :=
  decide (m.badBits ≤ s.amTol n) && s.lanesOk n h ((s.chan n).hfec.hunter h).lanes m.lanes

/-- A hunter's leaving LOCKED or a failed confirmation: HUNT from `start`, or in MANUAL CHECK (R159). -/
def lostTo (manual : Bool) (v : Hunter) (start : Nat) : Hunter :=
  { v with state := if manual then 2 else 1, start, bad := 0, skewBad := 0 }

/-- The hunter after a judged period: `ok` says that the marker at `m.offset` is good, `skewOut` that the skew moved by
more than 64 UI (R159, R162). -/
def hunterNext (width : Nat) (manual : Bool) (v : Hunter) (m : Marker) (ok skewOut : Bool) : Hunter :=
  match v.state with
  | 1 =>
    if ok && decide ((m.offset + width - v.start) % width < 128) then
      { v with state := 3, pos := m.offset, lanes := m.lanes }
    else { v with start := (v.start + 128) % width }
  | 2 => if ok && m.offset == v.pos then { v with state := 3, lanes := m.lanes } else v
  | 3 =>
    if ok && m.offset == v.pos then { v with state := 4, bad := 0, skewBad := 0, lanes := m.lanes }
    else lostTo manual v ((v.pos + 1) % width)
  | 4 =>
    if ok && m.offset == v.pos && !skewOut then { v with bad := 0, skewBad := 0, lanes := m.lanes }
    else if v.bad + 1 < 5 then { v with bad := v.bad + 1, skewBad := if skewOut then v.skewBad + 1 else 0 }
    else lostTo manual v (v.pos / 128 * 128)
  | _ => v

/-- ALIGN_LOST of a side, with its fault and its counts (R159). -/
def State.alignLost (s : State) (n : Ch) (d : Fin 2) : State :=
  if d = 0 then
    (((s.raise n HFEC.FLT_ALIGN_LOST_HOST).irq n HFEC.IRQ_HOST_ALIGN_LOST).sat n HFEC.LOSS_COUNT_HOST).count n
      0x2B 1 0
  else
    (((s.raise n HFEC.FLT_ALIGN_LOST_LINE).irq n HFEC.IRQ_LINE_ALIGN_LOST).sat n HFEC.LOSS_COUNT_LINE).count n
      0x2B 2 0

/-- A side that has entered LOCKED since `s0`: its periods count from 0, and its generator will continue its cadence (R170,
R176). -/
def State.sideEdge (s : State) (s0 : State) (n : Ch) (d : Fin 2) : State :=
  if s.sideLocked n d && !s0.sideLocked n d then
    if d = 0 then (s.set n HFEC.ALIGN_POS_HOST_PERIODS 0).modHfec n fun y => { y with heldHost := true }
    else (s.set n HFEC.ALIGN_POS_LINE_PERIODS 0).modHfec n fun y => { y with heldLine := true, marks := [] }
  else s

/-- The hunters that have entered LOCKED or left it for a state other than OFF since `s0`: ALIGN_LOCK and ALIGN_LOST, in P of
each lane's hunter; both lanes' hunters leaving together are one loss (R159, R162; log entry 34). -/
def State.alignEdges (s s0 : State) (n : Ch) : State :=
  let x0 := (s0.chan n).hfec
  let x := (s.chan n).hfec
  let rose := fun h : Fin 3 => (x.hunter h).state == 4 && (x0.hunter h).state != 4
  let fell := fun h : Fin 3 => (x0.hunter h).state == 4 && (x.hunter h).state != 4 && (x.hunter h).state != 0
  let s1 := if rose 0 || rose 1 then s.irq n HFEC.IRQ_HOST_ALIGN_LOCK else s
  let s2 := if rose 2 then s1.irq n HFEC.IRQ_LINE_ALIGN_LOCK else s1
  let s3 := if fell 0 || fell 1 then s2.alignLost n 0 else s2
  let s4 := if fell 2 then s3.alignLost n 1 else s3
  (s4.sideEdge s0 n 0).sideEdge s0 n 1

/-- Both lanes' hunters out of the lock (R161, R162). -/
def HfecSt.dropLanes (y : HfecSt) : HfecSt :=
  { y with h0 := lostTo y.manHost y.h0 (y.h0.pos / 128 * 128), h1 := lostTo y.manHost y.h1 (y.h1.pos / 128 * 128) }

/-- The skew of the two lanes of P, measured once both hunters are at least in CONFIRM and reported: applied in range, the
swap decided, or both hunters back to HUNT with DESKEW_LOST (R161, R162). -/
def State.deskew (s : State) (n : Ch) (m : Marker) : State :=
  let x := (s.chan n).hfec
  if s.optP n && decide (3 ≤ x.h0.state) && decide (3 ≤ x.h1.state) then
    let s1 := (s.setSat n HFEC.DESKEW_SKEW_UI m.skew.natAbs).set n HFEC.DESKEW_LATE (if m.skew < 0 then 1 else 0)
    if m.skew.natAbs ≤ deskewLimit then
      let s2 := (s1.set n HFEC.STATUS_DESKEW_LOCK 1).set n HFEC.STATUS_LANE_SWAP (if x.h0.lanes = 2 then 1 else 0)
      s2.modHfec n fun y => { y with skew := m.skew }
    else ((s1.set n HFEC.STATUS_DESKEW_LOCK 0).modHfec n HfecSt.dropLanes).raise n HFEC.FLT_DESKEW_LOST
  else s

/-- The two lanes' streams after reorder and deskew: HL2n+1 first where the lanes are swapped, and the earlier lane read
SKEW_UI later (R161). -/
def State.deskewed {α : Type} (s : State) (n : Ch) (a b : List α) : List α × List α :=
  let k := s.get n HFEC.DESKEW_SKEW_UI
  let p := if s.is n HFEC.DESKEW_LATE then (a, b.drop k) else (a.drop k, b)
  if s.is n HFEC.STATUS_LANE_SWAP then (p.2, p.1) else p

/-- A marker falls due at hunter `h` (R159 to R162, R171).  A slip that takes effect in the same word wins (R164): it
has then been applied and the marker is not this command.  The fifth skew-invalid period in a row ends the lock of both lanes
(R162). -/
def doMarkerPeriod (n : Ch) (h : Fin 3) (m : Marker) (s : State) : State :=
  let x := (s.chan n).hfec
  let v := x.hunter h
  if v.state = 0 then s
  else
    let d : Fin 2 := if h = 2 then 1 else 0
    let was := s.sideLocked n d
    let skewOut := h != 2 && s.optP n && was && decide (64 < (m.skew - x.skew).natAbs)
    let v' := hunterNext (hunterWidth h) (x.manual h) v m (s.markerGood n h m) skewOut
    let s1 := s.modHfec n fun y => y.setHunter h v'
    let s2 :=
      if h = 2 then s1
      else if v'.state < 3 then
        let s3 := s1.set n HFEC.STATUS_DESKEW_LOCK 0
        if v.state = 4 ∧ skewOut = true ∧ v.skewBad = 4 then (s3.modHfec n HfecSt.dropLanes).raise n HFEC.FLT_DESKEW_LOST
        else s3
      else if skewOut then s1
      else s1.deskew n m
    let s4 :=
      if was && s2.sideLocked n d && h != 1 then
        s2.sat n (if d = 0 then HFEC.ALIGN_POS_HOST_PERIODS else HFEC.ALIGN_POS_LINE_PERIODS)
      else s2
    let s5 :=
      if was && (d == 0 || !s.is n FLT.STATUS_SAFE) then
        s4.set n (if d = 0 then HFEC.STATUS_LF_TO_LINE else HFEC.STATUS_LF_TO_HOST) 0
      else s4
    (s5.alignEdges s n).levels n

/-- SLIP.GO written with the SIDE and BITS that the register then holds: accepted or refused at once, pending until the
word boundary (R163). -/
def State.slipGo (s : State) (n : Ch) : State :=
  let x := (s.chan n).hfec
  if x.slip.isSome then s
  else
    let side := s.get n HFEC.SLIP_SIDE
    let bits := s.get n HFEC.SLIP_BITS
    let man := if side = 1 then x.manLine else x.manHost
    let off := if side = 1 then x.line.state == 0 else x.h0.state == 0
    let ok := man && decide (1 ≤ bits ∧ bits ≤ 10) && !off
    let s1 := (s.set n HFEC.SLIP_GO 1).modHfec n fun y => { y with slip := some (side, bits, ok) }
    if ok then s1 else s1.irq n HFEC.IRQ_SLIP_REFUSED

/-- A hunter moved `bits` later in the stream: CHECK, any lock dropped silently (R163). -/
def slipHunter (width bits : Nat) (v : Hunter) : Hunter :=
  if v.state = 0 then v
  else { v with state := 2, pos := (v.pos + bits) % width, bad := 0, skewBad := 0 }

/-- The word boundary at which a pending slip takes effect (R163, R164). -/
def doSlipApply (n : Ch) (s : State) : State :=
  match (s.chan n).hfec.slip with
  | none => s
  | some (side, bits, ok) =>
    let s1 := (s.set n HFEC.SLIP_GO 0).modHfec n fun y => { y with slip := none }
    if ok then
      let s2 :=
        if side = 1 then s1.modHfec n fun y => { y with line := slipHunter 480 bits y.line }
        else
          (s1.modHfec n fun y => { y with h0 := slipHunter 512 bits y.h0, h1 := slipHunter 512 bits y.h1 }).set n
            HFEC.STATUS_DESKEW_LOCK 0
      ((s2.irq n HFEC.IRQ_SLIP_DONE).sat n HFEC.MISC_COUNT_SLIP_COUNT).levels n
    else s1

/-- A hunter under a MANUAL setting that takes effect (R164). -/
def switchHunter (manual : Bool) (v : Hunter) : Hunter :=
  match manual, v.state with
  | true, 1 => { v with state := 2, pos := v.start }
  | false, 2 => { v with state := 1, start := v.pos }
  | _, _ => v

/-- The word boundary at which writes of MANUAL_HOST and MANUAL_LINE take effect (R164). -/
def doManualSwitch (n : Ch) (s : State) : State :=
  let mh := s.is n HFEC.CFG_MANUAL_HOST
  let ml := s.is n HFEC.CFG_MANUAL_LINE
  let s1 := s.modHfec n fun y =>
    if y.manHost = mh then y
    else { y with manHost := mh, h0 := switchHunter mh y.h0, h1 := switchHunter mh y.h1 }
  let s2 := s1.modHfec n fun y =>
    if y.manLine = ml then y else { y with manLine := ml, line := switchHunter ml y.line }
  s2.alignStatus n


/-- The copy of a codeword handed to Tally, when side `d` is its direction: the corrected blocks transcoded back and
descrambled, or those of an uncorrectable codeword flagged as errored (R166, R167). -/
def State.handCopy (s : State) (n : Ch) (d : Fin 2) (symbols : List Nat) (bad : Bool) : State :=
  if s.is n TALLY.STATUS_DIR_ACTIVE == (d == 0) then
    s.modHfec n fun y =>
      let r := descrambleBlocks y.scr ((codeBlocks symbols).flatMap transcodeBack)
      { y with copy := r.1, copyBad := bad, scr := r.2 }
  else s

/-- What side `d` sends for a codeword: in Transparent every bit unchanged (R165). -/
def State.sideSends (s : State) (n : Ch) (d : Fin 2) (out : List Nat) : State :=
  s.modHfec n fun y => if d = 0 then { y with outHost := out } else { y with outLine := out }

/-- The positions marked in the line codeword that ends, and those of the next one (R167, R265). -/
def HfecSt.ripe (y : HfecSt) : List Nat := y.marks.filter fun i => decide (i < rsSymbols)
def HfecSt.unripe (y : HfecSt) : List Nat := (y.marks.filter fun i => decide (rsSymbols ≤ i)).map fun i => i - rsSymbols

/-- A codeword of side `d` is decoded: by the path decoder in Terminate, by the monitor decoder with CTRL.EN in
Transparent, and only while the side is LOCKED (R160, R166 to R169, R173). -/
def doCodewordDecode (n : Ch) (d : Fin 2) (cw : Codeword) (s : State) : State :=
  let term := s.is n TOP.STATUS_ACTIVE_OUTER
  let sent := if term then s else s.sideSends n d cw.rx
  if ! s.sideLocked n d || !(term || s.is n HFEC.CTRL_EN) then sent
  else
    let side := d.val + 1
    let bad := errorsFrom 0 cw.rx cw.code
    let use := term && d == 1 && s.is n HFEC.CFG_ERASURE_EN
    let marks := if use then (s.chan n).hfec.ripe else []
    let many := use && decide (min 30 (s.get n HFEC.CFG_ERASE_MAX) < marks.length)
    let s0 := if d = 1 then sent.modHfec n fun y => { y with marks := y.unripe } else sent
    let s1 := if many then (s0.irq n HFEC.IRQ_ERASE_OVERFLOW).sat n HFEC.MISC_COUNT_ERASE_OVERFLOW_COUNT else s0
    let s2 := (s1.add64 n (HFEC.D_CW_LO d)).count n 0x28 side 0
    let s2' := s2.modHfec n fun y => if d = 0 then { y with cwHost := y.cwHost + 1 } else { y with cwLine := y.cwLine + 1 }
    match rsDecode bad.length (if many then 0 else marks.length) (bad.countP fun i => marks.contains i) with
    | some (c, e) =>
      let s3 := if 0 < c then (s2'.add64 n (HFEC.D_CORR_LO d)).add64 n (HFEC.D_SYM_LO d) c else s2'
      let s4 := if 0 < e then s3.add64 n (HFEC.D_ERASED_LO d) e else s3
      let s5 := s4.add64 n (HFEC.D_BIN_LO d (min c 15))
      let s6 := if 0 < c then s5.count n 0x2A side 0 c else s5
      let s7 := s6.modHfec n fun y =>
        if d = 0 then { y with serHost := y.serHost + c } else { y with serLine := y.serLine + c }
      (if term then s7.sideSends n d (correctedCodeword cw.code) else s7).handCopy n d cw.code false
    | none =>
      let s3 := s2'.raise n HFEC.FLT_UNCORR_CW
      let s4 := (s3.add64 n (HFEC.D_UNCORR_LO d)).count n 0x29 side 0
      let s5 := s4.irq n (if d = 0 then HFEC.IRQ_UNCORR_HOST else HFEC.IRQ_UNCORR_LINE)
      (if term then s5.sideSends n d (invalidCodeword cw.rx) else s5).handCopy n d cw.rx true

/-- The codewords of a corrected-symbol window: 2^WINDOW, WINDOW acting as 10 below 10 and as 24 above 24 (R174, R176). -/
def State.serWindow (s : State) (n : Ch) : Nat := 2 ^ clampN 10 24 (s.get n HFEC.SER_CFG_WINDOW)

/-- A corrected-symbol window of side `d` ends, once it has its codewords (R174). -/
def doSerWindowEnd (n : Ch) (d : Fin 2) (s : State) : State :=
  let x := (s.chan n).hfec
  if s.sideLocked n d && decide (s.serWindow n ≤ (if d = 0 then x.cwHost else x.cwLine)) then
    let sum := if d = 0 then x.serHost else x.serLine
    let st := if d = 0 then HFEC.STATUS_SER_DEG_HOST else HFEC.STATUS_SER_DEG_LINE
    let s1 := s.modHfec n fun y =>
      if d = 0 then { y with serHost := 0, cwHost := 0 } else { y with serLine := 0, cwLine := 0 }
    if s.get n HFEC.SER_CFG_THRESH < sum then
      ((s1.raise n HFEC.FLT_SER_DEGRADE).set n st 1).irq n HFEC.IRQ_SER_DEGRADE
    else s1.set n st 0
  else s

/-- CMD.CLR_CNT: every counter of the page at zero (R173). -/
def State.hfecClear (s : State) (n : Ch) : State :=
  let b := chPage n 3
  (s.mapRegs (b + 0x58) (b + 0x60) (fun _ _ => 0)).mapRegs (b + 0x100) (b + 0x300) (fun _ _ => 0)

/-- A parity error in the stage: the fault, and host output without the generators (R172, R175). -/
def State.hfecParity (s : State) (n : Ch) : State := s.levels n

end Sys2Proof.Machine
end

