-- ==== Sys2Proof/Machine/HostLane.lean ====
section
/-! DEFINITION. The host-lane commands (R133 to R156). -/

namespace Sys2Proof.Machine

/-! ## Signal and clock -/

/-- A lane enters FAILED: TRAIN_FAIL interrupt and TRAIN_FAIL_COUNT (R149, R151).  CDR_LOCK, FRAME_LOCK and LOCAL_READY stay
as a timeout finds them, since R149 stops the training and nothing else; from DATA `leaveData` has cleared them (the model's
choice, log entry 68). -/
def State.toFailed (s : State) (n : Ch) (l : Fin 2) : State :=
  let s1 := ((s.set n (HL.STATUS_STATE l) 5).set n (HL.BUSY_LONG_OP l) 0).set n (HL.STATUS_EXT_ACTIVE l) 0
  ((s1.irq n (HL.IRQ_TRAIN_FAIL l)).sat n (HL.COUNTS0_TRAIN_FAIL_COUNT l)).count n 0x21 1 l

/-- A lane leaves DATA for one of the causes of R151. -/
def State.leaveData (s : State) (n : Ch) (l : Fin 2) (cause : LockCause) : State :=
  let s0 :=
    match cause with
    | .signal => (s.raise n (HL.FLT_SIG_LOST l)).set n (HL.STATUS_SIG_DET l) 0
    | .cdr => s
    | .marker => s
  let s1 := s0.raise n (HL.FLT_LOCK_LOST l)
  let s2 := ((s1.irq n (HL.IRQ_LOCK_LOST l)).sat n (HL.COUNTS1_LOCK_LOST_COUNT l)).count n 0x22 1 l
  let s3 := if s2.is n (HL.CFG_AUTO_RETRAIN l) then s2.toSigWait n l else (s2.clearLock n l).toFailed n l
  s3.levels n

/-- SIG_DET rises: SIG_DETECT, and a lane in SIG_WAIT goes to CDR_ACQ (R134, R142). -/
def doHostSigDetect (n : Ch) (l : Fin 2) (s : State) : State :=
  if s.laneState n l = 0 then s
  else
    let s1 :=
      if s.is n (HL.STATUS_SIG_DET l) then s
      else (s.set n (HL.STATUS_SIG_DET l) 1).irq n (HL.IRQ_SIG_DETECT l)
    if s1.laneState n l = 1 then s1.set n (HL.STATUS_STATE l) 2 else s1

/-- SIG_DET falls (R142); with `long` it has been low for more than 2 µs: back to SIG_WAIT from CDR_ACQ and TRAINING with
the training, its time and its extension running on, out of DATA under R151 (R149). -/
def doHostSigFall (n : Ch) (l : Fin 2) (long : Bool) (s : State) : State :=
  if s.laneState n l = 0 then s
  else if long = false then s.set n (HL.STATUS_SIG_DET l) 0
  else
    match s.laneState n l with
    | 4 => s.leaveData n l .signal
    | 1 => s.set n (HL.STATUS_SIG_DET l) 0
    | 5 => s.set n (HL.STATUS_SIG_DET l) 0
    | 6 => (s.set n (HL.STATUS_SIG_DET l) 0).set n (HL.STATUS_CDR_LOCK l) 0
    | _ =>
      ((((s.set n (HL.STATUS_SIG_DET l) 0).clearLock n l).set n (HL.STATUS_STATE l) 1).modLane n l
        fun x => { x with step := .idle, waiting := false })

/-- Clock recovery locks at a rate within ±300 ppm, `ppm` in 1/16 ppm: TRAINING, or with TRAIN_EN 0 in force DATA with
the starting taps (R142, R150); a lock lost in TRAINING or PATTERN returns. -/
def doCdrLock (n : Ch) (l : Fin 2) (ppm : Int) (s : State) : State :=
  if ppm < -4800 ∨ 4800 < ppm then s
  else
    let s1 := (s.set n (HL.STATUS_CDR_LOCK l) 1).setI n (HL.CDR_STATUS_PPM l) ppm
    match s.laneState n l with
    | 2 =>
      if (s1.lane n l).trainEn then s1.set n (HL.STATUS_STATE l) 3
      else
        let s2 := (s1.set n (HL.STATUS_STATE l) 4).set n (HL.BUSY_LONG_OP l) 0
        ((s2.startTaps n l).irq n (HL.IRQ_DATA_ENTER l)).levels n
    | 3 => s1
    | 6 => s1
    | _ => s

/-- The offset from nominal of a locked clock in 1/16 ppm, every 1 ms; beyond ±400 ppm CDR_LOCK falls, and a lane in DATA
leaves it (R142, R151). -/
def doCdrPpmUpdate (n : Ch) (l : Fin 2) (ppm : Int) (s : State) : State :=
  if s.is n (HL.STATUS_CDR_LOCK l) = false then s
  else if -6400 ≤ ppm ∧ ppm ≤ 6400 then (s.setI n (HL.CDR_STATUS_PPM l) ppm).levels n
  else if s.laneState n l = 4 then s.leaveData n l .cdr
  else s.set n (HL.STATUS_CDR_LOCK l) 0

/-- A lane leaves DATA (R151); in another state a phase slip of a full UI or an offset beyond ±400 ppm makes CDR_LOCK fall
(R142). -/
def doLockLost (n : Ch) (l : Fin 2) (cause : LockCause) (s : State) : State :=
  if s.laneState n l = 4 then s.leaveData n l cause
  else
    match cause with
    | .cdr => s.set n (HL.STATUS_CDR_LOCK l) 0
    | .signal => s
    | .marker => s

/-! ## Training -/

/-- Whether the extension of this training is decided now, and which way: at its first frame lock, by EXT_EN and the rate and
the far end's advertisement (R147, R148). -/
def State.decideExt (s : State) (n : Ch) (l : Fin 2) (farAdv : Bool) : State :=
  if (s.lane n l).extDecided then s
  else
    let ext := s.get n (HL.STATUS_RATE l) == 3 && s.is n (HL.CFG_EXT_EN l)
    let s1 := (s.set n (HL.STATUS_EXT_ACTIVE l) (if ext && farAdv then 1 else 0)).modLane n l fun x =>
      { x with extDecided := true }
    if ext && !farAdv then s1.irq n (HL.IRQ_EXT_ABSENT l) else s1

/-- Frame lock: `inverted` is the polarity of the incoming marker; with RX_POL_AUTO = 0 the lane locks only where RX_POL
rights it (R143).  The extension is decided (R147, R148) and the CTLE sweep starts (R145). -/
def doFrameLock (n : Ch) (l : Fin 2) (inverted farAdv : Bool) (s : State) : State :=
  if s.laneState n l ≠ 3 ∨ s.is n (HL.STATUS_FRAME_LOCK l) then s
  else
    let s1 := s.set n (HL.STATUS_POL_DETECTED l) (if inverted then 1 else 0)
    if inverted != s.is n (HL.CFG_RX_POL l) && !s.is n (HL.CFG_RX_POL_AUTO l) then s1
    else
      ((s1.set n (HL.STATUS_FRAME_LOCK l) 1).decideExt n l farAdv).modLane n l fun x =>
        { x with step := .sweep 0 0, peak := 0, gain := 0, bestSnr := 0 }

/-- The tap a select value names: c(2) only through EXT.SEL_CODE while the extension is active (R144, R147). -/
def State.selTap (s : State) (n : Ch) (l : Fin 2) : CoefSel → Option Nat
  | .std i => some i.val
  | .code c =>
    if s.is n (HL.STATUS_EXT_ACTIVE l) && c.toNat == s.get n (HL.EXT_SEL_CODE l) then some 5 else none

/-- The answer to a step of tap `i`, and the coefficients after it (R144).  c(-3) beyond its standard range is not
supported while the extension is inactive. -/
def firStep (ext : Bool) (c : List Int) (i : Nat) (up : Bool) : TrainAnswer × List Int :=
  let v := c.getD i 0 + (if up then 1 else -1)
  let r := firRange ext i
  let wide := firRange true i
  let c' := c.set i v
  if r.1 ≤ v ∧ v ≤ r.2 then (if firSum c' ≤ 64 then (.updated, c') else (.equLimit, c))
  else if ! ext && decide (wide.1 ≤ v ∧ v ≤ wide.2) then (.notSupported, c)
  else (if up then .atMax else .atMin, c)

/-- The answer to a request on which the part acts, and the six coefficients after it (R144). -/
def State.answerTo (s : State) (n : Ch) (l : Fin 2) : TrainReq → TrainAnswer × List Int
  | .hold => (.none, s.firActive n l)
  | .preset p => (.updated, firPreset (p.val + 1))
  | .step sel up =>
    match s.selTap n l sel with
    | some i => firStep (s.is n (HL.STATUS_EXT_ACTIVE l)) (s.firActive n l) i up
    | none => (.notSupported, s.firActive n l)

/-- A frame of the far receiver: its request, and whether its status says that the receiver is ready (R143).  The part acts on
a request that follows hold; a changed request without a return to hold is ignored and counted, and the request still held
does nothing (R144). -/
def doTrainRequest (n : Ch) (l : Fin 2) (req : TrainReq) (farReady : Bool) (s : State) : State :=
  if s.laneState n l ≠ 3 ∨ s.is n (HL.STATUS_FRAME_LOCK l) = false then s
  else
    let s1 := s.set n (HL.STATUS_REMOTE_READY l) (if farReady then 1 else 0)
    if req = .hold then s1.modLane n l fun x => { x with last := none }
    else
      match (s1.lane n l).last with
      | some q =>
        if req = q then s1
        else
          ((s1.irq n (HL.IRQ_REQ_PROTOCOL_ERR l)).sat n (HL.COUNTS1_PROTO_ERR_COUNT l)).modLane n l fun x =>
            { x with last := some req }
      | none =>
        let r := s1.answerTo n l req
        (s1.setFirActive n l r.2).modLane n l fun x =>
          { x with last := some req, answer := r.1, reqRcvd := x.reqRcvd + 1 }

/-- The order in which the requester optimises the far taps (R145). -/
def tapOrder (ext : Bool) : List Nat := if ext then [2, 4, 1, 0, 5] else [2, 4, 1, 0]

/-- MAX_REQ with values below 16 acting as 16. -/
def State.maxReq (s : State) (n : Ch) (l : Fin 2) : Nat := max 16 (s.get n (HL.TRAIN_CFG_MAX_REQ l))

/-- The requester's receiver is ready (R145). -/
def State.localReady (s : State) (n : Ch) (l : Fin 2) : State :=
  (s.set n (HL.STATUS_LOCAL_READY l) 1).modLane n l fun x => { x with step := .ready, waiting := false }

/-- A request sent for the tap at `pos` of the order, or readiness once MAX_REQ requests were sent (R145). -/
def State.sendReq (s : State) (n : Ch) (l : Fin 2) (pos : Nat) (up turned : Bool) : State :=
  if s.maxReq n l ≤ (s.lane n l).reqSent then s.localReady n l
  else s.modLane n l fun x => { x with step := .tap pos up turned, waiting := true, reqSent := x.reqSent + 1 }

/-- The first tap from position `pos` on that still answers; `fuel` bounds the search. -/
def nextTap (order dead : List Nat) (pos : Nat) : Nat → Option Nat
  | 0 => none
  | k + 1 =>
    match order[pos]? with
    | none => none
    | some t => if dead.contains t then nextTap order dead (pos + 1) k else some pos

/-- The tap at or after `pos` is taken up; after the last one the pass is repeated if it changed something, and the
receiver is ready if not (R145).  Where a tap's stepping begins the spec names no direction: a free value. -/
def State.startTap (s : State) (n : Ch) (l : Fin 2) (pos : Nat) : State :=
  let order := tapOrder (s.is n (HL.STATUS_EXT_ACTIVE l))
  let x := s.lane n l
  match nextTap order x.dead pos 6 with
  | some p =>
    let d := s.draw
    d.2.sendReq n l p (d.1 % 2 == 1) false
  | none =>
    match nextTap order x.dead 0 6 with
    | some p =>
      if x.changed then
        let d := (s.modLane n l fun y => { y with changed := false }).draw
        d.2.sendReq n l p (d.1 % 2 == 1) false
      else s.localReady n l
    | none => s.localReady n l

/-- An SNR measurement of the requester ends: `snr` in 1/1,000 dB and `clipped` samples over 2^20 symbols, with the
FFE and DFE taps the receiver has adapted (R145, R146).  Where R145 is silent the model chooses (log entry 68): of CTLE codes
with equal SNR the lowest is kept; a far-tap step that does not improve the SNR by 0.05 dB is not taken back, its SNR is the
reference of the next comparison, and only an improving step counts as a change of the pass. -/
def doTrainMeasurement (n : Ch) (l : Fin 2) (snr clipped : Nat) (taps : List Int) (dfe : Int) (s : State) : State :=
  if s.laneState n l ≠ 3 ∨ s.is n (HL.STATUS_FRAME_LOCK l) = false then s
  else
    let s1 := ((s.setSat n (HL.SNR_DB16 l) (snr * 16 / 1000)).set n (HL.STATUS_RX_SAT l)
      (if 16 < clipped then 1 else 0)).setTaps n l 0 taps
    let s2 := (s1.setI n (HL.DFE_TAP1 l) dfe).modLane n l fun y => { y with fine := [] }
    let x := s2.lane n l
    match x.step with
    | .sweep code gain =>
      if 16 < clipped ∧ gain < 12 then
        s2.modLane n l fun y => { y with step := .sweep code (gain + 1), gain := gain + 1 }
      else
        let s3 :=
          if x.bestSnr < snr ∨ code = 0 then
            s2.modLane n l fun y => { y with bestSnr := snr, bestPeak := code, bestGain := gain }
          else s2
        if code < 32 then s3.modLane n l fun y => { y with step := .sweep (code + 1) 0, peak := code + 1, gain := 0 }
        else
          (s3.modLane n l fun y =>
            { y with peak := y.bestPeak, gain := y.bestGain, lastSnr := y.bestSnr, changed := false }).startTap n l 0
    | .tap pos up turned =>
      let better := decide (x.lastSnr + 50 ≤ snr)
      let s3 := s2.modLane n l fun y =>
        { y with waiting := false, lastSnr := snr, changed := y.changed || better }
      if better then s3.sendReq n l pos up true
      else if turned then s3.startTap n l (pos + 1)
      else s3.sendReq n l pos (! up) true
    | .idle => s2
    | .ready => s2

/-- No far status within 2 ms of a request: one retry, then the tap counts as not supported (R145). -/
def doTrainNoresp (n : Ch) (l : Fin 2) (s : State) : State :=
  let x := s.lane n l
  match s.laneState n l, x.step with
  | 3, .tap pos up turned =>
    if x.waiting then
      let t := (tapOrder (s.is n (HL.STATUS_EXT_ACTIVE l))).getD pos 0
      let s1 := s.sat n (HL.COUNTS1_NORESP_COUNT l)
      if x.noresp.contains t then
        (s1.modLane n l fun y => { y with dead := t :: y.dead, waiting := false }).startTap n l (pos + 1)
      else (s1.modLane n l fun y => { y with noresp := t :: y.noresp }).sendReq n l pos up turned
    else s
  | _, _ => s

/-- Both receivers are ready: DATA (R150); `ms` is the duration of the training. -/
def doTrainDone (n : Ch) (l : Fin 2) (ms : Nat) (s : State) : State :=
  if s.laneState n l ≠ 3 ∨ s.is n (HL.STATUS_LOCAL_READY l) = false then s
  else
    let x := s.lane n l
    let s1 := (s.set n (HL.STATUS_REMOTE_READY l) 1).set n (HL.STATUS_STATE l) 4
    let s2 := (s1.set n (HL.BUSY_LONG_OP l) 0).setSat n (HL.TRAIN_RESULT_MS l) ms
    let s3 := (s2.setSat n (HL.TRAIN_RESULT_REQ_SENT l) x.reqSent).setSat n (HL.TRAIN_RESULT_REQ_RCVD l) x.reqRcvd
    ((s3.irq n (HL.IRQ_TRAIN_DONE l)).irq n (HL.IRQ_DATA_ENTER l)).levels n

/-- TIMEOUT has passed since the entry into SIG_WAIT that started the training (R149). -/
def doTrainTimeout (n : Ch) (l : Fin 2) (s : State) : State :=
  let st := s.laneState n l
  if (st = 1 ∨ st = 2 ∨ st = 3) ∧ (s.lane n l).trainEn = true then
    ((s.raise n (HL.FLT_TRAIN_FAIL l)).toFailed n l).levels n
  else s

/-- 10 ms after FAILED with AUTO_RETRAIN = 1 (R149). -/
def doAutoRetrain (n : Ch) (l : Fin 2) (s : State) : State :=
  if s.laneState n l = 5 ∧ s.is n (HL.CFG_AUTO_RETRAIN l) = true then (s.toSigWait n l).levels n else s

/-- RETRAIN accepted: from DATA or FAILED a full training starts; in IDLE and PATTERN it is discarded (R152). -/
def State.retrain (s : State) (n : Ch) (l : Fin 2) : State :=
  let st := s.laneState n l
  if st = 4 ∨ st = 5 then (s.toSigWait n l).levels n else s

/-! ## Coefficients and adaptation -/

/-- A write of TX_FIR0 (`hi` false) or TX_FIR1 (R137). -/
def State.writeTxFir (s : State) (n : Ch) (l : Fin 2) (hi : Bool) (data : Word) : State :=
  let f := if hi then HL.TX_FIR1 l else HL.TX_FIR0 l
  let s1 := s.set n f (data.toNat % 0x1000000)
  if firOk (s1.is n (HL.STATUS_EXT_ACTIVE l)) (s1.firStaged n l) then
    let s2 := s1.set n (HL.STATUS_FIR_BAD l) 0
    if (s2.lane n l).trainEn || s2.laneState n l == 0 then s2 else s2.setFirActive n l (s2.firStaged n l)
  else s1.set n (HL.STATUS_FIR_BAD l) 1

/-- Whether an occupancy of a window of 2^20 symbols lies in 25 % ± 8 % (R141). -/
def occOk (occ : Nat) : Bool := decide (17 * 1048576 ≤ 100 * occ) && decide (100 * occ ≤ 33 * 1048576)

/-- FFE_CFG.STEP, whose values below 6 act as 6 (R141, R156). -/
def State.hostStep (s : State) (n : Ch) (l : Fin 2) : Nat := max 6 (s.get n (HL.FFE_CFG_STEP l))

/-- The 24 FFE taps and the DFE tap of a lane in fine units: as adaptation left them, or as the registers hold them. -/
def State.fineTaps (s : State) (n : Ch) (l : Fin 2) : List Int :=
  let x := s.lane n l
  if x.fine = [] then
    ((List.range 24).map fun i => s.getI n (HL.FFE_TAP_COEF l i) * tapUnit) ++ [s.getI n (HL.DFE_TAP1 l) * tapUnit]
  else x.fine

/-- The taps after one update of R141: each moves by 2^-STEP of its full scale in the direction of its sign and leaks by
2^-(STEP+6) (the scale, and that the cursor tap moves too: log entry 68). -/
def hostLms (step : Nat) : List Int → List Int → List Int
  | [], _ => []
  | v :: vs, signs =>
    (lmsMove (512 * tapUnit) (-512 * tapUnit) (511 * tapUnit) step (signs.headD 0) v).1 :: hostLms step vs signs.tail

/-- Whether an update falls from 1 word before to 4 words after a Dresser step on one of the lane's sub-converter trims
(R141). -/
def nearDress (u : HostLms) : Bool :=
  match u.dress with
  | some d => decide (-1 ≤ d ∧ d ≤ 4)
  | none => false

/-- The taps after the updates of a window, those near a Dresser step discarded (R141). -/
def State.hostAdapt (s : State) (n : Ch) (l : Fin 2) (us : List HostLms) : State :=
  let t := us.foldl (fun t u => if nearDress u then t else hostLms (s.hostStep n l) t u.signs) (s.fineTaps n l)
  let s1 := (s.setTaps n l 0 ((t.take 24).map fun v => v / tapUnit)).setI n (HL.DFE_TAP1 l) (t.getD 24 0 / tapUnit)
  s1.modLane n l fun x => { x with fine := t }

/-- An occupancy window of a lane in DATA ends (R141): the occupancies of the four levels, the SNR in 1/1,000 dB, the
clipped samples, and the signs of the updates that fell in it. -/
def doHostGuardWindow (n : Ch) (l : Fin 2) (occ : List Nat) (snr clipped : Nat) (us : List HostLms) (s : State) :
    State :=
  if s.laneState n l ≠ 4 then s
  else
    let held := s.is n (HL.STATUS_GUARD_HOLD l)
    let adapt := s.is n (HL.FFE_CFG_ADAPT_EN l) && s.is n (HL.STATUS_SIG_DET l) && !held
    let s1 := (s.setSat n (HL.SNR_DB16 l) (snr * 16 / 1000)).set n (HL.STATUS_RX_SAT l) (if 16 < clipped then 1 else 0)
    let s2 := if adapt then s1.hostAdapt n l us else s1
    if occ.all occOk then
      let k := (s2.lane n l).cleanWindows + 1
      let s3 := s2.modLane n l fun x => { x with cleanWindows := k }
      if held && decide (4 ≤ k) then s3.set n (HL.STATUS_GUARD_HOLD l) 0 else s3
    else
      let s3 := (s2.modLane n l fun x => { x with cleanWindows := 0 }).set n (HL.STATUS_GUARD_HOLD l) 1
      if held then s3 else s3.count n 0x23 1 l

/-- What a parity error of the lane's machines or registers does beside its fault: back to IDLE (R155). -/
def State.laneParity (s : State) (n : Ch) (l : Fin 2) : State :=
  if s.laneState n l = 0 then s else ((s.toIdle n l).rateLevel n l).levels n

end Sys2Proof.Machine
end

