-- ==== Sys2Proof/Machine/Ltx.lean ====
section
/-! DEFINITION. The line-transmit commands (R182 to R198). -/

namespace Sys2Proof.Machine

/-- LEAD has lasted TXDIS_LEAD (R190). -/
def doLeadEnd (n : Ch) (s : State) : State :=
  if s.ltxState n = 1 then
    let s1 := (s.set n LTX.STATUS_STATE 2).modLtx n fun x =>
      { x with rampAt := s.dev.ticks, rampLen := s.rampTicks n, rampCos := s.is n LTX.CFG_RAMP_SHAPE }
    (s1.sat n LTX.COUNTS_RAMP_UP).levels n
  else s

/-- The ramp up has lasted TX_RAMP (R190, R191). -/
def doRampUpEnd (n : Ch) (s : State) : State :=
  if s.ltxState n = 2 then
    ((((s.set n LTX.STATUS_STATE 3).set n LTX.ENVELOPE_G 0x10000).set n LTX.STATUS_ABRUPT 0).irq n
      LTX.IRQ_ON_REACHED).levels n
  else s

/-- The ramp down ends (R190, R191). -/
def doRampDownEnd (n : Ch) (s : State) : State :=
  if s.ltxState n = 4 then ((s.set n LTX.STATUS_STATE 5).set n LTX.ENVELOPE_G 0).levels n else s

/-- LAG has lasted TXDIS_LAG (R190). -/
def doLagEnd (n : Ch) (s : State) : State :=
  if s.ltxState n = 5 then (s.ltxOff n).levels n else s

/-- The sum of the magnitudes of the staged taps (R182). -/
def State.firStageSum (s : State) (n : Ch) : Nat :=
  ((List.range 9).map fun i => (s.getI n (LTX.FIR_C_COEF i)).natAbs).sum

/-- The staged taps from `i` on made active. -/
def State.firCopy (s : State) (n : Ch) : Nat → State
  | 0 => s
  | k + 1 => (State.firCopy s n k).set n (LTX.FIR_ACTIVE_COEF k) (s.get n (LTX.FIR_C_COEF k))

/-- FIR_APPLY.GO: the taps and MAIN are applied together, or refused (R183). -/
def State.firApply (s : State) (n : Ch) : State :=
  if s.firStageSum n ≤ 256 ∧ s.get n LTX.FIR_CFG_MAIN ≤ 8 then
    (((s.firCopy n 9).set n LTX.FIR_MAIN_ACTIVE_MAIN (s.get n LTX.FIR_CFG_MAIN)).set n LTX.STATUS_FIR_BAD 0).irq n
      LTX.IRQ_FIR_APPLIED
  else (s.set n LTX.STATUS_FIR_BAD 1).irq n LTX.IRQ_FIR_REFUSED

/-- NL_LOAD.GO accepted: the staging entries are latched (R186); an armed CE on the replicas spoils the parity of the
first replica word written (R187). -/
def State.nlLoad (s : State) (n : Ch) : State :=
  let hit := s.armed n LTX.STATUS 0 && s.get n LTX.INJECT_TARGET == 1
  let s1 := s.modLtx n fun x =>
    { x with latched := (List.range 64).map fun i => s.get n (LTX.NL_ENTRY_CORR i), badNext := hit }
  let s2 := if hit then s1.disarm n LTX.STATUS 0 else s1
  s2.set n LTX.BUSY_LONG_OP 1

/-- The latched table made active from entry `i` on. -/
def State.nlCopy (s : State) (n : Ch) (i : Nat) : List Nat → State
  | [] => s
  | v :: vs => State.nlCopy (s.set n (LTX.NL_ACTIVE_CORR i) v) n (i + 1) vs

/-- The word boundary at which all 256 paths switch banks (R186); path 0 uses 0 for an entry 0 loaded with bad parity (R187). -/
def doNlBankSwitch (n : Ch) (s : State) : State :=
  if s.is n LTX.BUSY_LONG_OP then
    let s1 := s.nlCopy n 0 (s.chan n).ltx.latched
    let s2 := s1.modLtx n fun x =>
      { x with latched := [], table := x.latched, zeroed := if x.badNext then [(0, 0)] else [], badNow := x.badNext,
               badNext := false }
    let s3 := if (s.chan n).ltx.badNext then s2.set n (LTX.NL_ACTIVE_CORR 0) 0 else s2
    ((s3.set n LTX.STATUS_NL_BANK (s.get n LTX.STATUS_NL_BANK + 1)).set n LTX.BUSY_LONG_OP 0).irq n LTX.IRQ_NL_LOADED
  else s

/-- Path `path` reads entry `i` with bad parity: it uses 0 for it until the next load (R187). -/
def doNlParity (n : Ch) (path : Fin 256) (i : Fin 64) (s : State) : State :=
  let tagged := (s.chan n).ltx.badNow && path == 0 && i == 0
  let s1 := s.raise n LTX.FLT_NL_PARITY { flags := if tagged then 1 else 0 }
  let s2 := s1.modLtx n fun x => { x with zeroed := (path.val, i.val) :: x.zeroed.erase (path.val, i.val) }
  if path = 0 then s2.set n (LTX.NL_ACTIVE_CORR i) 0 else s2

/-- A window of 2^20 symbols ends with `clipped` clipped samples, before OFF where the block has stopped within it (R184). -/
def doDacSatWindow (n : Ch) (clipped : Nat) (s : State) : State :=
  if s.chState n = 0 then s
  else
    let s1 := s.sat n LTX.SAT_COUNT clipped
    if s.get n LTX.SAT_CFG_THRESH < clipped then (s1.raise n LTX.FLT_DAC_SAT).irq n LTX.IRQ_DAC_SAT else s1

/-- Whether the TXDIS_n readback differs from the driven level (R194). -/
def State.txdisBad (s : State) (n : Ch) : Bool :=
  match (s.chan n).ltx.pin with
  | none => false
  | some h => h != s.txdisLevel n

/-- The readback has stood at `high` for more than 1 µs: a difference from the driven level is a fault, agreement ends
the condition (R194). -/
def doTxdisMismatch (n : Ch) (high : Bool) (s : State) : State :=
  let s1 := s.modLtx n fun x => { x with pin := some high }
  if s1.txdisBad n then s1.raise n LTX.FLT_TXDIS_MISMATCH else s.modLtx n fun x => { x with pin := none }

/-- What a parity error of the state machine or the page's registers does beside its fault: an abrupt stop (R197). -/
def State.ltxParity (s : State) (n : Ch) : State := (s.abruptStop n).levels n

end Sys2Proof.Machine
end

