-- ==== Sys2Proof/Machine/Pat.lean ====
section
/-! DEFINITION. The link pattern units and JTAG (R477 to R485, R487). -/

namespace Sys2Proof.Machine

/-- A write of a unit's CFG: the unit is flushed and restarts; a checker goes back to HUNT (R482); PATTERN 0x9 is
unsupported in a checker (R478). -/
def State.writePatCfg (s : State) (n : Ch) (u : Nat) (data : Word) : State :=
  let v := data &&& 0xFF00000F#32
  let s1 := if 3 ≤ u then s.patDraw n (u - 3) else s
  if v = s1.word ((PAT.U_CFG u).addr n) then s1
  else
    let s2 := s1.set n (PAT.U_CFG u) v.toNat
    let s3 :=
      if 3 ≤ u then
        let s4 := s2.set n (PAT.C_STATE_UNSUPPORTED (u - 3)) (if getBits v 0 4 = 9 then 1 else 0)
        if s4.patLock n (u - 3) = 0 then s4 else s4.patSet n (u - 3) 1
      else s2
    s3.levels n

/-- 128 consecutive clean symbols (R480). -/
def doCheckerLock (n : Ch) (c : Fin 3) (s : State) : State :=
  if s.patLock n c = 1 ∧ s.is n (PAT.C_STATE_UNSUPPORTED c) = false then
    (s.patSet n c 2).irq n (PAT.IRQ_LOCK.bit c)
  else s

/-- 64 or more errors within 1,024 symbols, with the bits and errors counted since the gate opened or was last reported
(R480, R481). -/
def doCheckerLockLost (n : Ch) (c : Fin 3) (bits errs : Nat) (s : State) : State :=
  if s.patLock n c = 2 then
    (((s.patCount n c bits errs).patSet n c 1).irq n (PAT.IRQ_LOCK_LOST.bit c)).sat n (PAT.C_LOCK_LOST_COUNT c)
  else s

/-- GATE_GO, the opening of the gate, its closing after GATE_US, GATE_STOP (R481). -/
def State.gateGo (s : State) (n : Ch) (c : Nat) : State :=
  ((s.set64 n (PAT.C_BITS_LO c) 0).set64 n (PAT.C_ERRS_LO c) 0).set n (PAT.C_STATE_GATE c) 1
def doGateOpen (n : Ch) (c : Fin 3) (s : State) : State :=
  if s.patGate n c = 1 ∧ s.patLock n c = 2 then s.set n (PAT.C_STATE_GATE c) 2 else s
def State.gateClose (s : State) (n : Ch) (c : Nat) : State :=
  (s.set n (PAT.C_STATE_GATE c) 3).irq n (PAT.IRQ_GATE_DONE.bit c)
def doGateClose (n : Ch) (c : Fin 3) (bits errs : Nat) (s : State) : State :=
  if s.patGate n c = 2 ∧ s.get n (PAT.C_GATE_US c) ≠ 0 then (s.patCount n c bits errs).gateClose n c else s
def State.gateStop (s : State) (n : Ch) (c : Nat) : State :=
  if s.patGate n c = 2 then (s.patDraw n c).gateClose n c
  else if s.patGate n c = 1 then s.gateClose n c
  else s

/-- CMD.CLR: the counts at zero, the gate closed without GATE_DONE (R481). -/
def State.patClear (s : State) (n : Ch) (c : Nat) : State :=
  ((s.set64 n (PAT.C_BITS_LO c) 0).set64 n (PAT.C_ERRS_LO c) 0).set n (PAT.C_STATE_GATE c) 0

/-- ERR_INJ: the first bit of the next symbol sent is inverted and counted (R482). -/
def State.errInj (s : State) (n : Ch) (u : Nat) : State := s.incr n (PAT.G_INJ_COUNT u)

/-- A pattern parity error sets every unit's EN to 0 (R485). -/
def State.patParity (s : State) (n : Ch) : State :=
  ((List.range 6).foldl (fun a u => a.set n (PAT.U_CFG_EN u) 0) s).levels n

/-! ## JTAG (R483, R484) -/

/-- Whether an instruction gives the boundary cells the pins. -/
def jtagTakes (i : BitVec 8) : Bool := i == 0x00 || i == 0x03 || i == 0x04 || i == 0x05 || i == 0x06

/-- An instruction is loaded into the TAP. -/
def doJtagInstruction (i : BitVec 8) (s : State) : State :=
  (s.modDev fun d => { d with jtag := i.toNat, jtagPins := jtagTakes i }).dset DTRIAL.STATUS_JTAG_PINS
    (if jtagTakes i then 1 else 0)

/-- TRST_N low: Test-Logic-Reset, IDCODE selected, the pins return. -/
def doTrstNAssert (s : State) : State := doJtagInstruction 0x01 s

end Sys2Proof.Machine
end

