-- ==== Sys2Proof/Machine/Wright.lean ====
section
/-! DEFINITION. The wrights: watchdogs, traps, restarts and image copies (R107 to R109, R112, R113, R129). -/

namespace Sys2Proof.Machine

/-- The ticks of the time clock in one second (R400: 1.6 ns each). -/
def ticksPerSecond : Nat := 625000000

/-- The stamps that lie within the last second, the present one included. -/
def recentStamps (now : Nat) (l : List Nat) : List Nat := now :: l.filter fun t => decide (now ≤ t + ticksPerSecond)

/-- The hidden state of a wright and its rewriting. -/
def State.wright (s : State) (n : Ch) : WrightSt := (s.chan n).wright
def State.modWright (s : State) (n : Ch) (f : WrightSt → WrightSt) : State :=
  s.modCh n fun c => { c with wright := f c.wright }

/-- STATE of WRIGHT_STATUS: 0 OFF, 1 LOADING, 2 RUNNING, 3 ASLEEP, 4 HELD. -/
def State.wrightState (s : State) (n : Ch) : Nat := s.get n MBXW.WRIGHT_STATUS_STATE

/-- A wright starts: WRIGHT_EPOCH, the cause, WRIGHT_START, and the messages that wait for it (R113, R118, R132). -/
def State.wrightStart (s : State) (n : Ch) (cause : Nat) : State :=
  let s1 := (s.set n MBXW.WRIGHT_STATUS_STATE 2).incr n MBXW.WRIGHT_EPOCH
  let s2 := ((s1.set n MBXW.WRIGHT_STATUS_CAUSE cause).irq n MBXW.IRQ_WRIGHT_START).boxResets (wrightBoxes n)
  s2.modWright n fun x => { x with cause := 0, holding := false, inReset := false }

/-- The wright stops executing: an exchange in progress is lost (R125), and an entry leg in ARMED gets no WAIT (R497). -/
def State.wrightCut (s : State) (n : Ch) : State :=
  let s1 := s.fwWrightLost n s.dev.fw
  if s1.phase (.ch n) = 2 then s1.modPath (.ch n) fun p => { p with deaf := true } else s1

/-- A restart by watchdog or trap (R113): the third within a second holds the wright; after an uncorrectable word firmware
copies the image afresh first (R108); otherwise the hold of 1 µs begins. -/
def State.wrightRestart (s : State) (n : Ch) (cause : Nat) : State :=
  if s.wrightState n ≠ 2 ∨ (s.wright n).holding = true ∨ (s.wright n).inReset = true then s
  else
    let recent := recentStamps s.dev.ticks (s.wright n).recent
    let s1 := s.raise n MBXW.FLT_WRIGHT_RESTART
    let s2 := (s1.sat n MBXW.RESTART_COUNT_COUNT).set n MBXW.WRIGHT_STATUS_CAUSE cause
    let s3 := (s2.modWright n fun x => { x with recent, cause }).wrightCut n
    if 3 ≤ recent.length then (s3.raise n MBXW.FLT_WRIGHT_RESTART_REPEAT).set n MBXW.WRIGHT_STATUS_STATE 4
    else if cause = 5 then s3.set n MBXW.WRIGHT_STATUS_STATE 1
    else s3.modWright n fun x => { x with holding := true }

/-- The watchdog expires 10 ms after the last kick, not while the wright is asleep or the Miller is OFF or HELD (R109). -/
def doWrightWatchdog (n : Ch) (after : Nat) (s : State) : State :=
  let t := s.elapse after
  if t.millerLives then t.wrightRestart n 2 else t

/-- The wright traps (R112). -/
def trapCode : TrapCause → Nat
  | .illegal => 3
  | .busError => 4
  | .uncorrectable => 5
def doWrightTrap (n : Ch) (c : TrapCause) (after : Nat) (s : State) : State :=
  (s.elapse after).wrightRestart n (trapCode c)

/-- The hold ends and the wright restarts (R113). -/
def doWrightRestart (n : Ch) (s : State) : State :=
  if (s.wright n).holding && !(s.wright n).inReset then s.wrightStart n (s.wright n).cause else s

/-- Firmware begins to copy the image for a start with a cause (R107, R128). -/
def State.wrightLoad (s : State) (n : Ch) (cause : Nat) : State :=
  ((s.set n MBXW.WRIGHT_STATUS_STATE 1).modWright n fun x => { x with cause, holding := false }).wrightCut n

/-- 64-bit words written in full by the Miller. -/
def State.millerWrites (s : State) (m w : Nat) : List DWord → State
  | [] => s
  | v :: l => State.millerWrites (s.busWrite m w v.toNat reqMiller) m (w + 1) l

/-- A channel reset holds the wright until it completes (R108).  STATE keeps the value it had: the model's choice (log
entry 65). -/
def State.wrightHold (s : State) (n : Ch) : State :=
  (s.wrightCut n).modWright n fun x => { x with cause := 0, holding := false, inReset := true }

/-- Firmware's copy is done: the words of the image stand in the scratchpad from its first word on, and the wright starts
(R107).  A trap's restart that had waited for the copy keeps the trap as its cause. -/
def doWrightImageCopyDone (n : Ch) (image : List DWord) (s : State) : State :=
  if s.wrightState n ≠ 1 ∨ s.dget MILLER.STATUS_CORE ≠ 1 ∨ (s.wright n).inReset = true then s
  else
    let c := (s.wright n).cause
    ((s.millerWrites (chMem n 6) 0 (image.take 8192)).wrightStart n (if c = 0 then 7 else c)).levels n

end Sys2Proof.Machine
end

