-- ==== Sys2Proof/Machine/Trial.lean ====
section
/-! DEFINITION. Trial: channel Trials, device slices, and their ends (R465 to R476, R485, R486, R488). -/

namespace Sys2Proof.Machine

/-! ## Pages and slices -/

/-- The channel pages that slice `k` returns to Reset (R465). -/
def slicePages : Nat → List Nat
  | 0 => [1, 2, 0x15]
  | 1 => [3, 4, 0xA, 0x15]
  | 2 => [5, 6, 7, 3, 0xA, 0x15]
  | 3 => [8]
  | 4 => [0xF]
  | 5 => [0, 9, 0x10, 0x11, 0x12]
  | _ => []

/-- What the logic of slice `k` holds beyond registers, at reset. -/
def sliceHidden (k : Nat) (c : Chan) : Chan :=
  match k with
  | 0 => { c with lane0 := {}, lane1 := {} }
  | 1 => { c with hfec := {}, ltx := {}, mr := { relay := c.mr.relay, relayBad := c.mr.relayBad, relayTag := c.mr.relayTag } }
  | 2 => { c with lrx := {}, notices := [], tim := {}, eq := {}, hfec := {},
                  mr := { relay := c.mr.relay, relayBad := c.mr.relayBad, relayTag := c.mr.relayTag } }
  | 3 => { c with bolt := {} }
  | 4 => { c with tally := {} }
  | 5 => { c with top := {}, dress := {}, hop := {}, scrub := {}, march := {}, wb := [] }
  | _ => c

/-- A condition of the complex forgotten with the pages it names: held requests and parity errors (R12, R84). -/
def State.forgetPage (s : State) (base : Nat) : State :=
  let here := fun a : Nat => decide (base ≤ a ∧ a < base + 0x1000)
  s.modDev fun d => { d with held := d.held.filter (fun h => !here h.1), badRegs := d.badRegs.filter fun a => !here a }

/-- The pages of slices at Reset but for "kept" bits (R473), with what their logic holds. -/
def State.scanReset (s : State) (n : Ch) : List Nat → State
  | [] => s
  | k :: ks =>
    let s1 := (slicePages k).foldl (fun a p => (a.wakePage (chPage n p)).forgetPage (chPage n p)) s
    (s1.modCh n (sliceHidden k)).scanReset n ks

/-- The addresses of a page's registers. -/
def pageAddrs (n : Ch) (p : Nat) : List Nat :=
  (pageRegs (0x20 + p)).flatMap fun d => (List.range d.n).map fun i => chPage n p + d.off + i * d.stride

/-- Registers without a defined value (log entry 3). -/
def State.scramble (s : State) : List Nat → State
  | [] => s
  | a :: l => (s.draw.2.setWord a (BitVec.ofNat 32 s.draw.1)).scramble l

/-- The pages of slices without defined values (R474). -/
def State.scanTorn (s : State) (n : Ch) : List Nat → State
  | [] => s
  | k :: ks =>
    let s1 := (slicePages k).foldl (fun a p => (a.scramble (pageAddrs n p)).forgetPage (chPage n p)) s
    (s1.modCh n (sliceHidden k)).scanTorn n ks

/-! ## A channel Trial -/

def State.trialSt (s : State) (n : Ch) : TrialSt := (s.chan n).trial
def State.modTrial (s : State) (n : Ch) (f : TrialSt → TrialSt) : State := s.modCh n fun c => { c with trial := f c.trial }

/-- STATE of CHn.TRIAL: 0 IDLE, 1 WAIT_SAFE, 2 SCAN, 3 MARCH, 4 RESTORE. -/
def State.trialState (s : State) (n : Ch) : Nat := s.get n TRIAL.STATUS_STATE

/-- The REASON for which GO is refused, 0 for none (R470). -/
def State.trialRefusal (s : State) (n : Ch) : Nat :=
  let st := s.chState n
  let c := s.get n TRIAL.CFG_COUNT_LOG2
  if st = 0 ∨ st = 2 ∨ st = 3 then 1
  else if s.is n TOP.BUSY_LONG_OP then 2
  else if s.get n TRIAL.CFG_MASK = 0 then 3
  else if s.chPhase n ≠ 0 ∨ (s.chan n).pwr.latched ≠ 0 then 4
  else if c < 10 ∨ 20 < c then 5
  else if s.trialAll then 6
  else 0

/-- A Trial is accepted: WAIT_SAFE, the safe request, the engines on the memories stop (R432, R471, R537). -/
def State.trialBegin (s : State) (n : Ch) (mask count : Nat) : State :=
  let s1 := s.modTrial n fun _ =>
    { active := true, slices := (List.range 7).filter mask.testBit, count, all := s.trialAll }
  let s2 := ((s1.set n TRIAL.STATUS_STATE 1).set n TRIAL.BUSY_LONG_OP 1).set n TRIAL.RESULT 0
  ((((s2.set n TRIAL.MARCH_FAIL 0).safeUpdate n).scrubAbort (.ch n)).marchStop (.ch n)).levels n

/-- CMD.GO (R470). -/
def State.trialGo (s : State) (n : Ch) : State :=
  let r := s.trialRefusal n
  if r = 0 then s.trialBegin n (s.get n TRIAL.CFG_MASK) (s.get n TRIAL.CFG_COUNT_LOG2)
  else (s.set n TRIAL.REFUSE_REASON r).irq n TRIAL.IRQ_REFUSED

/-- RESTORE begins; firmware copies the wright image afresh where the Miller runs (R471 step 4). -/
def State.trialRestore (s : State) (n : Ch) : State :=
  let s1 := (s.set n TRIAL.STATUS_STATE 4).set n TRIAL.STATUS_CUR 0xF
  if s1.dget MILLER.STATUS_CORE = 1 then s1.wrightLoad n 7 else s1

/-- The next slice begins, or RESTORE does. -/
def State.trialNext (s : State) (n : Ch) : State :=
  match (s.trialSt n).slices with
  | [] => s.trialRestore n
  | k :: _ =>
    let s1 := (s.set n TRIAL.STATUS_STATE (if k = 6 then 3 else 2)).set n TRIAL.STATUS_CUR k
    s1.modTrial n fun x => { x with ran := x.ran ++ [k] }

/-- A channel leaves its state for STANDBY without a path (R471 step 2, R473, R475). -/
def State.toStandby (s : State) (n : Ch) : State :=
  if s.chState n = 1 ∨ s.chState n = 0 then s
  else (((s.pathEnd (.ch n)).pwrReach (.ch n) 1).pathEnd (.ch n)).pwrLevels (.ch n)

/-- Whether the group order of TRIAL_ALL lets channel `n` begin: every channel is in STANDBY and every earlier group has
ended (R475). -/
def State.groupTurn (s : State) (n : Ch) : Bool :=
  let g := 2 ^ s.dget DTRIAL.CFG_GROUP
  allCh.all fun m =>
    s.chPhase m == 0 && (s.chState m == 1 || s.inTrial m) &&
      (decide (n.val / g ≤ m.val / g) || bitOf (s.dget DTRIAL.RESULT_CH_RUN) m.val)

/-- The count of TRIAL_ALL's channel slices and of the device slices, limited (R488). -/
def State.allCount (s : State) : Nat := clampN 10 20 (s.dget DTRIAL.CFG_CH_LOG2)
def State.devCount (s : State) : Nat := clampN 10 20 (s.dget DTRIAL.CFG_DEV_LOG2)

/-- A channel that TRIAL_ALL has still to try begins its Trial once its paths and an earlier Trial have ended; from DARK it
first moves to STANDBY (R475). -/
def State.allBegin (s : State) (n : Ch) : State :=
  if ! s.trialAll || s.inTrial n || bitOf (s.dget DTRIAL.RESULT_CH_RUN) n.val || s.chPhase n != 0 then s
  else if s.chState n = 0 then s.pathStart (.ch n) 1 false false
  else s.trialBegin n 0x7F s.allCount
def State.allBegins (s : State) : List Ch → State
  | [] => s
  | n :: ns => (s.allBegin n).allBegins ns

/-- The channel is safe, LTX at OFF: it is in STANDBY, the wright is held, the first slice begins (R471 step 2). -/
def doTrialSlicesStart (n : Ch) (s : State) : State :=
  let s0 := s.allBegin n
  if s0.inTrial n = false ∨ s0.trialState n ≠ 1 ∨ s0.ltxState n ≠ 0 ∨ (s0.trialAll = true ∧ s0.groupTurn n = false) then s0
  else
    let s1 := (s0.toStandby n).set n MBXW.WRIGHT_STATUS_STATE 4
    ((s1.modWright n fun x => { x with holding := false }).wrightCut n).trialNext n

/-- Whether ROM holds a signature at a count (R468). -/
def hasSig (c : Nat) : Bool := c == 12 || c == 14 || c == 16 || c == 18 || c == 20

/-- The march leaves its failing memories in MARCH_FAIL and every word poisoned (R466). -/
def State.marchClose (s : State) (n : Ch) (fails : BitVec 7) : State :=
  let s1 := (s.set n TRIAL.MARCH_FAIL fails.toNat).poisonCh n
  (s1.modCh n fun c => { c with wb := [] }).modDev fun d => { d with tagged := d.tagged.filter fun e => e.mem / 8 != n.val }

/-- The running slice gets its result: 1 PASS, 2 FAIL, 3 INCOMPLETE (R468). -/
def State.sliceResult (s : State) (n : Ch) (k r : Nat) : State :=
  let s1 := s.set n { TRIAL.RESULT_SLICES with lo := 2 * k, w := 2 } r
  s1.modTrial n fun x => { x with slices := x.slices.tail, failed := x.failed || r == 2 }

/-- A running slice ends: at its last pattern, or early; a march that has found a failing word is FAIL (R468). -/
def State.sliceEnd (s : State) (n : Ch) (k : Nat) (early pass : Bool) (fails : BitVec 7) : State :=
  if k = 6 then
    (s.marchClose n fails).sliceResult n k (if fails ≠ 0 then 2 else if early then 3 else 1)
  else if early then s.sliceResult n k 3
  else if hasSig (s.trialSt n).count then s.sliceResult n k (if pass then 1 else 2)
  else (s.set n (TRIAL.RESULT_NO_SIG.bit k) 1).sliceResult n k 3

/-- Faults latched in the Trial and still latched go to the collector with their times (R473). -/
def State.trialForward (s : State) : List LogRec → State
  | [] => s
  | r :: l =>
    let n : Ch := Fin.ofNat 8 (r.src / 64)
    let f : Field := ⟨0x100000 + r.src % 64 * 0x1000, 0x18, r.bit, 1⟩
    (if s.is n f && s.is n f.enOf && !(s.dev.forwarded.any fun e => e.src == r.src && e.bit == r.bit) then
      s.forwardRec n f r
    else s).trialForward l

/-- The end of a Trial (R471 step 5, R473): `scan` says what becomes of the scanned pages. -/
def State.trialFinish (s : State) (n : Ch) (us : Nat) (scan : State → State) : State :=
  let x := s.trialSt n
  let s1 := (scan s).dropCleared
  let s2 := ((s1.set n TOP.STATUS_MODE_ACTIVE 0).set n TOP.CLK_STATUS_CH_PLL_LOCK 0).toStandby n
  let s3 := ((s2.set n TRIAL.STATUS_STATE 0).set n TRIAL.STATUS_CUR 0xF).set n TRIAL.BUSY_LONG_OP 0
  let s4 := (s3.set n TRIAL.ELAPSED_US (min us (2 ^ 32 - 1))).sat n TRIAL.COUNT_TRIALS
  let s5 := s4.irq n TRIAL.IRQ_TRIAL_DONE
  let s6 := if x.failed then s5.raise n TRIAL.FLT_TRIAL_SLICE_FAIL else s5
  let s7 := (s6.trialForward (s6.trialSt n).pend).modTrial n fun _ => {}
  (s7.safeUpdate n).levels n

/-- In TRIAL_ALL the channel's outcome goes to DEV.TRIAL.RESULT (R488), and after the last channel the device slices begin,
the host-port complex first (R475). -/
def State.allNote (s : State) (n : Ch) (mine : Bool) : State :=
  if ! (s.trialAll && mine) then s
  else
    let pass := s.get n TRIAL.RESULT_SLICES == 0x1555
    let s1 := (s.dset (DTRIAL.RESULT_CH_RUN.bit n.val) 1).dset (DTRIAL.RESULT_CH_PASS.bit n.val) (if pass then 1 else 0)
    if s1.dget DTRIAL.RESULT_CH_RUN = 0xFF then
      (s1.dset DTRIAL.STATUS_CUR 1).modDev fun d => { d with trialSlices := [1, 0] }
    else s1

/-- RESTORE completes: the scanned logic is at reset, and the Dresser seeds after a march (R471 step 4, R274). -/
def doTrialRestoreEnd (n : Ch) (us : Nat) (s : State) : State :=
  if s.inTrial n = false ∨ s.trialState n ≠ 4 ∨ s.wrightState n = 1 then s
  else
    let ran := (s.trialSt n).ran
    (s.trialFinish n us fun a =>
      let b := a.scanReset n ran
      if ran.contains 6 then b.dressSeed n else b).allNote n (s.trialSt n).all

/-! ## Early ends (R469, R474) -/

/-- The running slice ends INCOMPLETE; what a march had found by then no event says: a free value (log entry 3).  A march slice
runs its closing poison pass also where a channel reset ends it, although R83 keeps channel memories and no rule says what a
reset leaves of a march in progress (the model's choice, log entry 64). -/
def State.sliceCut (s : State) (n : Ch) : State :=
  if s.trialState n = 2 ∨ s.trialState n = 3 then
    match (s.trialSt n).slices with
    | [] => s
    | k :: _ => s.draw.2.sliceEnd n k true false (BitVec.ofNat 7 (if k = 6 then s.draw.1 else 0))
  else s

/-- The Trial ends at the next pattern boundary, with RESTORE: the Sluice shuts, or TRIAL_ALL is accepted. -/
def State.trialCut (s : State) (n : Ch) : State :=
  if s.inTrial n = false ∨ s.trialState n = 4 then s
  else ((s.sliceCut n).modTrial n fun x => { x with slices := [] }).trialRestore n
def State.trialCutAll (s : State) : List Ch → State
  | [] => s
  | n :: ns => (s.trialCut n).trialCutAll ns

/-- The Trial ends at once, without RESTORE; the wright stays held.  Its duration no event states: a free value. -/
def State.trialKill (s : State) (n : Ch) (scan : State → State) : State :=
  if s.inTrial n = false then s
  else
    let s1 := s.sliceCut n
    let s2 := if s1.trialState n = 1 then s1 else (s1.set n MBXW.WRIGHT_STATUS_STATE 4).modWright n fun x => { x with holding := false }
    (s2.draw.2.trialFinish n (s2.draw.1 % 2 ^ 32) scan).allNote n (s.trialSt n).all

/-- REFCLK loss or CH_PLL_UNLOCK. -/
def State.trialClockLost (s : State) (n : Ch) : State := s.trialKill n fun a => a.scanReset n (s.trialSt n).ran
def State.trialClockLostAll (s : State) : List Ch → State
  | [] => s
  | n :: ns => (s.trialClockLost n).trialClockLostAll ns

/-- TRIAL_FSM_PAR: the Trial ends, then the fault latches (R474). -/
def State.trialParity (s : State) (n : Ch) : State := s.trialKill n fun a => a.scanTorn n (s.trialSt n).ran

/-! ## Slices that end -/

/-- The device slices end (R476, R488). -/
def State.devTrialDone (s : State) (ms : Nat) : State :=
  if s.trialAll then s.dset DTRIAL.STATUS_CUR 0xF
  else
    let s1 := ((s.dset DTRIAL.STATUS_RUNNING 0).dset DTRIAL.BUSY_LONG_OP 0).dset DTRIAL.STATUS_CUR 0xF
    (s1.dset DTRIAL.ELAPSED_MS_MS (min ms 0xFFFF)).dirq DTRIAL.IRQ_DONE

/-- A device slice has its result; the next begins, or the run ends. -/
def State.devSliceEnd (s : State) (pass early : Bool) (ms : Nat) : State :=
  match s.dev.trialSlices with
  | [] => s
  | k :: rest =>
    let sig := k == 2 || hasSig s.devCount
    let r := if early || !sig then 3 else if pass then 1 else 2
    let s1 := if r = 2 then s.draise DTRIAL.FLT_DEV_TRIAL_FAIL else s
    let s2 := s1.dset { DTRIAL.RESULT_SLICES with lo := 2 * k, w := 2 } r
    let s3 := if sig then s2 else s2.dset (DTRIAL.RESULT_NO_SIG.bit k) 1
    let s4 := s3.modDev fun d => { d with trialSlices := rest }
    match rest with
    | [] => s4.devTrialDone ms
    | j :: _ => s4.dset DTRIAL.STATUS_CUR j

/-- A slice ends: whether its signature matched, for the march the memories that failed, for a device slice the time since
its command in ms. -/
def doTrialSliceEnd (x : Scope) (pass : Bool) (fails : BitVec 7) (ms : Nat) (s : State) : State :=
  match x with
  | .ch n =>
    if s.trialState n = 2 ∨ s.trialState n = 3 then
      match (s.trialSt n).slices with
      | [] => s
      | k :: _ => (s.sliceEnd n k false pass fails).trialNext n
    else s
  | .dev => s.devSliceEnd pass false ms

/-- A slice reaches its budget (R469): a scan slice stops at the next pattern boundary, a march after the word it is on. -/
def doTrialBudgetExpiry (x : Scope) (fails : BitVec 7) (ms : Nat) (s : State) : State :=
  match x with
  | .ch n =>
    if s.trialState n = 2 ∨ s.trialState n = 3 then
      match (s.trialSt n).slices with
      | [] => s
      | k :: _ => (s.sliceEnd n k true false fails).trialNext n
    else s
  | .dev => s.devSliceEnd false true ms

/-- DEV.TRIAL.CMD.GO (R476). -/
def State.devTrialGo (s : State) : State :=
  if s.dev.state ≠ .holding ∨ s.trialAll = true then s.dirq DTRIAL.IRQ_REFUSED
  else
    let l := (List.range 3).filter (s.dget DTRIAL.CMD_MASK).testBit
    let s1 := (s.dset DTRIAL.RESULT_SLICES 0).dset DTRIAL.RESULT_NO_SIG 0
    match l with
    | [] => s1.devTrialDone 0
    | k :: _ =>
      let s2 := ((s1.dset DTRIAL.STATUS_RUNNING 1).dset DTRIAL.BUSY_LONG_OP 1).dset DTRIAL.STATUS_CUR k
      s2.modDev fun d => { d with trialSlices := l }

end Sys2Proof.Machine
end

