-- ==== Sys2Proof/Machine/Sluice.lean ====
section
/-! DEFINITION. The Sluice: collection, shutting, the fault log, clearing and masking, register parity, self-faults
(R444, R449 to R461, R464). -/

namespace Sys2Proof.Machine

/-! ## Blocking periods, as far as the Sluice ends them (R58, R97, R104, R452) -/

/-- A stage of the ladder (R88, R104). -/
def State.setStage (s : State) (v : Nat) : State :=
  if s.dget BOOT.STATUS_STAGE = v then s else (s.dset BOOT.STATUS_STAGE v).dirq BOOT.IRQ_STAGE_CHANGE

/-- CMD_RESULT for a command, with the time it has taken. -/
def State.cmdResult (s : State) (cmd result : Nat) : State :=
  let s1 := (s.dset BOOT.CMD_RESULT_CMD cmd).dset BOOT.CMD_RESULT_RESULT result
  s1.dset BOOT.CMD_RESULT_MS (s.dget HOST.STATUS_WORD_ELAPSED)

/-- The blocking period ends: BUSY_N rises, BUSY_END (R58). -/
def State.busyEnd (s : State) : State := (s.modDev fun d => { d with blocking := none }).dirq HOST.IRQ_BUSY_END

/-- A blocking command ends with a result. -/
def State.cmdEnd (s : State) (cmd result : Nat) : State := ((s.cmdResult cmd result).dirq BOOT.IRQ_CMD_DONE).busyEnd

/-- A cause that leads into HOLDING: the first is recorded, a later one sets MORE (R97). -/
def State.holdCause (s : State) (cause source : Nat) : State :=
  if s.dget BOOT.HOLD_CAUSE_CAUSE = 0 then (s.dset BOOT.HOLD_CAUSE_CAUSE cause).dset BOOT.HOLD_CAUSE_SOURCE source
  else s.dset BOOT.HOLD_CAUSE_MORE 1

/-- HOLDING is entered, or kept, for a cause (R96, R97); firmware that runs serves HOLDING. -/
def State.enterHolding (s : State) (cause source : Nat) : State :=
  let s1 := s.holdCause cause source
  if s1.dev.state = .holding then s1
  else
    let s2 := ((s1.modDev fun d => { d with state := .holding }).dirq BOOT.IRQ_HOLDING_ENTERED).setStage 6
    let s3 := if s2.dget MILLER.STATUS_CORE = 4 then s2.dset MILLER.STATUS_CORE 1 else s2
    let s4 := if s3.dget MILLER.FW_STATE_STATE = 2 ∨ s3.dget MILLER.FW_STATE_STATE = 4 then s3.dset MILLER.FW_STATE_STATE 3 else s3
    s4.levelsAll allCh

/-- The Miller is stopped: MILLER_RUN 0 and CORE OFF, but HELD stays HELD (R96, R106). -/
def State.millerStop (s : State) : State :=
  let s1 := (s.dset BOOT.STATUS_MILLER_RUN 0).modDev fun d => { d with millerHold := false }
  if s1.dget MILLER.STATUS_CORE = 3 then s1 else s1.dset MILLER.STATUS_CORE 0

/-- TRIAL_ALL ends early: the channels' Trials are cut, a device slice in progress is INCOMPLETE (R452, R474). -/
def State.allCut (s : State) : State :=
  let ran := allCh.filter fun n => s.inTrial n && (s.trialSt n).ran != []
  let s1 := s.trialCutAll allCh
  let s2 := ran.foldl (fun a n => (a.dset (DTRIAL.RESULT_CH_RUN.bit n.val) 1).dset (DTRIAL.RESULT_CH_PASS.bit n.val) 0) s1
  let s3 :=
    match s2.dev.trialSlices with
    | [] => s2
    | k :: _ => s2.dset { DTRIAL.RESULT_SLICES with lo := 2 * k, w := 2 } 3
  let s4 := s3.modDev fun d => { d with trialAllRunning := false, trialSlices := [] }
  (((s4.dset DTRIAL.STATUS_RUNNING 0).dset DTRIAL.BUSY_LONG_OP 0).dset DTRIAL.STATUS_CUR 0xF).dset DTRIAL.ELAPSED_MS_MS
    (s.dget HOST.STATUS_WORD_ELAPSED)

/-- Whether a channel's results, or the device slices', hold a result. -/
def State.anyResult (s : State) (r : Nat) : Bool :=
  let has := fun v k => (List.range k).any fun i => v / 4 ^ i % 4 == r
  has (s.dget DTRIAL.RESULT_SLICES) 3 || allCh.any fun n => has (s.get n TRIAL.RESULT_SLICES) 7

/-- RESULT of an ended TRIAL_ALL: FAIL if any slice failed, else INCOMPLETE if any is (R94, R104). -/
def State.allResult (s : State) : Nat := if s.anyResult 2 then 0x20 else 0x21

/-! ## Shutting (R449, R451, R452, R504) -/

def State.pwrShutAll (s : State) : List Ch → State
  | [] => s.pwrShut .dev
  | n :: ns => (s.pwrShut (.ch n)).pwrShutAll ns

/-- A Device-stop of a source: LAST_STOP and HOLD_CAUSE each time; the first shuts the Sluice. -/
def State.shutSluice (s : State) (src : Nat) : State :=
  let s0 := (s.dset BOOT.LAST_STOP_SOURCE src).dset BOOT.LAST_STOP_VALID 1
  let s1 := if src = 0x206 then s0.millerStop else s0
  if s1.dev.shut then s1.holdCause 6 src
  else
    let s2 := s1.modDev fun d => { d with shut := true }
    let s3 := (s2.enterHolding 6 src).pwrShutAll allCh
    let s4 :=
      if s3.dev.trialAllRunning then
        let a := s3.allCut
        a.cmdEnd 2 a.allResult
      else s3.trialCutAll allCh
    (s4.safeUpdateAll allCh).sluiceSum

/-! ## Collection (R444, R460) -/

/-- An entry enters the log queue of 16, or is dropped. -/
def State.logDrop (s : State) : State := (s.sat 0 FLOG.COUNTS_DROPPED).dirq FLOG.IRQ_DROPPED
def State.logPush (s : State) (r : LogRec) : State :=
  if s.dev.logQueue.length < 16 then s.modDev fun d => { d with logQueue := d.logQueue ++ [r] } else s.logDrop

/-- The reactions of a class: its event and count; a Device-stop includes those of Degrade. -/
def State.classReact (s : State) (cls src : Nat) : State :=
  let s1 := s.dirq SLUICE.IRQ_NOTICE
  match cls with
  | 0 => s1.sat 0 SLUICE.CLASS_COUNT0_NOTICE
  | 1 => (s1.dirq SLUICE.IRQ_DEGRADE).sat 0 SLUICE.CLASS_COUNT0_DEGRADE
  | 2 => ((s1.dirq SLUICE.IRQ_DEGRADE).dirq SLUICE.IRQ_CHANNEL_STOP).sat 0 SLUICE.CLASS_COUNT1_CHANNEL_STOP
  | _ => (((s1.dirq SLUICE.IRQ_DEGRADE).dirq SLUICE.IRQ_DEVICE_STOP).sat 0 SLUICE.CLASS_COUNT1_DEVICE_STOP).shutSluice src

/-- A forwarded fault reaches the collector; in RESET the collector has no clock (R81). -/
def doFaultCollect (s : State) : State :=
  match s.dev.collect with
  | [] => s
  | r :: l => if s.dev.state = .reset ∨ s.dev.state = .off then s else ((s.modDev fun d => { d with collect := l }).logPush r).classReact r.cls r.src

/-! ## The log (R459, R460) -/

/-- The four words of an entry. -/
def LogRec.words (r : LogRec) (seq : Nat) : List Nat :=
  [seq + r.ts.word0.toNat * 2 ^ 32, r.ts.word1.toNat + r.ts.word2.toNat * 2 ^ 32,
   r.src + r.cls * 2 ^ 10 + r.bit * 2 ^ 12 + r.flags * 2 ^ 16 + r.dflt * 2 ^ 24 + r.detail.toNat * 2 ^ 32,
   r.req + r.chState * 2 ^ 16 + r.devState * 2 ^ 24]

/-- Whether the oldest entry may not be overwritten: the ring is full and its class is 3; PROTECTED shows it. -/
def State.logProtected (s : State) : Bool :=
  s.dget FLOG.FILL_COUNT == 256 && s.memData (devMem 3) (4 * s.dget FLOG.RD_IDX_IDX + 2) / 2 ^ 10 % 4 == 3
def State.logStatus (s : State) : State := s.dset FLOG.STATUS_PROTECTED (if s.logProtected then 1 else 0)

/-- COUNT reaches LEVEL (R410). -/
def State.logLevel (s : State) (was : Nat) : State :=
  let lim := clampN 1 256 (s.dget FLOG.CFG_LEVEL)
  if was < lim ∧ lim ≤ s.dget FLOG.FILL_COUNT then s.dirq FLOG.IRQ_LEVEL else s

/-- The oldest queued entry is written. -/
def doLogEntryWrite (s : State) : State :=
  match s.dev.logQueue with
  | [] => s
  | r :: l =>
    let s0 := s.modDev fun d => { d with logQueue := l }
    if s0.logProtected then s0.logDrop
    else
      let wr := s0.dget FLOG.WR_IDX_IDX
      let seq := s0.dget FLOG.SEQ_NEXT
      let was := s0.dget FLOG.FILL_COUNT
      let s1 := s0.memWrites (devMem 3) (4 * wr) (r.words seq)
      let s2 := ((s1.dset FLOG.WR_IDX_IDX (wr + 1)).dset FLOG.SEQ_NEXT (seq + 1)).dirq FLOG.IRQ_ENTRY
      let s3 :=
        if was = 256 then
          (((s2.dset FLOG.RD_IDX_IDX (s2.dget FLOG.RD_IDX_IDX + 1)).dset FLOG.FILL_LAPPED 1).dirq FLOG.IRQ_LAPPED).sat 0
            FLOG.COUNTS_LAPPED
        else (s2.dset FLOG.FILL_COUNT (was + 1)).logLevel was
      s3.logStatus

/-- A write of RD_IDX: entries are consumed, or the write is discarded (R410, R460). -/
def State.writeLogRd (s : State) (rd : Nat) : State :=
  let c := (s.dget FLOG.WR_IDX_IDX + 256 - rd % 256) % 256
  if s.dget FLOG.FILL_COUNT < c then s.dirq FLOG.IRQ_RD_BAD
  else ((s.dset FLOG.RD_IDX_IDX rd).dset FLOG.FILL_COUNT c).logStatus

/-! ## Self-faults (R458) -/

/-- The source ID of the collector of a scope. -/
def selfSource : Scope → Nat
  | .ch n => 64 * n.val + 0x3F
  | .dev => 0x23F

/-- A collector self-fault: SELF, the Sluice shut, an entry logged first where the log can take one; `note` marks an injected
one and names the requester whose write caused it. -/
def State.selfFault (s : State) (x : Scope) (reg : Nat) (note : FaultNote) : State :=
  let src := selfSource x
  let r : LogRec :=
    { ts := s.dev.time, src, bit := 0, cls := 3, flags := 4 + note.flags, dflt := 3, detail := BitVec.ofNat 32 (reg % 256),
      req := match note.req with
        | some q => reqByte q
        | none => 0,
      chState := match x with
        | .ch n => s.chState n
        | .dev => 0,
      devState := s.dev.state.code }
  let s1 := ((s.dset SLUICE.SELF_VALID 1).dset SLUICE.SELF_SOURCE src).dset SLUICE.SELF_REG reg
  let s2 := (s1.dset SLUICE.STATUS_SELF_FAULT 1).modDev fun d =>
    { d with logQueue := if d.logQueue.length < 16 then r :: d.logQueue else d.logQueue }
  s2.shutSluice src

/-- SELF_FAULT. -/
def doSelfFault (x : Scope) (reg : Nat) (s : State) : State := s.selfFault x reg {}

/-! ## Register parity (R120, R454) -/

/-- The fault that a register parity error raises, by page code; the payload words of the mailboxes raise theirs when they
are read, and the pages of the collector raise none (R458). -/
def parityFault (a : Nat) : Option Field :=
  let o := a % 0x1000
  match pageCode a with
  | 0x04 => some DPWR.FLT_PWR_SEQ_PAR
  | 0x05 => if 0x100 ≤ o then none else some MBX.FLT_MBX_PARITY
  | 0x07 => none
  | 0x09 => some TIME.FLT_TIME_PAR
  | 0x0A => some DMEM.FLT_MEM_CTRL_PAR
  | 0x0C => some DCNT.FLT_DEV_CNT_PAR
  | 0x0F => some OTP.FLT_OTP_SHADOW_PAR
  | 0x20 => some FLT.FLT_REG_PAR
  | 0x21 => some (HL.FLT_LANE_FSM_PAR 0)
  | 0x22 => some (HL.FLT_LANE_FSM_PAR 1)
  | 0x23 => some HFEC.FLT_HFEC_FSM_PAR
  | 0x24 => some LTX.FLT_LTX_FSM_PAR
  | 0x25 => some LRX.FLT_LRX_FSM_PAR
  | 0x26 => some TIM.FLT_TIM_FSM_PAR
  | 0x27 => some EQ.FLT_EQ_FSM_PAR
  | 0x28 => some BOLT.FLT_BOLT_FSM_PAR
  | 0x29 => some DRESS.FLT_DRESS_FSM_PAR
  | 0x2A => some MRACE.FLT_MR_FSM_PAR
  | 0x2B => some MRLY.FLT_RELAY_PAR
  | 0x2C => some GAUGE.FLT_GAUGE_FSM_PAR
  | 0x2D => some OUT.FLT_OUT_FSM_PAR
  | 0x2E => some KILN.FLT_KILN_FSM_PAR
  | 0x2F => some TALLY.FLT_TALLY_FSM_PAR
  | 0x30 => some CNT.FLT_CNT_SEL_PAR
  | 0x31 => some HOP.FLT_HOP_FSM_PAR
  | 0x32 => some MEM.FLT_MEM_CTRL_PAR
  | 0x33 => none
  | 0x34 => some TRIAL.FLT_TRIAL_FSM_PAR
  | 0x35 => some PAT.FLT_PAT_FSM_PAR
  | 0x36 => some PWR.FLT_PWR_FSM_PAR
  | 0x37 => if 0x100 ≤ o then none else some SLUICE.FLT_REG_PAR
  | 0x100 => none
  | _ => some SLUICE.FLT_REG_PAR

/-- The channel of an address; device addresses and sources have channel 0. -/
def addrCh (a : Nat) : Ch := if a < 0x100000 then 0 else chOf a

/-- What a page's own parity fault does beside latching (R445). -/
def State.parityEffect (s : State) (a : Nat) : State :=
  let n := addrCh a
  match pageCode a with
  | 0x09 => s.timeParity
  | 0x21 => s.laneParity n 0
  | 0x22 => s.laneParity n 1
  | 0x23 => s.hfecParity n
  | 0x24 => s.ltxParity n
  | 0x25 => s.lrxParity n
  | 0x26 => s.timParity n
  | 0x27 => s.eqParity n
  | 0x28 => s.boltParity n
  | 0x29 => s.dressParity n
  | 0x2A => s.mrParity n
  | 0x2C => s.gaugeParity n
  | 0x2D => s.outParity n
  | 0x2E => s.kilnParity n
  | 0x2F => s.tallyParity n
  | 0x31 => s.hopParity n
  | 0x35 => s.patParity n
  | 0x36 => s.pwrParity n
  | _ => s

/-- The scope of the counter page or of the collector that an address lies in. -/
def addrScope (a : Nat) : Scope := if a < 0x100000 then .dev else .ch (addrCh a)

/-- The counter whose selector an address belongs to (SEL or RANGE). -/
def selectorOf (a : Nat) : Option Nat :=
  let o := a % 0x1000
  if 0x100 ≤ o ∧ o < 0x200 then some ((o - 0x100) / 4)
  else if 0x200 ≤ o ∧ o < 0x300 then some ((o - 0x200) / 4)
  else none

/-- The relay entry whose words an address holds. -/
def relayEntryOf (a : Nat) : Option (Fin 64) :=
  let o := a % 0x1000
  if 0x200 ≤ o ∧ o < 0x400 then some (Fin.ofNat 64 ((o - 0x200) / 8)) else none

/-- A register stored with bad parity by requester `req`, from an injection: the error stays until the register is written
again. -/
def State.regParity (s : State) (a req : Nat) : State :=
  let note : FaultNote := { flags := 9, detail := some (BitVec.ofNat 32 a), req := some req }
  let mark := fun (s : State) => s.modDev fun d => { d with badRegs := a :: d.badRegs.filter fun b => b != a }
  let pg := pageCode a
  if pg = 0x07 ∨ pg = 0x33 then s.selfFault (addrScope a) (a % 0x1000 / 4) { flags := 1, req := some req }
  else
    match parityFault a with
    | none => mark s
    | some f =>
      let n := addrCh a
      if (pg = 0x30 ∨ pg = 0x0C) ∧ (selectorOf a).isSome then
        s.selParity (addrScope a) ((selectorOf a).getD 0) note
      else if pg = 0x34 then ((mark s).trialParity n).raise n f note
      else
        let s1 := ((mark s).raise (if f.isCh then n else 0) f note).parityEffect a
        match relayEntryOf a with
        | some e => if pg = 0x2B then s1.relayLose n (.table e) else s1
        | none => s1

/-! ## Clearing (R453) -/

/-- What still holds of a source marked L in R442 (R22, R31, R79, R81, R194, R314, R345, R376, R403, R531). -/
def State.stillHolds (s : State) (n : Ch) (page bit : Nat) : Bool :=
  match page, bit with
  | 0x20, 1 => (s.chan n).top.pllBad
  | 0x24, 2 => s.txdisBad n
  | 0x2A, 0 => !s.is n MRACE.STATUS_FAR_VALID
  | 0x2D, 3 => !s.voutn && (s.dacState n 0 == 5 || s.dacState n 1 == 5 || s.dacState n 2 == 5)
  | 0x2F, 1 => s.is n TALLY.STATUS_SPILL_FULL
  | 0x02, 0 => !s.dev.refclk
  | 0x02, 1 => s.dev.refclk && !s.is 0 CLK.STATUS_DEV_PLL_LOCK
  | 0x03, 0 => !(s.dev.rails.getLsbD 1 && s.dev.rails.getLsbD 2 && s.dev.rails.getLsbD 4)
  | 0x09, 0 => s.dget TIME.STATUS_PPS_STATE == 2
  | 0x0E, 0 => s.is 0 SENS.STATUS_ABOVE
  | _, _ => false

/-- The note of a re-latch: a register in parity error, or a condition that still holds; none where the clear stands. -/
def State.relatch (s : State) (n : Ch) (f : Field) (page : Nat) : Option FaultNote :=
  match s.dev.badRegs.find? fun a => parityFault a == some f && (!f.isCh || addrCh a == n) with
  | some a => some { flags := 11, detail := some (BitVec.ofNat 32 a) }
  | none => if s.stillHolds n page f.lo then some { flags := 2 } else none

/-- What follows when a fault has been cleared: the blocks that a parity fault had stopped (R439 and the owners' chapters). -/
def State.afterClear (s : State) (n : Ch) (f : Field) : State :=
  let s1 :=
    if f = MEM.FLT_MEM_CTRL_PAR then s.memResume (.ch n)
    else if f = DMEM.FLT_MEM_CTRL_PAR then s.memResume .dev
    else if f = LRX.FLT_LRX_FSM_PAR then s.gainResume n
    else s
  if f.isCh then s1.levels n else s1

/-- One FLT_RAW bit cleared. -/
def State.clearFault (s : State) (n : Ch) (f : Field) (page : Nat) : State :=
  if ! s.is n f then s
  else
    let src := f.source n
    let s1 := (s.set n f 0).modCh n fun c =>
      { c with trial := { c.trial with pend := c.trial.pend.filter fun r => !(r.src == src && r.bit == f.lo) } }
    match s1.relatch n f page with
    | some note =>
      (s1.modDev fun d => { d with forwarded := d.forwarded.filter fun e => !(e.src == src && e.bit == f.lo) }).raise n f note
    | none => (s1.withdraw n f).afterClear n f

/-- The field of FLT_RAW bit `b` of the page at `base`, as the tables name it at channel 0. -/
def rawField (a b : Nat) : Field := ⟨if a < 0x100000 then a / 0x1000 * 0x1000 else 0x100000 + (a - 0x100000) % 0x20000 / 0x1000 * 0x1000, 0x18, b, 1⟩

/-- A write of ones to FLT_RAW, bit after bit (R453). -/
def State.clearFaults (s : State) (a : Nat) (data : Word) : Nat → State
  | 0 => s
  | k + 1 =>
    let s1 := s.clearFaults a data k
    if data.getLsbD k then s1.clearFault (addrCh a) (rawField a k) (pageCode a) else s1
def State.writeFltRaw (s : State) (a : Nat) (data : Word) : State := s.clearFaults a data 16

/-! ## Masking (R455) -/

/-- One FLT_EN bit written: 0 withdraws, 1 forwards a latched bit that is not forwarded. -/
def State.enBit (s : State) (a : Nat) (v : Bool) (b : Nat) : State :=
  let n := addrCh a
  let f := rawField a b
  let src := f.source n
  let was := s.dev.forwarded.any fun e => e.src == src && e.bit == b
  let s1 := s.set n f.enOf (if v then 1 else 0)
  if v then
    if s1.is n f && !was && !(f.isCh && s1.inTrial n) then s1.forward n f (s1.word (f.statusOf.addr n)) {} else s1
  else if was then s1.withdraw n f
  else s1

/-- A write of FLT_EN; bits that are ro stay. -/
def State.enBits (s : State) (a : Nat) (mask data : Word) : Nat → State
  | 0 => s
  | k + 1 =>
    let s1 := s.enBits a mask data k
    if mask.getLsbD k then s1.enBit a (data.getLsbD k) k else s1
def State.writeFltEn (s : State) (a : Nat) (data : Word) : State :=
  match regDef a with
  | some d => s.enBits a (BitVec.ofNat 32 d.rw) data 16
  | none => s

end Sys2Proof.Machine
end

