-- ==== Sys2Proof/Machine/Top.lean ====
section
/-! DEFINITION. CHn.TOP: the mode sequence, the channel PLL, holdover, crossing slips (R20 to R24, R30 to R32). -/

namespace Sys2Proof.Machine

/-- The hidden state of CHn.TOP rewritten. -/
def State.modTop (s : State) (n : Ch) (f : TopSt → TopSt) : State := s.modCh n fun c => { c with top := f c.top }

/-- REFUSE_REASON of a mode GO, 0 where it is accepted (R2, R6, R30). -/
def State.modeRefusal (s : State) (n : Ch) : Nat :=
  let m := s.get n TOP.MODE_CFG_MODE
  if s.chState n ≠ 1 ∨ s.chPhase n ≠ 0 then 3
  else if s.is n TOP.CTRL_EN then 4
  else if m = 0 then 5
  else if m = 3 ∧ s.caps % 8 = 3 then 1
  else if m = 1 ∧ s.is n TOP.MODE_CFG_HOST_OPT = true then 2
  else 0

/-- MODE_APPLY.GO (R30; R31 step 1). -/
def State.modeGo (s : State) (n : Ch) : State :=
  let r := s.modeRefusal n
  if r ≠ 0 then
    ((s.set n TOP.STATUS_MODE_REFUSED 1).set n TOP.STATUS_REFUSE_REASON r).irq n TOP.IRQ_MODE_REFUSED
  else
    let lat := fun (x : TopSt) =>
      { x with latMode := s.get n TOP.MODE_CFG_MODE, latHostOpt := s.get n TOP.MODE_CFG_HOST_OPT,
               latOuter := s.get n TOP.MODE_CFG_OUTER }
    let s1 := ((((s.swapEnd n 6).capAbort n).mrAbandon n).mrCut n).modTop n lat
    let s2 := (s1.modLrx n fun x => { x with frozenOnce := false }).set n LRX.STATUS_ACTIVE_BANK 0
    let s3 := (s2.set n TOP.STATUS_MODE_REFUSED 0).set n TOP.STATUS_MODE_ACTIVE 0
    let s4 := ((s3.set n TOP.CLK_STATUS_CH_PLL_LOCK 0).set n TOP.BUSY_LONG_OP 1).set n DRESS.STATUS_REF_VALID 0
    s4.levels n

/-- Steps 3 to 6 of R31: the PLL has locked, the trims are loaded (R275), the deskew is at 0 (R236), the mode is active. -/
def doModeDone (n : Ch) (s : State) : State :=
  if s.is n TOP.BUSY_LONG_OP = false ∨ s.inTrial n = true ∨ s.dev.refclk = false then s
  else
    let x := (s.chan n).top
    let s1 := s.trimLoad n (x.latMode == 3)
    let s2 := ((s1.set n TOP.CLK_STATUS_CH_PLL_LOCK 1).modTop n fun y => { y with pllBad := false }).boltDrop n 0
    let s3 := ((s2.set n TOP.STATUS_ACTIVE_MODE x.latMode).set n TOP.STATUS_ACTIVE_HOST_OPT x.latHostOpt).set n
      TOP.STATUS_ACTIVE_OUTER x.latOuter
    let s4 := (((s3.set n TIM.DESKEW_COARSE 0).set n TIM.DESKEW_FINE 0).set n TIM.DESKEW_ACTIVE_COARSE 0).set n
      TIM.DESKEW_ACTIVE_FINE 0
    let s5 := ((s4.set n TOP.STATUS_MODE_ACTIVE 1).irq n TOP.IRQ_MODE_DONE).set n TOP.BUSY_LONG_OP 0
    s5.levels n

/-- CH_PLL_UNLOCK, not raised while REFCLK_LOSS is latched (R22); the PLL stays without its lock. -/
def State.pllUnlock (s : State) (n : Ch) : State :=
  (if s.is 0 CLK.FLT_REFCLK_LOSS then s else s.raise n TOP.FLT_CH_PLL_UNLOCK).modTop n fun x => { x with pllBad := true }

/-- 400 µs after GO without a lock, the sequence ends (R31). -/
def doChPllLockTimeout (n : Ch) (s : State) : State :=
  if s.is n TOP.BUSY_LONG_OP = false ∨ s.inTrial n = true then s
  else ((s.pllUnlock n).set n TOP.BUSY_LONG_OP 0).levels n

/-- The channel PLL loses lock in service: a Trial ends at once, LTX stops abruptly (R193, R474). -/
def doChPllUnlock (n : Ch) (s : State) : State :=
  if s.is n TOP.CLK_STATUS_CH_PLL_LOCK = false ∨ s.dev.refclk = false then s
  else
    let s1 := ((s.trialClockLost n).pllUnlock n).abruptStop n
    (s1.set n TOP.CLK_STATUS_CH_PLL_LOCK 0).levels n

/-- HOST_IN re-centred after the slew: each lane that carries host data within ±250 ppm has its lock, and with all of
them host data replaces the fill (R20, R21). -/
def doHoldoverExit (n : Ch) (s : State) : State :=
  if s.is n TOP.STATUS_HOLDOVER = false ∨ s.hostLaneOk n 0 = false then s
  else
    let s1 := (s.set n TOP.STATUS_HOST_LOCK 1).set n TOP.STATUS_HOST_LOCK_P (if s.hostLaneOk n 1 then 1 else 0)
    let s2 :=
      if s1.hostInLocked n then
        ((s1.set n TOP.STATUS_HOLDOVER 0).set n TOP.CLK_STATUS_CORE_TX_LOCK 1).irq n TOP.IRQ_HOLDOVER_EXIT
      else s1
    s2.levels n

/-- The crossings of XING_STATUS in service: HOST_IN0, HOST_IN1, LINE_IN, HOST_OUT0, HOST_OUT1; those of HL2n+1 only in P,
HOST_IN only out of holdover, so that a re-centre of R21 is no slip. -/
def State.crossingOn (s : State) (n : Ch) (x : Fin 5) : Bool :=
  s.modeActive n && s.chRun n && s.is n TOP.CTRL_EN &&
    match x with
    | 0 => !s.is n TOP.STATUS_HOLDOVER
    | 1 => !s.is n TOP.STATUS_HOLDOVER && s.is n TOP.STATUS_ACTIVE_HOST_OPT
    | 2 => true
    | 3 => true
    | _ => s.is n TOP.STATUS_ACTIVE_HOST_OPT

/-- The fill of a crossing reaches `fill` words: below 1 or above 6 it slips, and is at 3 again (R24). -/
def doXingSlip (n : Ch) (x : Fin 5) (fill : Nat) (s : State) : State :=
  if s.crossingOn n x = false ∨ (1 ≤ fill ∧ fill ≤ 6) then s
  else
    let s1 := ((s.raise n TOP.FLT_XING_SLIP).set n (TOP.XING_STATUS_HOST_IN0_SLIP.bit x.val) 1).irq n TOP.IRQ_XING_SLIP
    s1.count n 0x24 (if x = 2 then 2 else 1) x.val

/-- The offset of CORE_TX in 1/16 ppm: within the steering range of R20; in holdover 0, but while the host lane is back it
slews from nominal towards the host's rate (R21). -/
def State.coreTxOffset (s : State) (n : Ch) (tx : Int) : Int :=
  let host := s.getI n (HL.CDR_STATUS_PPM 0)
  if s.is n TOP.STATUS_HOLDOVER = false then clampI (-4000) 4000 tx
  else if s.hostLaneOk n 0 then clampI (min 0 host) (max 0 host) tx
  else 0


/-- The measured offsets in 1/16 ppm (R32).  While the channel PLL has no lock both keep their values: the model's choice
(log entry 61). -/
def doCoreOffsetUpdate (n : Ch) (tx rx : Int) (s : State) : State :=
  if s.is n TOP.CLK_STATUS_CH_PLL_LOCK = false then s
  else (s.setI n TOP.CORE_TX_OFFSET_PPM (s.coreTxOffset n tx)).setI n TOP.CORE_RX_OFFSET_PPM (s.coreRxOffset n rx)

end Sys2Proof.Machine
end

