-- ==== Sys2Proof/Machine/Startup.lean ====
section
/-! DEFINITION. Supplies, resets, the boot ladder, blocking commands, OTP, Miller restarts (R57 to R59, R76 to R102, R106
to R112). -/

namespace Sys2Proof.Machine

/-! ## Device resets (R78, R79, R83 to R85, R102) -/

/-- The scope of a device reset: every register, memory and channel; what always stands outside it are the fuses, the
supply and clock monitors, the pins and the TAP. -/
def State.deviceReset (s : State) (powerOn software : Bool) (cause : Field) : State :=
  let d := s.dev
  let stop := if powerOn then 0 else s.word (BOOT.LAST_STOP.addr 0)
  let why := if powerOn then 0 else s.word (BOOT.RESET_CAUSE.addr 0)
  let s1 : State :=
    { pending := s.pending, draws := s.draws,
      dev :=
        { rails := d.rails, refclk := d.refclk, monitor := d.monitor && !d.railWait, railWait := d.railWait, released := d.released,
          straps := if software then d.straps else 0, fuseWords := d.fuseWords, fuseValid := d.fuseValid, order := d.order,
          uid := d.uid, jtag := if powerOn then 0x01 else d.jtag, jtagPins := !powerOn && d.jtagPins, ticks := d.ticks } }
  let s2 := (s1.setWord (BOOT.LAST_STOP.addr 0) stop).setWord (BOOT.RESET_CAUSE.addr 0) why
  let s3 := (s2.dset cause 1).set 0 SENS.CFG_WARN (ofSigned 16 (s2.tjUpper - 80))
  s3.dset DTRIAL.STATUS_JTAG_PINS (if s3.dev.jtagPins then 1 else 0)

/-- A fuse word programmed: bits are only ever added. -/
def State.fuse (s : State) (w : Nat) (bits : Word) : State :=
  let v := s.otpBits w ||| bits
  s.modDev fun d => { d with fuseWords := (w, v) :: d.fuseWords.filter fun e => e.1 != w }
def State.fuseSetValid (s : State) (w : Nat) : State := s.modDev fun d => { d with fuseValid := d.fuseValid ||| BitVec.ofNat 64 (2 ^ w) }

/-- The bits COMMIT programs into words 25 and 26 (R99). -/
def commitBits (sec : Nat) : Word × Word := (BitVec.ofNat 32 (2 ^ sec - 1), BitVec.ofNat 32 ((2 ^ sec - 1) / 2 ^ 32))

/-- The result of OTP_PROGRAM that its operands alone decide, 0 where it programs (R101). -/
def State.otpRefusal (s : State) (w : Nat) (data : Word) : Nat :=
  if w < 8 ∨ w = 25 ∨ w = 26 then 0x32
  else if w = 24 then (if data &&& ~~~(0x33 : Word) = 0 then 0 else 0x32)
  else if s.otpValid w then 0x30
  else 0

/-- A program cut short: its word holds some of the new bits, free ones; a VALID fuse never clears, and is not set (R102,
log entry 3). -/
def State.fuseTorn (s : State) (w : Nat) (bits : Word) : State := s.draw.2.fuse w (bits &&& BitVec.ofNat 32 s.draw.1)

/-- OTP_PROGRAM or COMMIT cut short by a reset or its overrun. -/
def State.otpCut (s : State) : State :=
  match s.dev.blocking with
  | none => s
  | some b =>
    if b.code = 4 then (if s.otpRefusal b.word b.data = 0 then s.fuseTorn b.word b.data else s)
    else if b.code = 3 then
      let sec := s.dget BOOT.SEC_IMAGE
      if sec ≤ s.otpFloor then s
      else
        let c := commitBits sec
        let t := s.draw.2
        if 32 < sec ∧ s.draw.1 % 2 = 1 then ((t.fuse 25 c.1).fuseSetValid 25).fuseTorn 26 c.2 else t.fuseTorn 25 c.1
    else s

/-- The rails of the supply monitor: bit 0 VDD, 1 VDDA, 2 VDDH, 3 VDDIO, 4 VDDO, 5 VOUTN. -/
def railBit : Rail → Nat
  | .vdda => 1
  | .vddh => 2
  | .vddo => 4
def State.setRail (s : State) (b : Nat) (ok : Bool) : State :=
  s.modDev fun d => { d with rails := if ok then d.rails ||| BitVec.ofNat 6 (2 ^ b) else d.rails &&& ~~~ BitVec.ofNat 6 (2 ^ b) }

/-- Every required rail has been in range for 1 ms: the supply monitor releases the part, and the straps are sampled where
RESET_N is high (R34, R78).  In service it only ends the wait that a reset would have to keep. -/
def doPowerOn (straps : BitVec 4) (s : State) : State :=
  if s.dev.monitor then (if s.dev.rails &&& 0x1F = 0x1F then s.modDev fun d => { d with railWait := false } else s)
  else
    let s1 := if s.dev.state = .off then s.deviceReset true false BOOT.RESET_CAUSE_POWER_ON else s
    s1.modDev fun d =>
      { d with monitor := true, railWait := false, rails := d.rails ||| 0x1F,
               straps := if d.released then straps else d.straps }

/-- RESET_N low for longer than its filter (R84). -/
def doResetNAssert (s : State) : State :=
  let s1 := if s.dev.state = .off then s else s.otpCut.deviceReset false false BOOT.RESET_CAUSE_PIN
  s1.modDev fun d => { d with released := false }

/-- RESET_N rises (R34). -/
def doResetNRelease (straps : BitVec 4) (s : State) : State :=
  if s.dev.released then s
  else s.modDev fun d => { d with released := true, straps := if d.monitor then straps else d.straps }

/-- VDD, or with `vddio` VDDIO, below its threshold; `deep` below 1.0 V on VDDIO, where the always-on domain loses power
(R79). -/
def doBrownout (vddio deep : Bool) (s : State) : State :=
  if s.dev.state = .off then s
  else
    let s1 := s.otpCut.setRail (if vddio then 3 else 0) false
    let s2 := s1.deviceReset true false (if vddio && deep then BOOT.RESET_CAUSE_POWER_ON else BOOT.RESET_CAUSE_BROWNOUT)
    s2.modDev fun d => { d with monitor := false, state := if vddio && deep then .off else d.state }

/-- VDDA, VDDH or VDDO leaves its range: RAIL_FAULT (R79).  The monitor holds a part that has not left RESET, and one that a
later reset puts there, until the rail has been in range for 1 ms (R78). -/
def doRailFault (r : Rail) (s : State) : State :=
  let s1 := (s.setRail (railBit r) false).modDev fun d => { d with railWait := true }
  if s.dev.state = .off ∨ s.dev.monitor = false then s1
  else if s.dev.state = .reset ∧ s.dev.booted = false then s1.modDev fun d => { d with monitor := false }
  else s1.draise BOOT.FLT_RAIL_FAULT
def doRailReturn (r : Rail) (s : State) : State := s.setRail (railBit r) true

/-- SWRESET (R85). -/
def State.writeSwreset (s : State) (key : Word) : State :=
  if key = 0xD1CE0001 then s.modDev fun d => { d with swresetArmed := true } else s.dirq BOOT.IRQ_SWRESET_KEY_BAD

/-- The software device reset takes effect; it interrupts no blocking command. -/
def doSoftwareReset (s : State) : State :=
  if s.dev.swresetArmed && s.dev.blocking.isNone then s.deviceReset false true BOOT.RESET_CAUSE_SOFTWARE else s

/-! ## REFCLK and the device PLL (R22, R80, R81, R103) -/

/-- A list of channels loses its clock abruptly. -/
def State.clocksLost (s : State) : List Ch → State
  | [] => s
  | n :: ns => (((s.trialClockLost n).abruptStop n).set n TOP.CLK_STATUS_CH_PLL_LOCK 0).clocksLost ns

def State.powered (s : State) : Bool := s.dev.state != .off && s.dev.state != .reset

def doRefclkLoss (s : State) : State :=
  if ! s.dev.refclk then s
  else if ! s.powered then s.modDev fun d => { d with refclk := false }
  else
    let s1 := (s.draise CLK.FLT_REFCLK_LOSS).sat 0 CLK.REF_LOSS_COUNT_COUNT
    let s2 := (s1.modDev fun d => { d with refclk := false, timeRunning := false }).dset CLK.STATUS_DEV_PLL_LOCK 0
    (s2.clocksLost allCh).levelsAll allCh

def doRefclkReturn (s : State) : State :=
  if s.dev.refclk then s
  else
    let s1 := s.modDev fun d => { d with refclk := true }
    if s1.powered then s1.dirq CLK.IRQ_REFCLK_RETURN else s1

/-- Boot starts and the OTP shadow is loaded; `ok` says whether the shadow's parity holds (R80, R88, R105).  With TESTMODE sampled high
the part stays in RESET (R484). -/
def doBootStart (ok : Bool) (s : State) : State :=
  if s.dev.state ≠ .reset ∨ s.dev.booted = true ∨ s.dev.monitor = false ∨ s.dev.released = false ∨ s.dev.refclk = false ∨
      s.testMode = true then s
  else
    let s1 := s.modDev fun d => { d with booted := true }
    if ok then s1.dset OTP.STATUS_SHADOW_OK 1 else s1.draise OTP.FLT_OTP_SHADOW_PAR

/-- A blocking period starts (R57, R58, R74). -/
def State.blockStart (s : State) (b : Blocking) : State :=
  ((s.modDev fun d => { d with blocking := some b, blockTicks := 0 }).dset HOST.STATUS_WORD_ELAPSED 0).dcount 0x63 b.code

/-- The device PLL locks `us` after boot start: BOOT, with the ROM check; in service, a relock. -/
def doDevPllLock (us : Nat) (s : State) : State :=
  if s.dev.booted = false ∨ s.dev.refclk = false ∨ s.is 0 CLK.STATUS_DEV_PLL_LOCK = true then s
  else
    let s1 := (s.dset CLK.STATUS_DEV_PLL_LOCK 1).setSat 0 CLK.DEV_PLL_LOCK_TIME_US us
    let s2 := s1.modDev fun d => { d with timeRunning := true }
    if s.dev.state = .reset then ((s2.modDev fun d => { d with state := .boot }).blockStart { code := 0xF }).sluiceSum
    else s2.dirq CLK.IRQ_DEV_PLL_RELOCK

/-- No lock within 200 µs: the part stays in RESET (R81). -/
def doDevPllLockRetry (s : State) : State :=
  if s.dev.state = .reset ∧ s.dev.booted = true then s.dset CLK.STATUS_DEV_PLL_LOCK 0 else s

/-- The device PLL loses lock while REFCLK runs. -/
def doDevPllUnlock (s : State) : State :=
  if s.is 0 CLK.STATUS_DEV_PLL_LOCK = false ∨ s.dev.refclk = false then s
  else
    (if s.is 0 CLK.FLT_REFCLK_LOSS then s else s.draise CLK.FLT_DEV_PLL_UNLOCK).dset CLK.STATUS_DEV_PLL_LOCK 0

/-! ## The ladder (R88, R89) -/

def State.blockCode (s : State) : Nat :=
  match s.dev.blocking with
  | some b => b.code
  | none => 0

/-- The ladder's stage, which HOLDING holds at 6 (R104). -/
def State.ladder (s : State) (v : Nat) : State := if s.dev.state = .holding then s.setStage 6 else s.setStage v

/-- The ROM check ends (R89): the march leaves the three memories poisoned. -/
def doRomCheckDone (romOk memOk : Bool) (s : State) : State :=
  if s.blockCode ≠ 0xF ∨ s.powered = false then s
  else if ! romOk then (s.enterHolding 1 0).busyEnd
  else
    let s1 := (((s.ladder 1).poison (devMem 0)).poison (devMem 1)).poison (devMem 2)
    if memOk then (s1.ladder 2).busyEnd else (s1.enterHolding 2 0).busyEnd

/-! ## AUTHENTICATE (R90 to R93, R98, R452) -/

/-- Words of a device memory as AUTHENTICATE reads them, in order; none from the first that is uncorrectable on. -/
def State.readWords (s : State) (m w : Nat) : Nat → Option (List Nat) × State
  | 0 => (some [], s)
  | k + 1 =>
    let r := s.busRead m w reqMiller
    match r.1 with
    | none => (none, r.2)
    | some v =>
      let q := State.readWords r.2 m (w + 1) k
      (q.1.map fun l => v :: l, q.2)

/-- The bytes of 64-bit words, the lowest address first. -/
def wordBytes (l : List Nat) : List (BitVec 8) := l.flatMap fun v => (List.range 8).map fun k => BitVec.ofNat 8 (v / 256 ^ k)

/-- Whether every word of the header from `w` on, `k` of them, can be read. -/
def State.headerReads (s : State) (w k : Nat) : Bool := (List.range k).all fun i => !(s.ecc (devMem 0) (w + i)).bad

/-- A field of the header, `k` bytes at byte `b`; an uncorrectable word gives 0. -/
def State.header (s : State) (b k : Nat) : Nat :=
  let m := devMem 0
  if (s.ecc m (b / 8)).bad then 0 else s.memData m (b / 8) / 256 ^ (b % 8) % 256 ^ k

/-- Header bytes as a string. -/
def State.headerBytes (s : State) (b k : Nat) : List (BitVec 8) := (List.range k).map fun i => BitVec.ofNat 8 (s.header (b + i) 1)

/-- The key hash that OTP holds in a slot. -/
def State.slotHash (s : State) (k : Nat) : List (BitVec 8) :=
  (List.range 8).flatMap fun i => (List.range 4).map fun j => BitVec.ofNat 8 ((s.otpWord (8 + 8 * k + i)).toNat / 256 ^ j)

/-- Checks 1 to 5 of R92: the RESULT of the first that fails, 0 for none; a check that meets a word of the header that was
never written, or is uncorrectable, ends with AUTH_IMAGE_UE (R91). -/
def State.authHeader (s : State) : Nat :=
  let zero := fun b k => (List.range k).all fun i => s.header (b + i) 1 == 0
  let codeLen := s.header 8 4
  let dataLen := s.header 0xC 4
  let entry := s.header 0x10 4
  let usable := (List.range 2).filter s.slotUsable
  if s.headerReads 0 1 = false ∨ s.headerReads 3 1 = false ∨ s.headerReads 20 12 = false then 0x16
  else if s.header 0 4 ≠ 0x43503834 ∨ s.header 4 2 ≠ 1 ∨ zero 0x18 8 = false ∨ zero 0xA0 96 = false ∨ 64 < s.header 6 2 then 0x10
  else if s.headerReads 1 2 = false then 0x16
  else if codeLen % 8 ≠ 0 ∨ codeLen < 0x100 ∨ 0x80000 < codeLen ∨ dataLen % 8 ≠ 0 ∨ 0x40000 < dataLen ∨
      entry % 4 ≠ 0 ∨ entry < 0x100 ∨ codeLen ≤ entry then 0x11
  else if usable = [] then 0x12
  else if s.headerReads 4 8 = false then 0x16
  else if usable.all (fun k => Config.sha256 (s.headerBytes 0x20 64) != s.slotHash k) then 0x13
  else if s.header 6 2 < s.otpFloor then 0x14
  else 0

/-- Checks 6 and 7: the words of the signed message are read, then the signature is verified. -/
def State.authMessage (s : State) : Nat × State :=
  let a := s.readWords (devMem 0) 0 12
  let b := a.2.readWords (devMem 0) 32 (s.header 8 4 / 8 - 32)
  let c := b.2.readWords (devMem 1) 0 (s.header 0xC 4 / 8)
  match a.1, b.1, c.1 with
  | some x, some y, some z =>
    if s.headerReads 12 8 = false then (0x16, c.2)
    else if Config.ecdsaVerifies (s.headerBytes 0x20 64) (s.headerBytes 0x60 64) (wordBytes (x ++ y ++ z)) then (0, c.2) else (0x15, c.2)
  | none, _, _ => (0x16, a.2)
  | some _, none, _ => (0x16, b.2)
  | some _, some _, none => (0x16, c.2)

/-- The checks end (R92, R93; R452 where the Sluice is shut). -/
def doAuthComplete (s : State) : State :=
  if s.blockCode ≠ 1 ∨ s.is 0 BOOT.STATUS_AUTHENTICATED = true then s
  else
    let r := if s.authHeader = 0 then s.authMessage else (s.authHeader, s)
    if r.1 ≠ 0 then
      (((r.2.sat 0 BOOT.AUTH_ATTEMPTS_COUNT).enterHolding 3 0).setStage 6).cmdEnd 1 r.1
    else
      let t := r.2
      let t1 := ((t.modDev fun d => { d with codeLocked := true }).dset BOOT.STATUS_AUTHENTICATED 1).dset BOOT.FW_VERSION (s.header 0x14 4)
      let t2 := t1.dset BOOT.SEC_IMAGE (s.header 6 2)
      if t2.dev.shut then (t2.setStage 6).cmdEnd 1 0
      else
        let t3 := (t2.modDev fun d =>
          { d with state := if d.state = .holding then .boot else d.state, millerStart := d.ticks, fwFirst := true,
                   wdogTicks := 0 }).dset BOOT.STATUS_MILLER_RUN 1
        (((t3.dset MILLER.STATUS_CORE 1).dset MILLER.FW_STATE_STATE 1).cmdResult 1 0).dirq BOOT.IRQ_CMD_DONE

/-! ## TRIAL_ALL (R93, R94, R475) -/

/-- TRIAL_ALL starts: channel Trials in progress are cut, every channel begins or moves to STANDBY. -/
def State.trialAllStart (s : State) : State :=
  let s1 := (s.ladder 4).trialCutAll allCh
  let s2 := (s1.modDev fun d => { d with trialAllRunning := true, trialSlices := [] }).dset DTRIAL.RESULT 0
  (((s2.dset DTRIAL.STATUS_RUNNING 1).dset DTRIAL.BUSY_LONG_OP 1).dset DTRIAL.STATUS_CUR 0xF).allBegins allCh

/-- Firmware starts TRIAL_ALL after its first start; with the Sluice shut by then it does not (R93, R452). -/
def doFirmwareTrialAll (s : State) : State :=
  if s.blockCode ≠ 1 ∨ s.is 0 BOOT.STATUS_AUTHENTICATED = false then s
  else if s.dev.shut then s.busyEnd
  else (s.blockStart { code := 2 }).trialAllStart

/-- TRIAL_ALL ends with the outcome of R94; issued in HOLDING it stays there. -/
def doTrialAllEnd (s : State) : State :=
  if s.trialAll = false ∨ s.dget DTRIAL.RESULT_CH_RUN ≠ 0xFF ∨ s.dev.trialSlices ≠ [] then s
  else
    let s1 := (s.modDev fun d => { d with trialAllRunning := false }).dset DTRIAL.STATUS_RUNNING 0
    let s2 := ((s1.dset DTRIAL.BUSY_LONG_OP 0).dset DTRIAL.STATUS_CUR 0xF).dset DTRIAL.ELAPSED_MS_MS (s.dget HOST.STATUS_WORD_ELAPSED)
    let s3 := s2.dirq DTRIAL.IRQ_DONE
    let pass := s.dget DTRIAL.RESULT_CH_PASS == 0xFF && s.dget { DTRIAL.RESULT_SLICES with w := 4 } == 5
    let r := if pass then 0 else s.allResult
    let s4 :=
      if s3.dev.state = .holding then s3
      else if pass then (s3.modDev fun d => { d with state := .ready }).setStage 5
      else s3.enterHolding (if r = 0x20 then 4 else 5) 0
    s4.cmdEnd 2 r

/-! ## Acceptance (R95) -/

/-- The RESULT of a refusal of a blocking command, 0 where it is accepted. -/
def State.blockRefusal (s : State) (code : Nat) : Nat :=
  let st := s.dev.state
  let wait := st == .boot && s.dget BOOT.STATUS_STAGE == 2
  let ok : Bool := match code with
    | 1 => wait || (st == .holding && s.dget BOOT.HOLD_CAUSE_CAUSE == 3 && s.dget BOOT.HOLD_CAUSE_MORE == 0)
    | 2 => st == .ready || (st == .holding && s.is 0 BOOT.STATUS_MILLER_RUN)
    | 3 => (st == .ready || st == .run) && s.is 0 BOOT.STATUS_AUTHENTICATED
    | 4 => wait || st == .ready || st == .holding
    | _ => false
  if code = 0 ∨ 4 < code then 2 else if ok then 0 else 1

/-- A refusal recorded. -/
def State.blockRefuse (s : State) (code result : Nat) : State :=
  (((s.dset BOOT.CMD_RESULT_CMD code).dset BOOT.CMD_RESULT_RESULT result).dset BOOT.CMD_RESULT_MS 0).dirq BOOT.IRQ_CMD_REFUSED

/-- An accepted command starts, at the end of its transaction (R58, R98). -/
def State.blockGo (s : State) (code : Nat) : State :=
  let s1 := s.blockStart { code, word := s.dget OTP.PROG_ADDR_WORD, data := s.word (OTP.PROG_DATA.addr 0) }
  match code with
  | 1 => (if s1.dev.state = .holding then s1.dset BOOT.HOLD_CAUSE 0 else s1).setStage 3
  | 2 => s1.trialAllStart
  | _ => s1

/-- A write of DEV.BOOT.CMD as the only word of a Manager transaction. -/
def State.blockCmd (s : State) (code : Nat) : State :=
  if s.busyPin then s
  else
    let r := s.blockRefusal code
    if r = 0 then s.blockGo code else s.blockRefuse code r

/-! ## COMMIT and OTP_PROGRAM end (R99, R101); the overrun (R59) -/

/-- A word programmed and verified: `stuck` are the bits that do not read back as programmed. -/
def State.program (s : State) (w : Nat) (bits stuck : Word) : Nat × State :=
  let s1 := s.fuse w (bits &&& ~~~stuck)
  if s1.otpBits w = s.otpBits w ||| bits then (0, s1.fuseSetValid w) else (0x31, s1)

/-- COMMIT's programming. -/
def State.commit (s : State) (stuck : BitVec 64) : Nat × State :=
  let sec := s.dget BOOT.SEC_IMAGE
  if sec ≤ s.otpFloor then (0, s)
  else
    let c := commitBits sec
    let a := s.program 25 c.1 (stuck.setWidth 32)
    if a.1 ≠ 0 ∨ sec ≤ 32 then a else a.2.program 26 c.2 ((stuck >>> 32).setWidth 32)

/-- COMMIT or OTP_PROGRAM ends. -/
def doBlockingEnd (stuck : BitVec 64) (s : State) : State :=
  match s.dev.blocking with
  | none => s
  | some b =>
    if b.code = 3 then (s.commit stuck).2.cmdEnd 3 (s.commit stuck).1
    else if b.code = 4 then
      let r := if s.otpRefusal b.word b.data = 0 then s.program b.word b.data (stuck.setWidth 32) else (s.otpRefusal b.word b.data, s)
      r.2.cmdEnd 4 r.1
    else s

/-- A blocking period reaches its overrun limit. -/
def doBlockOverrun (s : State) : State :=
  if s.dev.blocking.isNone ∨ s.powered = false then s
  else
    let s1 := s.otpCut
    let s2 := if s1.dev.trialAllRunning then s1.allCut else s1
    (s2.draise HOST.FLT_BLOCK_OVERRUN).cmdEnd s.blockCode 0x40

/-! ## Channel resets (R86, R83, R504) -/

/-- The result registers of CHn.TRIAL that a channel reset keeps. -/
def trialKept (n : Ch) : List Nat :=
  [TRIAL.RESULT.addr n, TRIAL.MARCH_FAIL.addr n, TRIAL.ELAPSED_US.addr n, TRIAL.COUNT.addr n]

/-- Pages of a channel at Reset. -/
def State.resetPages (s : State) (n : Ch) : List Nat → State
  | [] => s
  | p :: ps => (s.resetPage (chPage n p)).resetPages n ps

/-- Words written back. -/
def State.putWords (s : State) : List (Nat × Word) → State
  | [] => s
  | w :: l => (s.setWord w.1 w.2).putWords l

/-- The scope of a channel reset: pages 0x00 to 0x15 but the kept registers, and the channel's logic. -/
def State.chScope (s : State) (n : Ch) : State :=
  let keep := (trialKept n).map fun a => (a, s.word a)
  let s1 := ((s.resetPages n darkPages).putWords keep).forgetPages n
  let s2 := s1.modCh n fun c => { pwr := c.pwr, wright := c.wright }
  ((s2.dropCleared).safeUpdate n).levels n

/-- Whether a channel reset has no effect: DARK, or an entry into DARK whose power switch has opened (R86, R504). -/
def State.resetIdle (s : State) (n : Ch) : Bool := (s.chState n == 0 && s.chPhase n != 4) || s.switchOpen n

/-- The record of the light that a channel reset stopped, on the page at its Reset values (R193). -/
def State.abruptMark (s : State) (n : Ch) (lit : Bool) : State :=
  if lit then ((s.set n LTX.STATUS_ABRUPT 1).irq n LTX.IRQ_ABRUPT_STOP).set n LTX.COUNTS_ABRUPT 1 else s

/-- CH_RESET bit n written with 1: outputs safe at once, a Trial aborted, a transition ended; during the DARK exit the reset
waits for the exit. -/
def State.chReset (s : State) (n : Ch) : State :=
  if s.resetIdle n then s
  else
    let s0 := s.dset (BOOT.CH_RESET_CH.bit n.val) 1
    if s0.chState n = 0 then s0
    else
      let s1 := (s0.sliceCut n).abruptStop n
      let s2 := ((s1.chScope n).abruptMark n (s0.ltxState n != 0)).wrightHold n
      let s3 := if s2.chPhase n = 0 then s2 else s2.pathAbort (.ch n) 0xD (2 ^ 0xD)
      s3.allNote n (s.trialSt n).all

/-- The reset completes: STANDBY without a mode, and the wright restarts from its scratchpad (R108, R113). -/
def doChResetComplete (n : Ch) (s : State) : State :=
  if s.is 0 (BOOT.CH_RESET_CH.bit n.val) = false ∨ s.chState n = 0 then s
  else
    let s1 := ((s.chScope n).abruptMark n (s.is n LTX.STATUS_ABRUPT)).set 0 (BOOT.CH_RESET_CH.bit n.val) 0
    let s2 := if s1.chPhase n = 0 then s1 else s1.pathAbort (.ch n) 0xD (2 ^ 0xD)
    let s3 := if s2.chState n = 2 ∨ s2.chState n = 3 then (s2.toStandby n).irq n PWR.IRQ_DONE else s2.toStandby n
    (s3.wrightStart n 1).levels n

/-! ## The Miller (R87, R106, R109 to R112, R124) -/

/-- The Miller restarts: the third restart within a second holds it (R111); else the hold of 2 µs begins (R110). -/
def State.millerRestart (s : State) (cause : Nat) : State :=
  let core := s.dget MILLER.STATUS_CORE
  if core = 0 ∨ core = 3 ∨ s.dev.millerHold = true then s
  else
    let recent := recentStamps s.dev.ticks s.dev.millerRecent
    let s0 := if cause = 1 then s else s.draise MILLER.FLT_MILLER_RESTART
    let s1 := (s0.sat 0 MILLER.RESTART_COUNT).dset MILLER.RESTART_CAUSE cause
    let s2 := s1.modDev fun d => { d with millerRecent := recent }
    let s3 := if s2.phase .dev = 2 then s2.modPath .dev fun p => { p with deaf := true } else s2
    if 3 ≤ recent.length then
      ((s3.draise MILLER.FLT_MILLER_RESTART_REPEAT).dset MILLER.STATUS_CORE 3).dset BOOT.STATUS_MILLER_RUN 0
    else (s3.dset MILLER.STATUS_CORE 2).modDev fun d => { d with millerHold := true }

/-- MILLER_RESET.GO (R87). -/
def State.millerReset (s : State) : State :=
  if (s.dev.state = .boot ∧ s.is 0 BOOT.STATUS_AUTHENTICATED = false) ∨
      (s.dev.state = .holding ∧ s.is 0 BOOT.STATUS_MILLER_RUN = false) then s
  else s.millerRestart 1

/-- The hold ends: firmware restarts at ENTRY (R87, R110, R118). -/
def doMillerRestart (s : State) : State :=
  if ! s.dev.millerHold then s
  else
    let s1 := s.modDev fun d => { d with millerHold := false, millerStart := d.ticks, fwFirst := false, wdogTicks := 0 }
    let s2 := ((s1.incr 0 BOOT.MILLER_EPOCH).dset MILLER.STATUS_CORE 1).dset MILLER.FW_STATE_STATE 1
    (s2.dirq MILLER.IRQ_RESTART).boxResets millerBoxes

/-- The Miller's watchdog expires, or it traps, `after` ticks of device time later (R109, R112). -/
def doMillerWatchdog (after : Nat) (s : State) : State :=
  let t := s.elapse after
  if t.dget MILLER.STATUS_CORE = 1 then t.millerRestart 2 else t
def doMillerTrap (c : TrapCause) (after : Nat) (s : State) : State :=
  let t := s.elapse after
  if t.dget MILLER.STATUS_CORE = 1 then t.millerRestart (trapCode c) else t

/-- The commands taken before a restart are answered RESTARTED; without a readable record, with OPCODE and TAG 0 (R124). -/
def State.fwRestarted (s : State) (lost : Bool) : List FwCmd → State
  | [] => s
  | c :: l =>
    ((s.modFw c.box fun c => { c with idle := true }).fwPost c.box
      (responseWords (if lost then 0 else c.words.headD 0) 8 [])).fwRestarted lost l

/-- Firmware begins to serve the mailboxes; after its first start only once TRIAL_ALL has ended (R110, R124). -/
def doFwReady (lost : Bool) (s : State) : State :=
  if s.dget MILLER.STATUS_CORE ≠ 1 ∨ s.dget MILLER.FW_STATE_STATE ≠ 1 ∨
      (s.dev.fwFirst = true ∧ s.dev.blocking.isSome = true) then s
  else
    let s1 := (s.fwRestarted lost s.dev.fw).modDev fun d => { d with fwFirst := false }
    (s1.dset MILLER.FW_STATE_STATE (if s1.dev.state = .holding then 3 else 2)).dirq MILLER.IRQ_FW_READY

end Sys2Proof.Machine
end

