-- ==== Sys2Proof/Machine/Write.lean ====
section
/-! DEFINITION. A register written or read at its target by any requester: the access codes of R9, held ws requests (R12),
the registers whose write or read does something of its own, mailboxes (R114, R115, R119, R120), injected parity (R454,
R457) and the counting of bus events (R391, R392). -/

namespace Sys2Proof.Machine

/-- An outcome: CODE and detail (R44, R46). -/
abbrev Code := Nat × Nat

/-- OK, and the target refusal of detail 0x34. -/
def codeOk : Code := (0, 0)
def codeRefused : Code := (4, 0x34)

/-- The index below `k` at which a register array has an offset. -/
def idxAt (k : Nat) (f : Nat → Field) (o : Nat) : Option Nat := (List.range k).find? fun i => (f i).off == o

/-! ## Mailboxes -/

/-- The mailbox whose block holds an address, none where the page has no mailbox there. -/
def boxAt (a : Nat) : Option Box :=
  let o := a % 0x1000
  if pageCode a = 0x05 ∧ 0x100 ≤ o ∧ o < 0x300 then some (.h2m (Fin.ofNat 4 ((o - 0x100) / 0x80)))
  else if pageCode a = 0x05 ∧ 0x300 ≤ o ∧ o < 0x500 then some (.m2h (Fin.ofNat 4 ((o - 0x300) / 0x80)))
  else if pageCode a = 0x37 ∧ 0x100 ≤ o ∧ o < 0x200 then some (.m2w (addrCh a) (Fin.ofNat 2 ((o - 0x100) / 0x80)))
  else if pageCode a = 0x37 ∧ 0x200 ≤ o ∧ o < 0x300 then some (.w2m (addrCh a) (Fin.ofNat 2 ((o - 0x200) / 0x80)))
  else none

/-- A write by the sender of a FULL mailbox is refused: REFUSED_FULL to the host, a bus error to a processor (R115). -/
def State.boxRefuse (s : State) (b : Box) : Code × State :=
  (if boxSender b = reqHost then (5, 0x40) else codeRefused, s.dcount 0x61 (boxSender b))

/-- Payload word `i` written (R114, R115). -/
def State.boxPut (s : State) (b : Box) (i : Nat) (data : Word) (req : Nat) : Code × State :=
  if req ≠ boxSender b then (codeOk, s)
  else if s.boxFull b then s.boxRefuse b
  else (codeOk, s.boxWords b i [data])

/-- DOORBELL written: RING by the sender, TAKE by the receiver (R114, R115). -/
def State.boxBell (s : State) (b : Box) (ring take : Bool) (req : Nat) : Code × State :=
  if ring = true ∧ req = boxSender b then (if s.boxFull b then s.boxRefuse b else (codeOk, s.boxRing b))
  else if take = true ∧ req = boxReceiver b then (codeOk, s.boxTake b)
  else (codeOk, s)

/-- HOST_EPOCH written (R119). -/
def State.hostEpoch (s : State) (data : Word) : State :=
  if s.word (MBX.HOST_EPOCH.addr 0) = data then s
  else (s.setWord (MBX.HOST_EPOCH.addr 0) data).boxResets hostBoxes

/-! ## Plain writes and ws requests -/

/-- The masks of the bits of a register with an access code. -/
def rwMask (a : Nat) : Word := BitVec.ofNat 32 (((regDef a).map RegDef.rw).getD 0)
def w1cMask (a : Nat) : Word := BitVec.ofNat 32 (((regDef a).map RegDef.w1c).getD 0)
def wsMask (a : Nat) : Word := BitVec.ofNat 32 (((regDef a).map RegDef.ws).getD 0)
def woMask (a : Nat) : Word := BitVec.ofNat 32 (((regDef a).map RegDef.wo).getD 0)

/-- The word that a write leaves by the access codes: rw bits take the data, w1c bits written 1 clear, all others stay. -/
def plainWord (a : Nat) (old data : Word) : Word :=
  (data &&& rwMask a) ||| (old &&& ~~~ rwMask a &&& ~~~ (w1cMask a &&& data))

/-- A write under the access codes alone (R9, R10, R15). -/
def State.plainWrite (s : State) (a : Nat) (data : Word) : State := s.setWord a (plainWord a (s.word a) data)

/-- What the request of ws bit `b` of a register does once it is accepted. -/
def State.wsAct (s : State) (a b : Nat) : State :=
  let n := addrCh a
  match pageCode a, a % 0x1000, b with
  | 0x03, 0x54, _ => s.chReset (Fin.ofNat 8 b)
  | 0x03, 0x58, _ => s.millerReset
  | 0x04, 0x44, _ => s.pwrClear .dev
  | 0x09, 0x5C, 0 => s.timeSet
  | 0x09, 0x5C, _ => s.timeAdjust
  | 0x0A, 0x4C, 0 => s.scrubGo .dev
  | 0x0A, 0x4C, _ => s.scrubStop .dev
  | 0x0A, 0x78, _ => s.marchGo .dev
  | 0x0B, 0x44, _ => s.devTrialGo
  | 0x0E, 0x54, _ => s.clrPeak
  | 0x20, 0x44, _ => s.modeGo n
  | 0x21, 0x44, _ => s.retrain n 0
  | 0x22, 0x44, _ => s.retrain n 1
  | 0x23, 0x44, _ => s.slipGo n
  | 0x23, 0x60, _ => s.hfecClear n
  | 0x24, 0x74, _ => s.firApply n
  | 0x24, 0x78, _ => s.nlLoad n
  | 0x25, 0x60, 0 => s.swapRequest n
  | 0x25, 0x60, 1 => s.gainReacq n
  | 0x25, 0x60, 2 => s.plausTest n
  | 0x25, 0x60, _ => s.lrxClear n
  | 0x25, 0x80, 0 => s.capArm n
  | 0x25, 0x80, _ => s.capAbort n
  | 0x26, 0x68, 0 => s.timReacq n
  | 0x26, 0x68, 1 => s.timClear n
  | 0x26, 0x68, _ => s.pfApply n
  | 0x27, 0x88, 0 => s.eyeStart n
  | 0x27, 0x88, _ => s.eyeAbort n
  | 0x27, 0x90, 0 => s.eqRestart n
  | 0x27, 0x90, _ => s.eqClear n
  | 0x28, 0x5C, _ => s.boltClear n
  | 0x29, 0x4C, 0 => s.dressPass n
  | 0x29, 0x4C, _ => s.passAbort n
  | 0x2A, 0x58, 0 => s.mrFlush n
  | 0x2A, 0x58, 1 => s.mrPop n
  | 0x2A, 0x58, _ => s.mrEcho n
  | 0x2C, 0x4C, 0 => s.gaugeTrigger n
  | 0x2C, 0x4C, 1 => s.gaugeDiag n
  | 0x2C, 0x4C, _ => s.gaugeClear n
  | 0x2F, 0x5C, 0 => s.tallyInit n
  | 0x2F, 0x5C, 1 => s.tallyFlush n
  | 0x2F, 0x5C, 2 => s.tallySnap n
  | 0x2F, 0x5C, 3 => s.tallyQuery n
  | 0x2F, 0x5C, _ => s.tallyClear n
  | 0x31, 0x44, _ => s.hopTrigger n 2
  | 0x32, 0x4C, 0 => s.scrubGo (.ch n)
  | 0x32, 0x4C, _ => s.scrubStop (.ch n)
  | 0x32, 0x78, _ => s.marchGo (.ch n)
  | 0x34, 0x44, _ => s.trialGo n
  | 0x35, o, b =>
    match idxAt 3 PAT.G_CMD o, idxAt 3 PAT.C_CMD o with
    | some u, _ => s.errInj n u
    | none, some c => if b = 0 then s.gateGo n c else if b = 1 then s.gateStop n c else s.patClear n c
    | none, none => s
  | 0x36, 0x44, 0 => s.chWake n 2
  | 0x36, 0x44, _ => s.pwrClear (.ch n)
  | _, _, _ => s

/-- The ws fields that a long operation of their page never holds (R12, R183, R226, R506; the aborts of R250 and R292 act on
the operation itself). -/
def wsFree (a b : Nat) : Bool :=
  match pageCode a, a % 0x1000 with
  | 0x03, _ => true
  | 0x04, _ => true
  | 0x24, 0x74 => true
  | 0x26, 0x68 => b == 2
  | 0x27, 0x88 => b == 1
  | 0x29, 0x4C => b == 1
  | 0x36, _ => true
  | _, _ => false

/-- BUSY.LONG_OP of the page of an address. -/
def State.longOp (s : State) (a : Nat) : Bool := (s.word (a / 0x1000 * 0x1000 + 0x24)).getLsbD 0

/-- Whether a request of the page of an address is held (R12). -/
def State.pageHeld (s : State) (a : Nat) : Bool := s.dev.held.any fun h => h.1 / 0x1000 == a / 0x1000

/-- A ws bit written with 1: accepted, or held behind the page's long operation or behind the requests of the page that are
held already; a further write of a held one has no effect (R12). -/
def State.wsWrite (s : State) (a b : Nat) : State :=
  if (s.longOp a || s.pageHeld a) && !wsFree a b then
    if s.dev.held.contains (a, b) then s
    else (s.setWord a (setBits (s.word a) b 1 1)).modDev fun d => { d with held := d.held ++ [(a, b)] }
  else s.wsAct a b

/-- The ws bits of a word of data below bit `k`, in ascending order. -/
def State.wsWrites (s : State) (a : Nat) (data : Word) : Nat → State
  | 0 => s
  | k + 1 =>
    let s1 := s.wsWrites a data k
    if (data &&& wsMask a).getLsbD k then s1.wsWrite a k else s1

/-- The data that ws acts on: SET and ADJUST in one write apply SET only (R401). -/
def wsData (a : Nat) (data : Word) : Word := if a = 0x905C ∧ data.getLsbD 0 = true then data &&& 1 else data

/-- The blocks of a channel see a write of one of its pages. -/
def State.afterWrite (s : State) (a : Nat) : State :=
  if pageCode a < 0x20 ∨ 0x36 ≤ pageCode a then s else s.levels (addrCh a)

/-- A write under the access codes, with its ws requests. -/
def State.codedWrite (s : State) (a : Nat) (data : Word) : State :=
  ((s.plainWrite a data).wsWrites a (wsData a data) 32).afterWrite a

/-- A held request of the page of an address is accepted, the first written, once the long operation has ended (R12). -/
def doWsHeldAccept (page : Nat) (s : State) : State :=
  match s.dev.held.find? fun h => h.1 / 0x1000 == page / 0x1000 with
  | none => s
  | some h =>
    if s.longOp h.1 then s
    else
      let s1 := s.modDev fun d => { d with held := d.held.filter fun g => g != h }
      ((s1.setWord h.1 (setBits (s1.word h.1) h.2 1 0)).wsAct h.1 h.2).afterWrite h.1

/-! ## Registers with a write of their own -/

/-- Whether a requester's write of a power target is a request (R491). -/
def targetReq (n : Option Ch) (req : Nat) : Bool :=
  req == reqHost || req == reqMiller || match n with
    | some n => req == reqWright n
    | none => false

/-- The INJECT bits that a write with a TARGET arms on the page of a page code; the others are discarded (R269, R323, R342,
R359, R360, R413, R485, R505): bit 0 CE, 1 UE, 2 REG_PAR, 3 FSM_PAR, 4 BUS_PAR. -/
def injectMask (page target : Nat) : Word :=
  match page with
  | 0x28 => if target = 1 then 0x1F else 0x1C
  | 0x2A => 0x1D
  | 0x2B => 0x1D
  | 0x2C => if target = 2 then 0x1D else 0x1C
  | 0x2D => if 1 ≤ target ∧ target ≤ 3 then 0x1D else 0x1C
  | 0x2E => 0x1C
  | 0x0C => 0x14
  | 0x30 => 0x14
  | 0x09 => 0x1C
  | 0x0B => 0x1C
  | 0x34 => 0x1C
  | 0x35 => 0x1C
  | 0x04 => 0x1C
  | 0x36 => 0x1C
  | _ => 0x1F

/-- INJECT written: TARGET stored, the bits written 1 armed (R64, R65). -/
def State.writeInject (s : State) (a : Nat) (data : Word) : State :=
  s.setWord a (plainWord a (s.word a) data ||| (data &&& wsMask a &&& injectMask (pageCode a) (getBits data 8 8)))

/-- NEXT_SEC_HI and CTRL of DEV.TIME (R402, R404). -/
def State.writeTime (s : State) (a : Nat) (data : Word) : State :=
  let s1 := s.codedWrite a data
  let s2 := s1.dset TIME.STATUS_NEXT_ARMED (s1.dget TIME.NEXT_SEC_HI_ARM)
  if s2.is 0 TIME.CTRL_PPS_OUT_EN then s2 else s2.modDev fun d => { d with ppsOut := false }

/-- A device register written. -/
def State.writeDev (s : State) (a : Nat) (data : Word) (req : Nat) : Code × State :=
  let o := a % 0x1000
  let ok := fun (t : State) => (codeOk, t)
  match a / 0x1000 with
  | 0x3 =>
    if o = 0x40 then ok (s.blockCmd (data.toNat % 16))
    else if o = 0x50 then ok (s.writeSwreset data)
    else ok (s.codedWrite a data)
  | 0x4 =>
    if o = 0x40 then ok (if targetReq none req then s.pwrRequest .dev (data.toNat % 16) else s) else ok (s.codedWrite a data)
  | 0x5 => if o = 0x40 then ok (s.hostEpoch data) else ok (s.codedWrite a data)
  | 0xD =>
    if o = 0x48 ∧ [6, 7, 8, 0x10, 0x11, 0x12].contains (data.toNat % 32) = true then ((2, 0x11), s) else ok (s.codedWrite a data)
  | 0x7 => if o = 0x40 then ok (s.codedWrite a data).sluiceSum else ok (s.codedWrite a data)
  | 0x8 => if o = 0x48 then ok (s.writeLogRd data.toNat) else ok (s.codedWrite a data)
  | 0x9 => ok (s.writeTime a data)
  | 0xA =>
    match idxAt 4 MEM.B_CFG o with
    | some i => ok (s.writeMemCfg .dev i data)
    | none => if req = reqMiller ∧ 0x84 ≤ o ∧ o < 0xA4 then ok (s.setWord a (data &&& 0xFFFFFF)) else ok (s.codedWrite a data)
  | 0xC =>
    if 0x100 ≤ o ∧ o < 0x140 then ok (s.writeSelector .dev ((o - 0x100) / 4) false data)
    else if 0x200 ≤ o ∧ o < 0x240 then ok (s.writeSelector .dev ((o - 0x200) / 4) true data)
    else if 0x400 ≤ o ∧ o < 0x500 ∧ o % 16 < 8 then ok (s.presetCounter .dev ((o - 0x400) / 16) (o % 16 == 4) data)
    else ok (s.codedWrite a data)
  | _ => ok (s.codedWrite a data)

/-- A register of a channel's transmit, receive and host-lane blocks written, pages 0x20 to 0x28. -/
def State.writeLink (s : State) (n : Ch) (a : Nat) (data : Word) : State :=
  let o := a % 0x1000
  match pageCode a with
  | 0x21 =>
    if o = 0x58 ∨ o = 0x5C then s.writeTxFir n 0 (o == 0x5C) data else s.codedWrite a data
  | 0x22 =>
    if o = 0x58 ∨ o = 0x5C then s.writeTxFir n 1 (o == 0x5C) data else s.codedWrite a data
  | 0x25 =>
    if o = 0x40 then s.writeGainCfg n data else if o = 0x50 then s.writeBankCfg n data else s.codedWrite a data
  | 0x27 =>
    if o = 0x70 then s.writeDfe n data
    else
      match idxAt 41 EQ.FFE_TAP_COEF o with
      | some t => s.writeFfeTap n t data
      | none => s.codedWrite a data
  | _ => s.codedWrite a data

/-- A register of a channel's other pages written, 0x29 to 0x36. -/
def State.writeRest (s : State) (n : Ch) (a : Nat) (data : Word) (req : Nat) : Code × State :=
  let o := a % 0x1000
  let ok := fun (t : State) => (codeOk, t)
  let back := fun (r : Bool × State) => (if r.1 then codeOk else codeRefused, r.2)
  match pageCode a with
  | 0x2B =>
    if o = 0x44 then ok (s.modDev fun d => { d with dupCfg := plainWord a d.dupCfg data })
    else if 0x200 ≤ o ∧ o < 0x400 then
      ok (if o % 8 = 0 then s.writeRelayW0 n ((o - 0x200) / 8) data else s.writeRelayW1 n ((o - 0x200) / 8) data)
    else ok (s.codedWrite a data)
  | 0x2D =>
    match idxAt 3 OUT.D_CFG o, idxAt 3 OUT.D_DATA o with
    | some d, _ => back (s.writeDacCfg n (Fin.ofNat 3 d) data)
    | none, some d => back (s.pushDac n (Fin.ofNat 3 d) (data.toNat % 65536))
    | none, none => ok (s.codedWrite a data)
  | 0x2E =>
    if o = 4 then ok (s.writeKilnEn n (data.toNat % 2))
    else if o = 0x74 ∨ o = 0x78 then ok (s.writeInteg n (o == 0x78) data)
    else ok (s.codedWrite a data)
  | 0x2F =>
    if o = 4 then ok (s.writeTallyEn n (data.toNat % 2))
    else if o = 0x54 then ok (s.writeSpillRd n (data.toNat % 4096))
    else ok (s.codedWrite a data)
  | 0x30 =>
    if 0x100 ≤ o ∧ o < 0x200 then ok (s.writeSelector (.ch n) ((o - 0x100) / 4) false data)
    else if 0x200 ≤ o ∧ o < 0x300 then ok (s.writeSelector (.ch n) ((o - 0x200) / 4) true data)
    else if 0x400 ≤ o ∧ o < 0x800 ∧ o % 16 < 8 then ok (s.presetCounter (.ch n) ((o - 0x400) / 16) (o % 16 == 4) data)
    else ok (s.codedWrite a data)
  | 0x31 =>
    if o = 4 then ok (s.writeHopEn n (data.toNat % 2))
    else if o = 0x4C then ok (s.writeHopRd n (data.toNat % 256))
    else ok (s.codedWrite a data)
  | 0x32 =>
    match idxAt 7 MEM.B_CFG o with
    | some i => ok (s.writeMemCfg (.ch n) i data)
    | none =>
      if req = reqWright n ∧ 0x84 ≤ o ∧ o < 0xA4 then ok (s.setWord a (data &&& 0xFFFFFF)) else ok (s.codedWrite a data)
  | 0x35 =>
    match idxAt 6 PAT.U_CFG o with
    | some u => ok (s.writePatCfg n u data)
    | none => ok (s.codedWrite a data)
  | 0x36 =>
    if o = 0x40 then ok (if targetReq (some n) req then s.pwrRequest (.ch n) (data.toNat % 8) else s)
    else ok (s.codedWrite a data)
  | _ => ok (s.codedWrite a data)

/-- A register written at its target, parity and counting apart. -/
def State.regStore (s : State) (a : Nat) (data : Word) (req : Nat) : Code × State :=
  let o := a % 0x1000
  match boxAt a with
  | some b =>
    let r := o % 0x80
    if r < 0x40 then s.boxPut b (r / 4) data req
    else if r = 0x40 then s.boxBell b (data.getLsbD 0) (data.getLsbD 1) req
    else (codeOk, s.plainWrite a data)
  | none =>
    if o = 0x18 then (codeOk, s.writeFltRaw a data)
    else if o = 0x1C then (codeOk, s.writeFltEn a data)
    else if o = 0x20 then (codeOk, s.writeInject a data)
    else if a < 0x100000 then s.writeDev a data req
    else if pageCode a ≤ 0x28 then (codeOk, s.writeLink (addrCh a) a data)
    else s.writeRest (addrCh a) a data req

/-! ## Parity of registers and bus responses (R454, R457) -/

/-- The INJECT register of the page of an address. -/
def injectOf (a : Nat) : Nat := a / 0x1000 * 0x1000 + 0x20
def State.pageArmed (s : State) (a b : Nat) : Bool := (s.word (injectOf a)).getLsbD b
def State.pageDisarm (s : State) (a b : Nat) : State :=
  s.setWord (injectOf a) (setBits (s.word (injectOf a)) b 1 0)

/-- An armed BUS_PAR consumed by the page's response: BUS_PAR; the access completes with BUS_ERROR and its data are discarded
(R44, R454). -/
def State.busParity (s : State) (a req : Nat) : State :=
  (s.pageDisarm a 4).draise SLUICE.FLT_BUS_PAR { flags := 9, detail := some (BitVec.ofNat 32 a), req := some req }

/-- Whether a register has a bit that a write acts on. -/
def writable (a : Nat) : Bool := (rwMask a ||| w1cMask a ||| wsMask a ||| woMask a) != 0

/-- Whether a write by a requester stores a word: to a register with a bit that it acts on, or to a payload word of a mailbox
that the requester sends through (R114). -/
def stores (a req : Nat) : Bool :=
  match boxAt a with
  | some b => if a % 0x80 < 0x40 then req == boxSender b else writable a
  | none => writable a

/-- A register written, its stored parity with it: sound, or spoiled by an armed REG_PAR. -/
def State.regPut (s : State) (a : Nat) (data : Word) (req : Nat) : Code × State :=
  let hit := s.pageArmed a 2 && stores a req
  let s0 := if hit then s.pageDisarm a 2 else s
  let s1 := if stores a req then s0.modDev fun d => { d with badRegs := d.badRegs.filter fun b => b != a } else s0
  let r := s1.regStore a data req
  if r.1 ≠ codeOk then s.regStore a data req
  else if hit then (r.1, r.2.regParity a req)
  else r

/-! ## Accesses at a target -/

/-- The channel in whose bank an access is counted. -/
def addrCh? (a : Nat) : Option Ch := if a < 0x100000 then none else some (addrCh a)

/-- An access that fails is counted (R391, class 0x12). -/
def State.failCount (s : State) (a req : Nat) : State := s.countBus (addrCh? a) 0x12 req (regLoc a)

/-- The w1c bits of a register that went from 0 to 1 between two states. -/
def State.newBits (s s1 : State) (a : Nat) : Word := s1.word a &&& ~~~ s.word a &&& w1cMask a

/-- A register written by an access that counts itself in the same cycle (R392): a w1c bit that the count sets stays set
(R11). -/
def State.countedPut (s : State) (a : Nat) (data : Word) (req : Nat) : Code × State :=
  let c := s.countBus (addrCh? a) 0x11 req (regLoc a)
  let r := c.regPut a data req
  if s.newBits c a = 0 then r else (r.1, r.2.setWord a (r.2.word a ||| s.newBits c a))

/-- A write performed at a register. -/
def State.regWrite (s : State) (a : Nat) (data : Word) (req : Nat) : Code × State :=
  let r := s.countedPut a data req
  if s.pageArmed a 4 then (codeRefused, (s.busParity a req).failCount a req)
  else if r.1 ≠ codeOk then
    let q := s.regPut a data req
    (q.1, q.2.failCount a req)
  else r


/-- The entry window of DEV.FLOG (R460): a word of the entry that VIEW_BASE and the slot select. -/
def State.flogWord (s : State) (o req : Nat) : (Code × Word) × State :=
  let i := (s.dget FLOG.VIEW_BASE_IDX + (o - 0x800) / 32) % 256
  let r := s.memRead (devMem 3) (4 * i + o % 32 / 8) req
  match r.1 with
  | none => (((6, 0x50), 0), r.2)
  | some v => ((codeOk, BitVec.ofNat 32 (v / 2 ^ (o % 8 * 8))), r.2)

/-- Whether an offset of DEV.OTP shows the shadow: SUMMARY, VALID, VALID_HI and the words (R105). -/
def shadowAt (o : Nat) : Bool := decide (0x48 ≤ o ∧ o < 0x54) || decide (0x100 ≤ o ∧ o < 0x200)

/-- What reading a register does beside giving its value: latches (R393, R401), READ (R334), the taking of a stream
value (R337), the counts of an open gate (R481), and OTP_SHADOW_PAR where the shadow's parity does not hold (R105). -/
def State.readEffect (s : State) (a req : Nat) : State :=
  let n := addrCh a
  let o := a % 0x1000
  if latchSpan a ≠ 0 then s.latchRead req a (s.latchWords a).1 (s.latchWords a).2
  else if pageCode a = 0x2C ∧ 0x100 ≤ o ∧ o < 0x180 ∧ o % 8 = 0 then (s.resultRead n ((o - 0x100) / 8) req).2
  else if pageCode a = 0x2C ∧ (o = 0x58 ∨ o = 0x5C) ∧ (req = reqHost ∨ req = reqMiller) then
    if o = 0x58 then (if s.kilnState n = 0 then s.streamTake n 0 else s)
    else if s.chState n = 3 then s
    else s.streamTake n 1
  else if pageCode a = 0x0F ∧ shadowAt o = true ∧ s.is 0 OTP.STATUS_SHADOW_OK = false then
    s.draise OTP.FLT_OTP_SHADOW_PAR { req := some req }
  else s

/-- The state in which a register's value stands: an open gate's counts are drawn when they are read (log entry 3). -/
def State.readReady (s : State) (a : Nat) : State :=
  if pageCode a = 0x35 ∧ latchSpan a ≠ 0 then s.patDraw (addrCh a) (((a % 0x1000 - 0x100) / 0x40) - 3) else s

/-- A register's value and what its read does, parity and counting apart. -/
def State.regFetch (s : State) (a req : Nat) : (Code × Word) × State :=
  if pageCode a = 0x08 ∧ 0x800 ≤ a % 0x1000 then s.flogWord (a % 0x1000) req
  else if (boxAt a).isSome ∧ a % 0x80 < 0x40 ∧ s.dev.badRegs.contains a = true then
    ((codeRefused, s.word a),
      s.draise MBX.FLT_MBX_PARITY { flags := 9, detail := some (BitVec.ofNat 32 a), req := some req })
  else
    let s1 := s.readReady a
    ((codeOk, s1.regView a req), s1.readEffect a req)

/-- A read performed at a register. -/
def State.regRead (s : State) (a req : Nat) : (Code × Word) × State :=
  let r := (s.countBus (addrCh? a) 0x10 req (regLoc a)).regFetch a req
  if s.pageArmed a 4 then ((codeRefused, 0), (s.busParity a req).failCount a req)
  else if r.1.1 ≠ codeOk then (r.1, r.2.failCount a req)
  else r

/-! ## Reach (R16, R45, R62, R63) -/

/-- What refuses an access to a register before its target: undecoded, channel in Trial, unpowered. -/
def State.regReach (s : State) (a : Nat) : Code :=
  if ! decoded a then (7, 0x60)
  else if a < 0x100000 then codeOk
  else
    let n := addrCh a
    let p := pageCode a - 0x20
    let o := a % 0x1000
    if s.inTrial n && !(p == 0x14 || p == 0x16 || p == 0x17 || o == 0 || o == 0x24) then (3, 0x20)
    else if s.pageOn n p then codeOk
    else (4, 0x31)

/-- Whether an address lies in a page (R60): an access to it is counted even where its offset is undecoded. -/
def inPage (a : Nat) : Bool := decide (pageCode a < 0x38)

/-- A write by a requester, performed where it reaches its target. -/
def State.busPut (s : State) (a : Nat) (data : Word) (req : Nat) : Code × State :=
  let c := s.regReach a
  if ! inPage a then (c, s) else if c ≠ codeOk then (c, s.failCount a req) else s.regWrite a data req

/-- A read by a requester, performed where it reaches its target. -/
def State.busGet (s : State) (a req : Nat) : (Code × Word) × State :=
  let c := s.regReach a
  if ! inPage a then ((c, 0), s) else if c ≠ codeOk then ((c, 0), s.failCount a req) else s.regRead a req

end Sys2Proof.Machine
end

