-- ==== Sys2Proof/Machine/Fw.lean ====
section
/-! DEFINITION. The mailboxes' commands and the service of firmware for silicon A1 (R114, R115, R118, R121 to R129, R437).
Firmware's own accesses, which the spec does not count out, are not counted as bus events. -/

namespace Sys2Proof.Machine

/-! ## Mailbox commands -/

/-- The address of a mailbox block. -/
def boxAddr (b : Box) : Nat := boxBase b + (boxCh b).val * 0x20000 + boxOff b

/-- The wright of a requester ID (R70). -/
def reqWright? (req : Nat) : Option Ch := if 3 ≤ req ∧ req < 11 then some (Fin.ofNat 8 (req - 3)) else none

/-- A processor's own access that its target refused is a bus error: the processor traps (R112, R115). -/
def State.accessTrap (s : State) (req : Nat) (c : Code) : State :=
  if c = codeOk then s
  else if req = reqMiller then (if s.dget MILLER.STATUS_CORE = 1 then s.millerRestart 4 else s)
  else
    match reqWright? req with
    | some n => s.wrightRestart n 4
    | none => s

/-- A write by a requester outside the host port: the host's is discarded while BUSY_N is low (R58); a processor's that is
refused traps it (R112). -/
def State.actPut (s : State) (a : Nat) (data : Word) (req : Nat) : State :=
  if req = reqHost ∧ s.busyPin = true then s
  else
    let r := s.busPut a data req
    r.2.accessTrap req r.1

/-- A payload word written, RING written, by a requester (R115). -/
def doMbxPayloadWrite (b : Box) (i : Fin 16) (data : Word) (req : Nat) (s : State) : State :=
  s.actPut (boxAddr b + 4 * i.val) data req
def doMbxRing (b : Box) (req : Nat) (s : State) : State := s.actPut (boxAddr b + 0x40) 1 req

/-- AGE of a FULL mailbox (R118). -/
def doMbxAgeTick (b : Box) (s : State) : State :=
  if s.boxFull b then s.bset b BOX.STATE_AGE (min 65535 (s.bget b BOX.STATE_AGE + 1)) else s

/-- HOST_EPOCH written by the host (R119). -/
def doHostEpochWrite (data : Word) (s : State) : State := s.actPut (MBX.HOST_EPOCH.addr 0) data reqHost

/-! ## Requests (R126 to R128) -/

def fwAlen (c : FwCmd) : Nat := getBits (c.words.headD 0) 0 6
def fwArg (c : FwCmd) (i : Nat) : Word := c.words.getD i 0

/-- The channel of a request, and the scope of SCRUB and MEM_TEST. -/
def fwCh (c : FwCmd) : Ch := Fin.ofNat 8 (fwChan c)
def fwScope (c : FwCmd) : Scope := if fwChan c < 8 then .ch (fwCh c) else .dev


/-- The command table: whether CHAN may be a channel, may be the device, and the range of ALEN; none for no opcode (R128). -/
def fwTable (op : Nat) : Option (Bool × Bool × Nat × Nat) :=
  match op with
  | 0x01 => some (false, true, 0, 15)
  | 0x02 => some (false, true, 0, 0)
  | 0x10 => some (true, false, 1, 1)
  | 0x11 => some (true, false, 0, 0)
  | 0x12 => some (true, false, 1, 1)
  | 0x20 => some (true, false, 1, 1)
  | 0x30 => some (true, false, 2, 2)
  | 0x31 => some (true, false, 0, 0)
  | 0x40 => some (true, false, 2, 15)
  | 0x50 => some (true, true, 4, 4)
  | 0x51 => some (true, true, 3, 3)
  | 0x70 => some (true, false, 0, 0)
  | _ => none

/-- Whether the state of the device or channel forbids a command (R127, R128, R284, R437, R489). -/
def State.fwWrongState (s : State) (c : FwCmd) : Bool :=
  let op := fwOp c
  let n := fwCh c
  let x := fwScope c
  let holding := s.dev.state == .holding && !(op == 0x01 || op == 0x02 || op == 0x31)
  let watch := decide (fwChan c < 8) && s.chState n == 3 && !(op == 0x10 || op == 0x31)
  holding || watch ||
    match op with
    | 0x11 => !s.modeActive n
    | 0x20 => !s.passMay n 1
    | 0x50 => (s.scrubSt x).active || s.xget x MEM.STATUS_SCRUB_STOPPED == 1
    | 0x51 => s.xget x MEM.STATUS_MARCH_STOPPED == 1
    | _ => false

/-- Whether a range of bytes is empty, not a multiple of 8 or ends beyond a memory. -/
def badRange (m start len : Nat) : Bool :=
  start % 8 != 0 || len % 8 != 0 || len == 0 || decide (8 * memWords m < start + len)

/-- Whether an argument is outside its range (R128, R437).  An MR_SEND whose payload would end beyond the shared scratchpad
counts as such: the model's choice (log entry 66). -/
def State.fwBadArg (s : State) (c : FwCmd) : Bool :=
  let w := fun i => (fwArg c i).toNat
  match fwOp c with
  | 0x10 => decide (4 < w 1 % 8)
  | 0x12 => (w 1).testBit 1 && !s.optP (fwCh c)
  | 0x20 => w 1 % 16 == 0
  | 0x30 => w 1 % 64 == 0 || decide (w 2 % 32 < 10 ∨ 20 < w 2 % 32)
  | 0x40 =>
    let l := w 1 / 65536
    decide (l < 1 ∨ 256 < l) || w 1 % 256 == 0 ||
      (if w 2 = 0xFFFFFFFF then decide (4 * (fwAlen c - 2) < l) else w 2 % 8 != 0 || decide (262144 < w 2 + l))
  | 0x50 =>
    match scrubMem (fwScope c) (w 1 % 32) with
    | none => true
    | some m => badRange m (w 2) (w 3) || (fwScope c == .dev && m == devMem 3)
  | 0x51 =>
    let x := fwScope c
    let code := if fwScope c = .dev then 0x12 else 8
    w 1 % 32 != code || badRange (scopePad x) (w 2) (w 3) ||
      decide (5 * clampN 1 1000 (s.xget x MEM.MARCH_BUDGET_US) < w 3 / 8)
  | _ => false

/-- The checks of R127 in their order: the first failing status, 0 where all pass. -/
def State.fwCheck (s : State) (c : FwCmd) : Nat :=
  let op := fwOp c
  let ch := fwChan c
  match fwTable op with
  | none => 1
  | some (perCh, perDev, lo, hi) =>
    if fwAlen c < lo ∨ hi < fwAlen c ∨ getBits (c.words.headD 0) 6 6 ≠ 0 then 2
    else if (! ((decide (ch < 8) && perCh) || (ch == 15 && perDev))) = true then 3
    else if s.fwWrongState c = true then 6
    else if ch < 8 ∧ s.chState (fwCh c) = 0 ∧ op ≠ 0x10 ∧ op ≠ 0x31 then 7
    else if ch < 8 ∧ s.inTrial (fwCh c) = true ∧ op ≠ 0x31 then 5
    else if s.fwBadArg c = true then 4
    else 0

/-! ## Taking and starting (R121 to R123) -/

/-- Whether the command of H2M `k` waits behind an earlier one that its channel is busy with until its response has been
posted (R123). -/
def fwBehind (k : Fin 4) : List FwCmd → List FwCmd → Bool
  | _, [] => false
  | before, c :: l =>
    if c.box = k then
      fwChan c < 8 && fwOp c != 0x31 && before.any fun e => fwChan e == fwChan c && fwOp e != 0x31 && !e.idle
    else fwBehind k (c :: before) l

/-- A command that fails its checks is answered and keeps its channel busy no longer. -/
def State.fwFail (s : State) (k : Fin 4) (status : Nat) : State :=
  (s.modFw k fun c => { c with idle := true }).fwAnswer k status

/-- Firmware takes the message of H2M `k`; a payload word in parity error is a bus error of the Miller, and it traps
(R112, R115).  Its copy reads all 16 payload words, those beyond ALEN too: the model's choice (log entry 66). -/
def State.fwTake (s : State) (k : Fin 4) : State :=
  if ! s.fwServes || (s.fwCmd k).isSome then s
  else if ! s.boxFull (.h2m k) then s.boxTake (.h2m k)
  else
    match (List.range 16).find? fun i => s.dev.badRegs.contains (boxAddr (.h2m k) + 4 * i) with
    | some i =>
      (s.draise MBX.FLT_MBX_PARITY
        { flags := 9, detail := some (BitVec.ofNat 32 (boxAddr (.h2m k) + 4 * i)), req := some reqMiller }).millerRestart 4
    | none =>
      let c : FwCmd := { box := k, words := (List.range 16).map fun i => s.boxWord (.h2m k) i }
      let s1 := (s.boxTake (.h2m k)).modDev fun d => { d with fw := d.fw ++ [c] }
      let st := s1.fwCheck c
      if st ≠ 0 then s1.fwFail k st
      else if fwBehind k [] s1.dev.fw then s1.modFw k fun c => { c with held := true }
      else s1

/-- TAKE by a requester (R115): firmware's on H2M is its taking of the command. -/
def doMbxTake (b : Box) (req : Nat) (s : State) : State :=
  match b with
  | .h2m k => if req = reqMiller then s.fwTake k else s.actPut (boxAddr b + 0x40) 2 req
  | .m2h _ => s.actPut (boxAddr b + 0x40) 2 req
  | .m2w _ _ => s.actPut (boxAddr b + 0x40) 2 req
  | .w2m _ _ => s.actPut (boxAddr b + 0x40) 2 req

/-- A held command starts: the checks are made again (R123). -/
def doHeldCommandStart (k : Fin 4) (s : State) : State :=
  match s.fwCmd k with
  | none => s
  | some c =>
    if ! c.held || ! s.fwServes || fwBehind k [] s.dev.fw then s
    else
      let st := s.fwCheck c
      if st ≠ 0 then s.fwFail k st else s.modFw k fun c => { c with held := false }

/-- A response that has waited is posted once M2H `k` is EMPTY, by firmware that serves (R122, R124). -/
def doResponsePost (k : Fin 4) (s : State) : State :=
  match s.fwCmd k with
  | none => s
  | some c =>
    match c.phase with
    | .answered words => if s.fwServes then s.fwPost k words else s
    | .taken => s
    | .begun _ => s

/-- An M2W message has waited 1,000 ms: firmware restarts the wright (R129). -/
def doM2wAgeTimeout (n : Ch) (j : Fin 2) (s : State) : State :=
  if s.fwServes && s.boxFull (.m2w n j) && decide (1000 ≤ s.bget (.m2w n j) BOX.STATE_AGE) then
    (s.wrightLoad n 6).fwWrightLost n s.dev.fw
  else s

/-! ## Carrying a command out -/

/-- The command of H2M `k` where it has an opcode and has passed its checks and not begun. -/
def State.fwTaken (s : State) (k : Fin 4) (op : Nat) : Option FwCmd :=
  match s.fwCmd k with
  | none => none
  | some c => if s.fwServes && fwOp c == op && !c.held && c.phase == .taken then some c else none

/-- The command of H2M `k` where it has an opcode and has begun. -/
def State.fwBegun (s : State) (k : Fin 4) (op : Nat) : Option FwCmd :=
  match s.fwCmd k with
  | none => none
  | some c =>
    if s.fwServes && fwOp c == op && (c.phase == .begun true || c.phase == .begun false) then some c else none

/-- A command begins, with or without an exchange with the wright. -/
def State.fwBegin (s : State) (k : Fin 4) (exchange : Bool) : State := s.modFw k fun c => { c with phase := .begun exchange }

/-- PING (R128). -/
def doPing (k : Fin 4) (s : State) : State :=
  match s.fwTaken k 0x01 with
  | none => s
  | some c => s.fwAnswer k 0 ((c.words.drop 1).take (fwAlen c))

/-- FW_INFO (R128): a millisecond is 625,000 ticks. -/
def doFwInfo (k : Fin 4) (s : State) : State :=
  match s.fwTaken k 0x02 with
  | none => s
  | some _ =>
    s.fwAnswer k 0
      [s.word (BOOT.FW_VERSION.addr 0), BitVec.ofNat 32 (s.dget BOOT.SEC_IMAGE % 256), s.word (BOOT.MILLER_EPOCH.addr 0),
        BitVec.ofNat 32 ((s.dev.ticks - s.dev.millerStart) / 625000)]

/-- CH_POWER (R128): the request, and the answer: REFUSED with the code where the request was refused or its path aborted
(R127, R498), else the state reached once the channel rests. -/
def doChPower (k : Fin 4) (part : FwPart) (s : State) : State :=
  match part with
  | .start =>
    match s.fwTaken k 0x10 with
    | none => s
    | some c =>
      ((s.modFw k fun c => { c with note := 0 }).fwBegin k false).pwrRequest (.ch (fwCh c)) ((fwArg c 1).toNat % 8)
  | .finish _ =>
    match s.fwBegun k 0x10 with
    | none => s
    | some c =>
      let n := fwCh c
      if c.note ≠ 0 then s.fwAnswer k 9 [BitVec.ofNat 32 c.note]
      else if s.chPhase n ≠ 0 ∨ (s.chan n).pwr.latched ≠ 0 then s
      else s.fwAnswer k 0 [BitVec.ofNat 32 (s.chState n)]

/-- The steps of a bring-up that stand completed (R128). -/
def State.bringupMask (s : State) (n : Ch) : Nat :=
  let b := fun (x : Bool) (v : Nat) => if x then v else 0
  b (s.laneState n 0 == 4 && (!s.optP n || s.laneState n 1 == 4)) 1 + b (s.sideLocked n 0) 2 +
    b (s.is n TIM.STATUS_TIM_LOCK && s.eqState n == 3) 4 + b (s.is n BOLT.STATUS_BLOCK_LOCK) 8 + b (s.sideLocked n 1) 16

/-- CH_BRINGUP (R128), `ms` milliseconds long. -/
def doChBringup (k : Fin 4) (part : FwPart) (s : State) : State :=
  match part with
  | .start => if (s.fwTaken k 0x11).isSome then s.fwBegin k true else s
  | .finish ms =>
    match s.fwBegun k 0x11 with
    | none => s
    | some c => s.fwAnswer k 0 [BitVec.ofNat 32 (s.bringupMask (fwCh c)), BitVec.ofNat 32 ms]

/-- A ws field written by firmware or by the wright on its behalf. -/
def State.fwWs (s : State) (f : Field) (n : Ch) : State := (s.wsWrite (f.addr n) f.lo).afterWrite (f.addr n)

/-- HOST_RETRAIN (R128, R152). -/
def doHostRetrain (k : Fin 4) (part : FwPart) (s : State) : State :=
  match part with
  | .start =>
    match s.fwTaken k 0x12 with
    | none => s
    | some c =>
      let n := fwCh c
      let m := (fwArg c 1).toNat
      let s1 := s.fwBegin k true
      let s2 := if m.testBit 0 then s1.fwWs (HL.CMD_RETRAIN 0) n else s1
      if m.testBit 1 then s2.fwWs (HL.CMD_RETRAIN 1) n else s2
  | .finish _ =>
    match s.fwBegun k 0x12 with
    | none => s
    | some c =>
      let n := fwCh c
      let m := (fwArg c 1).toNat
      s.fwAnswer k 0 [BitVec.ofNat 32 ((if m.testBit 0 && s.laneState n 0 == 4 then 1 else 0) +
        (if m.testBit 1 && s.laneState n 1 == 4 then 2 else 0))]

/-- DRESS_PASS (R128, R282, R284): answered at the end of the pass. -/
def doDressPass (k : Fin 4) (part : FwPart) (s : State) : State :=
  match part with
  | .start =>
    match s.fwTaken k 0x20 with
    | none => s
    | some c =>
      let n := fwCh c
      ((s.fwBegin k true).set n DRESS.SCOPE_CMD_SCOPE ((fwArg c 1).toNat % 16)).fwWs DRESS.CMD_PASS n
  | .finish _ =>
    match s.fwBegun k 0x20 with
    | none => s
    | some c =>
      let n := fwCh c
      if s.is n DRESS.BUSY_LONG_OP || s.passHeld n then s
      else s.fwAnswer k 0 [BitVec.ofNat 32 (s.get n DRESS.PASS_TRIMS_COUNT), s.word (DRESS.PASS_US.addr n)]

/-- Slice results as TRIAL_CH and TRIAL_STATUS report them. -/
def State.trialWord (s : State) (n : Ch) : Nat := s.get n TRIAL.RESULT_SLICES + (if s.inTrial n then 2 ^ 31 else 0)

/-- TRIAL_CH (R128, R470). -/
def doTrialCh (k : Fin 4) (part : FwPart) (s : State) : State :=
  match part with
  | .start =>
    match s.fwTaken k 0x30 with
    | none => s
    | some c =>
      let n := fwCh c
      let s1 := (s.set n TRIAL.CFG_MASK ((fwArg c 1).toNat % 64)).set n TRIAL.CFG_COUNT_LOG2 ((fwArg c 2).toNat % 32)
      let s2 := s1.fwWs TRIAL.CMD_GO n
      if s2.inTrial n then s2.fwBegin k false else s2.fwAnswer k 6
  | .finish _ =>
    match s.fwBegun k 0x30 with
    | none => s
    | some c => if s.inTrial (fwCh c) then s else s.fwAnswer k 0 [BitVec.ofNat 32 (s.trialWord (fwCh c))]

/-- TRIAL_STATUS (R128). -/
def doTrialStatus (k : Fin 4) (s : State) : State :=
  match s.fwTaken k 0x31 with
  | none => s
  | some c => s.fwAnswer k 0 [BitVec.ofNat 32 (s.trialWord (fwCh c))]

/-- The bytes of an inline payload (R8, R128). -/
def inlineBytes (l : List Word) : List Byte := l.flatMap fun w => leBytes w.toNat 4

/-- MR_SEND (R128, R301, R302): an uncorrectable payload word in the shared scratchpad traps the Miller (R112). -/
def doMrSend (k : Fin 4) (s : State) : State :=
  match s.fwTaken k 0x40 with
  | none => s
  | some c =>
    let n := fwCh c
    let len := (fwArg c 1).toNat / 65536
    let ttl := (fwArg c 1).toNat % 256
    let send := fun (t : State) (bytes : List Byte) =>
      let r := t.mrSend n ttl (bytes.take len)
      match r.1 with
      | none => r.2.fwAnswer k 0x0A
      | some seq => r.2.fwAnswer k 0 [BitVec.ofNat 32 seq]
    if fwArg c 2 = 0xFFFFFFFF then send s (inlineBytes (c.words.drop 3))
    else
      let r := s.readWords (devMem 2) ((fwArg c 2).toNat / 8) ((len + 7) / 8)
      match r.1 with
      | none => r.2.millerRestart 5
      | some l => send r.2 (wordBytes l)

/-- SCRUB (R128, R430): a continuous run is answered as it starts. -/
def doScrub (k : Fin 4) (part : FwPart) (s : State) : State :=
  match part with
  | .start =>
    match s.fwTaken k 0x50 with
    | none => s
    | some c =>
      let x := fwScope c
      let w := fun i => (fwArg c i).toNat
      let s1 := (s.xset x MEM.SCRUB_CFG_MEM (w 1)).xset x MEM.SCRUB_CFG_CONT (w 4)
      let s2 := (s1.xset x MEM.SCRUB_START_OFFSET (w 2)).xset x MEM.SCRUB_LEN_BYTES (w 3)
      let s3 := s2.fwWs (scopeF x MEM.SCRUB_CMD_GO) (scopeCh x)
      if (w 4).testBit 0 then s3.fwAnswer k 0 else s3.fwBegin k false
  | .finish _ =>
    match s.fwBegun k 0x50 with
    | none => s
    | some c =>
      let x := fwScope c
      let v := fun f => BitVec.ofNat 32 (s.xget x f)
      if (s.scrubSt x).active || s.dev.held.contains ((scopeF x MEM.SCRUB_CMD_GO).addr (scopeCh x), 0) then s
      else
        s.fwAnswer k 0 [v MEM.SCRUB_WORDS, v MEM.SCRUB_CE, v MEM.SCRUB_UE, v MEM.SCRUB_FIRST_UE_OFFSET,
          v MEM.SCRUB_LAST_UE_OFFSET, v MEM.SCRUB_US]

/-- MEM_TEST (R128, R437): for a channel the wright runs the slice, for the device the Miller. -/
def doMemTest (k : Fin 4) (part : FwPart) (s : State) : State :=
  match part with
  | .start =>
    match s.fwTaken k 0x51 with
    | none => s
    | some c =>
      let x := fwScope c
      let w := fun i => (fwArg c i).toNat
      if s.pinned x (w 2) (w 3) then s.fwAnswer k 0x0B
      else
        let s1 := (s.xset x MEM.MARCH_START_OFFSET (w 2)).xset x MEM.MARCH_LEN_BYTES (w 3)
        (s1.fwWs (scopeF x MEM.MARCH_CMD_GO) (scopeCh x)).fwBegin k (decide (x ≠ .dev))
  | .finish _ =>
    match s.fwBegun k 0x51 with
    | none => s
    | some c =>
      let x := fwScope c
      let r := s.xget x MEM.MARCH_RESULT_RESULT
      if (s.marchSt x).active || s.dev.held.contains ((scopeF x MEM.MARCH_CMD_GO).addr (scopeCh x), 0) then s
      else if r = 6 then s.fwAnswer k 6
      else if r = 4 then s.fwAnswer k 0x0B
      else s.fwAnswer k 0 [if r = 1 then 1 else 2]

/-- RESTART_WRIGHT (R107, R128): the image is copied afresh, and the answer is posted once the wright runs. -/
def doRestartWright (k : Fin 4) (part : FwPart) (s : State) : State :=
  match part with
  | .start =>
    match s.fwTaken k 0x70 with
    | none => s
    | some c => ((s.fwBegin k false).wrightLoad (fwCh c) 6).fwWrightLost (fwCh c) s.dev.fw
  | .finish _ =>
    match s.fwBegun k 0x70 with
    | none => s
    | some c =>
      if s.wrightState (fwCh c) = 2 then s.fwAnswer k 0 [s.word (MBXW.WRIGHT_EPOCH.addr (fwCh c))] else s

end Sys2Proof.Machine
end

