-- ==== Sys2Proof/Machine/Operands.lean ====
section
/-! DEFINITION. The operand forms of a host transaction: command byte, BURST, addresses of pages and of the aperture, access
levels (R36 to R40, R53 to R55, R60, R66 to R69). -/

namespace Sys2Proof.Machine

/-- The fields of a command byte below OP: LEVEL, QUAD and BURST (R37). -/
def isObs (low : BitVec 6) : Bool := low.getLsbD 5
def burstOf (low : BitVec 6) : Nat := low.toNat % 16

/-- A command byte. -/
def cmdByte (op : Nat) (low : BitVec 6) : Nat := op * 64 + low.toNat

/-- Whether a BURST code is reserved for reads and writes, and how many of `k` words offered it admits (R38). -/
def burstReserved (b : Nat) : Bool := decide (9 ≤ b ∧ b ≤ 14)
def burstLimit (b k : Nat) : Nat := if b ≤ 8 then min k (2 ^ b) else k

/-- The requester of a level (R70). -/
def levelReq (obs : Bool) : Nat := if obs then reqObs else reqHost

/-- Whether an address lies in the aperture (R60). -/
def inAperture (a : Nat) : Bool := decide (0x400000 ≤ a ∧ a < 0x800000)

/-- The memory that a MEM code selects, with the channel for the channel memories (R67). -/
def memOfCode (code : Nat) (ch : Ch) : Option Nat :=
  match code with
  | 0x01 => some (chMem ch 0)
  | 0x02 => some (chMem ch 1)
  | 0x04 => some (chMem ch 2)
  | 0x05 => some (chMem ch 3)
  | 0x06 => some (chMem ch 4)
  | 0x07 => some (chMem ch 5)
  | 0x08 => some (chMem ch 6)
  | 0x10 => some (devMem 0)
  | 0x11 => some (devMem 1)
  | 0x12 => some (devMem 2)
  | _ => none

/-- Whether the Observer may select a MEM code (R67, R69). -/
def memObs (code : Nat) : Bool := decide (1 ≤ code ∧ code ≤ 5)

/-- The aperture selection that the registers hold now. -/
def State.aperNow (s : State) : AperSel :=
  { sel := s.word (APER.SEL_MEM.addr 0), base := s.word (APER.BASE_BLOCK.addr 0), osel := s.word (APER.OSEL_MEM.addr 0),
    obase := s.word (APER.OBASE_BLOCK.addr 0) }

/-- The MEM code and the channel of a selection register, and the block of a base register (R75). -/
def selMem (w : Word) : Nat := getBits w APER.SEL_MEM.lo APER.SEL_MEM.w
def selCh (w : Word) : Nat := getBits w APER.SEL_CH.lo APER.SEL_CH.w
def selBlock (w : Word) : Nat := getBits w APER.BASE_BLOCK.lo APER.BASE_BLOCK.w

/-- The memory and the byte offset that an aperture address selects at a level; none without a memory or beyond it (R66,
R67). -/
def AperSel.target (x : AperSel) (obs : Bool) (a : Nat) : Option (Nat × Nat) :=
  let code := selMem (if obs then x.osel else x.sel)
  let ch := selCh (if obs then x.osel else x.sel)
  let base := selBlock (if obs then x.obase else x.base)
  let m := if code = 3 then some (chMem (Fin.ofNat 8 base) 1) else memOfCode code (Fin.ofNat 8 ch)
  let off := (if code = 3 then 0 else base * 0x400000) + (a - 0x400000)
  match m with
  | none => none
  | some m => if off < 8 * memWords m then some (m, off) else none

/-- Whether a page offset lies in the header that every page carries (R64). -/
def inHeader (o : Nat) : Bool := decide (o < 0x28)

/-- Whether Observer level may read a register of a page, its header with it (R54, R55). -/
def State.obsReads (s : State) (a : Nat) : Bool :=
  let o := a % 0x1000
  match pageCode a with
  | 0x00 => true
  | 0x01 => inHeader o || o == 0x54 || o == 0x58 || o == 0x5C
  | 0x08 => true
  | 0x09 => true
  | 0x0C => s.is 0 DCNT.CTRL_OBSERVE
  | 0x0D => inHeader o || o == 0x48 || o == 0x4C
  | 0x0E => true
  | 0x28 => true
  | 0x2A => true
  | 0x2C => true
  | 0x30 => s.is (chOf a) CNT.CTRL_OBSERVE
  | 0x31 => true
  | _ => false

/-- The detail of an ACCESS_DENIED, 0 for none (R36, R46, R53 to R55); `m` is the memory of an aperture access. -/
def State.levelDeny (s : State) (p : Port) (obs : Bool) (a : Nat) (m : Option Nat) (wr : Bool) : Nat :=
  if p = .secondary ∧ obs = false then 0x13
  else if obs then
    if s.is 0 HOST.ACCESS_OBS_EN = false then 0x10
    else if wr then (if a = 0xD048 ∨ a = 0xD04C then 0 else 0x12)
    else
      match m with
      | some _ => if memObs (selMem (s.port p).aper.osel) then 0 else 0x11
      | none => if s.obsReads a then 0 else 0x11
  else if wr ∧ m = some (devMem 0) ∧ s.dev.codeLocked = true then 0x14
  else 0

end Sys2Proof.Machine
end

