-- ==== Sys2Proof/Machine/Flags.lean ====
section
/-! DEFINITION. What a transaction leaves in DEV.HOST when it completes: the last-error record, the counts, the error event
and CODE (R43 to R46, R74); and the levels of the output pins that are flags (R58, R71, R404, R446). -/

namespace Sys2Proof.Machine

/-- A port's state rewritten. -/
def State.modPort (s : State) (p : Port) (f : PortState → PortState) : State :=
  match p with
  | .primary => s.modDev fun d => { d with primary := f d.primary }
  | .secondary => s.modDev fun d => { d with secondary := f d.secondary }

/-- A failing word noted in the transaction of a port; the one with the lowest address comes first (R45). -/
def TxnRec.note (t : TxnRec) (code detail addr : Nat) : TxnRec :=
  let first := match t.fail with
    | none => (code, detail, addr)
    | some f => if addr < f.2.2 then (code, detail, addr) else f
  { t with fail := some first, fails := t.fails + 1 }

def State.noteFail (s : State) (p : Port) (code detail addr : Nat) : State :=
  s.modPort p fun x => { x with txn := x.txn.map fun t => t.note code detail addr }

/-- The fields of the last-error record and the error event of a port. -/
def lastErr (p : Port) : Field × Field × Field :=
  match p with
  | .primary => (HOST.LAST_ERR, HOST.LAST_ERR_ADDR, HOST.IRQ_HOST_ERR)
  | .secondary => (HOST.LAST_ERR_OBS, HOST.LAST_ERR_ADDR_OBS, HOST.IRQ_OBS_ERR)

/-- The transaction of a port completes (R43, R46, R74). -/
def State.txnEnd (s : State) (p : Port) : State :=
  match (s.port p).txn with
  | none => s
  | some t =>
    let f := t.fail.getD (0, 0, 0)
    let s1 := s.set 0 (lastErr p).1 (min 255 t.fails * 2 ^ 24 + f.2.1 * 2 ^ 16 + t.cmd / 32 % 8 * 256 + f.1)
    let s2 := (s1.set 0 (lastErr p).2.1 (f.2.2 % 2 ^ 24)).incr 0 HOST.TXN_COUNT
    let s3 := if f.1 = 0 then s2 else (s2.incr 0 HOST.ERR_COUNT).dirq (lastErr p).2.2
    s3.modPort p fun x => { x with txn := none, code := f.1 }

/-- A transaction completes once its buffered writes have reached their targets (R51, R52). -/
def State.txnSettle (s : State) (p : Port) : State := if (s.port p).buf.isEmpty then s.txnEnd p else s

/-- The level of PPS_OUT: the pulse (R404), but low where the Sluice is shut and the device PLL without lock (R448). -/
def State.ppsPin (s : State) : Bool := s.dev.ppsOut && (!s.dev.shut || s.is 0 CLK.STATUS_DEV_PLL_LOCK)

/-- The flag pins: INT_N, FAULT_N, BUSY_N and PPS_OUT, true where driven low for the first three, high for the last. -/
def State.flagPins (s : State) : Bool × Bool × Bool × Bool := (s.intPin, s.faultPin, s.busyPin, s.ppsPin)

end Sys2Proof.Machine
end

