-- ==== Sys2Proof/Machine/HostPort.lean ====
section
/-! DEFINITION. Host transactions on the two ports: the checks of R45, register and aperture words, the write buffer, the
status and READ_ID commands (R36 to R55, R58, R66 to R69). -/

namespace Sys2Proof.Machine

/-! ## Ports -/

/-- Whether the part acknowledges a port: the secondary one only beside SPI with OBS_PORT = 1; none while RESET_N or the
supply monitor holds the part, without power, or with TESTMODE (R34, R36, R484). -/
def State.portOn (s : State) (p : Port) : Bool :=
  s.dev.state != .off && s.dev.released && s.dev.monitor && !s.testMode &&
    match p with
    | .primary => true
    | .secondary => !s.hostSel && s.is 0 HOST.CFG_OBS_PORT

/-- Whether a port speaks I2C: the primary one with HOSTSEL = 1, the secondary one always (R34, R36). -/
def State.i2cPort (s : State) : Port → Bool
  | .primary => s.hostSel
  | .secondary => true

/-- The 7-bit I2C address of the part, 0x3A + ADDRSEL (R35). -/
def State.i2cAddress (s : State) : Nat := 0x3A + s.dev.straps.toNat % 4

/-- Whether the part answers a transaction on a port: on I2C it acknowledges its own address only, so that a transaction to
another address does nothing (R35, R36). -/
def State.answers (s : State) (p : Port) (i2c : BitVec 7) : Bool :=
  s.portOn p && (!s.i2cPort p || i2c.toNat == s.i2cAddress)

/-! ## One word at its target -/

/-- The channel of a memory, none for a device memory. -/
def memChan (m : Nat) : Option Ch := if m < 64 then some (memCh m) else none

/-- What refuses an aperture word before its memory: the channel in Trial, the memory unpowered (R62, R63). -/
def State.memReach (s : State) (m : Nat) : Code :=
  match memChan m with
  | none => codeOk
  | some n => if s.inTrial n then (3, 0x20) else if s.memOn n then codeOk else (4, 0x31)

/-- Whether a running march slice holds a byte offset of a memory (R428, R436). -/
def State.marchHolds (s : State) (m off : Nat) : Bool :=
  let hit := fun (y : MarchSt) => y.active && decide (y.start ≤ off / 8 ∧ off / 8 < y.start + y.len)
  if m = devMem 2 then hit s.dev.memMarch
  else if m < 64 ∧ m % 8 = 6 then hit (s.chan (memCh m)).march
  else false

/-- Whether the Tally of a channel lets the host write its memories: OFF, IDLE or FAULT (R379). -/
def State.tallyFree (s : State) (n : Ch) : Bool := s.tallyState n == 0 || s.tallyState n == 2 || s.tallyState n == 4

/-- Whether a memory refuses an aperture access at an offset (R221, R273, R379, R428). -/
def State.memRefuses (s : State) (m off : Nat) (wr : Bool) : Bool :=
  s.marchHolds m off ||
    (decide (m < 64) &&
      match m % 8 with
      | 0 => wr && !s.tallyFree (memCh m)
      | 1 => wr && !s.tallyFree (memCh m)
      | 2 => wr && !s.tallyFree (memCh m)
      | 4 => s.capturing (memCh m)
      | 5 => wr && (List.range 4).any fun i => s.trimWriteRefused (memCh m) (off + i)
      | _ => false)

/-- An aperture read at its memory (R68, R422). -/
def State.aperRead (s : State) (m off req : Nat) : (Code × Word) × State :=
  let w := off / 8
  if s.memRefuses m off false then ((codeRefused, 0), s.countMem m w 0x12 req)
  else
    let r := (s.countMem m w 0x10 req).memRead m w req
    match r.1 with
    | none => (((6, 0x50), 0), r.2.countMem m w 0x12 req)
    | some v => ((codeOk, BitVec.ofNat 32 (v / 2 ^ (off % 8 * 8))), r.2)

/-- An aperture write at its memory: a pair is one full write, a single word a partial one (R68, R423). -/
def State.aperWrite (s : State) (m off : Nat) (data : Word) (pair : Option Word) (req : Nat) : Code × State :=
  let w := off / 8
  if s.memRefuses m off true then (codeRefused, s.countMem m w 0x12 req)
  else
    match pair with
    | some hi => (codeOk, (s.countMem m w 0x11 req).memWrite m w (data.toNat + 2 ^ 32 * hi.toNat))
    | none =>
      if (s.ecc m w).bad then
        let r := s.memMerge m w (off % 8) 4 data.toNat req
        ((4, 0x32), r.2.countMem m w 0x12 req)
      else (codeOk, ((s.countMem m w 0x11 req).memMerge m w (off % 8) 4 data.toNat req).2)

/-- A word read by a port: the checks of R45 in their order, then the target. -/
def State.portGet (s : State) (p : Port) (obs : Bool) (a : Nat) : (Code × Word) × State :=
  let req := levelReq obs
  if inAperture a then
    match (s.port p).aper.target obs a with
    | none => (((7, 0x63), 0), s)
    | some (m, off) =>
      let deny := s.levelDeny p obs a (some m) false
      let c : Code := if deny ≠ 0 then (2, deny) else s.memReach m
      if c ≠ codeOk then ((c, 0), s.countMem m (off / 8) 0x12 req) else s.aperRead m off req
  else
    let deny := s.levelDeny p obs a none false
    if decoded a = true ∧ deny ≠ 0 then (((2, deny), 0), s.failCount a req) else s.busGet a req

/-- A word written by a port. -/
def State.portPut (s : State) (p : Port) (obs : Bool) (x : BufWord) : Code × State :=
  let req := levelReq obs
  let a := x.addr
  if inAperture a then
    match (s.port p).aper.target obs a with
    | none => ((7, 0x63), s)
    | some (m, off) =>
      let deny := s.levelDeny p obs a (some m) true
      let c : Code := if deny ≠ 0 then (2, deny) else s.memReach m
      if c ≠ codeOk then (c, s.countMem m (off / 8) 0x12 req) else s.aperWrite m off x.data x.pair req
  else
    let deny := s.levelDeny p obs a none true
    if decoded a = true ∧ deny ≠ 0 then ((2, deny), s.failCount a req) else s.busPut a x.data req

/-! ## The write buffer (R51, R52) -/

/-- A buffered word reaches its target; a failing pair is two failing words. -/
def State.drainWord (s : State) (p : Port) (x : BufWord) : State :=
  let r := s.portPut p (x.req == reqObs) x
  if r.1 = codeOk then r.2
  else
    let s1 := r.2.noteFail p r.1.1 r.1.2 x.addr
    if x.pair.isSome then s1.noteFail p r.1.1 r.1.2 (x.addr + 4) else s1

/-- The oldest `k` words of a port's buffer reach their targets. -/
def State.drain (s : State) (p : Port) : Nat → State
  | 0 => s
  | k + 1 =>
    match (s.port p).buf with
    | [] => s
    | x :: l => ((s.modPort p fun y => { y with buf := l }).drainWord p x).drain p k

/-- All of them, and their transaction completes. -/
def State.drainAll (s : State) (p : Port) : State := (s.drain p (s.port p).buf.length).txnSettle p

/-- WRITE_BUFFER_DRAIN: one word reaches its target. -/
def doWriteBufferDrain (p : Port) (s : State) : State := (s.drain p 1).txnSettle p

/-- The words that a buffer holds: a pair holds two. -/
def bufWords : List BufWord → Nat
  | [] => 0
  | x :: l => (if x.pair.isSome then 2 else 1) + bufWords l

/-! ## Whole transactions -/

/-- A transaction opens on a port: the writes of the previous one reach their targets first (R52), and it takes the aperture
selection as it stands then (R66). -/
def State.txnOpen (s : State) (p : Port) (cmd : Nat) : State :=
  let s1 := s.drainAll p
  s1.modPort p fun x => { x with txn := some { cmd }, aper := s1.aperNow }

/-- A transaction other than a status command begins on a port: the status byte goes out, and a primary one wakes the device
(R43, R499). -/
def State.txnBegin (s : State) (p : Port) (cmd : Nat) : State :=
  let s1 := s.modPort p fun x => { x with statusOut := s.statusByte p, resp := [] }
  (if p = .primary then s1.devWake 2 else s1).txnOpen p cmd

/-- What discards a whole transaction (R45): a blocking period or RESET, framing, misalignment, a reserved code. -/
def State.txnRefusal (s : State) (framing : Framing) (addr : Nat) (reserved : Bool) : Option Code :=
  if s.busyPin then some (1, 0x01)
  else if framing = .inCommand ∨ framing = .inAddress then some (4, 0x33)
  else if addr % 4 ≠ 0 then some (7, 0x61)
  else if reserved then some (7, 0x62)
  else none

/-- A transaction discarded whole: each of its `k` words fails, from its address on; without one the record counts none. -/
def State.txnDiscard (s : State) (p : Port) (c : Code) (addr k : Nat) : State :=
  (s.modPort p fun x =>
    { x with txn := x.txn.map fun t => { t with fail := some (c.1, c.2, addr), fails := k } }).txnEnd p

/-- A partial word ends a transaction (R42). -/
def State.partialWord (s : State) (p : Port) (framing : Framing) (addr : Nat) : State :=
  if framing = .inWord then s.noteFail p 4 0x33 addr else s

/-- The words of a read, `late` those not ready in time, from word `i` on (R45, R50). -/
def State.readBurst (s : State) (p : Port) (obs : Bool) (late : List Nat) (addr i : Nat) : Nat → List Word × State
  | 0 => ([], s)
  | k + 1 =>
    let a := addr + 4 * i
    let r := s.portGet p obs a
    let c := if r.1.1 = codeOk ∧ late.contains i = true then (1, 0x02) else r.1.1
    let s1 := if c = codeOk then r.2 else r.2.noteFail p c.1 c.2 a
    let q := State.readBurst s1 p obs late addr (i + 1) k
    ((if c.1 = 1 then 0 else r.1.2) :: q.1, q.2)

/-- HOST_READ: `count` whole words are clocked out, those of `late` before they were ready. -/
def doHostRead (p : Port) (i2c : BitVec 7) (low : BitVec 6) (addr : BitVec 24) (count : Nat) (framing : Framing)
    (late : List Nat) (s : State) : State :=
  if ! s.answers p i2c then s
  else
    let b := burstOf low
    let k := if framing = .inCommand ∨ framing = .inAddress then 0 else burstLimit b count
    let s1 := s.txnBegin p (cmdByte 0 low)
    match s1.txnRefusal framing addr.toNat (burstReserved b) with
    | some c => (s1.txnDiscard p c addr.toNat k).modPort p fun x => { x with resp := List.replicate k 0 }
    | none =>
      let r := s1.readBurst p (isObs low) late addr.toNat 0 k
      ((r.2.partialWord p framing (addr.toNat + 4 * k)).txnEnd p).modPort p fun x => { x with resp := r.1 }

/-- Whether a word would start a blocking command at the end of its transaction (R58, R95). -/
def State.startsBlocking (s : State) (p : Port) (obs : Bool) (a : Nat) (data : Word) : Bool :=
  a == 0x3040 && s.levelDeny p obs a none true == 0 && !s.pageArmed a 4 && s.blockRefusal (data.toNat % 16) == 0

/-- A word that finds the buffer full: what its target would say, else BUSY (R45, R51). -/
def State.overflowWord (s : State) (p : Port) (obs : Bool) (x : BufWord) : State :=
  let c := (s.portPut p obs x).1
  let d : Code := if c = codeOk then (1, 0x03) else c
  s.noteFail p d.1 d.2 x.addr

/-- Words after the one that starts a blocking command: BUSY (R58). -/
def State.busyWords (s : State) (p : Port) (a : Nat) : List Word → State
  | [] => s
  | _ :: l => State.busyWords (s.noteFail p 1 0x01 a) p (a + 4) l

/-- What becomes of a word that arrives: it starts a blocking command, it is taken or refused alone, or it is buffered as
the low half of an aligned aperture pair with the word after it (R51, R58, R68). -/
inductive WordFate where
  | starts | single | paired
deriving DecidableEq, Repr

/-- A word of a write arrives at address `a`, with the word after it if there is one; the heads of `ds` say how many buffered
words reach their targets before each of the two arrives. -/
def State.writeWord (s : State) (p : Port) (obs : Bool) (a : Nat) (w : Word) (hi : Option Word) (ds : List Nat) :
    WordFate × State :=
  let s1 := s.drain p (ds.headD 0)
  let x : BufWord := { addr := a, data := w, req := levelReq obs }
  let s2 := s1.drain p (ds.tail.headD 0)
  if a = 0x3040 ∧ (s1.drain p 16).startsBlocking p obs a w = true then (.starts, s1.drain p 16)
  else if 16 ≤ bufWords (s1.port p).buf then (.single, s1.overflowWord p obs x)
  else if hi.isSome = true ∧ inAperture a = true ∧ a % 8 = 0 ∧ bufWords (s2.port p).buf < 15 then
    (.paired, s2.modPort p fun y => { y with buf := y.buf ++ [{ x with pair := hi }] })
  else (.single, s1.modPort p fun y => { y with buf := y.buf ++ [x] })

/-- The words of a write from address `a` on.  The word that starts a blocking command is handed back, with every later word
discarded (R58). -/
def State.writeBurst (s : State) (p : Port) (obs : Bool) (a : Nat) : List Word → List Nat → Option BufWord × State
  | [], _ => (none, s)
  | [w], ds =>
    let r := s.writeWord p obs a w none ds
    (if r.1 = .starts then some { addr := a, data := w, req := levelReq obs } else none, r.2)
  | w :: hi :: rest, ds =>
    let r := s.writeWord p obs a w (some hi) ds
    match r.1 with
    | .starts => (some { addr := a, data := w, req := levelReq obs }, r.2.busyWords p (a + 4) (hi :: rest))
    | .single => r.2.writeBurst p obs (a + 4) (hi :: rest) ds.tail
    | .paired => r.2.writeBurst p obs (a + 8) rest ds.tail.tail

/-- HOST_WRITE: the whole words of `data` arrive. -/
def doHostWrite (p : Port) (i2c : BitVec 7) (low : BitVec 6) (addr : BitVec 24) (data : List Word) (framing : Framing)
    (drains : List Nat) (s : State) : State :=
  if ! s.answers p i2c then s
  else
    let b := burstOf low
    let ws := if framing = .inCommand ∨ framing = .inAddress then [] else data.take (burstLimit b data.length)
    let s1 := s.txnBegin p (cmdByte 1 low)
    match s1.txnRefusal framing addr.toNat (burstReserved b) with
    | some c => s1.txnDiscard p c addr.toNat ws.length
    | none =>
      let r := s1.writeBurst p (isObs low) addr.toNat ws drains
      let s2 := r.2.partialWord p framing (addr.toNat + 4 * ws.length)
      match r.1 with
      | none => s2.txnSettle p
      | some x => (s2.drainWord p x).txnEnd p

/-- A status command that is not executed completes as a transaction without words: with a BURST other than 0x0 as
BAD_ADDRESS (R38; log entry 21). -/
def State.statusRefused (s : State) (p : Port) (low : BitVec 6) (c : Code) : State :=
  let s1 := s.modPort p fun x => { x with statusOut := s.statusByte p, resp := [] }
  (s1.txnOpen p (cmdByte 2 low)).txnDiscard p c 0 0

/-- STATUS_COMMAND: the status byte and STATUS_WORD, at all times (R47). -/
def doStatusCommand (p : Port) (i2c : BitVec 7) (low : BitVec 6) (framing : Framing) (s : State) : State :=
  if ! s.answers p i2c then s
  else if burstOf low ≠ 0 then s.statusRefused p low (7, 0x62)
  else
    s.modPort p fun x =>
      { x with statusOut := s.statusByte p, resp := if framing = .whole then [s.statusWord] else [] }

/-- READ_ID discarded: its word, where one is clocked out, reads 0x0000_0000 (R44, R58). -/
def State.idRefused (s : State) (p : Port) (low : BitVec 6) (framing : Framing) (c : Code) : State :=
  (s.txnDiscard p c 0 1).modPort p fun x =>
    { x with resp := if burstOf low = 0 ∧ framing ≠ .inCommand ∧ framing ≠ .inAddress then [0] else [] }

/-- READ_ID, and the reserved special codes (R48). -/
def doReadId (p : Port) (i2c : BitVec 7) (low : BitVec 6) (framing : Framing) (s : State) : State :=
  if ! s.answers p i2c then s
  else
    let s1 := s.txnBegin p (cmdByte 3 low)
    match s1.txnRefusal framing 0 (burstOf low != 0) with
    | some c => s1.idRefused p low framing c
    | none =>
      let deny := s1.levelDeny p (isObs low) 0x40 none false
      if deny ≠ 0 then s1.idRefused p low framing (2, deny)
      else
        ((s1.partialWord p framing 0).txnEnd p).modPort p fun x =>
          { x with resp := if framing = .whole then [s1.regView 0x40 (levelReq (isObs low))] else [] }

end Sys2Proof.Machine
end

