-- ==== Sys2Proof/Machine/Rows.lean ====
section
/-! DEFINITION. The commands that are a write or a read of one register, performed at its target, and those that are a
parity error of a state machine: its fault, with an armed FSM_PAR consumed, and what the block does with it (R9, R12, R457). -/

namespace Sys2Proof.Machine

/-- A word with the bit of a one-bit field set. -/
def oneBit (f : Field) : Word := BitVec.ofNat 32 (2 ^ f.lo)

/-- A read by a requester outside the host port; the host's is discarded while BUSY_N is low (R58), and a processor's that is
refused traps it (R112). -/
def State.actGet (s : State) (a req : Nat) : State :=
  if req = reqHost ∧ s.busyPin = true then s
  else
    let r := s.busGet a req
    r.2.accessTrap req r.1.1

/-- REGISTER_WRITE (R9). -/
def doRegisterWrite (a : Nat) (data : Word) (req : Nat) (s : State) : State := s.actPut a data req

/-- AUTHENTICATE (R92). -/
def doAuthenticate (s : State) : State := s.actPut 0x3040 1 reqHost

/-- TRIAL_ALL (R475). -/
def doTrialAll (s : State) : State := s.actPut 0x3040 2 reqHost

/-- COMMIT (R99). -/
def doCommit (s : State) : State := s.actPut 0x3040 3 reqHost

/-- OTP_PROGRAM (R101). -/
def doOtpProgram (s : State) : State := s.actPut 0x3040 4 reqHost

/-- SWRESET (R85). -/
def doSwreset (key : Word) (s : State) : State := s.actPut 0x3050 key reqHost

/-- CH_RESET (R86). -/
def doChReset (n : Ch) (s : State) : State := s.actPut 0x3054 (BitVec.ofNat 32 (2 ^ n.val)) reqHost

/-- MILLER_RESET (R87). -/
def doMillerReset (s : State) : State := s.actPut 0x3058 1 reqHost

/-- MODE_APPLY_GO (R30). -/
def doModeApplyGo (n : Ch) (s : State) : State :=
  s.actPut (TOP.MODE_APPLY_GO.addr n) (oneBit TOP.MODE_APPLY_GO) reqHost

/-- RETRAIN (R152). -/
def doRetrain (n : Ch) (l : Fin 2) (s : State) : State := s.actPut ((HL.CMD_RETRAIN l).addr n) 1 reqHost

/-- TX_FIR_WRITE (R137). -/
def doTxFirWrite (n : Ch) (l : Fin 2) (hi : Bool) (data : Word) (s : State) : State :=
  s.actPut ((if hi then HL.TX_FIR1 l else HL.TX_FIR0 l).addr n) data reqHost

/-- LANE_FSM_PAR (R155). -/
def doLaneFsmPar (n : Ch) (l : Fin 2) (k : Fin 3) (s : State) : State :=
  (s.raiseFsm n (HL.FLT_LANE_FSM_PAR l) k.val).laneParity n l

/-- SLIP_GO (R163). -/
def doSlipGo (n : Ch) (side : Fin 2) (bits : BitVec 4) (s : State) : State :=
  s.actPut (HFEC.SLIP.addr n) (BitVec.ofNat 32 (0x1000 + side.val * 256 + bits.toNat)) reqHost

/-- HFEC_CLR_CNT (R173). -/
def doHfecClrCnt (n : Ch) (s : State) : State := s.actPut (HFEC.CMD_CLR_CNT.addr n) (oneBit HFEC.CMD_CLR_CNT) reqHost

/-- HFEC_FSM_PAR (R175). -/
def doHfecFsmPar (n : Ch) (k : Fin 4) (s : State) : State := (s.raiseFsm n HFEC.FLT_HFEC_FSM_PAR k.val).hfecParity n

/-- FIR_APPLY (R183). -/
def doFirApply (n : Ch) (s : State) : State := s.actPut (LTX.FIR_APPLY_GO.addr n) (oneBit LTX.FIR_APPLY_GO) reqHost

/-- NL_LOAD (R186). -/
def doNlLoad (n : Ch) (s : State) : State := s.actPut (LTX.NL_LOAD_GO.addr n) (oneBit LTX.NL_LOAD_GO) reqHost

/-- LTX_FSM_PAR (R197). -/
def doLtxFsmPar (n : Ch) (s : State) : State := (s.raiseFsm n LTX.FLT_LTX_FSM_PAR).ltxParity n

/-- GAIN_REACQ (R207). -/
def doGainReacq (n : Ch) (s : State) : State :=
  s.actPut (LRX.CMD_GAIN_REACQ.addr n) (oneBit LRX.CMD_GAIN_REACQ) reqHost

/-- GAIN_MODE_WRITE (R208). -/
def doGainModeWrite (n : Ch) (data : Word) (s : State) : State := s.actPut (LRX.GAIN_CFG.addr n) data reqHost

/-- PLAUS_TEST (R213). -/
def doPlausTest (n : Ch) (s : State) : State :=
  s.actPut (LRX.CMD_PLAUS_TEST.addr n) (oneBit LRX.CMD_PLAUS_TEST) reqHost

/-- SWAP (R214). -/
def doSwap (n : Ch) (s : State) : State := s.actPut (LRX.CMD_SWAP.addr n) (oneBit LRX.CMD_SWAP) reqHost

/-- SHADOW_EN_WRITE (R211). -/
def doShadowEnWrite (n : Ch) (on : Bool) (s : State) : State :=
  s.actPut (LRX.BANK_CFG.addr n) (setBits (s.word (LRX.BANK_CFG.addr n)) 0 1 (if on then 1 else 0)) reqHost

/-- CAP_ARM (R220). -/
def doCapArm (n : Ch) (s : State) : State := s.actPut (LRX.CAP_CTRL_ARM.addr n) (oneBit LRX.CAP_CTRL_ARM) reqHost

/-- CAP_ABORT (R220). -/
def doCapAbort (n : Ch) (s : State) : State :=
  s.actPut (LRX.CAP_CTRL_ABORT.addr n) (oneBit LRX.CAP_CTRL_ABORT) reqHost

/-- LRX_CLR_STATS (R225). -/
def doLrxClrStats (n : Ch) (s : State) : State :=
  s.actPut (LRX.CMD_CLR_STATS.addr n) (oneBit LRX.CMD_CLR_STATS) reqHost

/-- LRX_FSM_PAR (R224). -/
def doLrxFsmPar (n : Ch) (k : Fin 3) (s : State) : State := (s.raiseFsm n LRX.FLT_LRX_FSM_PAR k.val).lrxParity n

/-- PF_APPLY (R226). -/
def doPfApply (n : Ch) (s : State) : State := s.actPut (TIM.CMD_PF_APPLY.addr n) (oneBit TIM.CMD_PF_APPLY) reqHost

/-- TIM_REACQ (R235). -/
def doTimReacq (n : Ch) (s : State) : State := s.actPut (TIM.CMD_REACQ.addr n) (oneBit TIM.CMD_REACQ) reqHost

/-- TIM_CLR_STATS (R252). -/
def doTimClrStats (n : Ch) (s : State) : State :=
  s.actPut (TIM.CMD_CLR_STATS.addr n) (oneBit TIM.CMD_CLR_STATS) reqHost

/-- TIM_FSM_PAR (R251). -/
def doTimFsmPar (n : Ch) (k : Fin 2) (s : State) : State := (s.raiseFsm n TIM.FLT_TIM_FSM_PAR k.val).timParity n

/-- EQ_RESTART (R247). -/
def doEqRestart (n : Ch) (s : State) : State := s.actPut (EQ.CMD_RESTART.addr n) (oneBit EQ.CMD_RESTART) reqHost

/-- EYE_START (R250). -/
def doEyeStart (n : Ch) (s : State) : State := s.actPut (EQ.EYE_CTRL_START.addr n) (oneBit EQ.EYE_CTRL_START) reqHost

/-- EYE_ABORT (R250). -/
def doEyeAbort (n : Ch) (s : State) : State := s.actPut (EQ.EYE_CTRL_ABORT.addr n) (oneBit EQ.EYE_CTRL_ABORT) reqHost

/-- EQ_CLR_STATS (R253). -/
def doEqClrStats (n : Ch) (s : State) : State := s.actPut (EQ.CMD_CLR_STATS.addr n) (oneBit EQ.CMD_CLR_STATS) reqHost

/-- EQ_FSM_PAR (R251). -/
def doEqFsmPar (n : Ch) (k : Fin 3) (s : State) : State := (s.raiseFsm n EQ.FLT_EQ_FSM_PAR k.val).eqParity n

/-- BOLT_CLR_CNT (R267). -/
def doBoltClrCnt (n : Ch) (s : State) : State := s.actPut (BOLT.CMD_CLR_CNT.addr n) (oneBit BOLT.CMD_CLR_CNT) reqHost

/-- BOLT_FSM_PAR (R269). -/
def doBoltFsmPar (n : Ch) (s : State) : State := (s.raiseFsm n BOLT.FLT_BOLT_FSM_PAR).boltParity n

/-- DRESS_CMD_PASS (R284). -/
def doDressCmdPass (n : Ch) (req : Nat) (s : State) : State := s.actPut (DRESS.CMD.addr n) 1 req

/-- DRESS_CMD_ABORT (R292). -/
def doDressCmdAbort (n : Ch) (byEn : Bool) (s : State) : State :=
  if byEn then s.actPut (DRESS.CTRL.addr n) (setBits (s.word (DRESS.CTRL.addr n)) 0 1 0) reqHost
  else s.actPut (DRESS.CMD.addr n) 2 reqHost

/-- DRESS_FSM_PAR (R293). -/
def doDressFsmPar (n : Ch) (s : State) : State := (s.raiseFsm n DRESS.FLT_DRESS_FSM_PAR).dressParity n

/-- TX_FLUSH (R301). -/
def doTxFlush (n : Ch) (s : State) : State := s.actPut (MRACE.CMD_TX_FLUSH.addr n) (oneBit MRACE.CMD_TX_FLUSH) reqHost

/-- ECHO (R315). -/
def doEcho (n : Ch) (s : State) : State := s.actPut (MRACE.CMD_ECHO.addr n) (oneBit MRACE.CMD_ECHO) reqHost

/-- RX_POP (R309). -/
def doRxPop (n : Ch) (s : State) : State := s.actPut (MRACE.CMD_RX_POP.addr n) (oneBit MRACE.CMD_RX_POP) reqHost

/-- RELAY_ENTRY_WRITE (R318). -/
def doRelayEntryWrite (n : Ch) (e : Fin 64) (data : Word) (s : State) : State :=
  s.actPut ((MRLY.ENTRY_W0 e.val).addr n) data reqHost

/-- MR_FSM_PAR (R323). -/
def doMrFsmPar (n : Ch) (k : Fin 2) (s : State) : State := (s.raiseFsm n MRACE.FLT_MR_FSM_PAR k.val).mrParity n

/-- MR_MEM_PAR (R323). -/
def doMrMemPar (n : Ch) (w : MrWord) (s : State) : State := (s.raise n MRACE.FLT_MR_MEM_PAR).mrDrop n w

/-- RELAY_PAR (R323). -/
def doRelayPar (n : Ch) (w : RelayWord) (s : State) : State := (s.raise n MRLY.FLT_RELAY_PAR).relayLose n w

/-- GAUGE_TRIGGER (R333). -/
def doGaugeTrigger (n : Ch) (s : State) : State :=
  s.actPut (GAUGE.CMD_TRIGGER.addr n) (oneBit GAUGE.CMD_TRIGGER) reqHost

/-- GAUGE_DIAG (R340). -/
def doGaugeDiag (n : Ch) (s : State) : State := s.actPut (GAUGE.CMD_DIAG.addr n) (oneBit GAUGE.CMD_DIAG) reqHost

/-- GAUGE_CLR_STATS (R343). -/
def doGaugeClrStats (n : Ch) (s : State) : State :=
  s.actPut (GAUGE.CMD_CLR_STATS.addr n) (oneBit GAUGE.CMD_CLR_STATS) reqHost

/-- GAUGE_FSM_PAR (R342). -/
def doGaugeFsmPar (n : Ch) (k : Fin 2) (s : State) : State := (s.raiseFsm n GAUGE.FLT_GAUGE_FSM_PAR k.val).gaugeParity n

/-- DAC_CFG_WRITE (R349). -/
def doDacCfgWrite (n : Ch) (d : Fin 3) (data : Word) (s : State) : State :=
  s.actPut ((OUT.D_CFG d).addr n) data reqHost

/-- DAC_DATA_PUSH (R348). -/
def doDacDataPush (n : Ch) (d : Fin 3) (code : BitVec 16) (s : State) : State :=
  s.actPut ((OUT.D_DATA d).addr n) (code.setWidth 32) reqHost

/-- OUT_FSM_PAR (R359). -/
def doOutFsmPar (n : Ch) (s : State) : State := (s.raiseFsm n OUT.FLT_OUT_FSM_PAR).outParity n

/-- KILN_EN_WRITE (R353). -/
def doKilnEnWrite (n : Ch) (on : Bool) (s : State) : State :=
  s.actPut (KILN.CTRL.addr n) (if on then 1 else 0) reqHost

/-- INTEG_WRITE (R355). -/
def doIntegWrite (n : Ch) (hi : Bool) (data : Word) (s : State) : State :=
  s.actPut ((if hi then KILN.INTEG_HI else KILN.INTEG_LO).addr n) data reqHost

/-- KILN_FSM_PAR (R360). -/
def doKilnFsmPar (n : Ch) (s : State) : State := (s.raiseFsm n KILN.FLT_KILN_FSM_PAR).kilnParity n

/-- SPILL_RD_WRITE (R377). -/
def doSpillRdWrite (n : Ch) (rd : BitVec 12) (s : State) : State :=
  s.actPut (TALLY.SPILL_RD.addr n) (rd.setWidth 32) reqHost

/-- TALLY_FLUSH (R378). -/
def doTallyFlush (n : Ch) (s : State) : State := s.actPut (TALLY.CMD_FLUSH.addr n) (oneBit TALLY.CMD_FLUSH) reqHost

/-- TALLY_SNAP (R380). -/
def doTallySnap (n : Ch) (s : State) : State := s.actPut (TALLY.CMD_SNAP.addr n) (oneBit TALLY.CMD_SNAP) reqHost

/-- TALLY_QUERY (R381). -/
def doTallyQuery (n : Ch) (s : State) : State := s.actPut (TALLY.CMD_QUERY.addr n) (oneBit TALLY.CMD_QUERY) reqHost

/-- TALLY_INIT (R385). -/
def doTallyInit (n : Ch) (s : State) : State := s.actPut (TALLY.CMD_INIT.addr n) (oneBit TALLY.CMD_INIT) reqHost

/-- TALLY_CLR_CNT (R388). -/
def doTallyClrCnt (n : Ch) (s : State) : State :=
  s.actPut (TALLY.CMD_CLR_CNT.addr n) (oneBit TALLY.CMD_CLR_CNT) reqHost

/-- TALLY_FSM_PAR (R387). -/
def doTallyFsmPar (n : Ch) (s : State) : State := (s.raiseFsm n TALLY.FLT_TALLY_FSM_PAR).tallyParity n

/-- SELECTOR_WRITE (R395). -/
def doSelectorWrite (x : Scope) (c : Fin 64) (range : Bool) (data : Word) (req : Nat) (s : State) : State :=
  s.actPut ((cntF x (if range then CNT.RANGE else CNT.SEL) c.val).addr (scopeCh x)) data req

/-- COUNTER_PRESET (R396). -/
def doCounterPreset (x : Scope) (c : Fin 64) (hi : Bool) (data : Word) (s : State) : State :=
  s.actPut ((cntF x (if hi then CNT.CNT_HI else CNT.CNT_LO) c.val).addr (scopeCh x)) data reqHost

/-- COUNTER_LO_READ (R393). -/
def doCounterLoRead (x : Scope) (c : Fin 64) (req : Nat) (s : State) : State :=
  s.actGet ((cntF x CNT.CNT_LO c.val).addr (scopeCh x)) req

/-- TIME_NOW_READ (R401). -/
def doTimeNowRead (req : Nat) (s : State) : State := s.actGet 0x9040 req

/-- TIME_SET (R401). -/
def doTimeSet (s : State) : State := s.actPut 0x905C 1 reqHost

/-- TIME_ADJUST (R401). -/
def doTimeAdjust (s : State) : State := s.actPut 0x905C 2 reqHost

/-- HOPPER_DUMP (R405). -/
def doHopperDump (n : Ch) (s : State) : State := s.actPut (HOP.CMD_DUMP.addr n) (oneBit HOP.CMD_DUMP) reqHost

/-- HOP_RD_IDX_WRITE (R410). -/
def doHopRdIdxWrite (n : Ch) (idx : Byte) (s : State) : State :=
  s.actPut (HOP.RD_IDX.addr n) (idx.setWidth 32) reqHost

/-- HOP_FSM_PAR (R413). -/
def doHopFsmPar (n : Ch) (s : State) : State := (s.raiseFsm n HOP.FLT_HOP_FSM_PAR).hopParity n

/-- CNT_SEL_PAR (R413). -/
def doCntSelPar (x : Scope) (c : Fin 64) (s : State) : State :=
  if c.val < cntSize x then s.selParity x c.val { flags := 8, detail := some (BitVec.ofNat 32 (selAddr (scopeCh x) (cntBase x) c.val)) } else s

/-- TIME_PAR (R413). -/
def doTimePar (s : State) : State := (s.raiseFsm 0 TIME.FLT_TIME_PAR).timeParity

/-- SCRUB_GO (R430). -/
def doScrubGo (x : Scope) (s : State) : State :=
  s.actPut ((scopeF x MEM.SCRUB_CMD_GO).addr (scopeCh x)) (oneBit MEM.SCRUB_CMD_GO) reqHost

/-- SCRUB_STOP (R430). -/
def doScrubStop (x : Scope) (s : State) : State :=
  s.actPut ((scopeF x MEM.SCRUB_CMD_STOP).addr (scopeCh x)) (oneBit MEM.SCRUB_CMD_STOP) reqHost

/-- MARCH_GO (R436). -/
def doMarchGo (x : Scope) (s : State) : State :=
  s.actPut ((scopeF x MEM.MARCH_CMD_GO).addr (scopeCh x)) (oneBit MEM.MARCH_CMD_GO) reqHost

/-- MEM_CTRL_PAR (R439). -/
def doMemCtrlPar (x : Scope) (e : MemEngine) (s : State) : State :=
  (s.raiseFsm (scopeCh x) (scopeF x MEM.FLT_MEM_CTRL_PAR) e.target).memParity x e

/-- FAULT_CLEAR (R453). -/
def doFaultClear (page : Nat) (data : Word) (s : State) : State :=
  s.actPut (page / 0x1000 * 0x1000 + 0x18) data reqHost

/-- FLT_EN_WRITE (R455). -/
def doFltEnWrite (page : Nat) (data : Word) (s : State) : State :=
  s.actPut (page / 0x1000 * 0x1000 + 0x1C) data reqHost

/-- FLOG_RD_IDX_WRITE (R460). -/
def doFlogRdIdxWrite (idx : Byte) (s : State) : State := s.actPut 0x8048 (idx.setWidth 32) reqHost

/-- TRIAL_GO (R470). -/
def doTrialGo (n : Ch) (s : State) : State := s.actPut (TRIAL.CMD_GO.addr n) (oneBit TRIAL.CMD_GO) reqHost

/-- DEV_TRIAL_GO (R476). -/
def doDevTrialGo (mask : BitVec 3) (s : State) : State :=
  s.actPut 0xB044 (BitVec.ofNat 32 (mask.toNat * 256 + 1)) reqHost

/-- TRIAL_FSM_PAR (R474). -/
def doTrialFsmPar (n : Ch) (s : State) : State := (s.trialParity n).raiseFsm n TRIAL.FLT_TRIAL_FSM_PAR

/-- PAT_CFG_WRITE (R482). -/
def doPatCfgWrite (n : Ch) (u : Fin 6) (data : Word) (s : State) : State :=
  s.actPut ((PAT.U_CFG u.val).addr n) data reqHost

/-- GATE_GO (R481). -/
def doGateGo (n : Ch) (c : Fin 3) (s : State) : State := s.actPut ((PAT.C_CMD c.val).addr n) 1 reqHost

/-- GATE_STOP (R481). -/
def doGateStop (n : Ch) (c : Fin 3) (s : State) : State := s.actPut ((PAT.C_CMD c.val).addr n) 2 reqHost

/-- PAT_CLR (R481). -/
def doPatClr (n : Ch) (c : Fin 3) (s : State) : State := s.actPut ((PAT.C_CMD c.val).addr n) 4 reqHost

/-- ERR_INJ (R482). -/
def doErrInj (n : Ch) (u : Fin 3) (s : State) : State := s.actPut ((PAT.G_CMD u.val).addr n) 1 reqHost

/-- PAT_FSM_PAR (R485). -/
def doPatFsmPar (n : Ch) (s : State) : State := (s.raiseFsm n PAT.FLT_PAT_FSM_PAR).patParity n

/-- CH_PWR_TARGET (R491). -/
def doChPwrTarget (n : Ch) (target : BitVec 3) (req : Nat) (s : State) : State :=
  s.actPut (PWR.TARGET.addr n) (target.setWidth 32) req

/-- DEV_PWR_TARGET (R491). -/
def doDevPwrTarget (target : BitVec 4) (req : Nat) (s : State) : State := s.actPut 0x4040 (target.setWidth 32) req

/-- CH_WAKE_CMD (R499). -/
def doChWakeCmd (n : Ch) (s : State) : State := s.actPut (PWR.CMD_WAKE.addr n) (oneBit PWR.CMD_WAKE) reqHost

/-- PWR_CLR_STATS (R506). -/
def doPwrClrStats (x : Scope) (s : State) : State := s.actPut ((pwrF x PWR.CMD).addr (scopeCh x)) 2 reqHost

/-- PWR_FSM_PAR (R505). -/
def doPwrFsmPar (n : Ch) (s : State) : State := (s.raiseFsm n PWR.FLT_PWR_FSM_PAR).pwrParity n

/-- PWR_SEQ_PAR (R505). -/
def doPwrSeqPar (s : State) : State := s.raiseFsm 0 DPWR.FLT_PWR_SEQ_PAR

/-- CLR_PEAK (R532). -/
def doClrPeak (s : State) : State := s.actPut 0xE054 1 reqHost

end Sys2Proof.Machine
end

