-- ==== Sys2Proof/Machine/ExecBlocks.lean ====
section
/-! DEFINITION. The meanings of the commands of the Dresser, Millrace, Gauge, outputs, Kiln and Tally (chapters 11 to 15): one definition for each command. -/

namespace Sys2Proof.Machine

/-- DRESS_CMD_PASS (R284). -/
def execDressCmdPass (n : Ch) (req : Nat) (s : State) : Host.Outcome State Fault Refusal :=
  .next (doDressCmdPass n req s)

/-- DRESS_CMD_ABORT (R292). -/
def execDressCmdAbort (n : Ch) (byEn : Bool) (s : State) : Host.Outcome State Fault Refusal :=
  .next (doDressCmdAbort n byEn s)

/-- FIRST_PASS_TRIGGER (R286). -/
def execFirstPassTrigger (n : Ch) (s : State) : Host.Outcome State Fault Refusal := .next (doFirstPassTrigger n s)

/-- MEASURE_WINDOW_END (R279). -/
def execMeasureWindowEnd (n : Ch) (est : List TrimError) (wait : Nat) (s : State) :
    Host.Outcome State Fault Refusal :=
  .next (doMeasureWindowEnd n est wait s)

/-- TRIM_STEP (R276). -/
def execTrimStep (n : Ch) (part : StepPart) (wait : Nat) (s : State) : Host.Outcome State Fault Refusal :=
  .next (doTrimStep n part wait s)

/-- DEFER_TIMEOUT (R282). -/
def execDeferTimeout (n : Ch) (s : State) : Host.Outcome State Fault Refusal := .next (doDeferTimeout n s)

/-- DRESS_FSM_PAR (R293). -/
def execDressFsmPar (n : Ch) (s : State) : Host.Outcome State Fault Refusal := .next (doDressFsmPar n s)

/-- MR_FRAME_START (R301). -/
def execMrFrameStart (n : Ch) (s : State) : Host.Outcome State Fault Refusal := .next (doMrFrameStart n s)

/-- MR_FRAME_END (R303). -/
def execMrFrameEnd (n : Ch) (s : State) : Host.Outcome State Fault Refusal := .next (doMrFrameEnd n s)

/-- MR_TX_ABORT (R303). -/
def execMrTxAbort (n : Ch) (s : State) : Host.Outcome State Fault Refusal := .next (doMrTxAbort n s)

/-- TX_FLUSH (R301). -/
def execTxFlush (n : Ch) (s : State) : Host.Outcome State Fault Refusal := .next (doTxFlush n s)

/-- BEACON_DUE (R312). -/
def execBeaconDue (n : Ch) (s : State) : Host.Outcome State Fault Refusal := .next (doBeaconDue n s)

/-- ECHO (R315). -/
def execEcho (n : Ch) (s : State) : Host.Outcome State Fault Refusal := .next (doEcho n s)

/-- PREAMBLE_DETECT (R306). -/
def execPreambleDetect (n : Ch) (s : State) : Host.Outcome State Fault Refusal := .next (doPreambleDetect n s)

/-- SYNC_DETECT (R306). -/
def execSyncDetect (n : Ch) (gain : BitVec 7) (s : State) : Host.Outcome State Fault Refusal :=
  .next (doSyncDetect n gain s)

/-- RX_NOSYNC (R306). -/
def execRxNosync (n : Ch) (s : State) : Host.Outcome State Fault Refusal := .next (doRxNosync n s)

/-- HEADER_DECODED (R306). -/
def execHeaderDecoded (n : Ch) (h : List Byte) (s : State) : Host.Outcome State Fault Refusal :=
  .next (doHeaderDecoded n h s)

/-- PAYLOAD_DECODED (R306). -/
def execPayloadDecoded (n : Ch) (p : MrPayload) (s : State) : Host.Outcome State Fault Refusal :=
  .next (doPayloadDecoded n p s)

/-- FAR_LOST (R314). -/
def execFarLost (n : Ch) (s : State) : Host.Outcome State Fault Refusal := .next (doFarLost n s)

/-- RX_POP (R309). -/
def execRxPop (n : Ch) (s : State) : Host.Outcome State Fault Refusal := .next (doRxPop n s)

/-- DUP_EXPIRE (R320). -/
def execDupExpire (k : Nat) (s : State) : Host.Outcome State Fault Refusal := .next (doDupExpire k s)

/-- RELAY_ENTRY_WRITE (R318). -/
def execRelayEntryWrite (n : Ch) (e : Fin 64) (data : Word) (s : State) : Host.Outcome State Fault Refusal :=
  .next (doRelayEntryWrite n e data s)

/-- MR_FSM_PAR (R323). -/
def execMrFsmPar (c : Checker 2) (s : State) : Host.Outcome State Fault Refusal :=
  .next (doMrFsmPar c.n c.code s)

/-- MR_MEM_PAR (R323). -/
def execMrMemPar (n : Ch) (w : MrWord) (s : State) : Host.Outcome State Fault Refusal := .next (doMrMemPar n w s)

/-- RELAY_PAR (R323). -/
def execRelayPar (n : Ch) (w : RelayWord) (s : State) : Host.Outcome State Fault Refusal := .next (doRelayPar n w s)

/-- GAUGE_TRIGGER (R333). -/
def execGaugeTrigger (n : Ch) (s : State) : Host.Outcome State Fault Refusal := .next (doGaugeTrigger n s)

/-- GAUGE_TIMER_TRIGGER (R333). -/
def execGaugeTimerTrigger (n : Ch) (second : Bool) (s : State) : Host.Outcome State Fault Refusal :=
  .next (if s.dev.refclk then doGaugeTimerTrigger n second s else s)

/-- ENTRY_COMPLETE (R334). -/
def execEntryComplete (n : Ch) (va vb : BitVec 16) (s : State) : Host.Outcome State Fault Refusal :=
  .next (if s.dev.refclk then doEntryComplete n va vb s else s)

/-- STREAM_DUE (R337). -/
def execStreamDue (n : Ch) (k : Fin 2) (s : State) : Host.Outcome State Fault Refusal :=
  .next (if s.dev.refclk then doStreamDue n k s else s)

/-- STREAM_RESULT (R337). -/
def execStreamResult (n : Ch) (k : Fin 2) (v : BitVec 16) (s : State) : Host.Outcome State Fault Refusal :=
  .next (if s.dev.refclk then doStreamResult n k v s else s)

/-- DIE_TEMP_DUE (R338). -/
def execDieTempDue (n : Ch) (s : State) : Host.Outcome State Fault Refusal :=
  .next (if s.dev.refclk then doDieTempDue n s else s)

/-- DIE_TEMP_RESULT (R338). -/
def execDieTempResult (n : Ch) (code : BitVec 14) (s : State) : Host.Outcome State Fault Refusal :=
  .next (if s.dev.refclk then doDieTempResult n code s else s)

/-- READBACK_DUE (R352). -/
def execReadbackDue (n : Ch) (d : Fin 3) (s : State) : Host.Outcome State Fault Refusal :=
  .next (if s.dev.refclk then doReadbackDue n d s else s)

/-- READBACK_RESULT (R352). -/
def execReadbackResult (n : Ch) (d : Fin 3) (v : BitVec 16) (moved : Bool) (s : State) :
    Host.Outcome State Fault Refusal :=
  .next (if s.dev.refclk then doReadbackResult n d v moved s else s)

/-- GAUGE_DIAG (R340). -/
def execGaugeDiag (n : Ch) (s : State) : Host.Outcome State Fault Refusal := .next (doGaugeDiag n s)

/-- DIAG_DONE (R340). -/
def execDiagDone (n : Ch) (v : BitVec 16) (s : State) : Host.Outcome State Fault Refusal :=
  .next (if s.dev.refclk then doDiagDone n v s else s)

/-- GAUGE_CLR_STATS (R343). -/
def execGaugeClrStats (n : Ch) (s : State) : Host.Outcome State Fault Refusal := .next (doGaugeClrStats n s)

/-- GAUGE_FSM_PAR (R342). -/
def execGaugeFsmPar (c : Checker 2) (s : State) : Host.Outcome State Fault Refusal :=
  .next (doGaugeFsmPar c.n c.code s)

/-- DAC_CFG_WRITE (R349). -/
def execDacCfgWrite (n : Ch) (d : Fin 3) (data : Word) (s : State) : Host.Outcome State Fault Refusal :=
  .next (doDacCfgWrite n d data s)

/-- DAC_DATA_PUSH (R348). -/
def execDacDataPush (n : Ch) (d : Fin 3) (code : BitVec 16) (s : State) : Host.Outcome State Fault Refusal :=
  .next (doDacDataPush n d code s)

/-- DAC_TICK (R348). -/
def execDacTick (n : Ch) (d : Fin 3) (s : State) : Host.Outcome State Fault Refusal :=
  .next (if s.dev.refclk then doDacTick n d s else s)

/-- CLAMP_PERIOD_END (R349). -/
def execClampPeriodEnd (n : Ch) (d : Fin 3) (s : State) : Host.Outcome State Fault Refusal :=
  .next (if s.dev.refclk then doClampPeriodEnd n d s else s)

/-- VOUTN_LOST (R345). -/
def execVoutnLost (s : State) : Host.Outcome State Fault Refusal := .next (doVoutnLost s)

/-- OUT_FSM_PAR (R359). -/
def execOutFsmPar (n : Ch) (s : State) : Host.Outcome State Fault Refusal := .next (doOutFsmPar n s)

/-- KILN_EN_WRITE (R353). -/
def execKilnEnWrite (n : Ch) (on : Bool) (s : State) : Host.Outcome State Fault Refusal :=
  .next (doKilnEnWrite n on s)

/-- KILN_TICK (R354). -/
def execKilnTick (n : Ch) (s : State) : Host.Outcome State Fault Refusal :=
  .next (if s.dev.refclk then doKilnTick n s else s)

/-- KILN_SAT (R355). -/
def execKilnSat (n : Ch) (s : State) : Host.Outcome State Fault Refusal :=
  .next (if s.dev.refclk then doKilnSat n s else s)

/-- INTEG_WRITE (R355). -/
def execIntegWrite (n : Ch) (hi : Bool) (data : Word) (s : State) : Host.Outcome State Fault Refusal :=
  .next (doIntegWrite n hi data s)

/-- KILN_FSM_PAR (R360). -/
def execKilnFsmPar (n : Ch) (s : State) : Host.Outcome State Fault Refusal := .next (doKilnFsmPar n s)

/-- TALLY_FRAME (R365). -/
def execTallyFrame (n : Ch) (f : TallyFrame) (s : State) : Host.Outcome State Fault Refusal :=
  .next (doTallyFrame n f s)

/-- EPOCH_BOUNDARY (R370). -/
def execEpochBoundary (n : Ch) (s : State) : Host.Outcome State Fault Refusal := .next (doEpochBoundary n s)

/-- SWEEP_DONE (R371). -/
def execSweepDone (n : Ch) (s : State) : Host.Outcome State Fault Refusal := .next (doSweepDone n s)

/-- SCAN_PASS (R375). -/
def execScanPass (n : Ch) (s : State) : Host.Outcome State Fault Refusal := .next (doScanPass n s)

/-- SPILL_RD_WRITE (R377). -/
def execSpillRdWrite (n : Ch) (rd : BitVec 12) (s : State) : Host.Outcome State Fault Refusal :=
  .next (doSpillRdWrite n rd s)

/-- TALLY_FLUSH (R378). -/
def execTallyFlush (n : Ch) (s : State) : Host.Outcome State Fault Refusal := .next (doTallyFlush n s)

/-- FLUSH_DONE (R378). -/
def execFlushDone (n : Ch) (s : State) : Host.Outcome State Fault Refusal := .next (doFlushDone n s)

/-- TALLY_SNAP (R380). -/
def execTallySnap (n : Ch) (s : State) : Host.Outcome State Fault Refusal := .next (doTallySnap n s)

/-- TALLY_QUERY (R381). -/
def execTallyQuery (n : Ch) (s : State) : Host.Outcome State Fault Refusal := .next (doTallyQuery n s)

/-- TALLY_INIT (R385). -/
def execTallyInit (n : Ch) (s : State) : Host.Outcome State Fault Refusal := .next (doTallyInit n s)

/-- INIT_DONE (R385). -/
def execInitDone (n : Ch) (s : State) : Host.Outcome State Fault Refusal := .next (doInitDone n s)

/-- TALLY_CLR_CNT (R388). -/
def execTallyClrCnt (n : Ch) (s : State) : Host.Outcome State Fault Refusal := .next (doTallyClrCnt n s)

/-- TALLY_FSM_PAR (R387). -/
def execTallyFsmPar (n : Ch) (s : State) : Host.Outcome State Fault Refusal := .next (doTallyFsmPar n s)

end Sys2Proof.Machine
end

