-- ==== Sys2Proof/Machine/ExecDevice.lean ====
section
/-! DEFINITION. The meanings of the commands of counters, time, the Hopper, memories, the Sluice, Trial, patterns, power states and sensors (chapters 16 to 21): one definition for each command. -/

namespace Sys2Proof.Machine

/-- SELECTOR_WRITE (R395). -/
def execSelectorWrite (x : Scope) (c : Fin 64) (range : Bool) (data : Word) (req : Nat) (s : State) :
    Host.Outcome State Fault Refusal :=
  .next (doSelectorWrite x c range data req s)

/-- COUNTER_PRESET (R396). -/
def execCounterPreset (x : Scope) (c : Fin 64) (hi : Bool) (data : Word) (s : State) :
    Host.Outcome State Fault Refusal :=
  .next (doCounterPreset x c hi data s)

/-- COUNTER_LO_READ (R393). -/
def execCounterLoRead (x : Scope) (c : Fin 64) (req : Nat) (s : State) : Host.Outcome State Fault Refusal :=
  .next (doCounterLoRead x c req s)

/-- TIME_NOW_READ (R401). -/
def execTimeNowRead (req : Nat) (s : State) : Host.Outcome State Fault Refusal := .next (doTimeNowRead req s)

/-- TIME_SET (R401). -/
def execTimeSet (s : State) : Host.Outcome State Fault Refusal := .next (doTimeSet s)

/-- TIME_ADJUST (R401). -/
def execTimeAdjust (s : State) : Host.Outcome State Fault Refusal := .next (doTimeAdjust s)

/-- PPS_EDGE (R402). -/
def execPpsEdge (after : Nat) (s : State) : Host.Outcome State Fault Refusal := .next (doPpsEdge after s)

/-- PPS_LOSS (R403). -/
def execPpsLoss (s : State) : Host.Outcome State Fault Refusal := .next (doPpsLoss s)

/-- SECOND_ROLLOVER (R404). -/
def execSecondRollover (s : State) : Host.Outcome State Fault Refusal := .next (doSecondRollover s)

/-- PPS_OUT_PULSE_END (R404). -/
def execPpsOutPulseEnd (s : State) : Host.Outcome State Fault Refusal := .next (doPpsOutPulseEnd s)

/-- HOPPER_BOUNDARY (R405). -/
def execHopperBoundary (n : Ch) (s : State) : Host.Outcome State Fault Refusal := .next (doHopperBoundary n s)

/-- HOPPER_DUMP (R405). -/
def execHopperDump (n : Ch) (s : State) : Host.Outcome State Fault Refusal := .next (doHopperDump n s)

/-- HOPPER_LATCH (R406). -/
def execHopperLatch (n : Ch) (s : State) : Host.Outcome State Fault Refusal := .next (doHopperLatch n s)

/-- HOPPER_WRITE_DONE (R409). -/
def execHopperWriteDone (n : Ch) (s : State) : Host.Outcome State Fault Refusal := .next (doHopperWriteDone n s)

/-- HOP_RD_IDX_WRITE (R410). -/
def execHopRdIdxWrite (n : Ch) (idx : Byte) (s : State) : Host.Outcome State Fault Refusal :=
  .next (doHopRdIdxWrite n idx s)

/-- HOP_FSM_PAR (R413). -/
def execHopFsmPar (n : Ch) (s : State) : Host.Outcome State Fault Refusal := .next (doHopFsmPar n s)

/-- CNT_SEL_PAR (R413). -/
def execCntSelPar (x : Scope) (c : Fin 64) (s : State) : Host.Outcome State Fault Refusal := .next (doCntSelPar x c s)

/-- TIME_PAR (R413). -/
def execTimePar (s : State) : Host.Outcome State Fault Refusal := .next (doTimePar s)

/-- SCRUB_GO (R430). -/
def execScrubGo (x : Scope) (s : State) : Host.Outcome State Fault Refusal := .next (doScrubGo x s)

/-- SCRUB_STOP (R430). -/
def execScrubStop (x : Scope) (s : State) : Host.Outcome State Fault Refusal := .next (doScrubStop x s)

/-- SCRUB_PASS_END (R430). -/
def execScrubPassEnd (x : Scope) (us : Nat) (s : State) : Host.Outcome State Fault Refusal :=
  .next (doScrubPassEnd x us s)

/-- ECC_WRITEBACK (R424). -/
def execEccWriteback (x : Scope) (k : Nat) (s : State) : Host.Outcome State Fault Refusal :=
  .next (doEccWriteback x k s)

/-- LEAK_TICK (R425). -/
def execLeakTick (x : Scope) (i : Fin 7) (s : State) : Host.Outcome State Fault Refusal := .next (doLeakTick x i s)

/-- MARCH_GO (R436). -/
def execMarchGo (x : Scope) (s : State) : Host.Outcome State Fault Refusal := .next (doMarchGo x s)

/-- MARCH_SLICE_END (R436). -/
def execMarchSliceEnd (x : Scope) (fails : List MarchFail) (s : State) : Host.Outcome State Fault Refusal :=
  .next (doMarchSliceEnd x fails s)

/-- MARCH_BUDGET_END (R436). -/
def execMarchBudgetEnd (x : Scope) (s : State) : Host.Outcome State Fault Refusal := .next (doMarchBudgetEnd x s)

/-- MEM_CTRL_PAR (R439). -/
def execMemCtrlPar (x : Scope) (e : MemEngine) (s : State) : Host.Outcome State Fault Refusal :=
  .next (doMemCtrlPar x e s)

/-- FAULT_COLLECT (R444). -/
def execFaultCollect (s : State) : Host.Outcome State Fault Refusal := .next (doFaultCollect s)

/-- LOG_ENTRY_WRITE (R460). -/
def execLogEntryWrite (s : State) : Host.Outcome State Fault Refusal := .next (doLogEntryWrite s)

/-- FAULT_CLEAR (R453). -/
def execFaultClear (page : Nat) (data : Word) (s : State) : Host.Outcome State Fault Refusal :=
  .next (doFaultClear page data s)

/-- FLT_EN_WRITE (R455). -/
def execFltEnWrite (page : Nat) (data : Word) (s : State) : Host.Outcome State Fault Refusal :=
  .next (doFltEnWrite page data s)

/-- SELF_FAULT (R458). -/
def execSelfFault (x : Scope) (reg : Nat) (s : State) : Host.Outcome State Fault Refusal :=
  .next (doSelfFault x reg s)

/-- FLOG_RD_IDX_WRITE (R460). -/
def execFlogRdIdxWrite (idx : Byte) (s : State) : Host.Outcome State Fault Refusal := .next (doFlogRdIdxWrite idx s)

/-- TRIAL_GO (R470). -/
def execTrialGo (n : Ch) (s : State) : Host.Outcome State Fault Refusal := .next (doTrialGo n s)

/-- TRIAL_SLICES_START (R471). -/
def execTrialSlicesStart (n : Ch) (s : State) : Host.Outcome State Fault Refusal := .next (doTrialSlicesStart n s)

/-- TRIAL_SLICE_END (R468). -/
def execTrialSliceEnd (x : Scope) (pass : Bool) (fails : BitVec 7) (ms : Nat) (s : State) :
    Host.Outcome State Fault Refusal :=
  .next (doTrialSliceEnd x pass fails ms s)

/-- TRIAL_BUDGET_EXPIRY (R469). -/
def execTrialBudgetExpiry (x : Scope) (fails : BitVec 7) (ms : Nat) (s : State) : Host.Outcome State Fault Refusal :=
  .next (doTrialBudgetExpiry x fails ms s)

/-- TRIAL_RESTORE_END (R471). -/
def execTrialRestoreEnd (n : Ch) (us : Nat) (s : State) : Host.Outcome State Fault Refusal :=
  .next (doTrialRestoreEnd n us s)

/-- DEV_TRIAL_GO (R476). -/
def execDevTrialGo (mask : BitVec 3) (s : State) : Host.Outcome State Fault Refusal := .next (doDevTrialGo mask s)

/-- TRIAL_FSM_PAR (R474). -/
def execTrialFsmPar (n : Ch) (s : State) : Host.Outcome State Fault Refusal := .next (doTrialFsmPar n s)

/-- PAT_CFG_WRITE (R482). -/
def execPatCfgWrite (n : Ch) (u : Fin 6) (data : Word) (s : State) : Host.Outcome State Fault Refusal :=
  .next (doPatCfgWrite n u data s)

/-- CHECKER_LOCK (R480). -/
def execCheckerLock (n : Ch) (c : Fin 3) (s : State) : Host.Outcome State Fault Refusal := .next (doCheckerLock n c s)

/-- CHECKER_LOCK_LOST (R480). -/
def execCheckerLockLost (n : Ch) (c : Fin 3) (bits errs : Nat) (s : State) : Host.Outcome State Fault Refusal :=
  .next (doCheckerLockLost n c bits errs s)

/-- GATE_GO (R481). -/
def execGateGo (n : Ch) (c : Fin 3) (s : State) : Host.Outcome State Fault Refusal := .next (doGateGo n c s)

/-- GATE_OPEN (R481). -/
def execGateOpen (n : Ch) (c : Fin 3) (s : State) : Host.Outcome State Fault Refusal := .next (doGateOpen n c s)

/-- GATE_CLOSE (R481). -/
def execGateClose (n : Ch) (c : Fin 3) (bits errs : Nat) (s : State) : Host.Outcome State Fault Refusal :=
  .next (doGateClose n c bits errs s)

/-- GATE_STOP (R481). -/
def execGateStop (n : Ch) (c : Fin 3) (s : State) : Host.Outcome State Fault Refusal := .next (doGateStop n c s)

/-- PAT_CLR (R481). -/
def execPatClr (n : Ch) (c : Fin 3) (s : State) : Host.Outcome State Fault Refusal := .next (doPatClr n c s)

/-- ERR_INJ (R482). -/
def execErrInj (n : Ch) (u : Fin 3) (s : State) : Host.Outcome State Fault Refusal := .next (doErrInj n u s)

/-- PAT_FSM_PAR (R485). -/
def execPatFsmPar (n : Ch) (s : State) : Host.Outcome State Fault Refusal := .next (doPatFsmPar n s)

/-- JTAG_INSTRUCTION (R484). -/
def execJtagInstruction (i : BitVec 8) (s : State) : Host.Outcome State Fault Refusal := .next (doJtagInstruction i s)

/-- TRST_N_ASSERT (R483). -/
def execTrstNAssert (s : State) : Host.Outcome State Fault Refusal := .next (doTrstNAssert s)

/-- CH_PWR_TARGET (R491). -/
def execChPwrTarget (n : Ch) (target : BitVec 3) (req : Nat) (s : State) : Host.Outcome State Fault Refusal :=
  .next (doChPwrTarget n target req s)

/-- DEV_PWR_TARGET (R491). -/
def execDevPwrTarget (target : BitVec 4) (req : Nat) (s : State) : Host.Outcome State Fault Refusal :=
  .next (doDevPwrTarget target req s)

/-- CONTROLLER_WAIT (R494). -/
def execControllerWait (x : Scope) (s : State) : Host.Outcome State Fault Refusal := .next (doControllerWait x s)

/-- WAIT_TIMEOUT (R497). -/
def execWaitTimeout (x : Scope) (s : State) : Host.Outcome State Fault Refusal := .next (doWaitTimeout x s)

/-- LEG_COMPLETE (R494). -/
def execLegComplete (x : Scope) (us waitUs : Nat) (s : State) : Host.Outcome State Fault Refusal :=
  .next (doLegComplete x us waitUs s)

/-- CH_WAKE_CMD (R499). -/
def execChWakeCmd (n : Ch) (s : State) : Host.Outcome State Fault Refusal := .next (doChWakeCmd n s)

/-- WAKE_TIMER_EXPIRY (R499). -/
def execWakeTimerExpiry (x : Scope) (s : State) : Host.Outcome State Fault Refusal := .next (doWakeTimerExpiry x s)

/-- WAKE_REPLAY (R501). -/
def execWakeReplay (x : Scope) (s : State) : Host.Outcome State Fault Refusal := .next (doWakeReplay x s)

/-- WATCH_SAMPLE_START (R502). -/
def execWatchSampleStart (n : Ch) (s : State) : Host.Outcome State Fault Refusal :=
  .next (if s.dev.refclk then doWatchSampleStart n s else s)

/-- WATCH_SAMPLE_RESULT (R503). -/
def execWatchSampleResult (n : Ch) (v : BitVec 16) (s : State) : Host.Outcome State Fault Refusal :=
  .next (if s.dev.refclk then doWatchSampleResult n v s else s)

/-- WATCH_SAMPLE_END (R503). -/
def execWatchSampleEnd (n : Ch) (s : State) : Host.Outcome State Fault Refusal := .next (doWatchSampleEnd n s)

/-- PWR_CLR_STATS (R506). -/
def execPwrClrStats (x : Scope) (s : State) : Host.Outcome State Fault Refusal := .next (doPwrClrStats x s)

/-- PWR_FSM_PAR (R505). -/
def execPwrFsmPar (n : Ch) (s : State) : Host.Outcome State Fault Refusal := .next (doPwrFsmPar n s)

/-- PWR_SEQ_PAR (R505). -/
def execPwrSeqPar (s : State) : Host.Outcome State Fault Refusal := .next (doPwrSeqPar s)

/-- SENS_UPDATE (R531). -/
def execSensUpdate (complex : Option (BitVec 16)) (s : State) : Host.Outcome State Fault Refusal :=
  .next (doSensUpdate complex s)

/-- CLR_PEAK (R532). -/
def execClrPeak (s : State) : Host.Outcome State Fault Refusal := .next (doClrPeak s)

/-- CAP_PRE_FILLED (R220). -/
def execCapPreFilled (n : Ch) (s : State) : Host.Outcome State Fault Refusal := .next (doCapPreFilled n s)

/-- CORE_OFFSET_UPDATE (R32). -/
def execCoreOffsetUpdate (n : Ch) (tx rx : Int) (s : State) : Host.Outcome State Fault Refusal :=
  .next (doCoreOffsetUpdate n tx rx s)

/-- CDR_PPM_UPDATE (R142). -/
def execCdrPpmUpdate (n : Ch) (l : Fin 2) (ppm : Int) (s : State) : Host.Outcome State Fault Refusal :=
  .next (doCdrPpmUpdate n l ppm s)

/-- CH_PLL_RELOCK (R496). -/
def execChPllRelock (n : Ch) (s : State) : Host.Outcome State Fault Refusal := .next (doChPllRelock n s)

/-- VOUTN_RETURN (R345). -/
def execVoutnReturn (s : State) : Host.Outcome State Fault Refusal := .next (doVoutnReturn s)

/-- RAIL_RETURN (R79). -/
def execRailReturn (r : Rail) (s : State) : Host.Outcome State Fault Refusal := .next (doRailReturn r s)

end Sys2Proof.Machine
end

