-- ==== Sys2Proof/Machine/ExecLink.lean ====
section
/-! DEFINITION. The meanings of the commands of a channel's mode, host lanes, outer code, line transmit and receive, timing, equaliser and inner code (chapters 01, 05 to 10): one definition for each command. -/

namespace Sys2Proof.Machine

/-- MODE_APPLY_GO (R30). -/
def execModeApplyGo (n : Ch) (s : State) : Host.Outcome State Fault Refusal := .next (doModeApplyGo n s)

/-- MODE_DONE (R31). -/
def execModeDone (n : Ch) (s : State) : Host.Outcome State Fault Refusal := .next (doModeDone n s)

/-- CH_PLL_LOCK_TIMEOUT (R31). -/
def execChPllLockTimeout (n : Ch) (s : State) : Host.Outcome State Fault Refusal := .next (doChPllLockTimeout n s)

/-- CH_PLL_UNLOCK (R32). -/
def execChPllUnlock (n : Ch) (s : State) : Host.Outcome State Fault Refusal := .next (doChPllUnlock n s)

/-- HOLDOVER_EXIT (R21). -/
def execHoldoverExit (n : Ch) (s : State) : Host.Outcome State Fault Refusal := .next (doHoldoverExit n s)

/-- XING_SLIP (R24). -/
def execXingSlip (n : Ch) (x : Fin 5) (fill : Nat) (s : State) : Host.Outcome State Fault Refusal :=
  .next (doXingSlip n x fill s)

/-- HOST_SIG_DETECT (R142). -/
def execHostSigDetect (n : Ch) (l : Fin 2) (s : State) : Host.Outcome State Fault Refusal :=
  .next (doHostSigDetect n l s)

/-- HOST_SIG_FALL (R149). -/
def execHostSigFall (n : Ch) (fall : SigFall) (s : State) : Host.Outcome State Fault Refusal :=
  .next (doHostSigFall n fall.l fall.long s)

/-- CDR_LOCK (R142). -/
def execCdrLock (n : Ch) (l : Fin 2) (ppm : Int) (s : State) : Host.Outcome State Fault Refusal :=
  .next (doCdrLock n l ppm s)

/-- FRAME_LOCK (R147). -/
def execFrameLock (n : Ch) (l : Fin 2) (inverted farAdv : Bool) (s : State) : Host.Outcome State Fault Refusal :=
  .next (doFrameLock n l inverted farAdv s)

/-- TRAIN_REQUEST_RECEIVED (R144). -/
def execTrainRequestReceived (n : Ch) (l : Fin 2) (frame : TrainFrame) (s : State) :
    Host.Outcome State Fault Refusal :=
  .next (doTrainRequest n l frame.req frame.farReady s)

/-- TRAIN_MEASUREMENT (R145). -/
def execTrainMeasurement (n : Ch) (l : Fin 2) (snr clipped : Nat) (taps : List Int) (dfe : Int) (s : State) :
    Host.Outcome State Fault Refusal :=
  .next (doTrainMeasurement n l snr clipped taps dfe s)

/-- TRAIN_NORESP (R145). -/
def execTrainNoresp (n : Ch) (l : Fin 2) (s : State) : Host.Outcome State Fault Refusal := .next (doTrainNoresp n l s)

/-- TRAIN_DONE (R150). -/
def execTrainDone (n : Ch) (l : Fin 2) (ms : Nat) (s : State) : Host.Outcome State Fault Refusal :=
  .next (doTrainDone n l ms s)

/-- TRAIN_TIMEOUT (R149). -/
def execTrainTimeout (n : Ch) (l : Fin 2) (s : State) : Host.Outcome State Fault Refusal :=
  .next (doTrainTimeout n l s)

/-- AUTO_RETRAIN_RETRY (R149). -/
def execAutoRetrainRetry (n : Ch) (l : Fin 2) (s : State) : Host.Outcome State Fault Refusal :=
  .next (doAutoRetrain n l s)

/-- LOCK_LOST (R151). -/
def execLockLost (n : Ch) (l : Fin 2) (cause : LockCause) (s : State) : Host.Outcome State Fault Refusal :=
  .next (doLockLost n l cause s)

/-- RETRAIN (R152). -/
def execRetrain (n : Ch) (l : Fin 2) (s : State) : Host.Outcome State Fault Refusal := .next (doRetrain n l s)

/-- TX_FIR_WRITE (R137). -/
def execTxFirWrite (n : Ch) (l : Fin 2) (hi : Bool) (data : Word) (s : State) : Host.Outcome State Fault Refusal :=
  .next (doTxFirWrite n l hi data s)

/-- HOST_GUARD_WINDOW (R141). -/
def execHostGuardWindow (n : Ch) (l : Fin 2) (occ : List Nat) (snr clipped : Nat) (signs : List (List Int))
    (dress : List (Option Int)) (s : State) : Host.Outcome State Fault Refusal :=
  .next (doHostGuardWindow n l occ snr clipped (List.zipWith HostLms.mk signs dress) s)

/-- LANE_FSM_PAR (R155). -/
def execLaneFsmPar (n : Ch) (c : LaneChecker) (s : State) : Host.Outcome State Fault Refusal :=
  .next (doLaneFsmPar n c.l c.code s)

/-- MARKER_PERIOD (R159). -/
def execMarkerPeriod (n : Ch) (h : Fin 3) (m : Marker) (s : State) : Host.Outcome State Fault Refusal :=
  .next (doMarkerPeriod n h m s)

/-- SLIP_GO (R163). -/
def execSlipGo (n : Ch) (side : Fin 2) (bits : BitVec 4) (s : State) : Host.Outcome State Fault Refusal :=
  .next (doSlipGo n side bits s)

/-- SLIP_APPLY (R164). -/
def execSlipApply (n : Ch) (s : State) : Host.Outcome State Fault Refusal := .next (doSlipApply n s)

/-- MANUAL_SWITCH (R164). -/
def execManualSwitch (n : Ch) (s : State) : Host.Outcome State Fault Refusal := .next (doManualSwitch n s)

/-- CODEWORD_DECODE (R167). -/
def execCodewordDecode (n : Ch) (d : Fin 2) (msg parity code : List Nat) (s : State) : Host.Outcome State Fault Refusal :=
  .next (doCodewordDecode n d ⟨msg ++ parity, code⟩ s)

/-- SER_WINDOW_END (R174). -/
def execSerWindowEnd (n : Ch) (d : Fin 2) (s : State) : Host.Outcome State Fault Refusal :=
  .next (doSerWindowEnd n d s)

/-- HFEC_CLR_CNT (R173). -/
def execHfecClrCnt (n : Ch) (s : State) : Host.Outcome State Fault Refusal := .next (doHfecClrCnt n s)

/-- HFEC_FSM_PAR (R175). -/
def execHfecFsmPar (c : Checker 4) (s : State) : Host.Outcome State Fault Refusal :=
  .next (doHfecFsmPar c.n c.code s)

/-- LEAD_END (R190). -/
def execLeadEnd (n : Ch) (s : State) : Host.Outcome State Fault Refusal := .next (doLeadEnd n s)

/-- RAMP_UP_END (R191). -/
def execRampUpEnd (n : Ch) (s : State) : Host.Outcome State Fault Refusal := .next (doRampUpEnd n s)

/-- RAMP_DOWN_END (R191). -/
def execRampDownEnd (n : Ch) (s : State) : Host.Outcome State Fault Refusal := .next (doRampDownEnd n s)

/-- LAG_END (R190). -/
def execLagEnd (n : Ch) (s : State) : Host.Outcome State Fault Refusal := .next (doLagEnd n s)

/-- FIR_APPLY (R183). -/
def execFirApply (n : Ch) (s : State) : Host.Outcome State Fault Refusal := .next (doFirApply n s)

/-- NL_LOAD (R186). -/
def execNlLoad (n : Ch) (s : State) : Host.Outcome State Fault Refusal := .next (doNlLoad n s)

/-- NL_BANK_SWITCH (R186). -/
def execNlBankSwitch (n : Ch) (s : State) : Host.Outcome State Fault Refusal := .next (doNlBankSwitch n s)

/-- NL_PARITY (R187). -/
def execNlParity (n : Ch) (path : Fin 256) (i : Fin 64) (s : State) : Host.Outcome State Fault Refusal :=
  .next (doNlParity n path i s)

/-- DAC_SAT_WINDOW (R184). -/
def execDacSatWindow (n : Ch) (clipped : Nat) (s : State) : Host.Outcome State Fault Refusal :=
  .next (doDacSatWindow n clipped s)

/-- TXDIS_MISMATCH (R194). -/
def execTxdisMismatch (n : Ch) (high : Bool) (s : State) : Host.Outcome State Fault Refusal :=
  .next (doTxdisMismatch n high s)

/-- LTX_FSM_PAR (R197). -/
def execLtxFsmPar (n : Ch) (s : State) : Host.Outcome State Fault Refusal := .next (doLtxFsmPar n s)

/-- SD_RAW_RISE (R203). -/
def execSdRawRise (x : LineLevel) (s : State) : Host.Outcome State Fault Refusal := .next (doSdRawRise x.n x.mv s)

/-- SD_RAW_FALL (R203). -/
def execSdRawFall (x : LineLoss) (s : State) : Host.Outcome State Fault Refusal := .next (doSdRawFall x.n x.mv x.us s)

/-- GAIN_MEASUREMENT (R205). -/
def execGainMeasurement (n : Ch) (rms t : Nat) (s : State) : Host.Outcome State Fault Refusal :=
  .next (doGainMeasurement n rms t s)

/-- GAIN_ACQ_TIMEOUT (R205). -/
def execGainAcqTimeout (n : Ch) (s : State) : Host.Outcome State Fault Refusal := .next (doGainAcqTimeout n s)

/-- GAIN_REACQ (R207). -/
def execGainReacq (n : Ch) (s : State) : Host.Outcome State Fault Refusal := .next (doGainReacq n s)

/-- REACQ_STEP (R207). -/
def execReacqStep (n : Ch) (rms t : Nat) (s : State) : Host.Outcome State Fault Refusal :=
  .next (doReacqStep n rms t s)

/-- RMS_WINDOW (R207). -/
def execRmsWindow (n : Ch) (rms : Nat) (s : State) : Host.Outcome State Fault Refusal := .next (doRmsWindow n rms s)

/-- GAIN_MODE_WRITE (R208). -/
def execGainModeWrite (n : Ch) (data : Word) (s : State) : Host.Outcome State Fault Refusal :=
  .next (doGainModeWrite n data s)

/-- TANDEM_WINDOW (R210). -/
def execTandemWindow (n : Ch) (spur : Nat) (skew : Int) (s : State) : Host.Outcome State Fault Refusal :=
  .next (doTandemWindow n spur skew s)

/-- PLAUS_WINDOW (R212). -/
def execPlausWindow (n : Ch) (d : Nat) (s : State) : Host.Outcome State Fault Refusal := .next (doPlausWindow n d s)

/-- PLAUS_TEST (R213). -/
def execPlausTest (n : Ch) (s : State) : Host.Outcome State Fault Refusal := .next (doPlausTest n s)

/-- PLAUS_TEST_END (R213). -/
def execPlausTestEnd (n : Ch) (s : State) : Host.Outcome State Fault Refusal := .next (doPlausTestEnd n s)

/-- SWAP (R214). -/
def execSwap (n : Ch) (s : State) : Host.Outcome State Fault Refusal := .next (doSwap n s)

/-- WAIT_GUARD_TIMEOUT (R215). -/
def execWaitGuardTimeout (n : Ch) (s : State) : Host.Outcome State Fault Refusal := .next (doWaitGuardTimeout n s)

/-- BANK_SWAP_SWITCH (R216). -/
def execBankSwapSwitch (n : Ch) (s : State) : Host.Outcome State Fault Refusal := .next (doBankSwapSwitch n s)

/-- SHADOW_EN_WRITE (R211). -/
def execShadowEnWrite (n : Ch) (on : Bool) (s : State) : Host.Outcome State Fault Refusal :=
  .next (doShadowEnWrite n on s)

/-- CAP_ARM (R220). -/
def execCapArm (n : Ch) (s : State) : Host.Outcome State Fault Refusal := .next (doCapArm n s)

/-- CAP_TRIGGER (R220). -/
def execCapTrigger (n : Ch) (stored : Nat) (s : State) : Host.Outcome State Fault Refusal :=
  .next (doCapTrigger n stored s)

/-- CAP_DONE (R220). -/
def execCapDone (n : Ch) (r : CapRecord) (s : State) : Host.Outcome State Fault Refusal := .next (doCapDone n r s)

/-- CAP_ABORT (R220). -/
def execCapAbort (n : Ch) (s : State) : Host.Outcome State Fault Refusal := .next (doCapAbort n s)

/-- CLIP_WINDOW (R224). -/
def execClipWindow (n : Ch) (clipped : Nat) (s : State) : Host.Outcome State Fault Refusal :=
  .next (doClipWindow n clipped s)

/-- LRX_CLR_STATS (R225). -/
def execLrxClrStats (n : Ch) (s : State) : Host.Outcome State Fault Refusal := .next (doLrxClrStats n s)

/-- LRX_FSM_PAR (R224). -/
def execLrxFsmPar (c : Checker 3) (s : State) : Host.Outcome State Fault Refusal :=
  .next (doLrxFsmPar c.n c.code s)

/-- PF_APPLY (R226). -/
def execPfApply (n : Ch) (s : State) : Host.Outcome State Fault Refusal := .next (doPfApply n s)

/-- PHASE_ERR_WINDOW (R235). -/
def execPhaseErrWindow (n : Ch) (err : PhaseErr) (sat : BitVec 4) (lineIn : Nat) (s : State) :
    Host.Outcome State Fault Refusal :=
  .next (doPhaseErrWindow n err.rms err.mean sat lineIn s)

/-- TIM_RANGE (R230). -/
def execTimRange (n : Ch) (s : State) : Host.Outcome State Fault Refusal := .next (doTimRange n s)

/-- TIM_REACQ (R235). -/
def execTimReacq (n : Ch) (s : State) : Host.Outcome State Fault Refusal := .next (doTimReacq n s)

/-- QUICK_EQ_REFRESH (R231). -/
def execQuickEqRefresh (n : Ch) (s : State) : Host.Outcome State Fault Refusal := .next (doQuickEqRefresh n s)

/-- FREQ_UPDATE (R230). -/
def execFreqUpdate (n : Ch) (ppm : Int) (frac : BitVec 32) (s : State) : Host.Outcome State Fault Refusal :=
  .next (doFreqUpdate n ppm frac s)

/-- DESKEW_COARSE_APPLY (R236). -/
def execDeskewCoarseApply (n : Ch) (s : State) : Host.Outcome State Fault Refusal := .next (doDeskewCoarse n s)

/-- FINE_SLEW_STEP (R237). -/
def execFineSlewStep (n : Ch) (s : State) : Host.Outcome State Fault Refusal := .next (doFineSlewStep n s)

/-- TIM_CLR_STATS (R252). -/
def execTimClrStats (n : Ch) (s : State) : Host.Outcome State Fault Refusal := .next (doTimClrStats n s)

/-- TIM_FSM_PAR (R251). -/
def execTimFsmPar (c : Checker 2) (s : State) : Host.Outcome State Fault Refusal :=
  .next (doTimFsmPar c.n c.code s)

/-- LMS_UPDATE (R240). -/
def execLmsUpdate (n : Ch) (ffe dfe levels : List Int) (s : State) : Host.Outcome State Fault Refusal :=
  .next (doLmsUpdate n ffe dfe levels s)

/-- DRESS_NOTICE (R241). -/
def execDressNotice (n : Ch) (s : State) : Host.Outcome State Fault Refusal := .next (doDressNotice n s)

/-- NOTICE_END (R241). -/
def execNoticeEnd (n : Ch) (s : State) : Host.Outcome State Fault Refusal := .next (doNoticeEnd n s)

/-- GUARD_WINDOW_END (R243). -/
def execGuardWindowEnd (n : Ch) (w : EqWindow) (s : State) : Host.Outcome State Fault Refusal :=
  .next (doGuardWindow n w s)

/-- GUARD_LONG (R244). -/
def execGuardLong (n : Ch) (s : State) : Host.Outcome State Fault Refusal := .next (doGuardLong n s)

/-- EQ_RESTART (R247). -/
def execEqRestart (n : Ch) (s : State) : Host.Outcome State Fault Refusal := .next (doEqRestart n s)

/-- EYE_START (R250). -/
def execEyeStart (n : Ch) (s : State) : Host.Outcome State Fault Refusal := .next (doEyeStart n s)

/-- EYE_PHASE_END (R250). -/
def execEyePhaseEnd (n : Ch) (hits : List (Fin 256 × Nat)) (s : State) : Host.Outcome State Fault Refusal :=
  .next (doEyePhaseEnd n hits s)

/-- EYE_ABORT (R250). -/
def execEyeAbort (n : Ch) (s : State) : Host.Outcome State Fault Refusal := .next (doEyeAbort n s)

/-- EQ_CLR_STATS (R253). -/
def execEqClrStats (n : Ch) (s : State) : Host.Outcome State Fault Refusal := .next (doEqClrStats n s)

/-- EQ_FSM_PAR (R251). -/
def execEqFsmPar (c : Checker 3) (s : State) : Host.Outcome State Fault Refusal :=
  .next (doEqFsmPar c.n c.code s)

/-- ACQ_WINDOW_END (R258). -/
def execAcqWindowEnd (n : Ch) (counts : List Nat) (s : State) : Host.Outcome State Fault Refusal :=
  .next (doAcqWindowEnd n counts s)

/-- LOCK_WINDOW_END (R259). -/
def execLockWindowEnd (n : Ch) (zeros : Nat) (s : State) : Host.Outcome State Fault Refusal :=
  .next (doLockWindowEnd n zeros s)

/-- BLOCK_DECODE (R262). -/
def execBlockDecode (n : Ch) (b : PlacedBlock) (s : State) : Host.Outcome State Fault Refusal :=
  .next (doBlockDecode n b.block b.pos s)

/-- BER_WINDOW_END (R268). -/
def execBerWindowEnd (n : Ch) (s : State) : Host.Outcome State Fault Refusal := .next (doBerWindowEnd n s)

/-- BOLT_CLR_CNT (R267). -/
def execBoltClrCnt (n : Ch) (s : State) : Host.Outcome State Fault Refusal := .next (doBoltClrCnt n s)

/-- BOLT_FSM_PAR (R269). -/
def execBoltFsmPar (n : Ch) (s : State) : Host.Outcome State Fault Refusal := .next (doBoltFsmPar n s)

end Sys2Proof.Machine
end

