-- ==== Sys2Proof/Machine/ExecPort.lean ====
section
/-! DEFINITION. The meanings of the commands of the host port, start-up, the Miller, the wrights, mailboxes and firmware (chapters 02 to 04): one definition for each command. -/

namespace Sys2Proof.Machine

/-- HOST_READ (R45). -/
def execHostRead (call : PortCall) (low : BitVec 6) (addr : BitVec 24) (count : Nat) (framing : Framing)
    (late : List Nat) (s : State) : Host.Outcome State Fault Refusal :=
  .next (doHostRead call.port call.i2c low addr count framing late s)

/-- HOST_WRITE (R45). -/
def execHostWrite (call : PortCall) (low : BitVec 6) (addr : BitVec 24) (data : List Word) (framing : Framing)
    (drains : List Nat) (s : State) : Host.Outcome State Fault Refusal :=
  .next (doHostWrite call.port call.i2c low addr data framing drains s)

/-- STATUS_COMMAND (R47). -/
def execStatusCommand (call : PortCall) (low : BitVec 6) (framing : Framing) (s : State) :
    Host.Outcome State Fault Refusal :=
  .next (doStatusCommand call.port call.i2c low framing s)

/-- READ_ID (R48). -/
def execReadId (call : PortCall) (low : BitVec 6) (framing : Framing) (s : State) :
    Host.Outcome State Fault Refusal :=
  .next (doReadId call.port call.i2c low framing s)

/-- WRITE_BUFFER_DRAIN (R51). -/
def execWriteBufferDrain (port : Port) (s : State) : Host.Outcome State Fault Refusal :=
  .next (doWriteBufferDrain port s)

/-- REGISTER_WRITE (R9). -/
def execRegisterWrite (a : Nat) (data : Word) (req : Nat) (s : State) : Host.Outcome State Fault Refusal :=
  .next (doRegisterWrite a data req s)

/-- WS_HELD_ACCEPT (R12). -/
def execWsHeldAccept (page : Nat) (s : State) : Host.Outcome State Fault Refusal := .next (doWsHeldAccept page s)

/-- POWER_ON (R78). -/
def execPowerOn (straps : BitVec 4) (s : State) : Host.Outcome State Fault Refusal := .next (doPowerOn straps s)

/-- RESET_N_ASSERT (R84). -/
def execResetNAssert (s : State) : Host.Outcome State Fault Refusal := .next (doResetNAssert s)

/-- RESET_N_RELEASE (R34). -/
def execResetNRelease (straps : BitVec 4) (s : State) : Host.Outcome State Fault Refusal :=
  .next (doResetNRelease straps s)

/-- BROWNOUT (R79). -/
def execBrownout (vddio deep : Bool) (s : State) : Host.Outcome State Fault Refusal := .next (doBrownout vddio deep s)

/-- RAIL_FAULT (R79). -/
def execRailFault (r : Rail) (s : State) : Host.Outcome State Fault Refusal := .next (doRailFault r s)

/-- REFCLK_LOSS (R22). -/
def execRefclkLoss (s : State) : Host.Outcome State Fault Refusal := .next (doRefclkLoss s)

/-- REFCLK_RETURN (R103). -/
def execRefclkReturn (s : State) : Host.Outcome State Fault Refusal := .next (doRefclkReturn s)

/-- BOOT_START (R80). -/
def execBootStart (ok : Bool) (s : State) : Host.Outcome State Fault Refusal := .next (doBootStart ok s)

/-- DEV_PLL_LOCK (R81). -/
def execDevPllLock (us : Nat) (s : State) : Host.Outcome State Fault Refusal := .next (doDevPllLock us s)

/-- DEV_PLL_LOCK_RETRY (R81). -/
def execDevPllLockRetry (s : State) : Host.Outcome State Fault Refusal := .next (doDevPllLockRetry s)

/-- DEV_PLL_UNLOCK (R81). -/
def execDevPllUnlock (s : State) : Host.Outcome State Fault Refusal := .next (doDevPllUnlock s)

/-- ROM_CHECK_DONE (R89). -/
def execRomCheckDone (romOk memOk : Bool) (s : State) : Host.Outcome State Fault Refusal :=
  .next (doRomCheckDone romOk memOk s)

/-- AUTHENTICATE (R92). -/
def execAuthenticate (s : State) : Host.Outcome State Fault Refusal := .next (doAuthenticate s)

/-- AUTH_COMPLETE (R93). -/
def execAuthComplete (s : State) : Host.Outcome State Fault Refusal := .next (doAuthComplete s)

/-- FIRMWARE_TRIAL_ALL (R93). -/
def execFirmwareTrialAll (s : State) : Host.Outcome State Fault Refusal := .next (doFirmwareTrialAll s)

/-- TRIAL_ALL (R475). -/
def execTrialAll (s : State) : Host.Outcome State Fault Refusal := .next (doTrialAll s)

/-- TRIAL_ALL_END (R94). -/
def execTrialAllEnd (s : State) : Host.Outcome State Fault Refusal := .next (doTrialAllEnd s)

/-- COMMIT (R99). -/
def execCommit (s : State) : Host.Outcome State Fault Refusal := .next (doCommit s)

/-- OTP_PROGRAM (R101). -/
def execOtpProgram (s : State) : Host.Outcome State Fault Refusal := .next (doOtpProgram s)

/-- BLOCKING_END (R58). -/
def execBlockingEnd (stuck : BitVec 64) (s : State) : Host.Outcome State Fault Refusal :=
  .next (doBlockingEnd stuck s)

/-- BLOCK_OVERRUN (R59). -/
def execBlockOverrun (s : State) : Host.Outcome State Fault Refusal := .next (doBlockOverrun s)

/-- SWRESET (R85). -/
def execSwreset (key : Word) (s : State) : Host.Outcome State Fault Refusal := .next (doSwreset key s)

/-- SOFTWARE_RESET (R83). -/
def execSoftwareReset (s : State) : Host.Outcome State Fault Refusal := .next (doSoftwareReset s)

/-- CH_RESET (R86). -/
def execChReset (n : Ch) (s : State) : Host.Outcome State Fault Refusal := .next (doChReset n s)

/-- CH_RESET_COMPLETE (R86). -/
def execChResetComplete (n : Ch) (s : State) : Host.Outcome State Fault Refusal := .next (doChResetComplete n s)

/-- MILLER_RESET (R87). -/
def execMillerReset (s : State) : Host.Outcome State Fault Refusal := .next (doMillerReset s)

/-- MILLER_RESTART (R110). -/
def execMillerRestart (s : State) : Host.Outcome State Fault Refusal := .next (doMillerRestart s)

/-- MILLER_WATCHDOG_EXPIRY (R109). -/
def execMillerWatchdogExpiry (after : Nat) (s : State) : Host.Outcome State Fault Refusal :=
  .next (doMillerWatchdog after s)

/-- MILLER_TRAP (R112). -/
def execMillerTrap (c : TrapCause) (after : Nat) (s : State) : Host.Outcome State Fault Refusal :=
  .next (doMillerTrap c after s)

/-- FW_READY (R110). -/
def execFwReady (lost : Bool) (s : State) : Host.Outcome State Fault Refusal := .next (doFwReady lost s)

/-- WRIGHT_WATCHDOG_EXPIRY (R109). -/
def execWrightWatchdogExpiry (n : Ch) (after : Nat) (s : State) : Host.Outcome State Fault Refusal :=
  .next (doWrightWatchdog n after s)

/-- WRIGHT_TRAP (R112). -/
def execWrightTrap (n : Ch) (c : TrapCause) (after : Nat) (s : State) : Host.Outcome State Fault Refusal :=
  .next (doWrightTrap n c after s)

/-- WRIGHT_RESTART (R113). -/
def execWrightRestart (n : Ch) (s : State) : Host.Outcome State Fault Refusal := .next (doWrightRestart n s)

/-- WRIGHT_IMAGE_COPY_DONE (R107). -/
def execWrightImageCopyDone (n : Ch) (image : List DWord) (s : State) : Host.Outcome State Fault Refusal :=
  .next (doWrightImageCopyDone n image s)

/-- MBX_PAYLOAD_WRITE (R115). -/
def execMbxPayloadWrite (b : Box) (i : Fin 16) (data : Word) (req : Nat) (s : State) :
    Host.Outcome State Fault Refusal :=
  .next (doMbxPayloadWrite b i data req s)

/-- MBX_RING (R115). -/
def execMbxRing (b : Box) (req : Nat) (s : State) : Host.Outcome State Fault Refusal := .next (doMbxRing b req s)

/-- MBX_TAKE (R115). -/
def execMbxTake (b : Box) (req : Nat) (s : State) : Host.Outcome State Fault Refusal := .next (doMbxTake b req s)

/-- MBX_AGE_TICK (R118). -/
def execMbxAgeTick (b : Box) (s : State) : Host.Outcome State Fault Refusal := .next (doMbxAgeTick b s)

/-- HOST_EPOCH_WRITE (R119). -/
def execHostEpochWrite (data : Word) (s : State) : Host.Outcome State Fault Refusal := .next (doHostEpochWrite data s)

/-- RESPONSE_POST (R122). -/
def execResponsePost (k : Fin 4) (s : State) : Host.Outcome State Fault Refusal := .next (doResponsePost k s)

/-- HELD_COMMAND_START (R123). -/
def execHeldCommandStart (k : Fin 4) (s : State) : Host.Outcome State Fault Refusal := .next (doHeldCommandStart k s)

/-- M2W_AGE_TIMEOUT (R129). -/
def execM2wAgeTimeout (n : Ch) (j : Fin 2) (s : State) : Host.Outcome State Fault Refusal :=
  .next (doM2wAgeTimeout n j s)

/-- PING (R128). -/
def execPing (k : Fin 4) (s : State) : Host.Outcome State Fault Refusal := .next (doPing k s)

/-- FW_INFO (R128). -/
def execFwInfo (k : Fin 4) (s : State) : Host.Outcome State Fault Refusal := .next (doFwInfo k s)

/-- CH_POWER (R128). -/
def execChPower (k : Fin 4) (part : FwPart) (s : State) : Host.Outcome State Fault Refusal :=
  .next (doChPower k part s)

/-- CH_BRINGUP (R128). -/
def execChBringup (k : Fin 4) (part : FwPart) (s : State) : Host.Outcome State Fault Refusal :=
  .next (doChBringup k part s)

/-- HOST_RETRAIN (R128). -/
def execHostRetrain (k : Fin 4) (part : FwPart) (s : State) : Host.Outcome State Fault Refusal :=
  .next (doHostRetrain k part s)

/-- DRESS_PASS (R128). -/
def execDressPass (k : Fin 4) (part : FwPart) (s : State) : Host.Outcome State Fault Refusal :=
  .next (doDressPass k part s)

/-- TRIAL_CH (R128). -/
def execTrialCh (k : Fin 4) (part : FwPart) (s : State) : Host.Outcome State Fault Refusal :=
  .next (doTrialCh k part s)

/-- TRIAL_STATUS (R128). -/
def execTrialStatus (k : Fin 4) (s : State) : Host.Outcome State Fault Refusal := .next (doTrialStatus k s)

/-- MR_SEND (R128). -/
def execMrSend (k : Fin 4) (s : State) : Host.Outcome State Fault Refusal := .next (doMrSend k s)

/-- SCRUB (R128). -/
def execScrub (k : Fin 4) (part : FwPart) (s : State) : Host.Outcome State Fault Refusal := .next (doScrub k part s)

/-- MEM_TEST (R437). -/
def execMemTest (k : Fin 4) (part : FwPart) (s : State) : Host.Outcome State Fault Refusal :=
  .next (doMemTest k part s)

/-- RESTART_WRIGHT (R128). -/
def execRestartWright (k : Fin 4) (part : FwPart) (s : State) : Host.Outcome State Fault Refusal :=
  .next (doRestartWright k part s)

end Sys2Proof.Machine
end

