-- ==== Sys2Proof/Machine/Dispatch.lean ====
section
/-! DEFINITION. One arm per command: its meaning. -/

namespace Sys2Proof.Machine

def exec (i : Instr) (s : State) : Host.Outcome State Fault Refusal :=
  match i with
  | .hostRead call low addr count framing late => Sys2Proof.Machine.execHostRead call low addr count framing late s
  | .hostWrite call low addr data framing drains => Sys2Proof.Machine.execHostWrite call low addr data framing drains s
  | .statusCommand call low framing => Sys2Proof.Machine.execStatusCommand call low framing s
  | .readId call low framing => Sys2Proof.Machine.execReadId call low framing s
  | .writeBufferDrain port => Sys2Proof.Machine.execWriteBufferDrain port s
  | .registerWrite a data req => Sys2Proof.Machine.execRegisterWrite a data req s
  | .wsHeldAccept page => Sys2Proof.Machine.execWsHeldAccept page s
  | .powerOn straps => Sys2Proof.Machine.execPowerOn straps s
  | .resetNAssert => Sys2Proof.Machine.execResetNAssert s
  | .resetNRelease straps => Sys2Proof.Machine.execResetNRelease straps s
  | .brownout vddio deep => Sys2Proof.Machine.execBrownout vddio deep s
  | .railFault r => Sys2Proof.Machine.execRailFault r s
  | .refclkLoss => Sys2Proof.Machine.execRefclkLoss s
  | .refclkReturn => Sys2Proof.Machine.execRefclkReturn s
  | .bootStart ok => Sys2Proof.Machine.execBootStart ok s
  | .devPllLock us => Sys2Proof.Machine.execDevPllLock us s
  | .devPllLockRetry => Sys2Proof.Machine.execDevPllLockRetry s
  | .devPllUnlock => Sys2Proof.Machine.execDevPllUnlock s
  | .romCheckDone romOk memOk => Sys2Proof.Machine.execRomCheckDone romOk memOk s
  | .authenticate => Sys2Proof.Machine.execAuthenticate s
  | .authComplete => Sys2Proof.Machine.execAuthComplete s
  | .firmwareTrialAll => Sys2Proof.Machine.execFirmwareTrialAll s
  | .trialAll => Sys2Proof.Machine.execTrialAll s
  | .trialAllEnd => Sys2Proof.Machine.execTrialAllEnd s
  | .commit => Sys2Proof.Machine.execCommit s
  | .otpProgram => Sys2Proof.Machine.execOtpProgram s
  | .blockingEnd stuck => Sys2Proof.Machine.execBlockingEnd stuck s
  | .blockOverrun => Sys2Proof.Machine.execBlockOverrun s
  | .swreset key => Sys2Proof.Machine.execSwreset key s
  | .softwareReset => Sys2Proof.Machine.execSoftwareReset s
  | .chReset n => Sys2Proof.Machine.execChReset n s
  | .chResetComplete n => Sys2Proof.Machine.execChResetComplete n s
  | .millerReset => Sys2Proof.Machine.execMillerReset s
  | .millerRestart => Sys2Proof.Machine.execMillerRestart s
  | .millerWatchdogExpiry after => Sys2Proof.Machine.execMillerWatchdogExpiry after s
  | .millerTrap c after => Sys2Proof.Machine.execMillerTrap c after s
  | .fwReady lost => Sys2Proof.Machine.execFwReady lost s
  | .wrightWatchdogExpiry n after => Sys2Proof.Machine.execWrightWatchdogExpiry n after s
  | .wrightTrap n c after => Sys2Proof.Machine.execWrightTrap n c after s
  | .wrightRestart n => Sys2Proof.Machine.execWrightRestart n s
  | .wrightImageCopyDone n image => Sys2Proof.Machine.execWrightImageCopyDone n image s
  | .mbxPayloadWrite b ix data req => Sys2Proof.Machine.execMbxPayloadWrite b ix data req s
  | .mbxRing b req => Sys2Proof.Machine.execMbxRing b req s
  | .mbxTake b req => Sys2Proof.Machine.execMbxTake b req s
  | .mbxAgeTick b => Sys2Proof.Machine.execMbxAgeTick b s
  | .hostEpochWrite data => Sys2Proof.Machine.execHostEpochWrite data s
  | .responsePost k => Sys2Proof.Machine.execResponsePost k s
  | .heldCommandStart k => Sys2Proof.Machine.execHeldCommandStart k s
  | .m2wAgeTimeout n j => Sys2Proof.Machine.execM2wAgeTimeout n j s
  | .ping k => Sys2Proof.Machine.execPing k s
  | .fwInfo k => Sys2Proof.Machine.execFwInfo k s
  | .chPower k part => Sys2Proof.Machine.execChPower k part s
  | .chBringup k part => Sys2Proof.Machine.execChBringup k part s
  | .hostRetrain k part => Sys2Proof.Machine.execHostRetrain k part s
  | .dressPass k part => Sys2Proof.Machine.execDressPass k part s
  | .trialCh k part => Sys2Proof.Machine.execTrialCh k part s
  | .trialStatus k => Sys2Proof.Machine.execTrialStatus k s
  | .mrSend k => Sys2Proof.Machine.execMrSend k s
  | .scrub k part => Sys2Proof.Machine.execScrub k part s
  | .memTest k part => Sys2Proof.Machine.execMemTest k part s
  | .restartWright k part => Sys2Proof.Machine.execRestartWright k part s
  | .modeApplyGo n => Sys2Proof.Machine.execModeApplyGo n s
  | .modeDone n => Sys2Proof.Machine.execModeDone n s
  | .chPllLockTimeout n => Sys2Proof.Machine.execChPllLockTimeout n s
  | .chPllUnlock n => Sys2Proof.Machine.execChPllUnlock n s
  | .holdoverExit n => Sys2Proof.Machine.execHoldoverExit n s
  | .xingSlip n x fill => Sys2Proof.Machine.execXingSlip n x fill s
  | .hostSigDetect n l => Sys2Proof.Machine.execHostSigDetect n l s
  | .hostSigFall n fall => Sys2Proof.Machine.execHostSigFall n fall s
  | .cdrLock n l ppm => Sys2Proof.Machine.execCdrLock n l ppm s
  | .frameLock n l inverted farAdv => Sys2Proof.Machine.execFrameLock n l inverted farAdv s
  | .trainRequestReceived n l frame => Sys2Proof.Machine.execTrainRequestReceived n l frame s
  | .trainMeasurement n l snr clipped taps dfe => Sys2Proof.Machine.execTrainMeasurement n l snr clipped taps dfe s
  | .trainNoresp n l => Sys2Proof.Machine.execTrainNoresp n l s
  | .trainDone n l ms => Sys2Proof.Machine.execTrainDone n l ms s
  | .trainTimeout n l => Sys2Proof.Machine.execTrainTimeout n l s
  | .autoRetrainRetry n l => Sys2Proof.Machine.execAutoRetrainRetry n l s
  | .lockLost n l cause => Sys2Proof.Machine.execLockLost n l cause s
  | .retrain n l => Sys2Proof.Machine.execRetrain n l s
  | .txFirWrite n l hi data => Sys2Proof.Machine.execTxFirWrite n l hi data s
  | .hostGuardWindow n l occ snr clipped signs dress => Sys2Proof.Machine.execHostGuardWindow n l occ snr clipped signs dress s
  | .laneFsmPar n c => Sys2Proof.Machine.execLaneFsmPar n c s
  | .markerPeriod n h m => Sys2Proof.Machine.execMarkerPeriod n h m s
  | .slipGo n side bits => Sys2Proof.Machine.execSlipGo n side bits s
  | .slipApply n => Sys2Proof.Machine.execSlipApply n s
  | .manualSwitch n => Sys2Proof.Machine.execManualSwitch n s
  | .codewordDecode n d msg parity code => Sys2Proof.Machine.execCodewordDecode n d msg parity code s
  | .serWindowEnd n d => Sys2Proof.Machine.execSerWindowEnd n d s
  | .hfecClrCnt n => Sys2Proof.Machine.execHfecClrCnt n s
  | .hfecFsmPar c => Sys2Proof.Machine.execHfecFsmPar c s
  | .leadEnd n => Sys2Proof.Machine.execLeadEnd n s
  | .rampUpEnd n => Sys2Proof.Machine.execRampUpEnd n s
  | .rampDownEnd n => Sys2Proof.Machine.execRampDownEnd n s
  | .lagEnd n => Sys2Proof.Machine.execLagEnd n s
  | .firApply n => Sys2Proof.Machine.execFirApply n s
  | .nlLoad n => Sys2Proof.Machine.execNlLoad n s
  | .nlBankSwitch n => Sys2Proof.Machine.execNlBankSwitch n s
  | .nlParity n path ix => Sys2Proof.Machine.execNlParity n path ix s
  | .dacSatWindow n clipped => Sys2Proof.Machine.execDacSatWindow n clipped s
  | .txdisMismatch n high => Sys2Proof.Machine.execTxdisMismatch n high s
  | .ltxFsmPar n => Sys2Proof.Machine.execLtxFsmPar n s
  | .sdRawRise x => Sys2Proof.Machine.execSdRawRise x s
  | .sdRawFall x => Sys2Proof.Machine.execSdRawFall x s
  | .gainMeasurement n rms t => Sys2Proof.Machine.execGainMeasurement n rms t s
  | .gainAcqTimeout n => Sys2Proof.Machine.execGainAcqTimeout n s
  | .gainReacq n => Sys2Proof.Machine.execGainReacq n s
  | .reacqStep n rms t => Sys2Proof.Machine.execReacqStep n rms t s
  | .rmsWindow n rms => Sys2Proof.Machine.execRmsWindow n rms s
  | .gainModeWrite n data => Sys2Proof.Machine.execGainModeWrite n data s
  | .tandemWindow n spur skew => Sys2Proof.Machine.execTandemWindow n spur skew s
  | .plausWindow n d => Sys2Proof.Machine.execPlausWindow n d s
  | .plausTest n => Sys2Proof.Machine.execPlausTest n s
  | .plausTestEnd n => Sys2Proof.Machine.execPlausTestEnd n s
  | .swap n => Sys2Proof.Machine.execSwap n s
  | .waitGuardTimeout n => Sys2Proof.Machine.execWaitGuardTimeout n s
  | .bankSwapSwitch n => Sys2Proof.Machine.execBankSwapSwitch n s
  | .shadowEnWrite n on => Sys2Proof.Machine.execShadowEnWrite n on s
  | .capArm n => Sys2Proof.Machine.execCapArm n s
  | .capTrigger n stored => Sys2Proof.Machine.execCapTrigger n stored s
  | .capDone n r => Sys2Proof.Machine.execCapDone n r s
  | .capAbort n => Sys2Proof.Machine.execCapAbort n s
  | .clipWindow n clipped => Sys2Proof.Machine.execClipWindow n clipped s
  | .lrxClrStats n => Sys2Proof.Machine.execLrxClrStats n s
  | .lrxFsmPar c => Sys2Proof.Machine.execLrxFsmPar c s
  | .pfApply n => Sys2Proof.Machine.execPfApply n s
  | .phaseErrWindow n err sat lineIn => Sys2Proof.Machine.execPhaseErrWindow n err sat lineIn s
  | .timRange n => Sys2Proof.Machine.execTimRange n s
  | .timReacq n => Sys2Proof.Machine.execTimReacq n s
  | .quickEqRefresh n => Sys2Proof.Machine.execQuickEqRefresh n s
  | .freqUpdate n ppm frac => Sys2Proof.Machine.execFreqUpdate n ppm frac s
  | .deskewCoarseApply n => Sys2Proof.Machine.execDeskewCoarseApply n s
  | .fineSlewStep n => Sys2Proof.Machine.execFineSlewStep n s
  | .timClrStats n => Sys2Proof.Machine.execTimClrStats n s
  | .timFsmPar c => Sys2Proof.Machine.execTimFsmPar c s
  | .lmsUpdate n ffe dfe levels => Sys2Proof.Machine.execLmsUpdate n ffe dfe levels s
  | .dressNotice n => Sys2Proof.Machine.execDressNotice n s
  | .noticeEnd n => Sys2Proof.Machine.execNoticeEnd n s
  | .guardWindowEnd n w => Sys2Proof.Machine.execGuardWindowEnd n w s
  | .guardLong n => Sys2Proof.Machine.execGuardLong n s
  | .eqRestart n => Sys2Proof.Machine.execEqRestart n s
  | .eyeStart n => Sys2Proof.Machine.execEyeStart n s
  | .eyePhaseEnd n hits => Sys2Proof.Machine.execEyePhaseEnd n hits s
  | .eyeAbort n => Sys2Proof.Machine.execEyeAbort n s
  | .eqClrStats n => Sys2Proof.Machine.execEqClrStats n s
  | .eqFsmPar c => Sys2Proof.Machine.execEqFsmPar c s
  | .acqWindowEnd n counts => Sys2Proof.Machine.execAcqWindowEnd n counts s
  | .lockWindowEnd n zeros => Sys2Proof.Machine.execLockWindowEnd n zeros s
  | .blockDecode n b => Sys2Proof.Machine.execBlockDecode n b s
  | .berWindowEnd n => Sys2Proof.Machine.execBerWindowEnd n s
  | .boltClrCnt n => Sys2Proof.Machine.execBoltClrCnt n s
  | .boltFsmPar n => Sys2Proof.Machine.execBoltFsmPar n s
  | .dressCmdPass n req => Sys2Proof.Machine.execDressCmdPass n req s
  | .dressCmdAbort n byEn => Sys2Proof.Machine.execDressCmdAbort n byEn s
  | .firstPassTrigger n => Sys2Proof.Machine.execFirstPassTrigger n s
  | .measureWindowEnd n est wait => Sys2Proof.Machine.execMeasureWindowEnd n est wait s
  | .trimStep n part wait => Sys2Proof.Machine.execTrimStep n part wait s
  | .deferTimeout n => Sys2Proof.Machine.execDeferTimeout n s
  | .dressFsmPar n => Sys2Proof.Machine.execDressFsmPar n s
  | .mrFrameStart n => Sys2Proof.Machine.execMrFrameStart n s
  | .mrFrameEnd n => Sys2Proof.Machine.execMrFrameEnd n s
  | .mrTxAbort n => Sys2Proof.Machine.execMrTxAbort n s
  | .txFlush n => Sys2Proof.Machine.execTxFlush n s
  | .beaconDue n => Sys2Proof.Machine.execBeaconDue n s
  | .echo n => Sys2Proof.Machine.execEcho n s
  | .preambleDetect n => Sys2Proof.Machine.execPreambleDetect n s
  | .syncDetect n gain => Sys2Proof.Machine.execSyncDetect n gain s
  | .rxNosync n => Sys2Proof.Machine.execRxNosync n s
  | .headerDecoded n h => Sys2Proof.Machine.execHeaderDecoded n h s
  | .payloadDecoded n p => Sys2Proof.Machine.execPayloadDecoded n p s
  | .farLost n => Sys2Proof.Machine.execFarLost n s
  | .rxPop n => Sys2Proof.Machine.execRxPop n s
  | .dupExpire k => Sys2Proof.Machine.execDupExpire k s
  | .relayEntryWrite n e data => Sys2Proof.Machine.execRelayEntryWrite n e data s
  | .mrFsmPar c => Sys2Proof.Machine.execMrFsmPar c s
  | .mrMemPar n w => Sys2Proof.Machine.execMrMemPar n w s
  | .relayPar n w => Sys2Proof.Machine.execRelayPar n w s
  | .gaugeTrigger n => Sys2Proof.Machine.execGaugeTrigger n s
  | .gaugeTimerTrigger n second => Sys2Proof.Machine.execGaugeTimerTrigger n second s
  | .entryComplete n va vb => Sys2Proof.Machine.execEntryComplete n va vb s
  | .streamDue n k => Sys2Proof.Machine.execStreamDue n k s
  | .streamResult n k v => Sys2Proof.Machine.execStreamResult n k v s
  | .dieTempDue n => Sys2Proof.Machine.execDieTempDue n s
  | .dieTempResult n code => Sys2Proof.Machine.execDieTempResult n code s
  | .readbackDue n d => Sys2Proof.Machine.execReadbackDue n d s
  | .readbackResult n d v moved => Sys2Proof.Machine.execReadbackResult n d v moved s
  | .gaugeDiag n => Sys2Proof.Machine.execGaugeDiag n s
  | .diagDone n v => Sys2Proof.Machine.execDiagDone n v s
  | .gaugeClrStats n => Sys2Proof.Machine.execGaugeClrStats n s
  | .gaugeFsmPar c => Sys2Proof.Machine.execGaugeFsmPar c s
  | .dacCfgWrite n d data => Sys2Proof.Machine.execDacCfgWrite n d data s
  | .dacDataPush n d code => Sys2Proof.Machine.execDacDataPush n d code s
  | .dacTick n d => Sys2Proof.Machine.execDacTick n d s
  | .clampPeriodEnd n d => Sys2Proof.Machine.execClampPeriodEnd n d s
  | .voutnLost => Sys2Proof.Machine.execVoutnLost s
  | .outFsmPar n => Sys2Proof.Machine.execOutFsmPar n s
  | .kilnEnWrite n on => Sys2Proof.Machine.execKilnEnWrite n on s
  | .kilnTick n => Sys2Proof.Machine.execKilnTick n s
  | .kilnSat n => Sys2Proof.Machine.execKilnSat n s
  | .integWrite n hi data => Sys2Proof.Machine.execIntegWrite n hi data s
  | .kilnFsmPar n => Sys2Proof.Machine.execKilnFsmPar n s
  | .tallyFrame n f => Sys2Proof.Machine.execTallyFrame n f s
  | .epochBoundary n => Sys2Proof.Machine.execEpochBoundary n s
  | .sweepDone n => Sys2Proof.Machine.execSweepDone n s
  | .scanPass n => Sys2Proof.Machine.execScanPass n s
  | .spillRdWrite n rd => Sys2Proof.Machine.execSpillRdWrite n rd s
  | .tallyFlush n => Sys2Proof.Machine.execTallyFlush n s
  | .flushDone n => Sys2Proof.Machine.execFlushDone n s
  | .tallySnap n => Sys2Proof.Machine.execTallySnap n s
  | .tallyQuery n => Sys2Proof.Machine.execTallyQuery n s
  | .tallyInit n => Sys2Proof.Machine.execTallyInit n s
  | .initDone n => Sys2Proof.Machine.execInitDone n s
  | .tallyClrCnt n => Sys2Proof.Machine.execTallyClrCnt n s
  | .tallyFsmPar n => Sys2Proof.Machine.execTallyFsmPar n s
  | .selectorWrite x c range data req => Sys2Proof.Machine.execSelectorWrite x c range data req s
  | .counterPreset x c hi data => Sys2Proof.Machine.execCounterPreset x c hi data s
  | .counterLoRead x c req => Sys2Proof.Machine.execCounterLoRead x c req s
  | .timeNowRead req => Sys2Proof.Machine.execTimeNowRead req s
  | .timeSet => Sys2Proof.Machine.execTimeSet s
  | .timeAdjust => Sys2Proof.Machine.execTimeAdjust s
  | .ppsEdge after => Sys2Proof.Machine.execPpsEdge after s
  | .ppsLoss => Sys2Proof.Machine.execPpsLoss s
  | .secondRollover => Sys2Proof.Machine.execSecondRollover s
  | .ppsOutPulseEnd => Sys2Proof.Machine.execPpsOutPulseEnd s
  | .hopperBoundary n => Sys2Proof.Machine.execHopperBoundary n s
  | .hopperDump n => Sys2Proof.Machine.execHopperDump n s
  | .hopperLatch n => Sys2Proof.Machine.execHopperLatch n s
  | .hopperWriteDone n => Sys2Proof.Machine.execHopperWriteDone n s
  | .hopRdIdxWrite n idx => Sys2Proof.Machine.execHopRdIdxWrite n idx s
  | .hopFsmPar n => Sys2Proof.Machine.execHopFsmPar n s
  | .cntSelPar x c => Sys2Proof.Machine.execCntSelPar x c s
  | .timePar => Sys2Proof.Machine.execTimePar s
  | .scrubGo x => Sys2Proof.Machine.execScrubGo x s
  | .scrubStop x => Sys2Proof.Machine.execScrubStop x s
  | .scrubPassEnd x us => Sys2Proof.Machine.execScrubPassEnd x us s
  | .eccWriteback x k => Sys2Proof.Machine.execEccWriteback x k s
  | .leakTick x ix => Sys2Proof.Machine.execLeakTick x ix s
  | .marchGo x => Sys2Proof.Machine.execMarchGo x s
  | .marchSliceEnd x fails => Sys2Proof.Machine.execMarchSliceEnd x fails s
  | .marchBudgetEnd x => Sys2Proof.Machine.execMarchBudgetEnd x s
  | .memCtrlPar x e => Sys2Proof.Machine.execMemCtrlPar x e s
  | .faultCollect => Sys2Proof.Machine.execFaultCollect s
  | .logEntryWrite => Sys2Proof.Machine.execLogEntryWrite s
  | .faultClear page data => Sys2Proof.Machine.execFaultClear page data s
  | .fltEnWrite page data => Sys2Proof.Machine.execFltEnWrite page data s
  | .selfFault x reg => Sys2Proof.Machine.execSelfFault x reg s
  | .flogRdIdxWrite idx => Sys2Proof.Machine.execFlogRdIdxWrite idx s
  | .trialGo n => Sys2Proof.Machine.execTrialGo n s
  | .trialSlicesStart n => Sys2Proof.Machine.execTrialSlicesStart n s
  | .trialSliceEnd x pass fails ms => Sys2Proof.Machine.execTrialSliceEnd x pass fails ms s
  | .trialBudgetExpiry x fails ms => Sys2Proof.Machine.execTrialBudgetExpiry x fails ms s
  | .trialRestoreEnd n us => Sys2Proof.Machine.execTrialRestoreEnd n us s
  | .devTrialGo mask => Sys2Proof.Machine.execDevTrialGo mask s
  | .trialFsmPar n => Sys2Proof.Machine.execTrialFsmPar n s
  | .patCfgWrite n u data => Sys2Proof.Machine.execPatCfgWrite n u data s
  | .checkerLock n c => Sys2Proof.Machine.execCheckerLock n c s
  | .checkerLockLost n c bits errs => Sys2Proof.Machine.execCheckerLockLost n c bits errs s
  | .gateGo n c => Sys2Proof.Machine.execGateGo n c s
  | .gateOpen n c => Sys2Proof.Machine.execGateOpen n c s
  | .gateClose n c bits errs => Sys2Proof.Machine.execGateClose n c bits errs s
  | .gateStop n c => Sys2Proof.Machine.execGateStop n c s
  | .patClr n c => Sys2Proof.Machine.execPatClr n c s
  | .errInj n u => Sys2Proof.Machine.execErrInj n u s
  | .patFsmPar n => Sys2Proof.Machine.execPatFsmPar n s
  | .jtagInstruction ix => Sys2Proof.Machine.execJtagInstruction ix s
  | .trstNAssert => Sys2Proof.Machine.execTrstNAssert s
  | .chPwrTarget n target req => Sys2Proof.Machine.execChPwrTarget n target req s
  | .devPwrTarget target req => Sys2Proof.Machine.execDevPwrTarget target req s
  | .controllerWait x => Sys2Proof.Machine.execControllerWait x s
  | .waitTimeout x => Sys2Proof.Machine.execWaitTimeout x s
  | .legComplete x us waitUs => Sys2Proof.Machine.execLegComplete x us waitUs s
  | .chWakeCmd n => Sys2Proof.Machine.execChWakeCmd n s
  | .wakeTimerExpiry x => Sys2Proof.Machine.execWakeTimerExpiry x s
  | .wakeReplay x => Sys2Proof.Machine.execWakeReplay x s
  | .watchSampleStart n => Sys2Proof.Machine.execWatchSampleStart n s
  | .watchSampleResult n v => Sys2Proof.Machine.execWatchSampleResult n v s
  | .watchSampleEnd n => Sys2Proof.Machine.execWatchSampleEnd n s
  | .pwrClrStats x => Sys2Proof.Machine.execPwrClrStats x s
  | .pwrFsmPar n => Sys2Proof.Machine.execPwrFsmPar n s
  | .pwrSeqPar => Sys2Proof.Machine.execPwrSeqPar s
  | .sensUpdate complex => Sys2Proof.Machine.execSensUpdate complex s
  | .clrPeak => Sys2Proof.Machine.execClrPeak s
  | .capPreFilled n => Sys2Proof.Machine.execCapPreFilled n s
  | .coreOffsetUpdate n tx rx => Sys2Proof.Machine.execCoreOffsetUpdate n tx rx s
  | .cdrPpmUpdate n l ppm => Sys2Proof.Machine.execCdrPpmUpdate n l ppm s
  | .chPllRelock n => Sys2Proof.Machine.execChPllRelock n s
  | .voutnReturn => Sys2Proof.Machine.execVoutnReturn s
  | .railReturn r => Sys2Proof.Machine.execRailReturn r s

end Sys2Proof.Machine
end

