-- ==== Sys2Proof/Machine/Step.lean ====
section
/-! DEFINITION. One step: the command at the front of the queue takes effect on the state with the queue's rest.  On an
empty queue one tick of the time clock passes (R400); log entry 2. -/

namespace Sys2Proof.Machine

/-- A step with a given queue. -/
def State.stepWith (s : State) : List Instr → Host.Outcome State Fault Refusal
  | [] => .next (s.elapse 1)
  | c :: rest => exec c { s with pending := rest }

/-- The step. -/
def step (s : State) : Host.Outcome State Fault Refusal := s.stepWith s.pending

/-- The state with the command that a word spells put at the front of its queue; no word spells one. -/
def State.withFetchWord (s : State) (nbits w : Nat) : State :=
  match Sys2Proof.decodeTableWord nbits w with
  | some c => { s with pending := c :: s.pending }
  | none => s

end Sys2Proof.Machine
end

