-- ==== Sys2Proof/Safety.lean ====
section
/-! DEFINITION. What counts as a sound state of the part, in the terms the statements use: canonical registers and memory,
and reach from a state by steps. -/

namespace Sys2Proof

open Machine

/-- The register map and the memory list stand in their canonical form, so that equal contents are equal data. -/
def Machine.State.canonical (s : State) : Bool := Store.wf resetWord s.regs && Store.wf memDefault s.mem

/-- The memory list is in canonical form. -/
def Machine.State.memWf (s : State) : Bool := Store.wf memDefault s.mem

/-- Whether a write of register `a` by a requester reaches its target and is performed there without an injected parity
error (R16, R45, R58, R62, R457). -/
def Machine.State.writeOpen (s : State) (a req : Nat) : Bool :=
  !(req == reqHost && s.busyPin) && (s.regReach a == codeOk) && !s.pageArmed a 2 && !s.pageArmed a 4

/-- The state in which such a write takes effect: the bus counters have counted it (R391, R392) and the register's stored
parity is sound again (R457). -/
def Machine.State.seen (s : State) (a req : Nat) : State :=
  let s1 := s.countBus (addrCh? a) 0x11 req (regLoc a)
  if stores a req then s1.modDev fun d => { d with badRegs := d.badRegs.filter fun b => b != a } else s1

/-- The w1c bits that the count of the write itself set in the register written stay set (R11). -/
def Machine.State.keepNew (t s : State) (a req : Nat) : State :=
  let new := s.newBits (s.countBus (addrCh? a) 0x11 req (regLoc a)) a
  if new = 0 then t else t.setWord a (t.word a ||| new)

/-- Whether the request of a ws field is taken at once when the host writes it: the write is open and neither a long
operation nor a request held before it stands in the way (R12). -/
def Machine.State.wsOpen (s : State) (n : Ch) (f : Field) : Bool :=
  s.writeOpen (f.addr n) reqHost && (wsFree (f.addr n) f.lo || !(s.longOp (f.addr n) || s.pageHeld (f.addr n)))

/-- The state in which that request takes effect. -/
def Machine.State.wsSeen (s : State) (n : Ch) (f : Field) : State :=
  (s.seen (f.addr n) reqHost).plainWrite (f.addr n) (oneBit f)

/-- A field of a channel page. -/
def Machine.chField (f : Field) : Bool :=
  decide (0x100000 ≤ f.base ∧ f.base % 0x1000 = 0 ∧ f.base + 0x1000 ≤ 0x118000 ∧ f.off < 0x1000)

/-- A register that takes a write by its access codes alone. -/
def Machine.codedReg (a : Nat) : Bool :=
  let o := a % 0x1000
  (boxAt a).isNone && o != 0x18 && o != 0x1C && o != 0x20 &&
    match pageCode a with
    | 0x03 => o != 0x40 && o != 0x50
    | 0x04 => o != 0x40
    | 0x05 => o != 0x40
    | 0x07 => o != 0x40
    | 0x08 => o != 0x48
    | 0x09 => false
    | 0x0A => (idxAt 4 MEM.B_CFG o).isNone && !decide (0x84 ≤ o ∧ o < 0xA4)
    | 0x0C => o < 0x100
    | 0x0D => o != 0x48
    | 0x21 => o != 0x58 && o != 0x5C
    | 0x22 => o != 0x58 && o != 0x5C
    | 0x25 => o != 0x40 && o != 0x50
    | 0x27 => o != 0x70 && (idxAt 41 EQ.FFE_TAP_COEF o).isNone
    | 0x2B => o != 0x44 && o < 0x200
    | 0x2D => (idxAt 3 OUT.D_CFG o).isNone && (idxAt 3 OUT.D_DATA o).isNone
    | 0x2E => o != 4 && o != 0x74 && o != 0x78
    | 0x2F => o != 4 && o != 0x54
    | 0x30 => o < 0x100
    | 0x31 => o != 4 && o != 0x4C
    | 0x32 => (idxAt 7 MEM.B_CFG o).isNone && !decide (0x84 ≤ o ∧ o < 0xA4)
    | 0x35 => (idxAt 6 PAT.U_CFG o).isNone
    | 0x36 => o != 0x40
    | _ => true

/-- The command `c` of a channel is the host's write of the ws field `f`: taken at once, it does `op` on the state that has
seen the write, and then the channel's blocks see it. -/
def Request (c : Ch → Instr) (f : Field) (op : State → Ch → State) : Prop :=
  ∀ (s : State) (n : Ch), s.wsOpen n f = true → exec (c n) s = .next ((op (s.wsSeen n f) n).levels n)

/-- The same where the request is one that the state grants: `may` says when. -/
def RequestWhen (c : Ch → Instr) (f : Field) (may : State → Ch → Prop) (op : State → Ch → State) : Prop :=
  ∀ (s : State) (n : Ch), s.wsOpen n f = true → may (s.wsSeen n f) n →
    exec (c n) s = .next ((op (s.wsSeen n f) n).levels n)

/-- The event `c` of a channel, in every state with `may`, leads to the state `op`. -/
def Event (c : Ch → Instr) (may : State → Ch → Prop) (op : State → Ch → State) : Prop :=
  ∀ (s : State) (n : Ch), may s n → exec (c n) s = .next (op s n)

/-- The command `c`, in every state with `may`, leads to the state `op`. -/
def When (c : Instr) (may : State → Prop) (op : State → State) : Prop := ∀ s : State, may s → exec c s = .next (op s)

/-- The command `c` is a requester's write of register `a`: where the write is open and `may` holds, it does `op` on the state
that has seen the write. -/
def Put (c : Instr) (a req : Nat) (may : State → Prop) (op : State → State) : Prop :=
  ∀ s : State, s.writeOpen a req = true → may (s.seen a req) → exec c s = .next (op (s.seen a req))

/-- One step from `s` leads to `t`. -/
def Steps (s t : State) : Prop := step s = .next t

/-- `t` is reached from `s` by steps. -/
inductive Reaches (s : State) : State → Prop where
  | start : Reaches s s
  | more {t u : State} : Reaches s t → Steps t u → Reaches s u

/-- A command never stops the part: its outcome is a next state. -/
def Completes (i : Instr) (s : State) : Prop := ∃ t, exec i s = .next t

end Sys2Proof
end

