-- ==== Sys2Proof/Certificates/Slice0/Obligations.lean ====
section
/-! DEFINITION. The statements for the provers: what the commands of the CP8425 do, family by family, and what holds of every
command.  `Request`, `Event`, `When` and `Put` (Safety.lean) say that a command completes and with which next state. -/

open Sys2Proof Sys2Proof.Machine

/-! ## The queue, reset, and what every command keeps -/

/-- A step takes the command at the front of the queue and runs it on the state with the rest of the queue: the model's
own rule (log entry 1). -/
def Obligations.StepRunsTheFrontCommand : Prop :=
  ∀ (c : Instr) (rest : List Instr) (s : State),
    step { s with pending := c :: rest } = exec c { s with pending := rest }

/-- On an empty queue one tick of the time clock passes (log entry 2): with device time stopped nothing else changes, and
with it running the time that the tick adds is what `State.elapse` gives it (R400). -/
def Obligations.AnEmptyQueueLetsOneTickPass : Prop :=
  (∀ s : State, s.pending = [] → step s = .next (s.elapse 1)) ∧
  (∀ s : State, s.pending = [] → s.dev.timeRunning = false →
    step s = .next (s.modDev fun d => { d with ticks := d.ticks + 1 }))

/-- Right after reset every register that a row of the register tables lists holds the row's Reset value, RESET_CAUSE apart, no
command waits, every memory word is poisoned, and registers and memories stand in canonical form (R13, R420). -/
def Obligations.ResetLeavesTheResetValues : Prop :=
  State.reset.pending = [] ∧ State.reset.canonical = true ∧ State.reset.get 0 BOOT.RESET_CAUSE = 1 ∧
  (∀ (a : Nat) (d : RegDef), a ≠ BOOT.RESET_CAUSE.addr 0 → regDef a = some d → State.reset.word a = BitVec.ofNat 32 d.reset) ∧
  (∀ m w : Nat, State.reset.ecc m w = .poison ∧ State.reset.memData m w = 0)

/-- Registers and memories stand in canonical form after every step from a state where they do: equal contents are equal
data. -/
def Obligations.EveryStepKeepsTheCanonicalForm : Prop :=
  ∀ s t : State, s.canonical = true → step s = .next t → t.canonical = true

/-- Every command completes: in every state and for every operand `exec` answers a next state, and that state has the queue of
the state before; so a step takes one command from the front of the queue, and the rest keep their order (log entry 1). -/
def Obligations.AStepTakesOneCommandFromTheQueue : Prop :=
  (∀ (c : Instr) (s : State), ∃ t, exec c s = .next t ∧ t.pending = s.pending) ∧
  (∀ s : State, ∃ t, step s = .next t ∧ t.pending = s.pending.tail)

/-- OTP bits and VALID bits only ever go from 0 to 1, and no command changes the ordering code or the identity that the part
was made with, whatever it resets (R73, R101). -/
def Obligations.FusesOnlyEverGoFromZeroToOne : Prop :=
  ∀ s t : State, step s = .next t →
    t.dev.order = s.dev.order ∧ t.dev.uid = s.dev.uid ∧
    (∀ w, s.otpValid w = true → t.otpValid w = true) ∧
    (∀ w i, (s.otpBits w).getLsbD i = true → (t.otpBits w).getLsbD i = true)


/-! ## Registers, counters and memory words -/

/-- A field of a register, written, reads as the low bits of the value; every other bit of every register, every memory byte and
all hidden state stay (R8). A 64-bit count in two registers of 32 bits wraps at 2^64, its low word first (R8); a saturating
count stops at its maximum; a wrapping field wraps at its width. -/
def Obligations.FieldsAndCountersChangeAsTheirRulesSay : Prop :=
  (∀ (s : State) (n : Ch) (f : Field) (v : Nat), f.lo + f.w ≤ 32 →
    (s.set n f v).get n f = v % 2 ^ f.w ∧
    (∀ a i : Nat, i < 32 → (a ≠ f.addr n ∨ i < f.lo ∨ f.lo + f.w ≤ i) →
      ((s.set n f v).word a).getLsbD i = (s.word a).getLsbD i) ∧
    (∀ a, (s.set n f v).cell a = s.cell a) ∧ (s.set n f v).dev = s.dev ∧ (s.set n f v).ch = s.ch) ∧
  (∀ (s : State) (n : Ch) (f : Field) (k : Nat),
    (f.lo = 0 → f.w = 32 → (s.add64 n f k).get64 n f = (s.get64 n f + k) % 2 ^ 64) ∧
    (f.lo = 0 → f.w = 32 → (s.sat64 n f k).get64 n f = min (s.get64 n f + k) (2 ^ 64 - 1)) ∧
    (f.lo + f.w ≤ 32 → (s.sat n f k).get n f = min (s.get n f + k) (2 ^ f.w - 1)) ∧
    (f.lo + f.w ≤ 32 → (s.incr n f k).get n f = (s.get n f + k) % 2 ^ f.w))

/-- A memory word written in full reads back clean with its data, and no byte of any other word changes (R419, R423). -/
def Obligations.AFullMemoryWriteReadsBackClean : Prop :=
  ∀ (s : State) (m w v : Nat),
    (s.memPut m w v).ecc m w = .clean ∧ (s.memPut m w v).memData m w = v % 2 ^ 64 ∧
    (∀ m' w', w < 0x100000 → w' < 0x100000 → (m', w') ≠ (m, w) →
      (s.memPut m w v).ecc m' w' = s.ecc m' w' ∧ (s.memPut m w v).memData m' w' = s.memData m' w') ∧
    (∀ a, (s.memPut m w v).word a = s.word a)

/-- A write that reaches a register which takes writes by its access codes alone and has no ws bit: its rw bits take the data, its
w1c bits written 1 clear, its other bits keep their value, on the state that the bus counters have counted the write in; a
w1c bit that this very count has set stays set (R9, R11, R15). -/
def Obligations.ARegisterWriteObeysTheAccessCodes : Prop :=
  ∀ (s : State) (a : Nat) (data : Word) (req : Nat), s.writeOpen a req = true → codedReg a = true → wsMask a = 0 →
    let t := (s.seen a req).setWord a
      ((data &&& rwMask a) ||| ((s.seen a req).word a &&& ~~~ rwMask a &&& ~~~ (w1cMask a &&& data)))
    exec (.registerWrite a data req) s =
      .next ((if pageCode a < 0x20 ∨ 0x36 ≤ pageCode a then t else t.levels (addrCh a)).keepNew s a req)

/-- A write that its target cannot take: the bus counters count the failure, where the address lies in a page, and nothing else
happens, but that a Miller or a wright whose own access was refused traps with the bus error (R45, R62, R112, R391). An undecoded
address is refused as BAD_ADDRESS 0x60 and an unpowered page as TARGET 0x31. The host's writes are discarded while BUSY_N is
low (R58). -/
def Obligations.AWriteThatMayNotActIsOnlyCountedOrDiscarded : Prop :=
  (∀ (s : State) (a : Nat) (data : Word) (req : Nat), s.busyPin = false → s.regReach a ≠ codeOk →
    exec (.registerWrite a data req) s = .next
      ((if inPage a then s.countBus (addrCh? a) 0x12 req (regLoc a) else s).accessTrap req (s.regReach a))) ∧
  (∀ (s : State) (c : Code) (req : Nat), req ≠ reqMiller → reqWright? req = none → s.accessTrap req c = s) ∧
  (∀ (s : State) (c : Code), c ≠ codeOk → s.dget MILLER.STATUS_CORE = 1 → s.accessTrap reqMiller c = s.millerRestart 4) ∧
  (∀ (s : State) (c : Code) (req : Nat) (n : Ch), c ≠ codeOk → req ≠ reqMiller → reqWright? req = some n →
    s.accessTrap req c = s.wrightRestart n 4) ∧
  (∀ (s : State) (a : Nat), decoded a = false → s.regReach a = (7, 0x60)) ∧
  (∀ (s : State) (n : Ch) (f : Field), chField f = true → decoded (f.addr n) = true → s.inTrial n = false →
    s.pageOn n (pageCode (f.addr n) - 0x20) = false → s.regReach (f.addr n) = (4, 0x31)) ∧
  (∀ (s : State) (a : Nat) (data : Word), s.busyPin = true → exec (.registerWrite a data reqHost) s = .next s)

/-- A ws bit written while its page has a long operation or an older held request is held, once, behind the requests held before
it, and reads 1; when the operation has ended the page's oldest held request is accepted: its bit reads 0 and it acts; with no
held request, or with the operation still running, the acceptance does nothing (R12). -/
def Obligations.AHeldRequestWaitsForTheLongOperation : Prop :=
  (∀ (s : State) (a b : Nat), (s.longOp a || s.pageHeld a) = true → wsFree a b = false → (a, b) ∉ s.dev.held →
    (s.wsWrite a b).dev.held = s.dev.held ++ [(a, b)] ∧ (b < 32 → ((s.wsWrite a b).word a).getLsbD b = true)) ∧
  (∀ (s : State) (a b : Nat), (s.longOp a || s.pageHeld a) = true → wsFree a b = false → (a, b) ∈ s.dev.held →
    s.wsWrite a b = s) ∧
  (∀ (s : State) (page a b : Nat), s.dev.held.find? (fun h => h.1 / 0x1000 == page / 0x1000) = some (a, b) →
    s.longOp a = false →
    let t := s.modDev fun d => { d with held := d.held.filter fun g => g != (a, b) }
    exec (.wsHeldAccept page) s =
      .next (((t.setWord a (setBits (t.word a) b 1 0)).wsAct a b).afterWrite a)) ∧
  (∀ (s : State) (page : Nat), (∀ h ∈ s.dev.held, h.1 / 0x1000 = page / 0x1000 → s.longOp h.1 = true) →
    exec (.wsHeldAccept page) s = .next s)


/-! ## The host port (chapter 02) -/

/-- A read transaction that the port answers and nothing discards: the words clocked out are those that the port gets at the
addresses of the burst, in order, and the transaction completes; a transaction of one word whose target gives OK and `v` responds
with exactly `v` (R38, R41, R45, R49). A port that is not in service, or whose I2C address is another one, does nothing
(R35). -/
def Obligations.AHostReadRespondsWithTheWordsOfItsBurst : Prop :=
  (∀ (s : State) (p : Port) (i2c : BitVec 7) (low : BitVec 6) (addr : BitVec 24) (count : Nat) (late : List Nat),
    s.answers p i2c = true →
    let s1 := s.txnBegin p (cmdByte 0 low)
    s1.txnRefusal .whole addr.toNat (burstReserved (burstOf low)) = none →
    let r := s1.readBurst p (isObs low) late addr.toNat 0 (burstLimit (burstOf low) count)
    exec (.hostRead ⟨p, i2c⟩ low addr count .whole late) s = .next ((r.2.txnEnd p).modPort p fun x => { x with resp := r.1 })) ∧
  (∀ (s : State) (p : Port) (i2c : BitVec 7) (low : BitVec 6) (addr : BitVec 24) (v : Word) (u : State),
    s.answers p i2c = true → burstOf low = 0 → (s.txnBegin p (cmdByte 0 low)).busyPin = false → addr.toNat % 4 = 0 →
    (s.txnBegin p (cmdByte 0 low)).portGet p (isObs low) addr.toNat = ((codeOk, v), u) →
    ∃ t, exec (.hostRead ⟨p, i2c⟩ low addr 1 .whole []) s = .next t ∧ (t.port p).resp = [v]) ∧
  (∀ (s : State) (p : Port) (i2c : BitVec 7) (low : BitVec 6) (addr : BitVec 24) (count : Nat) (f : Framing) (late : List Nat),
    s.answers p i2c = false → exec (.hostRead ⟨p, i2c⟩ low addr count f late) s = .next s) ∧
  (∀ (s : State) (i2c : BitVec 7), (s.answers .secondary i2c = true → i2c.toNat = 0x3A + s.dev.straps.toNat % 4) ∧
    (s.hostSel = true → s.answers .primary i2c = true → i2c.toNat = 0x3A + s.dev.straps.toNat % 4))

/-- A write transaction that the port answers and nothing discards: its words pass, in order, into the write buffer, or one of
them starts a blocking command at the transaction's end; the transaction completes once the buffer is empty. A drain takes the
oldest buffered word to its target first; with nothing buffered it completes nothing new. A port that does not answer does
nothing (R35, R51, R52, R58). -/
def Obligations.AHostWriteBuffersTheWordsOfItsBurst : Prop :=
  (∀ (s : State) (p : Port) (i2c : BitVec 7) (low : BitVec 6) (addr : BitVec 24) (data : List Word) (drains : List Nat),
    s.answers p i2c = true →
    let s1 := s.txnBegin p (cmdByte 1 low)
    s1.txnRefusal .whole addr.toNat (burstReserved (burstOf low)) = none →
    let r := s1.writeBurst p (isObs low) addr.toNat (data.take (burstLimit (burstOf low) data.length)) drains
    exec (.hostWrite ⟨p, i2c⟩ low addr data .whole drains) s = .next (match r.1 with
      | none => r.2.txnSettle p
      | some x => (r.2.drainWord p x).txnEnd p)) ∧
  (∀ (s : State) (p : Port) (i2c : BitVec 7) (low : BitVec 6) (addr : BitVec 24) (data : List Word) (f : Framing)
    (drains : List Nat), s.answers p i2c = false → exec (.hostWrite ⟨p, i2c⟩ low addr data f drains) s = .next s) ∧
  (∀ (s : State) (p : Port) (x : BufWord) (l : List BufWord), (s.port p).buf = x :: l →
    exec (.writeBufferDrain p) s = .next (((s.modPort p fun y => { y with buf := l }).drainWord p x).txnSettle p)) ∧
  (∀ (s : State) (p : Port), (s.port p).buf = [] → (s.port p).txn = none → exec (.writeBufferDrain p) s = .next s)

/-- The status command with BURST 0 is accepted in every state in which the port answers, BUSY_N low and HOLDING among them: it
answers the status byte and STATUS_WORD, leaves CODE, and changes no register, no memory byte, no channel and no other port
(R43, R47); with another BURST it completes with BAD_ADDRESS, detail 0x62, and no word (R38). READ_ID that neither a blocking
period nor an access level refuses answers DEV.ID.DEVICE as one completed transaction with CODE 0 (R48); refused, its word is 0
(R44). -/
def Obligations.TheStatusAndIdCommandsOnlyReport : Prop :=
  (∀ (s : State) (p : Port) (i2c : BitVec 7) (low : BitVec 6), s.answers p i2c = true → burstOf low = 0 →
    ∃ t, exec (.statusCommand ⟨p, i2c⟩ low .whole) s = .next t ∧ (t.port p).resp = [s.statusWord] ∧
      (t.port p).statusOut = s.statusByte p ∧ (t.port p).code = (s.port p).code ∧ (∀ a, t.word a = s.word a) ∧
      (∀ a, t.cell a = s.cell a) ∧ t.ch = s.ch ∧ (∀ q, q ≠ p → t.port q = s.port q) ∧ t.dev.time = s.dev.time ∧
      t.dev.state = s.dev.state) ∧
  (∀ (s : State) (p : Port) (i2c : BitVec 7) (low : BitVec 6) (f : Framing), s.answers p i2c = true → burstOf low ≠ 0 →
    exec (.statusCommand ⟨p, i2c⟩ low f) s = .next (s.statusRefused p low (7, 0x62))) ∧
  (∀ (s : State) (p : Port) (i2c : BitVec 7) (low : BitVec 6), s.answers p i2c = true → burstOf low = 0 →
    (s.txnBegin p (cmdByte 3 low)).busyPin = false →
    (s.txnBegin p (cmdByte 3 low)).levelDeny p (isObs low) 0x40 none false = 0 →
    ∃ t, exec (.readId ⟨p, i2c⟩ low .whole) s = .next t ∧
      (t.port p).resp = [(s.txnBegin p (cmdByte 3 low)).regView 0x40 (levelReq (isObs low))] ∧
      (t.port p).code = 0 ∧ (t.port p).txn = none) ∧
  (∀ (s : State) (p : Port) (i2c : BitVec 7) (low : BitVec 6), s.answers p i2c = true → burstOf low = 0 →
    ((s.txnBegin p (cmdByte 3 low)).busyPin = true ∨
      (s.txnBegin p (cmdByte 3 low)).levelDeny p (isObs low) 0x40 none false ≠ 0) →
    ∃ t, exec (.readId ⟨p, i2c⟩ low .whole) s = .next t ∧ (t.port p).resp = [0])

/-- A read transaction on the primary port that is discarded whole names its reason in the last-error record, with its address:
during a blocking period CODE 1 (BUSY) with detail 0x01; else, ended inside its command or address, CODE 4 with 0x33; on a
misaligned address CODE 7 with 0x61; with a reserved burst code CODE 7 with 0x62; and every word it answers is 0 (R38, R40,
R42, R44, R46, R58). -/
def Obligations.ADiscardedTransactionRecordsItsReason : Prop :=
  ∀ (s : State) (i2c : BitVec 7) (low : BitVec 6) (addr : BitVec 24) (count : Nat) (framing : Framing) (late : List Nat),
    s.answers .primary i2c = true →
    let s1 := s.txnBegin .primary (cmdByte 0 low)
    ∀ c d : Nat, s1.txnRefusal framing addr.toNat (burstReserved (burstOf low)) = some (c, d) →
    (s1.busyPin = true → (c, d) = (1, 0x01)) ∧
    (s1.busyPin = false → framing = .inCommand ∨ framing = .inAddress → (c, d) = (4, 0x33)) ∧
    (s1.busyPin = false → framing = .whole ∨ framing = .inWord → addr.toNat % 4 ≠ 0 → (c, d) = (7, 0x61)) ∧
    (s1.busyPin = false → framing = .whole ∨ framing = .inWord → addr.toNat % 4 = 0 → (c, d) = (7, 0x62) ∧
      9 ≤ burstOf low ∧ burstOf low ≤ 14) ∧
    ∃ t, exec (.hostRead ⟨.primary, i2c⟩ low addr count framing late) s = .next t ∧
      t.get 0 HOST.LAST_ERR_CODE = c ∧ t.get 0 HOST.LAST_ERR_DETAIL = d ∧ t.get 0 HOST.LAST_ERR_ADDR = addr.toNat ∧
      (t.port .primary).code = c ∧ (∀ w ∈ (t.port .primary).resp, w = 0)


/-! ## Supplies, resets and the boot ladder (chapter 03) -/

/-- A device reset of any cause leaves every memory poisoned, every channel as after power-on, BUSY_N low and every register at
its Reset value, but for RESET_CAUSE, LAST_STOP, the warning level and the JTAG_PINS mirror; a power-on reset names only its own
cause, the other resets set theirs and keep LAST_STOP and the causes recorded before; OTP, the rails, REFCLK, the ordering code
and the identity stay, and the straps stay only in a software reset (R79, R83). -/
def Obligations.ADeviceResetPutsTheWholeDeviceBack : Prop :=
  ∀ (s : State) (powerOn software : Bool) (cause : Field),
    cause ∈ [BOOT.RESET_CAUSE_POWER_ON, BOOT.RESET_CAUSE_BROWNOUT, BOOT.RESET_CAUSE_PIN, BOOT.RESET_CAUSE_SOFTWARE] →
    let t := s.deviceReset powerOn software cause
    t.mem = [] ∧ t.ch = State.reset.ch ∧ t.dev.state = .reset ∧ t.busyPin = true ∧
    (∀ a, a ≠ BOOT.RESET_CAUSE.addr 0 → a ≠ BOOT.LAST_STOP.addr 0 → a ≠ SENS.CFG_WARN.addr 0 → a ≠ DTRIAL.STATUS_JTAG_PINS.addr 0 →
      t.word a = resetWord a) ∧
    (powerOn = true → t.get 0 BOOT.RESET_CAUSE = 2 ^ cause.lo ∧ t.word (BOOT.LAST_STOP.addr 0) = 0) ∧
    (powerOn = false → t.word (BOOT.LAST_STOP.addr 0) = s.word (BOOT.LAST_STOP.addr 0) ∧ t.is 0 cause = true ∧
      ∀ i, i < 32 → i ≠ cause.lo →
        (t.word (BOOT.RESET_CAUSE.addr 0)).getLsbD i = (s.word (BOOT.RESET_CAUSE.addr 0)).getLsbD i) ∧
    t.dev.fuseWords = s.dev.fuseWords ∧ t.dev.fuseValid = s.dev.fuseValid ∧ t.dev.rails = s.dev.rails ∧
    t.dev.refclk = s.dev.refclk ∧ t.dev.order = s.dev.order ∧ t.dev.uid = s.dev.uid ∧
    t.dev.straps = (if software then s.dev.straps else 0)

/-- Supply events and resets: POWER_ON of a part without supplies releases it into RESET with the straps it samples; RESET_N
resets it whole; a dip of VDD or VDDIO is a power-on reset that reads BROWNOUT, or POWER_ON where VDDIO fell below its deep
threshold; another rail lost in service raises RAIL_FAULT, and lost before boot starts gives the part back to the monitor; only
the key arms a software reset, which keeps the straps; a rail's return shows in the rails only (R34, R78, R79, R83 to R85). -/
def Obligations.SuppliesAndResetsActAsTheTableSays : Prop :=
  (∀ straps, When (.powerOn straps) (fun s => s.dev.monitor = false ∧ s.dev.state = .off) fun s =>
    (s.deviceReset true false BOOT.RESET_CAUSE_POWER_ON).modDev fun d =>
      { d with monitor := true, railWait := false, rails := d.rails ||| 0x1F,
               straps := if d.released then straps else d.straps }) ∧
  (∀ straps, When (.powerOn straps) (fun s => s.dev.monitor = false ∧ s.dev.state ≠ .off) fun s =>
    s.modDev fun d => { d with monitor := true, railWait := false, rails := d.rails ||| 0x1F,
                               straps := if d.released then straps else d.straps }) ∧
  When .resetNAssert (fun s => s.dev.state ≠ .off) (fun s =>
    (s.otpCut.deviceReset false false BOOT.RESET_CAUSE_PIN).modDev fun d => { d with released := false }) ∧
  (∀ straps, When (.resetNRelease straps) (fun s => s.dev.released = false) fun s =>
    s.modDev fun d => { d with released := true, straps := if d.monitor then straps else d.straps }) ∧
  (∀ vddio, When (.brownout vddio false) (fun s => s.dev.state ≠ .off) fun s =>
    ((s.otpCut.setRail (if vddio then 3 else 0) false).deviceReset true false BOOT.RESET_CAUSE_BROWNOUT).modDev fun d =>
      { d with monitor := false }) ∧
  When (.brownout true true) (fun s => s.dev.state ≠ .off) (fun s =>
    ((s.otpCut.setRail 3 false).deviceReset true false BOOT.RESET_CAUSE_POWER_ON).modDev fun d =>
      { d with monitor := false, state := .off }) ∧
  (∀ r, When (.railFault r) (fun s => s.powered = true ∧ s.dev.monitor = true) fun s =>
    ((s.setRail (railBit r) false).modDev fun d => { d with railWait := true }).draise BOOT.FLT_RAIL_FAULT) ∧
  (∀ r, When (.railFault r) (fun s => s.dev.state = .reset ∧ s.dev.booted = false ∧ s.dev.monitor = true) fun s =>
    (s.setRail (railBit r) false).modDev fun d => { d with railWait := true, monitor := false }) ∧
  (∀ r, When (.railReturn r) (fun _ => True) fun s => s.setRail (railBit r) true) ∧
  Put (.swreset 0xD1CE0001) 0x3050 reqHost (fun _ => True) (fun s => s.modDev fun d => { d with swresetArmed := true }) ∧
  (∀ key, key ≠ 0xD1CE0001 → Put (.swreset key) 0x3050 reqHost (fun _ => True) fun s => s.dirq BOOT.IRQ_SWRESET_KEY_BAD) ∧
  When .softwareReset (fun s => s.dev.swresetArmed = true ∧ s.dev.blocking = none) (fun s =>
    s.deviceReset false true BOOT.RESET_CAUSE_SOFTWARE)

/-- REFCLK and the device PLL: a lost REFCLK in service raises REFCLK_LOSS, counts it, stops device time and takes every channel's
clock, and its return is noted; boot starts only with the supplies, RESET_N and REFCLK there and no test mode, and loads the OTP
shadow or raises its parity fault; the PLL's first lock opens BOOT with the ROM check, a later one is a relock; an unlock with
REFCLK running raises DEV_PLL_UNLOCK, one that a lost REFCLK explains only shows (R22, R80, R81, R88, R103, R105). -/
def Obligations.ClocksCarryThePartIntoBoot : Prop :=
  When .refclkLoss (fun s => s.dev.refclk = true ∧ s.powered = true) (fun s =>
    (((((s.draise CLK.FLT_REFCLK_LOSS).sat 0 CLK.REF_LOSS_COUNT_COUNT).modDev fun d =>
      { d with refclk := false, timeRunning := false }).dset CLK.STATUS_DEV_PLL_LOCK 0).clocksLost allCh).levelsAll allCh) ∧
  When .refclkReturn (fun s => s.dev.refclk = false ∧ s.powered = true) (fun s =>
    (s.modDev fun d => { d with refclk := true }).dirq CLK.IRQ_REFCLK_RETURN) ∧
  (∀ ok, When (.bootStart ok) (fun s => s.dev.state = .reset ∧ s.dev.booted = false ∧ s.dev.monitor = true ∧
      s.dev.released = true ∧ s.dev.refclk = true ∧ s.testMode = false) fun s =>
    let t := s.modDev fun d => { d with booted := true }
    if ok then t.dset OTP.STATUS_SHADOW_OK 1 else t.draise OTP.FLT_OTP_SHADOW_PAR) ∧
  (∀ us, When (.devPllLock us) (fun s => s.dev.booted = true ∧ s.dev.refclk = true ∧ s.is 0 CLK.STATUS_DEV_PLL_LOCK = false)
    fun s =>
      let t := ((s.dset CLK.STATUS_DEV_PLL_LOCK 1).setSat 0 CLK.DEV_PLL_LOCK_TIME_US us).modDev fun d => { d with timeRunning := true }
      if s.dev.state = .reset then ((t.modDev fun d => { d with state := .boot }).blockStart { code := 0xF }).sluiceSum
      else t.dirq CLK.IRQ_DEV_PLL_RELOCK) ∧
  When .devPllLockRetry (fun s => s.dev.state = .reset ∧ s.dev.booted = true) (fun s => s.dset CLK.STATUS_DEV_PLL_LOCK 0) ∧
  When .devPllUnlock (fun s => s.is 0 CLK.STATUS_DEV_PLL_LOCK = true ∧ s.dev.refclk = true) (fun s =>
    (if s.is 0 CLK.FLT_REFCLK_LOSS = true then s else s.draise CLK.FLT_DEV_PLL_UNLOCK).dset CLK.STATUS_DEV_PLL_LOCK 0)

/-- A write of CMD outside a blocking period starts the command that the state admits, and one that it does not admit is only
recorded, with RESULT 1, or 2 for a reserved code, and CMD_REFUSED; waiting for the image admits AUTHENTICATE and OTP_PROGRAM
only, RUN none but COMMIT (R95). OTP_PROGRAM of a word in which no bit fails: the word reads back as what it held or-ed with the
data, its VALID bit is set and no other word changes; a key word, a rollback word or one already VALID is refused with its
result, and nothing is programmed (R100, R101). -/
def Obligations.BlockingCommandsStartProgramOrAreRefused : Prop :=
  ((∀ p : Instr × Nat, p ∈ [(.authenticate, 1), (.trialAll, 2), (.commit, 3), (.otpProgram, 4)] →
    Put p.1 0x3040 reqHost (fun s => s.busyPin = false ∧ s.blockRefusal p.2 = 0) (fun s => s.blockGo p.2) ∧
    Put p.1 0x3040 reqHost (fun s => s.busyPin = false ∧ s.blockRefusal p.2 ≠ 0) fun s =>
      (((s.dset BOOT.CMD_RESULT_CMD p.2).dset BOOT.CMD_RESULT_RESULT (s.blockRefusal p.2)).dset BOOT.CMD_RESULT_MS 0).dirq
        BOOT.IRQ_CMD_REFUSED) ∧
  (∀ data : Word, Put (.registerWrite 0x3040 data reqHost) 0x3040 reqHost
    (fun s => s.busyPin = false ∧ s.blockRefusal (data.toNat % 16) ≠ 0) fun s =>
      (((s.dset BOOT.CMD_RESULT_CMD (data.toNat % 16)).dset BOOT.CMD_RESULT_RESULT (s.blockRefusal (data.toNat % 16))).dset
        BOOT.CMD_RESULT_MS 0).dirq BOOT.IRQ_CMD_REFUSED) ∧
  (∀ s : State, s.dev.state = .boot → s.dget BOOT.STATUS_STAGE = 2 →
    s.blockRefusal 1 = 0 ∧ s.blockRefusal 2 = 1 ∧ s.blockRefusal 3 = 1 ∧ s.blockRefusal 4 = 0) ∧
  (∀ s : State, s.dev.state = .run → s.blockRefusal 1 = 1 ∧ s.blockRefusal 2 = 1 ∧ s.blockRefusal 4 = 1) ∧
  (∀ (s : State) (c : Nat), c = 0 ∨ 4 < c → s.blockRefusal c = 2)) ∧
  ((∀ (s : State) (w : Nat) (data : Word), 8 ≤ w → w < 64 →
    (s.program w data 0).1 = 0 ∧ (s.program w data 0).2.otpBits w = s.otpBits w ||| data ∧
    (s.program w data 0).2.otpValid w = true ∧
    (∀ v, v ≠ w → (s.program w data 0).2.otpBits v = s.otpBits v ∧ (v < 64 → (s.program w data 0).2.otpValid v = s.otpValid v))) ∧
  (∀ (s : State) (w : Nat) (data : Word), w < 8 ∨ w = 25 ∨ w = 26 → s.otpRefusal w data = 0x32) ∧
  (∀ (s : State) (w : Nat) (data : Word), 8 ≤ w → w ≠ 24 → w ≠ 25 → w ≠ 26 → s.otpValid w = true → s.otpRefusal w data = 0x30) ∧
  (∀ (s : State) (b : Blocking) (stuck : BitVec 64), b.code = 4 → s.dev.blocking = some b → s.otpRefusal b.word b.data ≠ 0 →
    exec (.blockingEnd stuck) s = .next (s.cmdEnd 4 (s.otpRefusal b.word b.data))))

/-- The ends of the blocking periods: the ROM check that passes leaves the three Miller memories poisoned and the ladder at
stage 2, and one that fails leads to HOLDING; AUTHENTICATE that fails counts and leads to HOLDING with the first failing check's
result, one that succeeds records version and security and starts firmware, which starts TRIAL_ALL; TRIAL_ALL that passes gives
READY at stage 5; COMMIT and OTP_PROGRAM end with their result; a period that overruns ends with RESULT 0x40 and BLOCK_OVERRUN
(R59, R88, R89, R92 to R94, R99, R101). -/
def Obligations.BlockingPeriodsEndWithTheirResult : Prop :=
  (∀ memOk, When (.romCheckDone true memOk) (fun s => s.blockCode = 0xF ∧ s.powered = true) fun s =>
    let t := (((s.ladder 1).poison (devMem 0)).poison (devMem 1)).poison (devMem 2)
    if memOk then (t.ladder 2).busyEnd else (t.enterHolding 2 0).busyEnd) ∧
  (∀ memOk, When (.romCheckDone false memOk) (fun s => s.blockCode = 0xF ∧ s.powered = true) fun s =>
    (s.enterHolding 1 0).busyEnd) ∧
  When .authComplete (fun s => s.blockCode = 1 ∧ s.is 0 BOOT.STATUS_AUTHENTICATED = false ∧ s.authHeader ≠ 0) (fun s =>
    (((s.sat 0 BOOT.AUTH_ATTEMPTS_COUNT).enterHolding 3 0).setStage 6).cmdEnd 1 s.authHeader) ∧
  When .authComplete (fun s => s.blockCode = 1 ∧ s.is 0 BOOT.STATUS_AUTHENTICATED = false ∧ s.authHeader = 0 ∧
      s.authMessage.1 ≠ 0) (fun s =>
    (((s.authMessage.2.sat 0 BOOT.AUTH_ATTEMPTS_COUNT).enterHolding 3 0).setStage 6).cmdEnd 1 s.authMessage.1) ∧
  When .authComplete (fun s => s.blockCode = 1 ∧ s.is 0 BOOT.STATUS_AUTHENTICATED = false ∧ s.authHeader = 0 ∧
      s.authMessage.1 = 0 ∧ s.authMessage.2.dev.shut = false) (fun s =>
    let t := ((s.authMessage.2.modDev fun d => { d with codeLocked := true }).dset BOOT.STATUS_AUTHENTICATED 1).dset
      BOOT.FW_VERSION (s.header 0x14 4)
    let u := ((t.dset BOOT.SEC_IMAGE (s.header 6 2)).modDev fun d =>
      { d with state := if d.state = .holding then .boot else d.state, millerStart := d.ticks, fwFirst := true,
               wdogTicks := 0 }).dset BOOT.STATUS_MILLER_RUN 1
    (((u.dset MILLER.STATUS_CORE 1).dset MILLER.FW_STATE_STATE 1).cmdResult 1 0).dirq BOOT.IRQ_CMD_DONE) ∧
  When .firmwareTrialAll (fun s => s.blockCode = 1 ∧ s.is 0 BOOT.STATUS_AUTHENTICATED = true ∧ s.dev.shut = false)
    (fun s => (s.blockStart { code := 2 }).trialAllStart) ∧
  When .trialAllEnd (fun s => s.trialAll = true ∧ s.dget DTRIAL.RESULT_CH_RUN = 0xFF ∧ s.dev.trialSlices = [] ∧
      s.dget DTRIAL.RESULT_CH_PASS = 0xFF ∧ s.dget { DTRIAL.RESULT_SLICES with w := 4 } = 5 ∧ s.dev.state ≠ .holding) (fun s =>
    let t := (((s.modDev fun d => { d with trialAllRunning := false }).dset DTRIAL.STATUS_RUNNING 0).dset DTRIAL.BUSY_LONG_OP 0).dset
      DTRIAL.STATUS_CUR 0xF
    ((((t.dset DTRIAL.ELAPSED_MS_MS (s.dget HOST.STATUS_WORD_ELAPSED)).dirq DTRIAL.IRQ_DONE).modDev fun d =>
      { d with state := .ready }).setStage 5).cmdEnd 2 0) ∧
  (∀ stuck, When (.blockingEnd stuck) (fun s => ∃ b, s.dev.blocking = some b ∧ b.code = 3) fun s =>
    (s.commit stuck).2.cmdEnd 3 (s.commit stuck).1) ∧
  (∀ stuck (b : Blocking), b.code = 4 → When (.blockingEnd stuck) (fun s => s.dev.blocking = some b ∧ s.otpRefusal b.word b.data = 0)
    fun s => (s.program b.word b.data (stuck.setWidth 32)).2.cmdEnd 4 (s.program b.word b.data (stuck.setWidth 32)).1) ∧
  When .blockOverrun (fun s => s.dev.blocking.isSome = true ∧ s.powered = true) (fun s =>
    ((if s.otpCut.dev.trialAllRunning = true then s.otpCut.allCut else s.otpCut).draise HOST.FLT_BLOCK_OVERRUN).cmdEnd
      s.blockCode 0x40)


/-! ## The Miller, the wrights and the mailboxes (chapter 04) -/

/-- A Miller that runs or sleeps and is not in its reset hold restarts: the cause is recorded and COUNT counts, by a watchdog or
a trap MILLER_RESTART is raised; fewer than three within a second hold it for a restart, the third holds it for good with
MILLER_RESTART_REPEAT; MILLER_RESET is such a restart, discarded in BOOT before authentication; a watchdog expiry or a trap of a
running Miller is one; the end of the hold starts firmware afresh with a new epoch; firmware that is ready answers what it had
taken and then serves (R87, R109 to R112, R124). -/
def Obligations.TheMillerRestartsUnderItsLimit : Prop :=
  (∀ (s : State) (cause : Nat), s.dget MILLER.STATUS_CORE ≠ 0 → s.dget MILLER.STATUS_CORE ≠ 3 → s.dev.millerHold = false →
    let recent := recentStamps s.dev.ticks s.dev.millerRecent
    let t := (((if cause = 1 then s else s.draise MILLER.FLT_MILLER_RESTART).sat 0 MILLER.RESTART_COUNT).dset MILLER.RESTART_CAUSE
      cause).modDev fun d => { d with millerRecent := recent }
    let u := if t.phase .dev = 2 then t.modPath .dev fun p => { p with deaf := true } else t
    s.millerRestart cause =
      if 3 ≤ recent.length then
        ((u.draise MILLER.FLT_MILLER_RESTART_REPEAT).dset MILLER.STATUS_CORE 3).dset BOOT.STATUS_MILLER_RUN 0
      else (u.dset MILLER.STATUS_CORE 2).modDev fun d => { d with millerHold := true }) ∧
  Put .millerReset 0x3058 reqHost (fun s => s.is 0 BOOT.STATUS_AUTHENTICATED = true ∧ s.is 0 BOOT.STATUS_MILLER_RUN = true)
    (fun s => (s.plainWrite 0x3058 1).millerRestart 1) ∧
  Put .millerReset 0x3058 reqHost (fun s => s.dev.state = .boot ∧ s.is 0 BOOT.STATUS_AUTHENTICATED = false)
    (fun s => s.plainWrite 0x3058 1) ∧
  (∀ after, When (.millerWatchdogExpiry after) (fun s => (s.elapse after).dget MILLER.STATUS_CORE = 1)
    fun s => (s.elapse after).millerRestart 2) ∧
  (∀ c after, When (.millerTrap c after) (fun s => (s.elapse after).dget MILLER.STATUS_CORE = 1)
    fun s => (s.elapse after).millerRestart (match c with | .illegal => 3 | .busError => 4 | .uncorrectable => 5)) ∧
  When .millerRestart (fun s => s.dev.millerHold = true) (fun s =>
    (((((s.modDev fun d => { d with millerHold := false, millerStart := d.ticks, fwFirst := false, wdogTicks := 0 }).incr 0
      BOOT.MILLER_EPOCH).dset MILLER.STATUS_CORE 1).dset MILLER.FW_STATE_STATE 1).dirq MILLER.IRQ_RESTART).boxResets millerBoxes) ∧
  (∀ lost, When (.fwReady lost) (fun s => s.dget MILLER.STATUS_CORE = 1 ∧ s.dget MILLER.FW_STATE_STATE = 1 ∧
      (s.dev.fwFirst = false ∨ s.dev.blocking = none)) fun s =>
    let t := (s.fwRestarted lost s.dev.fw).modDev fun d => { d with fwFirst := false }
    (t.dset MILLER.FW_STATE_STATE (if t.dev.state = .holding then 3 else 2)).dirq MILLER.IRQ_FW_READY)

/-- A running wright restarts: by watchdog or trap WRIGHT_RESTART is raised, the cause recorded and COUNT counted; the third
within a second holds it for good with WRIGHT_RESTART_REPEAT, an uncorrectable fetch first makes firmware copy the image, any
other holds it for a moment; a wright's watchdog acts while the Miller is neither OFF nor HELD; the end of the hold, or of the
image copy by a running Miller, starts it with a new epoch; a message unread for 1,000 ms makes firmware load it afresh (R107 to
R109, R112, R113, R125). -/
def Obligations.AWrightRestartsUnderItsLimit : Prop :=
  (∀ (s : State) (n : Ch) (cause : Nat), s.wrightState n = 2 → (s.wright n).holding = false → (s.wright n).inReset = false →
    let recent := recentStamps s.dev.ticks (s.wright n).recent
    let t := ((((s.raise n MBXW.FLT_WRIGHT_RESTART).sat n MBXW.RESTART_COUNT_COUNT).set n MBXW.WRIGHT_STATUS_CAUSE cause).modWright n
      fun x => { x with recent, cause }).wrightCut n
    s.wrightRestart n cause =
      if 3 ≤ recent.length then (t.raise n MBXW.FLT_WRIGHT_RESTART_REPEAT).set n MBXW.WRIGHT_STATUS_STATE 4
      else if cause = 5 then t.set n MBXW.WRIGHT_STATUS_STATE 1
      else t.modWright n fun x => { x with holding := true }) ∧
  (∀ after, Event (fun n => .wrightWatchdogExpiry n after) (fun s _ => (s.elapse after).dget MILLER.STATUS_CORE ≠ 0 ∧
      (s.elapse after).dget MILLER.STATUS_CORE ≠ 3) fun s n => (s.elapse after).wrightRestart n 2) ∧
  (∀ c after, Event (fun n => .wrightTrap n c after) (fun _ _ => True) fun s n =>
    (s.elapse after).wrightRestart n (match c with | .illegal => 3 | .busError => 4 | .uncorrectable => 5)) ∧
  Event .wrightRestart (fun s n => (s.wright n).holding = true ∧ (s.wright n).inReset = false)
    (fun s n => s.wrightStart n (s.wright n).cause) ∧
  (∀ (s : State) (n : Ch) (cause : Nat), s.wrightStart n cause =
    (((((s.set n MBXW.WRIGHT_STATUS_STATE 2).incr n MBXW.WRIGHT_EPOCH).set n MBXW.WRIGHT_STATUS_CAUSE cause).irq n
      MBXW.IRQ_WRIGHT_START).boxResets [.m2w n 0, .m2w n 1]).modWright n
      fun x => { x with cause := 0, holding := false, inReset := false }) ∧
  (∀ image : List DWord, Event (fun n => .wrightImageCopyDone n image) (fun s n => s.wrightState n = 1 ∧
      s.dget MILLER.STATUS_CORE = 1 ∧ (s.wright n).inReset = false) fun s n =>
    ((s.millerWrites (chMem n 6) 0 (image.take 8192)).wrightStart n
      (if (s.wright n).cause = 0 then 7 else (s.wright n).cause)).levels n) ∧
  (∀ j, Event (fun n => .m2wAgeTimeout n j) (fun s n => s.fwServes = true ∧ s.boxFull (.m2w n j) = true ∧
      1000 ≤ s.bget (.m2w n j) BOX.STATE_AGE) fun s n => (s.wrightLoad n 6).fwWrightLost n s.dev.fw)

/-- A channel reset of a channel that is not DARK: its bit reads 1, a Trial slice ends, the transmission stops at once, the
pages of the reset take their reset values, the wright is held in reset and a transition under way is aborted as CHANNEL_RESET;
its completion clears the bit and returns the channel in STANDBY with the wright restarted; on a channel that is DARK and at
rest, or whose supply switch is open, it has no effect (R83, R86, R108). -/
def Obligations.AChannelResetReturnsTheChannelInStandby : Prop :=
  (∀ n : Ch, Put (.chReset n) 0x3054 reqHost (fun s => (s.plainWrite 0x3054 (BitVec.ofNat 32 (2 ^ n.val))).resetIdle n = false ∧ s.chState n ≠ 0)
    fun s =>
      let s0 := (s.plainWrite 0x3054 (BitVec.ofNat 32 (2 ^ n.val))).dset (BOOT.CH_RESET_CH.bit n.val) 1
      let s2 := ((((s0.sliceCut n).abruptStop n).chScope n).abruptMark n (s0.ltxState n != 0)).wrightHold n
      (if s2.chPhase n = 0 then s2 else s2.pathAbort (.ch n) 0xD (2 ^ 0xD)).allNote n (s.trialSt n).all) ∧
  (∀ n : Ch, Put (.chReset n) 0x3054 reqHost (fun s => (s.plainWrite 0x3054 (BitVec.ofNat 32 (2 ^ n.val))).resetIdle n = true)
    fun s => s.plainWrite 0x3054 (BitVec.ofNat 32 (2 ^ n.val))) ∧
  (∀ (s : State) (n : Ch), (s.wrightHold n).wright n = { (s.wrightCut n).wright n with cause := 0, holding := false, inReset := true }) ∧
  Event .chResetComplete (fun s n => s.is 0 (BOOT.CH_RESET_CH.bit n.val) = true ∧ s.chState n ≠ 0) (fun s n =>
    let s1 := ((s.chScope n).abruptMark n (s.is n LTX.STATUS_ABRUPT)).set 0 (BOOT.CH_RESET_CH.bit n.val) 0
    let s2 := if s1.chPhase n = 0 then s1 else s1.pathAbort (.ch n) 0xD (2 ^ 0xD)
    let s3 := if s2.chState n = 2 ∨ s2.chState n = 3 then (s2.toStandby n).irq n PWR.IRQ_DONE else s2.toStandby n
    (s3.wrightStart n 1).levels n)

/-- Each mailbox has one sender and one receiver. The sender's payload word is stored while the mailbox is EMPTY and its RING
fills it with the sender's epoch and AGE 0; on a FULL one both are refused, 0x40 to the host and a bus error to a processor; the
receiver's TAKE empties a FULL one and on an EMPTY one sets TAKE_SPURIOUS; what any other requester writes changes nothing
(R112, R114, R115, R117). AGE counts the milliseconds of a FULL mailbox up to 65,535 and stays at the TAKE (R118). A new
HOST_EPOCH is stored and marks every FULL M2H mailbox, the same value changes nothing (R119). -/
def Obligations.AMailboxHasOneSenderOneReceiverAndAnAge : Prop :=
  ((∀ (b : Box) (i : Fin 16) (data : Word), Put (.mbxPayloadWrite b i data (boxSender b)) (boxAddr b + 4 * i.val) (boxSender b)
    (fun s => s.boxFull b = false) fun s => s.boxStore b i.val data) ∧
  (∀ (b : Box) (i : Fin 16) (data : Word) (s : State), s.writeOpen (boxAddr b + 4 * i.val) (boxSender b) = true →
    s.boxFull b = true → exec (.mbxPayloadWrite b i data (boxSender b)) s =
      .next (((s.dcount 0x61 (boxSender b)).failCount (boxAddr b + 4 * i.val) (boxSender b)).accessTrap (boxSender b)
        (if boxSender b = reqHost then (5, 0x40) else codeRefused))) ∧
  (∀ (b : Box) (i : Fin 16) (data : Word) (req : Nat), req ≠ boxSender b →
    Put (.mbxPayloadWrite b i data req) (boxAddr b + 4 * i.val) req (fun _ => True) fun s => s) ∧
  (∀ b : Box, Put (.mbxRing b (boxSender b)) (boxAddr b + 0x40) (boxSender b) (fun s => s.boxFull b = false) fun s =>
    let s1 := ((s.bset b BOX.STATE_FULL 1).bset b BOX.STATE_AGE 0).bset b BOX.EPOCH_SENDER_EPOCH (s.boxEpoch b)
    (((s1.bset b BOX.STATE_RECEIVER_RESET_SINCE_POST 0).bset b BOX.STATE_POST_COUNT (s.bget b BOX.STATE_POST_COUNT + 1)).boxMsg
      b).dcount 0x60 (boxSender b)) ∧
  (∀ (b : Box) (s : State), s.writeOpen (boxAddr b + 0x40) (boxSender b) = true →
    s.boxFull b = true → exec (.mbxRing b (boxSender b)) s =
      .next (((s.dcount 0x61 (boxSender b)).failCount (boxAddr b + 0x40) (boxSender b)).accessTrap (boxSender b)
        (if boxSender b = reqHost then (5, 0x40) else codeRefused))) ∧
  (∀ (b : Box) (req : Nat), req ≠ boxSender b → Put (.mbxRing b req) (boxAddr b + 0x40) req (fun _ => True) fun s => s) ∧
  (∀ b : Box, (∀ k, b ≠ .h2m k) →
    Put (.mbxTake b (boxReceiver b)) (boxAddr b + 0x40) (boxReceiver b) (fun _ => True) fun s =>
      if s.boxFull b then (s.bset b BOX.STATE_FULL 0).boxTaken b else s.bset b BOX.STATE_TAKE_SPURIOUS 1) ∧
  (∀ (b : Box) (req : Nat), req ≠ boxReceiver b → Put (.mbxTake b req) (boxAddr b + 0x40) req (fun _ => True) fun s => s)) ∧
  ((∀ b : Box, When (.mbxAgeTick b) (fun s => s.boxFull b = true) fun s =>
    s.bset b BOX.STATE_AGE (min 65535 (s.bget b BOX.STATE_AGE + 1))) ∧
  (∀ b : Box, When (.mbxAgeTick b) (fun s => s.boxFull b = false) fun s => s) ∧
  (∀ (s : State) (b : Box), s.boxFull b = true → (s.boxTake b).bget b BOX.STATE_AGE = s.bget b BOX.STATE_AGE ∧
    (s.boxTake b).boxFull b = false) ∧
  (∀ data, Put (.hostEpochWrite data) (MBX.HOST_EPOCH.addr 0) reqHost (fun s => s.word (MBX.HOST_EPOCH.addr 0) ≠ data) fun s =>
    (s.setWord (MBX.HOST_EPOCH.addr 0) data).boxResets [.m2h 0, .m2h 1, .m2h 2, .m2h 3]) ∧
  (∀ (s : State) (k : Fin 4), s.boxFull (.m2h k) = true →
    (s.boxResets [.m2h 0, .m2h 1, .m2h 2, .m2h 3]).bget (.m2h k) BOX.STATE_RECEIVER_RESET_SINCE_POST = 1) ∧
  (∀ (s : State) (k : Fin 4), s.boxFull (.m2h k) = false →
    (s.boxResets [.m2h 0, .m2h 1, .m2h 2, .m2h 3]).bget (.m2h k) BOX.STATE_RECEIVER_RESET_SINCE_POST =
      s.bget (.m2h k) BOX.STATE_RECEIVER_RESET_SINCE_POST) ∧
  (∀ data, Put (.hostEpochWrite data) (MBX.HOST_EPOCH.addr 0) reqHost (fun s => s.word (MBX.HOST_EPOCH.addr 0) = data) fun s => s))

/-- Firmware that serves takes the message of a FULL H2M mailbox whose earlier command is answered, checks it and answers the
first failing status at once; one for a channel that is busy with another command is held, and checked again when that has
ended; a payload word of bad parity raises MBX_PARITY and traps the Miller; an answer that waited is posted once its mailbox is
EMPTY; an unknown code fails with status 1 and a well-formed PING passes (R112, R120 to R123, R127). -/
def Obligations.FirmwareTakesChecksAndAnswers : Prop :=
  (∀ k : Fin 4, When (.mbxTake (.h2m k) reqMiller) (fun s => s.fwServes = true ∧ s.fwCmd k = none ∧ s.boxFull (.h2m k) = true ∧
      ∀ i < 16, boxAddr (.h2m k) + 4 * i ∉ s.dev.badRegs) fun s =>
    let c : FwCmd := { box := k, words := (List.range 16).map fun i => s.boxWord (.h2m k) i }
    let t := ((s.bset (.h2m k) BOX.STATE_FULL 0).dirq (MBX.IRQ_TAKEN.bit k)).modDev fun d => { d with fw := d.fw ++ [c] }
    if t.fwCheck c ≠ 0 then t.fwFail k (t.fwCheck c)
    else if fwBehind k [] t.dev.fw then t.modFw k fun c => { c with held := true } else t) ∧
  (∀ k : Fin 4, When (.mbxTake (.h2m k) reqMiller) (fun s => s.fwServes = true ∧ s.fwCmd k = none ∧ s.boxFull (.h2m k) = true ∧
      boxAddr (.h2m k) ∈ s.dev.badRegs) fun s =>
    (s.draise MBX.FLT_MBX_PARITY { flags := 9, detail := some (BitVec.ofNat 32 (boxAddr (.h2m k))), req := some reqMiller }).millerRestart
      4) ∧
  (∀ (k : Fin 4) (c : FwCmd), When (.heldCommandStart k) (fun s => s.fwCmd k = some c ∧ c.held = true ∧ s.fwServes = true ∧
      fwBehind k [] s.dev.fw = false) fun s =>
    if s.fwCheck c ≠ 0 then s.fwFail k (s.fwCheck c) else s.modFw k fun c => { c with held := false }) ∧
  (∀ (k : Fin 4) (c : FwCmd) (words : List Word), When (.responsePost k) (fun s => s.fwCmd k = some c ∧
      c.phase = .answered words ∧ s.fwServes = true ∧ s.boxFull (.m2h k) = false) fun s =>
    ((s.boxWords (.m2h k) 0 words).boxRing (.m2h k)).modDev fun d => { d with fw := d.fw.filter fun c => c.box != k }) ∧
  (∀ (s : State) (c : FwCmd), fwTable (fwOp c) = none → s.fwCheck c = 1) ∧
  (∀ (s : State) (c : FwCmd), fwOp c = 0x01 → fwChan c = 15 → fwAlen c ≤ 15 → getBits (c.words.headD 0) 6 6 = 0 →
    s.fwCheck c = 0)

/-- A command that firmware has taken and that passed its checks: PING is answered with its arguments, FW_INFO with version,
security version, epoch and uptime in ms, TRIAL_STATUS with the slices' word, MR_SEND with the sequence number of the frame it
queued or FULL, the payload inline or from the scratchpad, where an uncorrectable word traps the Miller; CH_POWER requests the
state, HOST_RETRAIN retrains the lanes of its mask, DRESS_PASS, TRIAL_CH, SCRUB and MEM_TEST write their settings and the
request of the engine, and RESTART_WRIGHT loads the wright; MEM_TEST of a pinned range is answered 0x0B, a continuous SCRUB OK
at once (R128). -/
def Obligations.FirmwareCommandsDoTheirWork : Prop :=
  (∀ (k : Fin 4) (c : FwCmd), When (.ping k) (fun s => s.fwTaken k 0x01 = some c) fun s =>
    s.fwAnswer k 0 ((c.words.drop 1).take (fwAlen c))) ∧
  (∀ (k : Fin 4) (c : FwCmd), When (.fwInfo k) (fun s => s.fwTaken k 0x02 = some c) fun s =>
    s.fwAnswer k 0 [s.word (BOOT.FW_VERSION.addr 0), BitVec.ofNat 32 (s.dget BOOT.SEC_IMAGE % 256),
      s.word (BOOT.MILLER_EPOCH.addr 0), BitVec.ofNat 32 ((s.dev.ticks - s.dev.millerStart) / 625000)]) ∧
  (∀ (k : Fin 4) (c : FwCmd), When (.trialStatus k) (fun s => s.fwTaken k 0x31 = some c) fun s =>
    s.fwAnswer k 0 [BitVec.ofNat 32 (s.trialWord (fwCh c))]) ∧
  (∀ (k : Fin 4) (c : FwCmd), fwArg c 2 = 0xFFFFFFFF → When (.mrSend k) (fun s => s.fwTaken k 0x40 = some c) fun s =>
    let r := s.mrSend (fwCh c) ((fwArg c 1).toNat % 256) ((inlineBytes (c.words.drop 3)).take ((fwArg c 1).toNat / 65536))
    match r.1 with
    | none => r.2.fwAnswer k 0x0A
    | some seq => r.2.fwAnswer k 0 [BitVec.ofNat 32 seq]) ∧
  (∀ (k : Fin 4) (c : FwCmd), When (.chPower k .start) (fun s => s.fwTaken k 0x10 = some c) fun s =>
    ((s.modFw k fun c => { c with note := 0 }).fwBegin k false).pwrRequest (.ch (fwCh c))
      ((fwArg c 1).toNat % 8)) ∧
  (∀ (k : Fin 4) (c : FwCmd), When (.chBringup k .start) (fun s => s.fwTaken k 0x11 = some c) fun s => s.fwBegin k true) ∧
  (∀ (k : Fin 4) (c : FwCmd) (t : State) (l : List Byte), fwArg c 2 ≠ 0xFFFFFFFF → When (.mrSend k) (fun s => s.fwTaken k 0x40 = some c ∧
      (s.readWords (devMem 2) ((fwArg c 2).toNat / 8) (((fwArg c 1).toNat / 65536 + 7) / 8)).2 = t ∧
      (s.readWords (devMem 2) ((fwArg c 2).toNat / 8) (((fwArg c 1).toNat / 65536 + 7) / 8)).1.map wordBytes = some l) fun _ =>
    let r := t.mrSend (fwCh c) ((fwArg c 1).toNat % 256) (l.take ((fwArg c 1).toNat / 65536))
    match r.1 with
    | none => r.2.fwAnswer k 0x0A
    | some seq => r.2.fwAnswer k 0 [BitVec.ofNat 32 seq]) ∧
  (∀ (k : Fin 4) (c : FwCmd) (t : State), fwArg c 2 ≠ 0xFFFFFFFF → When (.mrSend k) (fun s => s.fwTaken k 0x40 = some c ∧
      s.readWords (devMem 2) ((fwArg c 2).toNat / 8) (((fwArg c 1).toNat / 65536 + 7) / 8) = (none, t)) fun _ =>
    t.millerRestart 5) ∧
  (∀ (k : Fin 4) (c : FwCmd), When (.hostRetrain k .start) (fun s => s.fwTaken k 0x12 = some c) fun s =>
    let t := if (fwArg c 1).toNat.testBit 0 then (s.fwBegin k true).fwWs (HL.CMD_RETRAIN 0) (fwCh c) else s.fwBegin k true
    if (fwArg c 1).toNat.testBit 1 then t.fwWs (HL.CMD_RETRAIN 1) (fwCh c) else t) ∧
  (∀ (k : Fin 4) (c : FwCmd), When (.dressPass k .start) (fun s => s.fwTaken k 0x20 = some c) fun s =>
    ((s.fwBegin k true).set (fwCh c) DRESS.SCOPE_CMD_SCOPE ((fwArg c 1).toNat % 16)).fwWs DRESS.CMD_PASS (fwCh c)) ∧
  (∀ (k : Fin 4) (c : FwCmd), When (.trialCh k .start) (fun s => s.fwTaken k 0x30 = some c) fun s =>
    let t := ((s.set (fwCh c) TRIAL.CFG_MASK ((fwArg c 1).toNat % 64)).set (fwCh c) TRIAL.CFG_COUNT_LOG2
      ((fwArg c 2).toNat % 32)).fwWs TRIAL.CMD_GO (fwCh c)
    if t.inTrial (fwCh c) then t.fwBegin k false else t.fwAnswer k 6) ∧
  (∀ (k : Fin 4) (c : FwCmd), When (.scrub k .start) (fun s => s.fwTaken k 0x50 = some c) fun s =>
    let x := fwScope c
    let t := (((s.xset x MEM.SCRUB_CFG_MEM (fwArg c 1).toNat).xset x MEM.SCRUB_CFG_CONT (fwArg c 4).toNat).xset x
      MEM.SCRUB_START_OFFSET (fwArg c 2).toNat).xset x MEM.SCRUB_LEN_BYTES (fwArg c 3).toNat
    let u := t.fwWs (scopeF x MEM.SCRUB_CMD_GO) (scopeCh x)
    if (fwArg c 4).toNat.testBit 0 then u.fwAnswer k 0 else u.fwBegin k false) ∧
  (∀ (k : Fin 4) (c : FwCmd), When (.memTest k .start) (fun s => s.fwTaken k 0x51 = some c ∧
      s.pinned (fwScope c) (fwArg c 2).toNat (fwArg c 3).toNat = true) fun s => s.fwAnswer k 0x0B) ∧
  (∀ (k : Fin 4) (c : FwCmd), When (.memTest k .start) (fun s => s.fwTaken k 0x51 = some c ∧
      s.pinned (fwScope c) (fwArg c 2).toNat (fwArg c 3).toNat = false) fun s =>
    let x := fwScope c
    (((s.xset x MEM.MARCH_START_OFFSET (fwArg c 2).toNat).xset x MEM.MARCH_LEN_BYTES (fwArg c 3).toNat).fwWs
      (scopeF x MEM.MARCH_CMD_GO) (scopeCh x)).fwBegin k (decide (x ≠ .dev))) ∧
  (∀ (k : Fin 4) (c : FwCmd), When (.restartWright k .start) (fun s => s.fwTaken k 0x70 = some c) fun s =>
    ((s.fwBegin k false).wrightLoad (fwCh c) 6).fwWrightLost (fwCh c) s.dev.fw)

/-- What firmware answers when a command that it began has ended: CH_POWER the state reached, or 9 with the refuser's code where
the request was refused; CH_BRINGUP the mask of what came up and its time; HOST_RETRAIN the lanes in DATA; DRESS_PASS the trims
and the pass's time; TRIAL_CH the slices' word; SCRUB its six results; MEM_TEST 1 for a pass and 2 otherwise, status 6 or 0x0B
where the march was refused as stopped or pinned; RESTART_WRIGHT the new epoch (R128). -/
def Obligations.FirmwareAnswersWhenTheWorkHasEnded : Prop :=
  (∀ (k : Fin 4) (c : FwCmd) (ms : Nat), When (.chPower k (.finish ms)) (fun s => s.fwBegun k 0x10 = some c ∧
      c.note ≠ 0) fun s => s.fwAnswer k 9 [BitVec.ofNat 32 c.note]) ∧
  (∀ (k : Fin 4) (c : FwCmd) (ms : Nat), When (.chPower k (.finish ms)) (fun s => s.fwBegun k 0x10 = some c ∧ c.note = 0 ∧
      s.chPhase (fwCh c) = 0 ∧ (s.chan (fwCh c)).pwr.latched = 0) fun s =>
    s.fwAnswer k 0 [BitVec.ofNat 32 (s.chState (fwCh c))]) ∧
  (∀ (k : Fin 4) (c : FwCmd) (ms : Nat), When (.chBringup k (.finish ms)) (fun s => s.fwBegun k 0x11 = some c) fun s =>
    s.fwAnswer k 0 [BitVec.ofNat 32 (s.bringupMask (fwCh c)), BitVec.ofNat 32 ms]) ∧
  (∀ (k : Fin 4) (c : FwCmd) (ms : Nat), When (.hostRetrain k (.finish ms)) (fun s => s.fwBegun k 0x12 = some c) fun s =>
    s.fwAnswer k 0 [BitVec.ofNat 32 ((if (fwArg c 1).toNat.testBit 0 && s.laneState (fwCh c) 0 == 4 then 1 else 0) +
      (if (fwArg c 1).toNat.testBit 1 && s.laneState (fwCh c) 1 == 4 then 2 else 0))]) ∧
  (∀ (k : Fin 4) (c : FwCmd) (ms : Nat), When (.dressPass k (.finish ms)) (fun s => s.fwBegun k 0x20 = some c ∧
      s.is (fwCh c) DRESS.BUSY_LONG_OP = false ∧ s.passHeld (fwCh c) = false) fun s =>
    s.fwAnswer k 0 [BitVec.ofNat 32 (s.get (fwCh c) DRESS.PASS_TRIMS_COUNT), s.word (DRESS.PASS_US.addr (fwCh c))]) ∧
  (∀ (k : Fin 4) (c : FwCmd) (ms : Nat), When (.trialCh k (.finish ms)) (fun s => s.fwBegun k 0x30 = some c ∧
      s.inTrial (fwCh c) = false) fun s => s.fwAnswer k 0 [BitVec.ofNat 32 (s.trialWord (fwCh c))]) ∧
  (∀ (k : Fin 4) (c : FwCmd) (ms : Nat), When (.scrub k (.finish ms)) (fun s => s.fwBegun k 0x50 = some c ∧
      (s.scrubSt (fwScope c)).active = false ∧
      ((scopeF (fwScope c) MEM.SCRUB_CMD_GO).addr (scopeCh (fwScope c)), 0) ∉ s.dev.held) fun s =>
    s.fwAnswer k 0 ([MEM.SCRUB_WORDS, MEM.SCRUB_CE, MEM.SCRUB_UE, MEM.SCRUB_FIRST_UE_OFFSET, MEM.SCRUB_LAST_UE_OFFSET,
      MEM.SCRUB_US].map fun f => BitVec.ofNat 32 (s.xget (fwScope c) f))) ∧
  (∀ (k : Fin 4) (c : FwCmd) (ms : Nat), When (.memTest k (.finish ms)) (fun s => s.fwBegun k 0x51 = some c ∧
      (s.marchSt (fwScope c)).active = false ∧
      ((scopeF (fwScope c) MEM.MARCH_CMD_GO).addr (scopeCh (fwScope c)), 0) ∉ s.dev.held ∧
      s.xget (fwScope c) MEM.MARCH_RESULT_RESULT ≠ 6 ∧ s.xget (fwScope c) MEM.MARCH_RESULT_RESULT ≠ 4) fun s =>
    s.fwAnswer k 0 [if s.xget (fwScope c) MEM.MARCH_RESULT_RESULT = 1 then 1 else 2]) ∧
  (∀ (k : Fin 4) (c : FwCmd) (ms : Nat), When (.memTest k (.finish ms)) (fun s => s.fwBegun k 0x51 = some c ∧
      (s.marchSt (fwScope c)).active = false ∧
      ((scopeF (fwScope c) MEM.MARCH_CMD_GO).addr (scopeCh (fwScope c)), 0) ∉ s.dev.held ∧
      (s.xget (fwScope c) MEM.MARCH_RESULT_RESULT = 6 ∨ s.xget (fwScope c) MEM.MARCH_RESULT_RESULT = 4)) fun s =>
    s.fwAnswer k (if s.xget (fwScope c) MEM.MARCH_RESULT_RESULT = 6 then 6 else 0x0B)) ∧
  (∀ (k : Fin 4) (c : FwCmd) (ms : Nat), When (.restartWright k (.finish ms)) (fun s => s.fwBegun k 0x70 = some c ∧
      s.wrightState (fwCh c) = 2) fun s => s.fwAnswer k 0 [s.word (MBXW.WRIGHT_EPOCH.addr (fwCh c))])


/-! ## Channel clocks and mode (chapter 01), host lanes (chapter 05) -/

/-- A mode GO is granted exactly where the channel rests in STANDBY with EN 0, MODE is not 0 and the part and HOST_OPT allow it;
elsewhere it is refused with its reason and MODE_REFUSED. Granted, it ends a swap, a capture and the Millrace's frames, latches
the configuration, drops MODE_ACTIVE and the PLL lock and sets LONG_OP. MODE_DONE, with REFCLK and outside Trial, makes the
latched mode active with the PLL locked, the trims loaded and the deskew at 0; without a sequence it does nothing (R30, R31). -/
def Obligations.AModeGoIsRefusedOrRunsItsSequence : Prop :=
  RequestWhen .modeApplyGo TOP.MODE_APPLY_GO (fun s n => s.modeRefusal n ≠ 0)
    (fun s n => ((s.set n TOP.STATUS_MODE_REFUSED 1).set n TOP.STATUS_REFUSE_REASON (s.modeRefusal n)).irq n TOP.IRQ_MODE_REFUSED) ∧
  RequestWhen .modeApplyGo TOP.MODE_APPLY_GO (fun s n => s.modeRefusal n = 0)
    (fun s n =>
      let t := ((((s.swapEnd n 6).capAbort n).mrAbandon n).mrCut n).modTop n fun x =>
        { x with latMode := s.get n TOP.MODE_CFG_MODE, latHostOpt := s.get n TOP.MODE_CFG_HOST_OPT,
                 latOuter := s.get n TOP.MODE_CFG_OUTER }
      let u := (t.modLrx n fun x => { x with frozenOnce := false }).set n LRX.STATUS_ACTIVE_BANK 0
      (((((u.set n TOP.STATUS_MODE_REFUSED 0).set n TOP.STATUS_MODE_ACTIVE 0).set n TOP.CLK_STATUS_CH_PLL_LOCK 0).set n
        TOP.BUSY_LONG_OP 1).set n DRESS.STATUS_REF_VALID 0).levels n) ∧
  Event .modeDone (fun s n => s.is n TOP.BUSY_LONG_OP = true ∧ s.inTrial n = false ∧ s.dev.refclk = true) (fun s n =>
    let x := (s.chan n).top
    let s1 := (((s.trimLoad n (x.latMode == 3)).set n TOP.CLK_STATUS_CH_PLL_LOCK 1).modTop n fun y =>
      { y with pllBad := false }).boltDrop n 0
    let s2 := ((s1.set n TOP.STATUS_ACTIVE_MODE x.latMode).set n TOP.STATUS_ACTIVE_HOST_OPT x.latHostOpt).set n
      TOP.STATUS_ACTIVE_OUTER x.latOuter
    let s3 := (((s2.set n TIM.DESKEW_COARSE 0).set n TIM.DESKEW_FINE 0).set n TIM.DESKEW_ACTIVE_COARSE 0).set n
      TIM.DESKEW_ACTIVE_FINE 0
    (((s3.set n TOP.STATUS_MODE_ACTIVE 1).irq n TOP.IRQ_MODE_DONE).set n TOP.BUSY_LONG_OP 0).levels n) ∧
  Event .modeDone (fun s n => s.is n TOP.BUSY_LONG_OP = false) (fun s _ => s) ∧
  (∀ (s : State) (n : Ch), s.modeRefusal n = 0 ↔
    s.chState n = 1 ∧ s.chPhase n = 0 ∧ s.is n TOP.CTRL_EN = false ∧ s.get n TOP.MODE_CFG_MODE ≠ 0 ∧
    ¬ (s.get n TOP.MODE_CFG_MODE = 3 ∧ s.caps % 8 = 3) ∧
    ¬ (s.get n TOP.MODE_CFG_MODE = 1 ∧ s.is n TOP.MODE_CFG_HOST_OPT = true))

/-- The channel PLL, holdover, the crossings and the offsets: a sequence whose PLL does not lock ends; an unlocked PLL raises
its fault and stops the transmission, and locks again where a leg waits for it; holdover ends where the host lanes allow a lock;
a crossing in use whose fill leaves 1 to 6 words slips, counted for its direction, and one within them does not; with the PLL
locked the offsets are reported: CORE_TX within 250 ppm, in holdover 0 or, while it slews, between 0 and the host's, CORE_RX
within 1 ppm of the timing loop's while that is locked (R20 to R24, R31, R32, R230). -/
def Obligations.ChannelClocksFollowTheirLocks : Prop :=
  Event .chPllLockTimeout (fun s n => s.is n TOP.BUSY_LONG_OP = true ∧ s.inTrial n = false) (fun s n =>
    ((s.pllUnlock n).set n TOP.BUSY_LONG_OP 0).levels n) ∧
  Event .chPllUnlock (fun s n => s.is n TOP.CLK_STATUS_CH_PLL_LOCK = true ∧ s.dev.refclk = true) (fun s n =>
    ((((s.trialClockLost n).pllUnlock n).abruptStop n).set n TOP.CLK_STATUS_CH_PLL_LOCK 0).levels n) ∧
  Event .chPllRelock (fun s n => (s.chan n).pwr.relock = true ∧ s.modeActive n = true ∧ (s.chState n = 1 ∨ s.chState n = 4) ∧
      s.dev.refclk = true) (fun s n =>
    (((s.set n TOP.CLK_STATUS_CH_PLL_LOCK 1).modCh n fun c => { c with top := { c.top with pllBad := false } }).modPath
      (.ch n) fun p => { p with relock := false }).levels n) ∧
  Event .holdoverExit (fun s n => s.is n TOP.STATUS_HOLDOVER = true ∧ s.hostLaneOk n 0 = true ∧
      (s.is n TOP.STATUS_ACTIVE_HOST_OPT = false ∨ s.hostLaneOk n 1 = true)) (fun s n =>
    (((((s.set n TOP.STATUS_HOST_LOCK 1).set n TOP.STATUS_HOST_LOCK_P (if s.hostLaneOk n 1 then 1 else 0)).set n
      TOP.STATUS_HOLDOVER 0).set n TOP.CLK_STATUS_CORE_TX_LOCK 1).irq n TOP.IRQ_HOLDOVER_EXIT).levels n) ∧
  (∀ (x : Fin 5) (fill : Nat), fill < 1 ∨ 6 < fill → Event (fun n => .xingSlip n x fill) (fun s n => s.crossingOn n x = true) fun s n =>
    (((s.raise n TOP.FLT_XING_SLIP).set n (TOP.XING_STATUS_HOST_IN0_SLIP.bit x.val) 1).irq n TOP.IRQ_XING_SLIP).count n 0x24
      (if x = 2 then 2 else 1) x.val) ∧
  (∀ (x : Fin 5) (fill : Nat), 1 ≤ fill → fill ≤ 6 → Event (fun n => .xingSlip n x fill) (fun _ _ => True) fun s _ => s) ∧
  (∀ tx rx : Int, Event (fun n => .coreOffsetUpdate n tx rx) (fun s n => s.is n TOP.CLK_STATUS_CH_PLL_LOCK = true) fun s n =>
    (s.setI n TOP.CORE_TX_OFFSET_PPM (s.coreTxOffset n tx)).setI n TOP.CORE_RX_OFFSET_PPM (s.coreRxOffset n rx)) ∧
  (∀ (s : State) (n : Ch) (tx rx : Int),
    (s.is n TOP.STATUS_HOLDOVER = false → -4000 ≤ s.coreTxOffset n tx ∧ s.coreTxOffset n tx ≤ 4000) ∧
    (s.is n TOP.STATUS_HOLDOVER = true → s.hostLaneOk n 0 = false → s.coreTxOffset n tx = 0) ∧
    (s.is n TOP.STATUS_HOLDOVER = true → s.hostLaneOk n 0 = true →
      min 0 (s.getI n (HL.CDR_STATUS_PPM 0)) ≤ s.coreTxOffset n tx ∧ s.coreTxOffset n tx ≤ max 0 (s.getI n (HL.CDR_STATUS_PPM 0))) ∧
    (s.is n TIM.STATUS_TIM_LOCK = true → (s.coreRxOffset n rx - s.getI n TIM.FREQ_PPM).natAbs ≤ 16))

/-- A host lane from signal to data: SIG_DETECT raises SIG_DET and moves SIG_WAIT to CDR_ACQ; a long fall of SIG_DET takes
CDR_ACQ and TRAINING back to SIG_WAIT, a short one only shows; a clock within 300 ppm locks, CDR_ACQ going on to TRAINING or,
with TRAIN_EN 0 in force, to DATA with the taps at their start; beyond 400 ppm the lock falls; frame lock, in the polarity that
RX_POL_AUTO or RX_POL rights, decides the extension once and starts the CTLE sweep; the end of training enters DATA with its
result (R134, R142, R143, R145, R147 to R150). -/
def Obligations.ALaneMovesFromSignalToData : Prop :=
  (∀ l, Event (fun n => .hostSigDetect n l) (fun s n => s.laneState n l = 1 ∧ s.is n (HL.STATUS_SIG_DET l) = false) fun s n =>
    ((s.set n (HL.STATUS_SIG_DET l) 1).irq n (HL.IRQ_SIG_DETECT l)).set n (HL.STATUS_STATE l) 2) ∧
  (∀ l, Event (fun n => .hostSigDetect n l) (fun s n => 1 < s.laneState n l ∧ s.is n (HL.STATUS_SIG_DET l) = false) fun s n =>
    (s.set n (HL.STATUS_SIG_DET l) 1).irq n (HL.IRQ_SIG_DETECT l)) ∧
  (∀ l, Event (fun n => .hostSigFall n ⟨l, true⟩) (fun s n => s.laneState n l = 2 ∨ s.laneState n l = 3) fun s n =>
    ((((s.set n (HL.STATUS_SIG_DET l) 0).clearLock n l).set n (HL.STATUS_STATE l) 1).modLane n l
      fun x => { x with step := .idle, waiting := false })) ∧
  (∀ l, Event (fun n => .hostSigFall n ⟨l, true⟩) (fun s n => s.laneState n l = 4) fun s n => s.leaveData n l .signal) ∧
  (∀ l, Event (fun n => .hostSigFall n ⟨l, false⟩) (fun s n => s.laneState n l ≠ 0) fun s n => s.set n (HL.STATUS_SIG_DET l) 0) ∧
  (∀ l (ppm : Int), -4800 ≤ ppm → ppm ≤ 4800 → Event (fun n => .cdrLock n l ppm) (fun s n => s.laneState n l = 2 ∧
      (s.lane n l).trainEn = true) fun s n =>
    ((s.set n (HL.STATUS_CDR_LOCK l) 1).setI n (HL.CDR_STATUS_PPM l) ppm).set n (HL.STATUS_STATE l) 3) ∧
  (∀ l (ppm : Int), -4800 ≤ ppm → ppm ≤ 4800 → Event (fun n => .cdrLock n l ppm) (fun s n => s.laneState n l = 2 ∧
      (s.lane n l).trainEn = false) fun s n =>
    ((((((s.set n (HL.STATUS_CDR_LOCK l) 1).setI n (HL.CDR_STATUS_PPM l) ppm).set n (HL.STATUS_STATE l) 4).set n
      (HL.BUSY_LONG_OP l) 0).startTaps n l).irq n (HL.IRQ_DATA_ENTER l)).levels n) ∧
  (∀ l (ppm : Int), ppm < -4800 ∨ 4800 < ppm → Event (fun n => .cdrLock n l ppm) (fun _ _ => True) fun s _ => s) ∧
  (∀ l (ppm : Int), -6400 ≤ ppm → ppm ≤ 6400 → Event (fun n => .cdrPpmUpdate n l ppm) (fun s n =>
      s.is n (HL.STATUS_CDR_LOCK l) = true) fun s n => (s.setI n (HL.CDR_STATUS_PPM l) ppm).levels n) ∧
  (∀ l (ppm : Int), ppm < -6400 ∨ 6400 < ppm → Event (fun n => .cdrPpmUpdate n l ppm) (fun s n =>
      s.is n (HL.STATUS_CDR_LOCK l) = true) fun s n =>
    if s.laneState n l = 4 then s.leaveData n l .cdr else s.set n (HL.STATUS_CDR_LOCK l) 0) ∧
  (∀ l inv far, Event (fun n => .frameLock n l inv far) (fun s n => s.laneState n l = 3 ∧ s.is n (HL.STATUS_FRAME_LOCK l) = false ∧
      (inv = s.is n (HL.CFG_RX_POL l) ∨ s.is n (HL.CFG_RX_POL_AUTO l) = true)) fun s n =>
    (((s.set n (HL.STATUS_POL_DETECTED l) (if inv then 1 else 0)).set n (HL.STATUS_FRAME_LOCK l) 1).decideExt n l far).modLane n l
      fun x => { x with step := .sweep 0 0, peak := 0, gain := 0, bestSnr := 0 }) ∧
  (∀ l inv far, Event (fun n => .frameLock n l inv far) (fun s n => s.laneState n l = 3 ∧ s.is n (HL.STATUS_FRAME_LOCK l) = false ∧
      inv ≠ s.is n (HL.CFG_RX_POL l) ∧ s.is n (HL.CFG_RX_POL_AUTO l) = false) fun s n =>
    s.set n (HL.STATUS_POL_DETECTED l) (if inv then 1 else 0)) ∧
  (∀ (s : State) (n : Ch) (l : Fin 2) (far : Bool), (s.lane n l).extDecided = true → s.decideExt n l far = s) ∧
  (∀ (s : State) (n : Ch) (l : Fin 2) (far : Bool), (s.lane n l).extDecided = false →
    let ext := s.get n (HL.STATUS_RATE l) == 3 && s.is n (HL.CFG_EXT_EN l)
    let t := (s.set n (HL.STATUS_EXT_ACTIVE l) (if ext && far then 1 else 0)).modLane n l fun x => { x with extDecided := true }
    s.decideExt n l far = if ext && !far then t.irq n (HL.IRQ_EXT_ABSENT l) else t) ∧
  (∀ l ms, Event (fun n => .trainDone n l ms) (fun s n => s.laneState n l = 3 ∧ s.is n (HL.STATUS_LOCAL_READY l) = true) fun s n =>
    let t := (((s.set n (HL.STATUS_REMOTE_READY l) 1).set n (HL.STATUS_STATE l) 4).set n (HL.BUSY_LONG_OP l) 0).setSat n
      (HL.TRAIN_RESULT_MS l) ms
    let u := (t.setSat n (HL.TRAIN_RESULT_REQ_SENT l) (s.lane n l).reqSent).setSat n (HL.TRAIN_RESULT_REQ_RCVD l)
      (s.lane n l).reqRcvd
    ((u.irq n (HL.IRQ_TRAIN_DONE l)).irq n (HL.IRQ_DATA_ENTER l)).levels n)

/-- How a lane leaves and retries: a lost marker or clock in DATA raises LOCK_LOST and leads to SIG_WAIT or FAILED by
AUTO_RETRAIN, RETRAIN in DATA or FAILED, the retry of FAILED and the timeout of a training act, and a parity error of the state
machine gives IDLE (R149, R151, R152, R155). As requester a measurement reports SNR and saturation and sweeps the CTLE: on
saturation one gain step down, else on to the next code, the best kept, then the far taps, each stepped on while it gains 0.05
dB and turned once; a request without an answer counts and is repeated once, then its tap counts as dead (R145). In DATA a
window whose occupancy is out of range holds the adaptation, the fourth good one in a row releases it (R141). -/
def Obligations.ALaneRetriesAndAdaptsByItsMeasurements : Prop :=
  ((∀ l cause, cause ≠ .signal → Event (fun n => .lockLost n l cause) (fun s n => s.laneState n l = 4) fun s n =>
    let t := (((s.raise n (HL.FLT_LOCK_LOST l)).irq n (HL.IRQ_LOCK_LOST l)).sat n (HL.COUNTS1_LOCK_LOST_COUNT l)).count n 0x22 1 l
    (if t.is n (HL.CFG_AUTO_RETRAIN l) then t.toSigWait n l else (t.clearLock n l).toFailed n l).levels n) ∧
  (∀ l, Event (fun n => .lockLost n l .cdr) (fun s n => s.laneState n l ≠ 4) fun s n => s.set n (HL.STATUS_CDR_LOCK l) 0) ∧
  (∀ l, RequestWhen (fun n => .retrain n l) (HL.CMD_RETRAIN l) (fun s n => s.laneState n l = 4 ∨ s.laneState n l = 5)
    fun s n => (s.toSigWait n l).levels n) ∧
  (∀ l, RequestWhen (fun n => .retrain n l) (HL.CMD_RETRAIN l) (fun s n => s.laneState n l = 0 ∨ s.laneState n l = 6) fun s _ => s) ∧
  (∀ l, Event (fun n => .trainTimeout n l) (fun s n => 1 ≤ s.laneState n l ∧ s.laneState n l ≤ 3 ∧ (s.lane n l).trainEn = true)
    fun s n => ((s.raise n (HL.FLT_TRAIN_FAIL l)).toFailed n l).levels n) ∧
  (∀ l, Event (fun n => .trainTimeout n l) (fun s n => s.laneState n l = 0 ∨ 4 ≤ s.laneState n l) fun s _ => s) ∧
  (∀ l, Event (fun n => .autoRetrainRetry n l) (fun s n => s.laneState n l = 5 ∧ s.is n (HL.CFG_AUTO_RETRAIN l) = true)
    fun s n => (s.toSigWait n l).levels n) ∧
  (∀ l k, Event (fun n => .laneFsmPar n ⟨l, k⟩) (fun s n => (s.raiseFsm n (HL.FLT_LANE_FSM_PAR l) k.val).laneState n l ≠ 0) fun s n =>
    (((s.raiseFsm n (HL.FLT_LANE_FSM_PAR l) k.val).toIdle n l).rateLevel n l).levels n)) ∧
  ((∀ l snr clipped taps dfe, Event (fun n => .trainMeasurement n l snr clipped taps dfe) (fun s n => s.laneState n l = 3 ∧
      s.is n (HL.STATUS_FRAME_LOCK l) = true) fun s n =>
    let t := ((((s.setSat n (HL.SNR_DB16 l) (snr * 16 / 1000)).set n (HL.STATUS_RX_SAT l) (if 16 < clipped then 1 else 0)).setTaps n l
      0 taps).setI n (HL.DFE_TAP1 l) dfe).modLane n l fun y => { y with fine := [] }
    match (s.lane n l).step with
    | .sweep code gain =>
      let best := t.modLane n l fun y => { y with bestSnr := snr, bestPeak := code, bestGain := gain }
      let u := if (s.lane n l).bestSnr < snr ∨ code = 0 then best else t
      if 16 < clipped ∧ gain < 12 then t.modLane n l fun y => { y with step := .sweep code (gain + 1), gain := gain + 1 }
      else if code < 32 then u.modLane n l fun y => { y with step := .sweep (code + 1) 0, peak := code + 1, gain := 0 }
      else (u.modLane n l fun y => { y with peak := y.bestPeak, gain := y.bestGain, lastSnr := y.bestSnr, changed := false }).startTap
        n l 0
    | .tap pos up turned =>
      let better := decide ((s.lane n l).lastSnr + 50 ≤ snr)
      let u := t.modLane n l fun y => { y with waiting := false, lastSnr := snr, changed := y.changed || better }
      if better then u.sendReq n l pos up true else if turned then u.startTap n l (pos + 1) else u.sendReq n l pos (!up) true
    | .idle => t
    | .ready => t) ∧
  (∀ l pos up turned, Event (fun n => .trainNoresp n l) (fun s n => s.laneState n l = 3 ∧
      (s.lane n l).step = .tap pos up turned ∧ (s.lane n l).waiting = true) fun s n =>
    let tap := (tapOrder (s.is n (HL.STATUS_EXT_ACTIVE l))).getD pos 0
    let t := s.sat n (HL.COUNTS1_NORESP_COUNT l)
    if tap ∈ (s.lane n l).noresp then
      (t.modLane n l fun y => { y with dead := tap :: y.dead, waiting := false }).startTap n l (pos + 1)
    else (t.modLane n l fun y => { y with noresp := tap :: y.noresp }).sendReq n l pos up turned) ∧
  (∀ l (occ : List Nat) snr clipped signs dress, occ.all occOk = false →
    Event (fun n => .hostGuardWindow n l occ snr clipped signs dress) (fun s n => s.laneState n l = 4 ∧
      s.is n (HL.STATUS_GUARD_HOLD l) = false ∧ s.is n (HL.FFE_CFG_ADAPT_EN l) = false) fun s n =>
    ((((s.setSat n (HL.SNR_DB16 l) (snr * 16 / 1000)).set n (HL.STATUS_RX_SAT l) (if 16 < clipped then 1 else 0)).modLane n l fun x =>
      { x with cleanWindows := 0 }).set n (HL.STATUS_GUARD_HOLD l) 1).count n 0x23 1 l) ∧
  (∀ l (occ : List Nat) snr clipped signs dress, occ.all occOk = true →
    Event (fun n => .hostGuardWindow n l occ snr clipped signs dress) (fun s n => s.laneState n l = 4 ∧
      s.is n (HL.STATUS_GUARD_HOLD l) = true) fun s n =>
    let t := ((s.setSat n (HL.SNR_DB16 l) (snr * 16 / 1000)).set n (HL.STATUS_RX_SAT l) (if 16 < clipped then 1 else 0)).modLane n l
      fun x => { x with cleanWindows := (s.lane n l).cleanWindows + 1 }
    if 4 ≤ (s.lane n l).cleanWindows + 1 then t.set n (HL.STATUS_GUARD_HOLD l) 0 else t) ∧
  (∀ l (occ : List Nat) snr clipped signs dress, occ.all occOk = true →
    Event (fun n => .hostGuardWindow n l occ snr clipped signs dress) (fun s n => s.laneState n l = 4 ∧
      s.is n (HL.STATUS_GUARD_HOLD l) = false ∧ s.is n (HL.FFE_CFG_ADAPT_EN l) = true ∧ s.is n (HL.STATUS_SIG_DET l) = true) fun s n =>
    let t := ((s.setSat n (HL.SNR_DB16 l) (snr * 16 / 1000)).set n (HL.STATUS_RX_SAT l) (if 16 < clipped then 1 else 0)).hostAdapt n l (List.zipWith HostLms.mk signs dress)
    t.modLane n l fun x => { x with cleanWindows := (t.lane n l).cleanWindows + 1 }))

/-- A step of a coefficient within its range and the sum of 64 moves it by 1 and answers updated; any other leaves all six as
they are, beyond the range at maximum or minimum, or not supported where only the inactive extension would allow it, within it
equalization limit. A frame in TRAINING with frame lock reports whether the far receiver is ready; its request, after hold, is
answered, a step or a preset changing the coefficients; the same request still held does nothing more, a changed one without
hold is a protocol error; hold re-arms (R136, R143, R144). With TRAIN_EN 0 in force and the lane out of IDLE, a valid write of
TX_FIR0 or TX_FIR1 is applied at once and a bad one sets FIR_BAD (R137). -/
def Obligations.ATrainingRequestObeysTheRanges : Prop :=
  (∀ (ext : Bool) (c : List Int) (i : Nat) (up : Bool),
    let v := c.getD i 0 + (if up then 1 else -1)
    (firRange ext i).1 ≤ v → v ≤ (firRange ext i).2 →
      firStep ext c i up = if firSum (c.set i v) ≤ 64 then (.updated, c.set i v) else (.equLimit, c)) ∧
  (∀ (ext : Bool) (c : List Int) (i : Nat) (up : Bool),
    let v := c.getD i 0 + (if up then 1 else -1)
    v < (firRange ext i).1 ∨ (firRange ext i).2 < v → firStep ext c i up =
      (if ext = false ∧ (firRange true i).1 ≤ v ∧ v ≤ (firRange true i).2 then .notSupported else if up then .atMax else .atMin, c)) ∧
  (∀ l far, Event (fun n => .trainRequestReceived n l ⟨.hold, far⟩) (fun s n => s.laneState n l = 3 ∧
      s.is n (HL.STATUS_FRAME_LOCK l) = true) fun s n =>
    (s.set n (HL.STATUS_REMOTE_READY l) (if far then 1 else 0)).modLane n l fun x => { x with last := none }) ∧
  (∀ l sel up far, Event (fun n => .trainRequestReceived n l ⟨.step sel up, far⟩) (fun s n => s.laneState n l = 3 ∧
      s.is n (HL.STATUS_FRAME_LOCK l) = true ∧ (s.lane n l).last = none) fun s n =>
    let t := s.set n (HL.STATUS_REMOTE_READY l) (if far then 1 else 0)
    let r := match t.selTap n l sel with
      | some i => firStep (t.is n (HL.STATUS_EXT_ACTIVE l)) (t.firActive n l) i up
      | none => (.notSupported, t.firActive n l)
    (t.setFirActive n l r.2).modLane n l fun x => { x with last := some (.step sel up), answer := r.1, reqRcvd := x.reqRcvd + 1 }) ∧
  (∀ l p far, Event (fun n => .trainRequestReceived n l ⟨.preset p, far⟩) (fun s n => s.laneState n l = 3 ∧
      s.is n (HL.STATUS_FRAME_LOCK l) = true ∧ (s.lane n l).last = none) fun s n =>
    ((s.set n (HL.STATUS_REMOTE_READY l) (if far then 1 else 0)).setFirActive n l (firPreset (p.val + 1))).modLane n l fun x =>
      { x with last := some (.preset p), answer := .updated, reqRcvd := x.reqRcvd + 1 }) ∧
  (∀ l req far, req ≠ .hold → Event (fun n => .trainRequestReceived n l ⟨req, far⟩) (fun s n => s.laneState n l = 3 ∧
      s.is n (HL.STATUS_FRAME_LOCK l) = true ∧ (s.lane n l).last = some req) fun s n =>
    s.set n (HL.STATUS_REMOTE_READY l) (if far then 1 else 0)) ∧
  (∀ l req q far, req ≠ .hold → req ≠ q → Event (fun n => .trainRequestReceived n l ⟨req, far⟩) (fun s n => s.laneState n l = 3 ∧
      s.is n (HL.STATUS_FRAME_LOCK l) = true ∧ (s.lane n l).last = some q) fun s n =>
    (((s.set n (HL.STATUS_REMOTE_READY l) (if far then 1 else 0)).irq n (HL.IRQ_REQ_PROTOCOL_ERR l)).sat n
      (HL.COUNTS1_PROTO_ERR_COUNT l)).modLane n l fun x => { x with last := some req }) ∧
  (∀ l hi data, ∀ n : Ch, Put (.txFirWrite n l hi data) ((if hi then HL.TX_FIR1 l else HL.TX_FIR0 l).addr n) reqHost
    (fun s => (s.lane n l).trainEn = false ∧ s.laneState n l ≠ 0) fun s =>
      let t := s.set n (if hi then HL.TX_FIR1 l else HL.TX_FIR0 l) (data.toNat % 0x1000000)
      if firOk (t.is n (HL.STATUS_EXT_ACTIVE l)) (t.firStaged n l) then
        (t.set n (HL.STATUS_FIR_BAD l) 0).setFirActive n l ((t.set n (HL.STATUS_FIR_BAD l) 0).firStaged n l)
      else t.set n (HL.STATUS_FIR_BAD l) 1)


/-! ## The outer code (chapter 06) and the line transmitter (chapter 07) -/

/-- A hunter in AUTO locks on two valid markers in a row and keeps its lock over four invalid periods; the fifth in a row loses
it to HUNT with the group of 128 offsets that holds the lost one; one valid period in between starts the count afresh; in MANUAL
the lost lock goes to CHECK (R159). A LOCKED period whose skew left its range counts as invalid whatever its marker shows, and
as one more in a row out of skew (R162). -/
def Obligations.AHunterLocksOnTwoMarkersAndLosesOnFiveMisses : Prop :=
  (∀ (w : Nat) (v : Hunter) (m : Marker), v.state = 1 → (m.offset + w - v.start) % w < 128 →
    let v1 := hunterNext w false v m true false
    v1.state = 3 ∧ v1.pos = m.offset ∧ ∀ m' : Marker, m'.offset = m.offset → (hunterNext w false v1 m' true false).state = 4 ∧
      (hunterNext w false v1 m' true false).pos = m.offset) ∧
  (∀ (w : Nat) (man : Bool) (v : Hunter) (ms : List Marker), v.state = 4 → v.bad = 0 → ms.length ≤ 4 →
    let u := ms.foldl (fun x m => hunterNext w man x m false false) v
    u.state = 4 ∧ u.pos = v.pos ∧ u.bad = ms.length) ∧
  (∀ (w : Nat) (man : Bool) (v : Hunter) (ms : List Marker), v.state = 4 → v.bad = 0 → ms.length = 5 →
    let u := ms.foldl (fun x m => hunterNext w man x m false false) v
    u.state = (if man then 2 else 1) ∧ u.start = v.pos / 128 * 128 ∧ u.pos = v.pos) ∧
  (∀ (w : Nat) (man : Bool) (v : Hunter) (m : Marker), v.state = 4 → m.offset = v.pos →
    (hunterNext w man v m true false).state = 4 ∧ (hunterNext w man v m true false).bad = 0) ∧
  (∀ (w : Nat) (man : Bool) (v : Hunter) (m : Marker) (ok : Bool), v.state = 4 → v.bad < 4 →
    hunterNext w man v m ok true = { v with bad := v.bad + 1, skewBad := v.skewBad + 1 })

/-- A codeword of a side that is not LOCKED, or in Transparent mode with EN 0, is neither decoded nor counted; in Transparent
mode every codeword passes unchanged to the other side (R160, R165, R166). One that is decoded adds 1 to CW; without erasures,
up to 15 wrong symbols are corrected, adding 1 to CORR, their number to SYM and 1 to its BIN, and more raise UNCORR_CW with
UNCORR; in Terminate the corrected codeword with its parity recomputed is sent, or one of invalid blocks; Tally's copy gets it.
With erasures a codeword whose e errors and f marks have 2 (e - h) + f at most 30, h of the errors marked, is corrected and adds
f to ERASED (R166 to R169, R173, R174). -/
def Obligations.ACodewordCountsOnlyInLock : Prop :=
  (∀ errs : Nat, rsDecode errs 0 0 = (if errs ≤ 15 then some (errs, 0) else none)) ∧
  (∀ errs marked hit : Nat, (rsDecode errs marked hit).isSome = true ↔
    errs ≤ 15 ∨ 0 < marked ∧ 2 * (errs - hit) + marked ≤ 30) ∧
  (∀ errs marked hit c e : Nat, rsDecode errs marked hit = some (c, e) → c = errs ∧ (e = 0 ∨ e = marked)) ∧
  (∀ d msg parity code, Event (fun n => .codewordDecode n d msg parity code) (fun s n => s.sideLocked n d = false ∨
      s.is n TOP.STATUS_ACTIVE_OUTER = false ∧ s.is n HFEC.CTRL_EN = false) fun s n =>
    if s.is n TOP.STATUS_ACTIVE_OUTER then s else s.sideSends n d (msg ++ parity)) ∧
  (∀ d msg parity code, Event (fun n => .codewordDecode n d msg parity code) (fun s n => s.sideLocked n d = true ∧
      (s.is n TOP.STATUS_ACTIVE_OUTER = true ∨ s.is n HFEC.CTRL_EN = true) ∧
      (s.is n TOP.STATUS_ACTIVE_OUTER = false ∨ d = 0 ∨ s.is n HFEC.CFG_ERASURE_EN = false)) fun s n =>
    let term := s.is n TOP.STATUS_ACTIVE_OUTER
    let c := (errorsFrom 0 (msg ++ parity) code).length
    let t := if term then s else s.sideSends n d (msg ++ parity)
    let t1 := if d = 1 then t.modHfec n fun y => { y with marks := y.unripe } else t
    let u := ((t1.add64 n (HFEC.D_CW_LO d)).count n 0x28 (d.val + 1) 0).modHfec n fun y =>
      if d = 0 then { y with cwHost := y.cwHost + 1 } else { y with cwLine := y.cwLine + 1 }
    if c ≤ 15 then
      let u1 := if 0 < c then (u.add64 n (HFEC.D_CORR_LO d)).add64 n (HFEC.D_SYM_LO d) c else u
      let u2 := u1.add64 n (HFEC.D_BIN_LO d c)
      let u3 := if 0 < c then u2.count n 0x2A (d.val + 1) 0 c else u2
      let u4 := u3.modHfec n fun y => if d = 0 then { y with serHost := y.serHost + c } else { y with serLine := y.serLine + c }
      (if term then u4.sideSends n d (rsEncode (code.take rsMessage)) else u4).handCopy n d code false
    else
      let u1 := ((u.raise n HFEC.FLT_UNCORR_CW).add64 n (HFEC.D_UNCORR_LO d)).count n 0x29 (d.val + 1) 0
      let u2 := u1.irq n (if d = 0 then HFEC.IRQ_UNCORR_HOST else HFEC.IRQ_UNCORR_LINE)
      (if term then u2.sideSends n d (invalidCodeword (msg ++ parity)) else u2).handCopy n d (msg ++ parity) true) ∧
  (∀ msg parity code, Event (fun n => .codewordDecode n 1 msg parity code) (fun s n =>
      let bad := errorsFrom 0 (msg ++ parity) code
      let marks := (s.chan n).hfec.ripe
      s.sideLocked n 1 = true ∧ s.is n TOP.STATUS_ACTIVE_OUTER = true ∧ s.is n HFEC.CFG_ERASURE_EN = true ∧
        0 < bad.length ∧ 0 < marks.length ∧ marks.length ≤ min 30 (s.get n HFEC.CFG_ERASE_MAX) ∧
        2 * (bad.length - bad.countP fun i => marks.contains i) + marks.length ≤ 30) fun s n =>
    let c := (errorsFrom 0 (msg ++ parity) code).length
    let t := (s.modHfec n fun y => { y with marks := y.unripe }).add64 n (HFEC.D_CW_LO 1)
    let u := ((t.count n 0x28 2 0).modHfec n fun y => { y with cwLine := y.cwLine + 1 }).add64 n (HFEC.D_CORR_LO 1)
    let v := ((u.add64 n (HFEC.D_SYM_LO 1) c).add64 n (HFEC.D_ERASED_LO 1) (s.chan n).hfec.ripe.length).add64 n (HFEC.D_BIN_LO 1 (min c 15))
    (((v.count n 0x2A 2 0 c).modHfec n fun y => { y with serLine := y.serLine + c }).sideSends n 1
      (rsEncode (code.take rsMessage))).handCopy n 1 code false)

/-- A SER window whose codewords have all been decoded and counted compares its sum with THRESH: above it the degrade bit is set
with SER_DEGRADE, else cleared; before that, or out of lock, nothing happens (R174). CLR_CNT zeroes the counters of both sides
with LOSS_COUNT and MISC_COUNT (R173). A slip of 1 to 10 bits in MANUAL on a hunter not OFF is taken, any other refused; at the
word boundary the taken one moves the candidate to CHECK (R163). A change of MANUAL moves HUNT and CHECK (R164). A marker does
nothing on an OFF hunter, moves the line hunter that is not LOCKED, or the only host lane's, as its state says, and on the
LOCKED line hunter a good one counts a period and, out of SAFE, ends its Local Fault (R158, R159, R171, R172, R176). A parity
error raises HFEC_FSM_PAR (R175). -/
def Obligations.TheHfecBlockActsOnWindowsSlipsAndMarkers : Prop :=
  (∀ d, Event (fun n => .serWindowEnd n d) (fun s n => s.sideLocked n d = true ∧
      s.serWindow n ≤ (if d = 0 then (s.chan n).hfec.cwHost else (s.chan n).hfec.cwLine)) fun s n =>
    let sum := if d = 0 then (s.chan n).hfec.serHost else (s.chan n).hfec.serLine
    let st := if d = 0 then HFEC.STATUS_SER_DEG_HOST else HFEC.STATUS_SER_DEG_LINE
    let t := s.modHfec n fun y => if d = 0 then { y with serHost := 0, cwHost := 0 } else { y with serLine := 0, cwLine := 0 }
    if s.get n HFEC.SER_CFG_THRESH < sum then ((t.raise n HFEC.FLT_SER_DEGRADE).set n st 1).irq n HFEC.IRQ_SER_DEGRADE
    else t.set n st 0) ∧
  (∀ d, Event (fun n => .serWindowEnd n d) (fun s n => s.sideLocked n d = false ∨
      (if d = 0 then (s.chan n).hfec.cwHost else (s.chan n).hfec.cwLine) < s.serWindow n) fun s _ => s) ∧
  Request .hfecClrCnt HFEC.CMD_CLR_CNT (fun s n =>
    (s.mapRegs (chPage n 3 + 0x58) (chPage n 3 + 0x60) fun _ _ => 0).mapRegs (chPage n 3 + 0x100) (chPage n 3 + 0x300) fun _ _ => 0) ∧
  (∀ (n : Ch) (side : Fin 2) (bits : BitVec 4),
    let d : Word := BitVec.ofNat 32 (0x1000 + side.val * 256 + bits.toNat)
    Put (.slipGo n side bits) (HFEC.SLIP.addr n) reqHost (fun s => (s.chan n).hfec.slip = none ∧
      s.longOp (HFEC.SLIP.addr n) = false ∧ s.pageHeld (HFEC.SLIP.addr n) = false)
    fun s =>
      let x := (s.chan n).hfec
      let man := if side = 1 then x.manLine else x.manHost
      let off := if side = 1 then x.line.state == 0 else x.h0.state == 0
      let ok := man && decide (1 ≤ bits.toNat ∧ bits.toNat ≤ 10) && !off
      let t := ((s.plainWrite (HFEC.SLIP.addr n) d).set n HFEC.SLIP_GO 1).modHfec n fun y =>
        { y with slip := some (side.val, bits.toNat, ok) }
      (if ok then t else t.irq n HFEC.IRQ_SLIP_REFUSED).levels n) ∧
  (∀ side bits, Event .slipApply (fun s n => (s.chan n).hfec.slip = some (side, bits, true)) fun s n =>
    let t := (s.set n HFEC.SLIP_GO 0).modHfec n fun y => { y with slip := none }
    let u :=
      if side = 1 then t.modHfec n fun y => { y with line := slipHunter 480 bits y.line }
      else (t.modHfec n fun y => { y with h0 := slipHunter 512 bits y.h0, h1 := slipHunter 512 bits y.h1 }).set n
        HFEC.STATUS_DESKEW_LOCK 0
    ((u.irq n HFEC.IRQ_SLIP_DONE).sat n HFEC.MISC_COUNT_SLIP_COUNT).levels n) ∧
  (∀ side bits, Event .slipApply (fun s n => (s.chan n).hfec.slip = some (side, bits, false)) fun s n =>
    (s.set n HFEC.SLIP_GO 0).modHfec n fun y => { y with slip := none }) ∧
  Event .slipApply (fun s n => (s.chan n).hfec.slip = none) (fun s _ => s) ∧
  Event .manualSwitch (fun s n => (s.chan n).hfec.manHost ≠ s.is n HFEC.CFG_MANUAL_HOST ∧
      (s.chan n).hfec.manLine = s.is n HFEC.CFG_MANUAL_LINE) (fun s n =>
    (s.modHfec n fun y => { y with manHost := s.is n HFEC.CFG_MANUAL_HOST,
                                   h0 := switchHunter (s.is n HFEC.CFG_MANUAL_HOST) y.h0,
                                   h1 := switchHunter (s.is n HFEC.CFG_MANUAL_HOST) y.h1 }).alignStatus n) ∧
  Event .manualSwitch (fun s n => (s.chan n).hfec.manHost = s.is n HFEC.CFG_MANUAL_HOST ∧
      (s.chan n).hfec.manLine ≠ s.is n HFEC.CFG_MANUAL_LINE) (fun s n =>
    (s.modHfec n fun y => { y with manLine := s.is n HFEC.CFG_MANUAL_LINE,
                                   line := switchHunter (s.is n HFEC.CFG_MANUAL_LINE) y.line }).alignStatus n) ∧
  (∀ h m, Event (fun n => .markerPeriod n h m) (fun s n => ((s.chan n).hfec.hunter h).state = 0) fun s _ => s) ∧
  (∀ m, Event (fun n => .markerPeriod n 2 m) (fun s n => (s.chan n).hfec.line.state ≠ 0 ∧ (s.chan n).hfec.line.state ≠ 4) fun s n =>
    let x := (s.chan n).hfec
    ((s.modHfec n fun y => y.setHunter 2 (hunterNext 480 x.manLine x.line m (s.markerGood n 2 m) false)).alignEdges s n).levels n) ∧
  (∀ m, Event (fun n => .markerPeriod n 0 m) (fun s n => (s.chan n).hfec.h0.state ≠ 0 ∧ (s.chan n).hfec.h0.state ≠ 4 ∧
      s.optP n = false) fun s n =>
    let v := hunterNext 512 (s.chan n).hfec.manHost (s.chan n).hfec.h0 m (s.markerGood n 0 m) false
    let t := s.modHfec n fun y => y.setHunter 0 v
    ((if v.state < 3 then t.set n HFEC.STATUS_DESKEW_LOCK 0 else t).alignEdges s n).levels n) ∧
  (∀ m, Event (fun n => .markerPeriod n 2 m) (fun s n => (s.chan n).hfec.line.state = 4 ∧ m.offset = (s.chan n).hfec.line.pos ∧
      s.markerGood n 2 m = true) fun s n =>
    let t := (s.modHfec n fun y => y.setHunter 2 { (s.chan n).hfec.line with bad := 0, skewBad := 0, lanes := m.lanes }).sat n
      HFEC.ALIGN_POS_LINE_PERIODS
    ((if s.is n FLT.STATUS_SAFE then t else t.set n HFEC.STATUS_LF_TO_HOST 0).alignEdges s n).levels n) ∧
  (∀ k, Event (fun n => .hfecFsmPar ⟨n, k⟩) (fun _ _ => True) fun s n => (s.raiseFsm n HFEC.FLT_HFEC_FSM_PAR k.val).levels n)

/-- The line transmitter's states: LEAD ends in RAMP_UP, whose length and shape it latches, RAMP_UP in ON with the envelope at
1, RAMP_DOWN in LAG, LAG in OFF, each only from the state before it, with its event (R190, R191); clipped samples out of DARK
count and above THRESH raise DAC_SAT (R184); a TXDIS pin that does not follow its driver raises TXDIS_MISMATCH, one that does
only ends the reading (R194); a parity error of its state machine stops the light at once (R193, R197). FIR_APPLY takes nine
taps whose magnitudes sum to at most 256 with MAIN at most 8, and refuses any others (R182, R183); NL_LOAD latches the 64 staged
entries, spoiled where an injection for it is armed, its switch puts them to use in the other bank, and a parity error zeroes
the entry of its path (R186, R187). -/
def Obligations.TheTransmitterRampsAndTakesOnlyWhatFits : Prop :=
  (Event .leadEnd (fun s n => s.ltxState n = 1) (fun s n =>
    (((s.set n LTX.STATUS_STATE 2).modLtx n fun x =>
      { x with rampAt := s.dev.ticks, rampLen := s.rampTicks n, rampCos := s.is n LTX.CFG_RAMP_SHAPE }).sat n
      LTX.COUNTS_RAMP_UP).levels n) ∧
  Event .rampUpEnd (fun s n => s.ltxState n = 2) (fun s n =>
    ((((s.set n LTX.STATUS_STATE 3).set n LTX.ENVELOPE_G 0x10000).set n LTX.STATUS_ABRUPT 0).irq n LTX.IRQ_ON_REACHED).levels n) ∧
  Event .rampDownEnd (fun s n => s.ltxState n = 4) (fun s n => ((s.set n LTX.STATUS_STATE 5).set n LTX.ENVELOPE_G 0).levels n) ∧
  Event .lagEnd (fun s n => s.ltxState n = 5) (fun s n =>
    ((((s.set n LTX.STATUS_STATE 0).set n LTX.ENVELOPE_G 0).irq n LTX.IRQ_OFF_REACHED).ltxApplyOff n).levels n) ∧
  (∀ p : (Ch → Instr) × Nat, p ∈ [(Instr.leadEnd, 1), (Instr.rampUpEnd, 2), (Instr.rampDownEnd, 4), (Instr.lagEnd, 5)] →
    Event p.1 (fun s n => s.ltxState n ≠ p.2) fun s _ => s) ∧
  (∀ clipped, Event (fun n => .dacSatWindow n clipped) (fun s n => s.chState n ≠ 0) fun s n =>
    let t := s.sat n LTX.SAT_COUNT clipped
    if s.get n LTX.SAT_CFG_THRESH < clipped then (t.raise n LTX.FLT_DAC_SAT).irq n LTX.IRQ_DAC_SAT else t) ∧
  (∀ clipped, Event (fun n => .dacSatWindow n clipped) (fun s n => s.chState n = 0) fun s _ => s) ∧
  (∀ high, Event (fun n => .txdisMismatch n high) (fun s n => high ≠ s.txdisLevel n) fun s n =>
    (s.modLtx n fun x => { x with pin := some high }).raise n LTX.FLT_TXDIS_MISMATCH) ∧
  (∀ high, Event (fun n => .txdisMismatch n high) (fun s n => high = s.txdisLevel n) fun s n =>
    s.modLtx n fun x => { x with pin := none }) ∧
  Event .ltxFsmPar (fun s n => (s.raiseFsm n LTX.FLT_LTX_FSM_PAR).ltxState n ≠ 0) (fun s n =>
    ((((s.raiseFsm n LTX.FLT_LTX_FSM_PAR).ltxOff n).set n LTX.STATUS_ABRUPT 1).irq n LTX.IRQ_ABRUPT_STOP).sat n LTX.COUNTS_ABRUPT
      |>.levels n)) ∧
  (RequestWhen .firApply LTX.FIR_APPLY_GO (fun s n => s.firStageSum n ≤ 256 ∧ s.get n LTX.FIR_CFG_MAIN ≤ 8) (fun s n =>
    (((s.firCopy n 9).set n LTX.FIR_MAIN_ACTIVE_MAIN (s.get n LTX.FIR_CFG_MAIN)).set n LTX.STATUS_FIR_BAD 0).irq n
      LTX.IRQ_FIR_APPLIED) ∧
  RequestWhen .firApply LTX.FIR_APPLY_GO (fun s n => 256 < s.firStageSum n ∨ 8 < s.get n LTX.FIR_CFG_MAIN) (fun s n =>
    (s.set n LTX.STATUS_FIR_BAD 1).irq n LTX.IRQ_FIR_REFUSED) ∧
  (∀ (s : State) (n : Ch) (i : Nat), i < 9 → (s.firCopy n 9).get n (LTX.FIR_ACTIVE_COEF i) = s.get n (LTX.FIR_C_COEF i)) ∧
  RequestWhen .nlLoad LTX.NL_LOAD_GO (fun s n => s.armed n LTX.STATUS 0 = false ∨ s.get n LTX.INJECT_TARGET ≠ 1) (fun s n =>
    (s.modLtx n fun x => { x with latched := (List.range 64).map fun i => s.get n (LTX.NL_ENTRY_CORR i), badNext := false }).set n
      LTX.BUSY_LONG_OP 1) ∧
  RequestWhen .nlLoad LTX.NL_LOAD_GO (fun s n => s.armed n LTX.STATUS 0 = true ∧ s.get n LTX.INJECT_TARGET = 1) (fun s n =>
    ((s.modLtx n fun x => { x with latched := (List.range 64).map fun i => s.get n (LTX.NL_ENTRY_CORR i), badNext := true }).disarm n
      LTX.STATUS 0).set n LTX.BUSY_LONG_OP 1) ∧
  Event .nlBankSwitch (fun s n => s.is n LTX.BUSY_LONG_OP = true) (fun s n =>
    let bad := (s.chan n).ltx.badNext
    let t := (s.nlCopy n 0 (s.chan n).ltx.latched).modLtx n fun x =>
      { x with latched := [], table := x.latched, zeroed := if x.badNext then [(0, 0)] else [], badNow := x.badNext, badNext := false }
    let u := if bad then t.set n (LTX.NL_ACTIVE_CORR 0) 0 else t
    ((u.set n LTX.STATUS_NL_BANK (s.get n LTX.STATUS_NL_BANK + 1)).set n LTX.BUSY_LONG_OP 0).irq n LTX.IRQ_NL_LOADED) ∧
  Event .nlBankSwitch (fun s n => s.is n LTX.BUSY_LONG_OP = false) (fun s _ => s) ∧
  (∀ (path : Fin 256) (i : Fin 64), Event (fun n => .nlParity n path i) (fun s n => (s.chan n).ltx.badNow = false ∨ path ≠ 0 ∨ i ≠ 0)
    fun s n =>
    let t := (s.raise n LTX.FLT_NL_PARITY).modLtx n fun x => { x with zeroed := (path.val, i.val) :: x.zeroed.erase (path.val, i.val) }
    if path = 0 then t.set n (LTX.NL_ACTIVE_CORR i) 0 else t))


/-! ## The line receiver (chapter 08) -/

/-- Energy above 10 x SD_ON mV sets SD_RAW, and below half of that for LOS_HOLD it clears: out of a parity hold a rise starts an
acquisition, a fall in FROZEN or REACQ is a signal loss (R203, R206). Each measurement moves the code by its error, at most 24
codes; two good ones in a row, or the time limit, freeze it (R205). From FROZEN the code moves only by GAIN_REACQ, code by code,
or by a write of MANUAL, which fixes it; drift raises GAIN_DRIFT when a window leaves the band (R204, R207, R208). Clipping
above THRESH is a fault; a parity error holds the gain, ends a swap and stops a capture (R224). -/
def Obligations.TheGainIsAcquiredFrozenAndMovedByCommandOnly : Prop :=
  (∀ mv, Event (fun n => .sdRawRise ⟨n, mv⟩) (fun s n => s.gainState n ≠ 0 ∧ 10 * max 2 (s.get n LRX.SD_CFG_SD_ON) < mv) fun s n =>
    let t := s.set n LRX.STATUS_SD_RAW 1
    if s.gainHeld n then t
    else if s.gainState n = 1 then t.gainAcq n
    else if s.gainState n = 5 ∨ s.gainState n = 6 then (t.sigRise n).levels n else t) ∧
  (∀ mv us, Event (fun n => .sdRawFall ⟨n, mv, us⟩) (fun s n => s.gainState n ≠ 0 ∧ mv < 5 * max 2 (s.get n LRX.SD_CFG_SD_ON) ∧
      max 1 (s.get n LRX.SD_CFG_LOS_HOLD) ≤ us) fun s n =>
    let t := s.set n LRX.STATUS_SD_RAW 0
    if s.gainHeld n then t
    else if s.gainState n = 2 then t.set n LRX.STATUS_GAIN_STATE 1
    else if s.gainState n = 3 ∨ s.gainState n = 4 then ((t.set n LRX.STATUS_GAIN_STATE 1).sigFall n).levels n
    else if s.gainState n = 5 ∨ s.gainState n = 6 then (t.sigFall n).levels n else t) ∧
  (∀ rms t, Event (fun n => .gainMeasurement n rms t) (fun s n => s.gainState n = 2 ∧ s.gainHeld n = false) fun s n =>
    let u := s.gainMove n (gainError (s.agcTarget n) rms)
    if gainGood (s.agcTarget n) rms = false then u.modLrx n fun x => { x with good := 0 }
    else if (s.chan n).lrx.good = 1 then u.gainFreeze n t false else u.modLrx n fun x => { x with good := 1 }) ∧
  Event .gainAcqTimeout (fun s n => s.gainState n = 2 ∧ s.gainHeld n = false) (fun s n => s.gainFreeze n 400 true) ∧
  RequestWhen .gainReacq LRX.CMD_GAIN_REACQ (fun s n => s.gainState n = 3 ∧ s.gainHeld n = false) (fun s n =>
    ((s.set n LRX.STATUS_GAIN_STATE 4).modLrx n fun x => { x with good := 0, steps := 0 }).lrxBusy n) ∧
  RequestWhen .gainReacq LRX.CMD_GAIN_REACQ (fun s n => s.gainState n ≠ 3) (fun s _ => s) ∧
  (∀ rms t, Event (fun n => .reacqStep n rms t) (fun s n => s.gainState n = 4 ∧ s.gainHeld n = false) fun s n =>
    let e := gainError (s.agcTarget n) rms
    let good := gainGood (s.agcTarget n) rms
    let u := (s.modLrx n fun y => { y with good := if good then 1 else 0, steps := y.steps + 1 }).gainMove n
      (if 0 < e then 1 else if e < 0 then -1 else 0)
    let v := if u.get n LRX.GAIN_CODE = s.get n LRX.GAIN_CODE then u else u.notice n 1
    if good && (s.chan n).lrx.good == 1 then (v.gainFreeze n t false).lrxBusy n
    else if 96 ≤ (s.chan n).lrx.steps + 1 then (v.gainFreeze n t true).lrxBusy n else v) ∧
  (∀ rms, Event (fun n => .rmsWindow n rms) (fun s n => s.gainState n ≠ 0 ∧ s.gainState n ≠ 3) fun s n => s.setSat n LRX.RMS_RMS rms) ∧
  (∀ rms, Event (fun n => .rmsWindow n rms) (fun s n => s.gainState n = 3) fun s n =>
    let d := max 1 (s.get n LRX.AGC_CFG_DRIFT_DB)
    let out := decide (s.agcTarget n ^ 20 * 10 ^ d < rms ^ 20 ∨ rms ^ 20 * 10 ^ d < s.agcTarget n ^ 20)
    let t := (s.setSat n LRX.RMS_RMS rms).modLrx n fun x => { x with drifted := out }
    if out ∧ (s.chan n).lrx.drifted = false then t.irq n LRX.IRQ_GAIN_DRIFT else t) ∧
  (∀ (data : Word) (n : Ch), Put (.gainModeWrite n data) (LRX.GAIN_CFG.addr n) reqHost (fun s => s.gainState n = 0 ∨
      s.gainHeld n = true) fun s => s.set n LRX.GAIN_CFG (data.toNat &&& 0x7F7F7F03)) ∧
  (∀ (data : Word) (n : Ch), data.toNat % 4 = 1 → Put (.gainModeWrite n data) (LRX.GAIN_CFG.addr n) reqHost (fun s =>
      1 ≤ s.gainState n ∧ s.gainState n ≤ 4 ∧ s.gainHeld n = false) fun s =>
    let t := s.set n LRX.GAIN_CFG (data.toNat &&& 0x7F7F7F03)
    let u := t.gainFixed n 5 (t.get n LRX.GAIN_CFG_MAN_CODE)
    ((if u.is n LRX.STATUS_SD_RAW then u else u.sigFall n).lrxBusy n).levels n) ∧
  (∀ (s : State) (n : Ch) (e : Int), s.gainMove n e = s.gainTo n (clampI 0 96 ((s.get n LRX.GAIN_CODE : Int) + e)).toNat) ∧
  (∀ target rms : Nat, -24 ≤ gainError target rms ∧ gainError target rms ≤ 24) ∧
  (∀ clipped, Event (fun n => .clipWindow n clipped) (fun s n => s.gainState n ≠ 0) fun s n =>
    if s.get n LRX.CLIP_CFG_THRESH < clipped then
      ((s.sat n LRX.CLIP_COUNT clipped).raise n LRX.FLT_ADC_OVERRANGE).capTrig n 6
    else s.sat n LRX.CLIP_COUNT clipped) ∧
  (∀ k, Event (fun n => .lrxFsmPar ⟨n, k⟩) (fun _ _ => True) fun s n =>
    let t := ((s.raiseFsm n LRX.FLT_LRX_FSM_PAR k.val).modLrx n fun x => { x with parHeld := true }).swapEnd n 8
    ((if t.capturing n then t.capStop n 5 else t).lrxBusy n).levels n)

/-- The two banks: four low Tandem windows in a row are a mismatch (R210). A plausibility window counts off SETTLE, is left out
where a swap or a change of gain spoils it, serves the self-test, or judges the shadow bank: COUNT bad ones in a row are
SHADOW_IMPLAUSIBLE, and a good one sets PLAUS_OK (R212). The self-test is refused outside Shadow, else runs COUNT windows and
fails if one of them passed (R213). SWAP is refused with its reason or verifies; an unended guard hold ends it; at the switch
the active bank changes with a dress notice and SETTLE begins (R214 to R218). A host write of SHADOW_EN changes that bit of
BANK_CFG; CLR_STATS zeroes the block's statistics (R225). -/
def Obligations.TheBanksAreJudgedAndSwapped : Prop :=
  (∀ spur skew, Event (fun n => .tandemWindow n spur skew) (fun s n => s.get n LRX.STATUS_BANK_MODE = 1 ∧ s.lrxRun n = true) fun s n =>
    let run := if spur < s.get n LRX.TANDEM_CFG_SPUR_MIN then (s.chan n).lrx.lowRun + 1 else 0
    let t := ((s.setSat n LRX.TANDEM_EST_SPUR spur).setI n LRX.TANDEM_EST_SKEW_FS skew).modLrx n fun x =>
      { x with lowRun := min run 4 }
    if 4 ≤ run then t.raise n LRX.FLT_TANDEM_MISMATCH else t) ∧
  (∀ d, Event (fun n => .plausWindow n d) (fun s n => s.is n LRX.STATUS_SHADOW_PWR = true ∧ s.swapState n = 5) fun s n =>
    let t := s.modLrx n fun y => { y with left := y.left - 1, skip := false }
    if (s.chan n).lrx.left ≤ 1 then (t.set n LRX.STATUS_SWAP_STATE 0).levels n else t) ∧
  (∀ d, Event (fun n => .plausWindow n d) (fun s n => s.is n LRX.STATUS_SHADOW_PWR = true ∧ s.swapState n ≠ 5 ∧
      (s.swapState n = 1 ∨ s.swapState n = 4 ∨ (s.chan n).lrx.skip = true)) fun s n => s.modLrx n fun y => { y with skip := false }) ∧
  (∀ d, Event (fun n => .plausWindow n d) (fun s n => s.is n LRX.STATUS_SHADOW_PWR = true ∧ (s.chan n).lrx.skip = false ∧
      (s.swapState n = 0 ∨ s.swapState n = 2 ∨ s.swapState n = 3)) fun s n =>
    let fail := decide (s.get n LRX.PLAUS_CFG_THRESH < d)
    let t := (s.setSat n LRX.PLAUS_D_LAST d).setSat n LRX.PLAUS_D_MAX (max d (s.get n LRX.PLAUS_D_MAX))
    if (s.chan n).lrx.testing then
      t.modLrx n fun y => { y with testLeft := y.testLeft - 1, testPassed := y.testPassed || !fail }
    else (t.plausJudge n fail).swapJudge n fail) ∧
  (∀ (s : State) (n : Ch), s.plausCount n = max 1 (s.get n LRX.PLAUS_CFG_COUNT) ∧
    (s.plausCount n ≤ (s.chan n).lrx.failRun + 1 → s.plausJudge n true =
      (((((s.sat n LRX.PLAUS_STAT_FAIL_WINDOWS).capTrig n 4).raise n LRX.FLT_SHADOW_IMPLAUSIBLE).set n LRX.STATUS_PLAUS_OK
        0).modLrx n fun x => { x with failRun := 0 })) ∧
    (s.plausJudge n false = (s.set n LRX.STATUS_PLAUS_OK 1).modLrx n fun x => { x with failRun := 0 })) ∧
  RequestWhen .plausTest LRX.CMD_PLAUS_TEST (fun s n => s.get n LRX.STATUS_BANK_MODE ≠ 2 ∨ s.is n LRX.BANK_CFG_SHADOW_EN = false ∨
      s.swapState n ≠ 0 ∨ s.is n LRX.STATUS_SHADOW_PWR = false) (fun s n =>
    (s.set n LRX.PLAUS_STAT_TEST_RESULT 3).irq n LRX.IRQ_PLAUS_TEST_DONE) ∧
  RequestWhen .plausTest LRX.CMD_PLAUS_TEST (fun s n => s.get n LRX.STATUS_BANK_MODE = 2 ∧ s.is n LRX.BANK_CFG_SHADOW_EN = true ∧
      s.swapState n = 0 ∧ s.is n LRX.STATUS_SHADOW_PWR = true) (fun s n =>
    (s.modLrx n fun x => { x with testing := true, testLeft := max 1 (s.get n LRX.PLAUS_CFG_COUNT), testPassed := false }).lrxBusy n) ∧
  Event .plausTestEnd (fun s n => (s.chan n).lrx.testing = true ∧ (s.chan n).lrx.testLeft = 0) (fun s n =>
    let t := (s.modLrx n fun y => { y with testing := false }).lrxBusy n
    if (s.chan n).lrx.testPassed then
      ((t.raise n LRX.FLT_SHADOW_IMPLAUSIBLE).set n LRX.PLAUS_STAT_TEST_RESULT 2).irq n LRX.IRQ_PLAUS_TEST_DONE
    else (t.set n LRX.PLAUS_STAT_TEST_RESULT 1).irq n LRX.IRQ_PLAUS_TEST_DONE) ∧
  RequestWhen .swap LRX.CMD_SWAP (fun s n => s.get n LRX.STATUS_BANK_MODE ≠ 2) (fun s n =>
    ((s.set n LRX.SWAP_INFO_REASON 1).sat n LRX.SWAP_FAILS_REFUSED).irq n LRX.IRQ_SWAP_REFUSED) ∧
  RequestWhen .swap LRX.CMD_SWAP (fun s n => s.get n LRX.STATUS_BANK_MODE = 2 ∧ s.is n LRX.BANK_CFG_SHADOW_EN = false) (fun s n =>
    ((s.set n LRX.SWAP_INFO_REASON 2).sat n LRX.SWAP_FAILS_REFUSED).irq n LRX.IRQ_SWAP_REFUSED) ∧
  RequestWhen .swap LRX.CMD_SWAP (fun s n => s.get n LRX.STATUS_BANK_MODE = 2 ∧ s.is n LRX.BANK_CFG_SHADOW_EN = true ∧ s.swapState n ≠ 1)
    (fun s n => ((s.set n LRX.STATUS_SWAP_STATE 2).modLrx n fun x =>
      { x with left := max 1 (s.get n LRX.BANK_CFG_VERIFY) }).levels n) ∧
  Event .waitGuardTimeout (fun s n => s.swapState n = 3) (fun s n => (s.swapEnd n 4).levels n) ∧
  Event .bankSwapSwitch (fun s n => s.swapState n = 4) (fun s n =>
    let t := ((((s.set n LRX.STATUS_ACTIVE_BANK (s.get n LRX.STATUS_ACTIVE_BANK + 1)).sat n LRX.SWAP_INFO_COUNT).irq n
      LRX.IRQ_SWAP_DONE).count n 0x35 2 0).notice n 2
    ((((t.capEpoch n true).capTrig n 3).set n LRX.STATUS_SWAP_STATE 5).modLrx n fun x =>
      { x with left := max 1 (s.get n LRX.BANK_CFG_SETTLE) }).levels n) ∧
  (∀ (on : Bool) (n : Ch) (s : State), s.writeOpen (LRX.BANK_CFG.addr n) reqHost = true →
    exec (.shadowEnWrite n on) s = .next (((s.seen (LRX.BANK_CFG.addr n) reqHost).set n LRX.BANK_CFG
      ((setBits (s.word (LRX.BANK_CFG.addr n)) 0 1 (if on then 1 else 0)).toNat &&& 0xFF03)).levels n)) ∧
  Request .lrxClrStats LRX.CMD_CLR_STATS (fun s n =>
    ((((s.set n LRX.PLAUS_D_MAX 0).set n LRX.PLAUS_STAT_FAIL_WINDOWS 0).set n LRX.SWAP_INFO_COUNT 0).set n
      LRX.SWAP_FAILS 0).set n LRX.CLIP_COUNT 0)

/-- A capture: ARM outside LISTEN, while none runs, starts it with its first epoch and has no effect else; the pre-trigger part
fills; the trigger records its time and what was stored before it; the end of one that no lost epoch cut short writes the
samples, the count, the place of the trigger and the epochs, and of a stopped one what was stored; ABORT stops it (R219 to
R223). -/
def Obligations.ACaptureRunsFromArmToItsRecord : Prop :=
  RequestWhen .capArm LRX.CAP_CTRL_ARM (fun s n => s.capturing n = false ∧ s.chState n ≠ 2) (fun s n =>
    (((s.set n LRX.CAP_STATUS_STATE 1).set n LRX.STATUS_CAP_BUSY 1).modLrx n fun x =>
      { x with trig := s.get n LRX.CAP_CFG_TRIG == 0 || s.get n LRX.CAP_CFG_TRIG == 7, pre := 0,
               epochs := [⟨false, s.get n LRX.STATUS_ACTIVE_BANK, s.get n LRX.GAIN_CODE, s.get n LRX.STATUS_GAIN_EPOCH,
                 s.dev.ticks⟩],
               dropped := false, due := false }).levels n) ∧
  RequestWhen .capArm LRX.CAP_CTRL_ARM (fun s n => s.capturing n = true ∨ s.chState n = 2) (fun s _ => s) ∧
  Event .capPreFilled (fun s n => s.capState n = 1) (fun s n => s.set n LRX.CAP_STATUS_STATE 2) ∧
  Event .capPreFilled (fun s n => s.capState n ≠ 1) (fun s _ => s) ∧
  (∀ stored, Event (fun n => .capTrigger n stored) (fun s n => (s.capState n = 1 ∨ s.capState n = 2) ∧
      (s.chan n).lrx.trig = true) fun s n =>
    (((s.set n LRX.CAP_STATUS_STATE 3).modLrx n fun x =>
      { x with trig := false, pre := if s.capState n = 2 then s.capPre n else min (s.capPre n) stored, trigAt := s.dev.ticks }).set n
      LRX.CAP_TS_NS s.dev.time.ns).set n LRX.CAP_TS_SEC s.dev.time.sec) ∧
  (∀ r : CapRecord, Event (fun n => .capDone n r) (fun s n => s.capState n = 3 ∧ (s.chan n).lrx.dropped = false) fun s n =>
    let x := (s.chan n).lrx
    let ep := capTrim (x.epochs.zip r.starts)
    let t := (((s.putSamples n r.start (s.capSamples n r.words) 32768).set n LRX.CAP_STATUS_COUNT
      (min 262144 (x.pre + (262144 - s.capPre n)))).set n LRX.CAP_START_WORD r.start).set n LRX.CAP_TRIG_POS_INDEX x.pre
    let u := ((t.putEpochs n 0 0 ep).set n LRX.CAP_EPOCHS_ENTRIES ep.length).modLrx n fun y => { y with due := false }
    ((u.set n LRX.CAP_STATUS_STATE 4).set n LRX.STATUS_CAP_BUSY 0).irq n LRX.IRQ_CAP_DONE) ∧
  (∀ r : CapRecord, Event (fun n => .capDone n r) (fun s n => s.capState n ≠ 3 ∧ (s.chan n).lrx.due = true ∧
      (s.chan n).lrx.dropped = false) fun s n =>
    let x := (s.chan n).lrx
    let ep := capTrim (x.epochs.zip r.starts)
    let t := (((s.putSamples n r.start (s.capSamples n r.words) 32768).set n LRX.CAP_STATUS_COUNT (min 262144 r.count)).set n
      LRX.CAP_START_WORD r.start).set n LRX.CAP_TRIG_POS_INDEX x.pre
    ((t.putEpochs n 0 0 ep).set n LRX.CAP_EPOCHS_ENTRIES ep.length).modLrx n fun y => { y with due := false }) ∧
  RequestWhen .capAbort LRX.CAP_CTRL_ABORT (fun s n => s.capturing n = true) (fun s n => s.capStop n 5) ∧
  RequestWhen .capAbort LRX.CAP_CTRL_ABORT (fun s n => s.capturing n = false) (fun s _ => s)

/-! ## Timing and the equaliser (chapter 09), the Bolter (chapter 10) -/

/-- The timing loop: a window below LOCK_THR in ACQ locks it, four above UNLOCK_THR in a row lose it with its fault, any other
starts the run afresh (R233, R235); CORE_RX locks while TIM_LOCK holds and LINE_IN is at its set fill of 3 words (R24, R230,
R235; log 38); the offset is limited to 500 ppm and CORE_RX follows it, the phase is the top of the fraction (R229, R230); the
quick equaliser takes five taps once an ACQ was seen, but in a freeze (R231). Coarse deskew follows its setting at once and
re-locks the Bolter, the fine delay one code at a time (R236, R237). PF_APPLY, REACQ and CLR_STATS act, and a parity error gives
OFF (R226, R233, R251, R252). -/
def Obligations.TheTimingLoopLocksLosesAndDelays : Prop :=
  (∀ (s : State) (n : Ch) (fill : Nat), s.coreRxLock n fill =
    if s.is n TIM.STATUS_TIM_LOCK = true ∧ fill = 3 then s.set n TOP.CLK_STATUS_CORE_RX_LOCK 1 else s) ∧
  (∀ rms mean sat fill, Event (fun n => .phaseErrWindow n ⟨rms, mean⟩ sat fill) (fun s n => s.loopState n = 0 ∨ s.loopState n = 4)
    fun s _ => s) ∧
  (∀ rms mean sat fill, Event (fun n => .phaseErrWindow n ⟨rms, mean⟩ sat fill) (fun s n => s.loopState n = 1) fun s n =>
    let t := (((s.setSat n TIM.PHASE_ERR_RMS rms).setI n TIM.PHASE_ERR_MEAN mean).satFlags n TIM.SAT_FLAGS TIM.IRQ_SAT
      sat.toNat).coreRxLock n fill
    if rms < s.get n TIM.LOCK_CFG_LOCK_THR then
      (((((t.set n TIM.STATUS_TIM_LOCK 1).set n TIM.STATUS_LOOP_STATE 2).irq n TIM.IRQ_LOCK).coreRxLock n fill).coreRxFollow n).levels n
    else t) ∧
  (∀ rms mean sat fill, Event (fun n => .phaseErrWindow n ⟨rms, mean⟩ sat fill) (fun s n => s.loopState n = 2 ∨ s.loopState n = 3)
    fun s n =>
    let t := (((s.setSat n TIM.PHASE_ERR_RMS rms).setI n TIM.PHASE_ERR_MEAN mean).satFlags n TIM.SAT_FLAGS TIM.IRQ_SAT
      sat.toNat).coreRxLock n fill
    let u := (((t.raise n TIM.FLT_TIM_LOCK_LOST).irq n TIM.IRQ_LOCK_LOST).sat n TIM.COUNTS_LOCK_LOST).count n 0x31 2 0
    if rms ≤ s.get n TIM.LOCK_CFG_UNLOCK_THR then t.modTim n fun x => { x with badRun := 0 }
    else if (s.chan n).tim.badRun < 3 then t.modTim n fun x => { x with badRun := x.badRun + 1 }
    else (if u.loopState n = 2 ∨ u.loopState n = 3 then u.loopAcq n else u).levels n) ∧
  Event .timRange (fun s n => s.loopState n ≠ 0 ∧ s.loopState n ≠ 4) (fun s n =>
    ((s.raise n TIM.FLT_TIM_RANGE).set n TIM.STATUS_RANGE_CLAMP 1).satFlags n TIM.SAT_FLAGS TIM.IRQ_SAT 16) ∧
  (∀ (ppm : Int) frac, Event (fun n => .freqUpdate n ppm frac) (fun s n => s.loopState n ≠ 0) fun s n =>
    let f := clampI (-8000) 8000 ppm
    let t := (s.modTim n fun x => { x with frac := frac.toNat }).set n TIM.FREQ_PHASE (frac.toNat / 2 ^ 26)
    if s.loopState n = 4 then t
    else ((t.setI n TIM.FREQ_PPM f).set n TIM.STATUS_RANGE_CLAMP (if f = 8000 ∨ f = -8000 then 1 else 0)).coreRxFollow n) ∧
  Event .quickEqRefresh (fun s n => s.loopState n ≠ 0 ∧ (s.chan n).tim.acqSeen = true ∧ s.is n EQ.STATUS_NOTICE_ACTIVE = false ∧
      s.is n EQ.STATUS_GUARD_HOLD = false) (fun s n =>
    s.modTim n fun t =>
      { t with quick := (List.range 5).map fun i =>
                 if (s.chan n).eq.cursor + i < 2 then 0 else (s.chan n).eq.taps.getD ((s.chan n).eq.cursor + i - 2) 0,
               quickLevels := (s.chan n).eq.mu }) ∧
  Event .quickEqRefresh (fun s n => s.loopState n = 0 ∨ (s.chan n).tim.acqSeen = false ∨ s.is n EQ.STATUS_NOTICE_ACTIVE = true ∨
      s.is n EQ.STATUS_GUARD_HOLD = true) (fun s _ => s) ∧
  Event .deskewCoarseApply (fun s n => s.modeActive n = true ∧ s.is n TIM.FLT_TIM_FSM_PAR = false ∧
      s.get n TIM.DESKEW_COARSE ≠ s.get n TIM.DESKEW_ACTIVE_COARSE) (fun s n =>
    let t := (s.set n TIM.DESKEW_ACTIVE_COARSE (s.get n TIM.DESKEW_COARSE)).irq n TIM.IRQ_DESKEW_APPLIED
    let u := if s.eqState n = 3 then t.irq n TIM.IRQ_DESKEW_JUMP else t
    if s.boltState n = 2 ∨ s.boltState n = 3 then
      (((u.boltDrop n 1).irq n BOLT.IRQ_DESKEW_RELOCK).sat n BOLT.LOCK_COUNT_RELOCK).levels n
    else u) ∧
  Event .fineSlewStep (fun s n => s.modeActive n = true ∧ s.is n TIM.FLT_TIM_FSM_PAR = false ∧
      s.get n TIM.DESKEW_FINE ≠ s.get n TIM.DESKEW_ACTIVE_FINE) (fun s n =>
    (s.set n TIM.DESKEW_ACTIVE_FINE (if s.get n TIM.DESKEW_ACTIVE_FINE < s.get n TIM.DESKEW_FINE then
      s.get n TIM.DESKEW_ACTIVE_FINE + 1 else s.get n TIM.DESKEW_ACTIVE_FINE - 1)).deskewLevel n) ∧
  (Request .pfApply TIM.CMD_PF_APPLY (fun s n => s.pfCopy n 8) ∧
  (∀ (s : State) (n : Ch) (i : Nat), i < 8 → (s.pfCopy n 8).get n (TIM.PF_ACTIVE_COEF i) = s.get n (TIM.PREFILTER_C_COEF i))) ∧
  RequestWhen .timReacq TIM.CMD_REACQ (fun s n => s.loopState n = 2 ∨ s.loopState n = 3) (fun s n => (s.loopAcq n).levels n) ∧
  RequestWhen .timReacq TIM.CMD_REACQ (fun s n => s.loopState n = 0 ∨ s.loopState n = 1 ∨ s.loopState n = 4) (fun s _ => s) ∧
  Request .timClrStats TIM.CMD_CLR_STATS (fun s n => (s.set n TIM.COUNTS 0).set n TIM.PHASE_ERR 0) ∧
  (∀ k, Event (fun n => .timFsmPar ⟨n, k⟩) (fun _ _ => True) fun s n =>
    let t := s.raiseFsm n TIM.FLT_TIM_FSM_PAR k.val
    (if t.loopState n = 0 then t else t.loopOff n).levels n)

/-- The equaliser: an update moves taps, feedback and levels by 2^-STEP with leakage inside their ranges, except while frozen
(R238 to R240, R245); a notice freezes until it ends (R241); the guard windows carry acquisition to TRACK (R242, R248) and judge
the guard there (R243, R244), and the fourth SNR below its floor in a row, out of a hold, is EQ_DIVERGE (R242); RESTART acquires
afresh, an eye run fills its bins phase by phase and ends or is aborted, CLR_STATS zeroes the guard's counts (R247, R249, R250,
R253), and a parity error gives OFF (R251). -/
def Obligations.TheEqualiserAdaptsUnderItsGuard : Prop :=
  (∀ ffe dfe levels, Event (fun n => .lmsUpdate n ffe dfe levels) (fun s n => s.is n EQ.STATUS_ADAPT_FROZEN = true) fun s _ => s) ∧
  (∀ ffe dfe levels, Event (fun n => .lmsUpdate n ffe dfe levels) (fun s n => s.is n EQ.STATUS_ADAPT_FROZEN = false) fun s n =>
    let x := (s.chan n).eq
    let k := s.eqStep n
    let f := lmsFfe x.cursor k 0 x.taps ffe
    let d1 := lmsMove (384 * tapUnit) 0 (384 * tapUnit) k (dfe.getD 0 0) (x.dfe.getD 0 0)
    let d2 := lmsMove (128 * tapUnit) (-128 * tapUnit) (128 * tapUnit) k (dfe.getD 1 0) (x.dfe.getD 1 0)
    let on := s.is n EQ.CFG_DFE_EN
    let l := lmsLevels k x.mu levels
    ((s.modEq n fun y => { y with taps := f.1, dfe := if on then [d1.1, d2.1] else [0, 0], mu := l.1 }).putTaps n).satFlags n
      EQ.SAT_FLAGS EQ.IRQ_SAT ((if f.2 then 4 else 0) + (if on ∧ (d1.2 ∨ d2.2) then 8 else 0) + (if l.2 then 16 else 0))) ∧
  (∀ (full lo hi : Int) (step : Nat) (sign v : Int), lo ≤ hi →
    lo ≤ (lmsMove full lo hi step sign v).1 ∧ (lmsMove full lo hi step sign v).1 ≤ hi ∧
      ((lmsMove full lo hi step sign v).2 = false → (lmsMove full lo hi step sign v).1 =
        v + sign.sign * (full / 2 ^ step) - v.tdiv (2 ^ (step + 6)))) ∧
  (∀ src rest, Event .dressNotice (fun s n => (s.chan n).notices = src :: rest) fun s n =>
    ((((s.modCh n fun c => { c with notices := rest }).incr n EQ.NOTICE_COUNT).count n 0x33 2 src).modEq n fun x =>
      { x with frozen := x.frozen + 1 }).eqStatus n) ∧
  Event .noticeEnd (fun s n => (s.chan n).eq.frozen ≠ 0) (fun s n =>
    (s.modEq n fun x => { x with frozen := x.frozen - 1 }).eqStatus n) ∧
  (∀ w : EqWindow, Event (fun n => .guardWindowEnd n w) (fun s n => s.eqState n = 2) fun s n =>
    let t := s.eqReport n w
    if max 1 (s.get n EQ.CFG_ACQ_WINDOWS) ≤ (s.chan n).eq.windows + 1 then
      (((t.set n EQ.STATUS_EQ_STATE 3).modEq n fun x => { x with windows := 0, lowRun := 0 }).irq n EQ.IRQ_EQ_READY).levels n
    else t.modEq n fun x => { x with windows := (s.chan n).eq.windows + 1 }) ∧
  (∀ w : EqWindow, Event (fun n => .guardWindowEnd n w) (fun s n => s.eqState n = 3 ∧ s.get n EQ.SNR_CFG_FLOOR ≤ overallSnr w) fun s n =>
    ((s.eqReport n w).modEq n fun x => { x with lowRun := 0 }).guardJudge n (s.guardCause n w.occ w.trans)) ∧
  (∀ w : EqWindow, Event (fun n => .guardWindowEnd n w) (fun s n => s.eqState n = 3 ∧ overallSnr w < s.get n EQ.SNR_CFG_FLOOR ∧
      (s.is n EQ.STATUS_GUARD_HOLD = true ∨ (s.chan n).eq.lowRun < 3)) fun s n =>
    (((s.eqReport n w).irq n EQ.IRQ_SNR_LOW).modEq n fun x =>
      { x with lowRun := if s.is n EQ.STATUS_GUARD_HOLD then 0 else (s.chan n).eq.lowRun + 1 }).guardJudge n
      (s.guardCause n w.occ w.trans)) ∧
  (∀ w : EqWindow, Event (fun n => .guardWindowEnd n w) (fun s n => s.eqState n = 3 ∧ overallSnr w < s.get n EQ.SNR_CFG_FLOOR ∧
      s.is n EQ.STATUS_GUARD_HOLD = false ∧ 3 ≤ (s.chan n).eq.lowRun) fun s n =>
    let t := (((s.eqReport n w).irq n EQ.IRQ_SNR_LOW).modEq n fun x => { x with lowRun := (s.chan n).eq.lowRun + 1 })
    let u := (t.raise n EQ.FLT_EQ_DIVERGE).irq n EQ.IRQ_DIVERGE
    if u.eqState n = 3 then ((u.eqEnter n 2).eqTapsReset n).levels n else u) ∧
  Event .guardLong (fun s n => s.is n EQ.STATUS_GUARD_HOLD = true ∧ (s.chan n).eq.longSeen = false) (fun s n =>
    ((s.raise n EQ.FLT_GUARD_LONG).sat n EQ.GUARD_COUNT_LONG).modEq n fun x => { x with longSeen := true }) ∧
  RequestWhen .eqRestart EQ.CMD_RESTART (fun s n => s.eqState n ≠ 0) (fun s n =>
    ((s.eqEnter n (if s.is n TIM.STATUS_TIM_LOCK then 2 else 1)).eqTapsReset n).levels n) ∧
  RequestWhen .eqRestart EQ.CMD_RESTART (fun s n => s.eqState n = 0) (fun s _ => s) ∧
  RequestWhen .eyeStart EQ.EYE_CTRL_START (fun s n => s.eqState n = 3 ∧ s.is n EQ.BUSY_LONG_OP = false) (fun s n =>
    (((s.memZero (chMem n 5) 4096 4096).set n EQ.EYE_STATUS_STATE 2).set n EQ.EYE_STATUS_PHASE 0).set n EQ.BUSY_LONG_OP 1) ∧
  (∀ hits, Event (fun n => .eyePhaseEnd n hits) (fun s n => s.get n EQ.EYE_STATUS_STATE = 2 ∧ s.is n EQ.BUSY_LONG_OP = true) fun s n =>
    let t := s.eyeBins n (s.get n EQ.EYE_STATUS_PHASE) hits
    if s.get n EQ.EYE_STATUS_PHASE < 63 then t.set n EQ.EYE_STATUS_PHASE (s.get n EQ.EYE_STATUS_PHASE + 1)
    else ((t.set n EQ.EYE_STATUS_STATE 3).set n EQ.BUSY_LONG_OP 0).irq n EQ.IRQ_EYE_DONE) ∧
  RequestWhen .eyeAbort EQ.EYE_CTRL_ABORT (fun s n => s.is n EQ.BUSY_LONG_OP = true) (fun s n =>
    (s.set n EQ.EYE_STATUS_STATE 4).set n EQ.BUSY_LONG_OP 0) ∧
  RequestWhen .eyeAbort EQ.EYE_CTRL_ABORT (fun s n => s.is n EQ.BUSY_LONG_OP = false) (fun s _ => s) ∧
  Request .eqClrStats EQ.CMD_CLR_STATS (fun s n =>
    ((s.set n EQ.GUARD_COUNT 0).set n EQ.NOTICE_COUNT 0).modEq n fun x => { x with held := 0, holdAt := s.dev.ticks }) ∧
  (∀ k, Event (fun n => .eqFsmPar ⟨n, k⟩) (fun _ _ => True) fun s n =>
    let t := s.raiseFsm n EQ.FLT_EQ_FSM_PAR k.val
    (if t.eqState n = 0 then t else t.eqOff n).levels n)


/-- The Bolter: while EQ decides, HUNT takes the winning offset or goes on to the next group, two windows in CONFIRM lock it, a
failed one returns to HUNT (R257, R258); a lock window at or above its fraction ends the run of failed ones, and LOSS_COUNT of
them in a row lose the lock (R259). Out of LOCKED the bits pass undecoded; in LOCKED every block is decoded, counted and, where
its decision is weak, flagged with its weakest bits marked (R262, R265, R267), and an injected check error makes it
uncorrectable (R263, R269). A BER window of 2^24 blocks reports its sums and its code, BER_HIGH at THRESH or less (R268);
CLR_CNT zeroes the page's counters (R267); a parity error raises BOLT_FSM_PAR (R269). -/
def Obligations.TheBolterLocksDecodesAndReports : Prop :=
  (∀ counts, Event (fun n => .acqWindowEnd n counts) (fun s n => s.eqState n ≠ 2 ∧ s.eqState n ≠ 3) fun s _ => s) ∧
  (∀ counts o, Event (fun n => .acqWindowEnd n counts) (fun s n => (s.eqState n = 2 ∨ s.eqState n = 3) ∧ s.boltState n = 1 ∧
      huntWinner counts (s.acqFrac n * 4) (s.chan n).bolt.group 16 = some o) fun s n =>
    ((s.set n BOLT.STATUS_STATE 2).set n BOLT.STATUS_OFFSET o).modBolt n fun y => { y with confirms := 0 }) ∧
  (∀ counts, Event (fun n => .acqWindowEnd n counts) (fun s n => (s.eqState n = 2 ∨ s.eqState n = 3) ∧ s.boltState n = 1 ∧
      huntWinner counts (s.acqFrac n * 4) (s.chan n).bolt.group 16 = none) fun s n =>
    s.modBolt n fun y => { y with group := (y.group + 16) % 64 }) ∧
  (∀ counts, Event (fun n => .acqWindowEnd n counts) (fun s n => (s.eqState n = 2 ∨ s.eqState n = 3) ∧ s.boltState n = 2 ∧
      s.acqFrac n * 4 ≤ counts.getD (s.get n BOLT.STATUS_OFFSET) 0) fun s n =>
    if (s.chan n).bolt.confirms = 0 then s.modBolt n fun y => { y with confirms := 1 }
    else ((((s.set n BOLT.STATUS_STATE 3).set n BOLT.STATUS_BLOCK_LOCK 1).modBolt n fun y =>
      { y with confirms := 0, lossRun := 0, blocks := 0, corr := 0, unc := 0 }).irq n BOLT.IRQ_BLOCK_LOCK).levels n) ∧
  (∀ counts, Event (fun n => .acqWindowEnd n counts) (fun s n => (s.eqState n = 2 ∨ s.eqState n = 3) ∧ s.boltState n = 2 ∧
      counts.getD (s.get n BOLT.STATUS_OFFSET) 0 < s.acqFrac n * 4) fun s n =>
    (s.set n BOLT.STATUS_STATE 1).modBolt n fun y =>
      { y with confirms := 0, group := (s.get n BOLT.STATUS_OFFSET / 16 * 16 + 16) % 64 }) ∧
  (∀ zeros, Event (fun n => .lockWindowEnd n zeros) (fun s n => s.boltState n = 3) fun s n =>
    let t := (((s.raise n BOLT.FLT_BLOCK_LOST).irq n BOLT.IRQ_BLOCK_LOST).sat n BOLT.LOCK_COUNT_LOST)
    if s.lossFrac n * 256 ≤ zeros then s.modBolt n fun x => { x with lossRun := 0 }
    else if (s.chan n).bolt.lossRun + 1 < s.lossCount n then s.modBolt n fun x => { x with lossRun := x.lossRun + 1 }
    else (if t.boltState n = 3 then t.boltDrop n 1 else t).levels n) ∧
  (∀ (b : SoftBlock) pos, Event (fun n => .blockDecode n ⟨b, pos⟩) (fun s n => s.modeActive n = false) fun s _ => s) ∧
  (∀ (b : SoftBlock) pos, Event (fun n => .blockDecode n ⟨b, pos⟩) (fun s n => s.modeActive n = true ∧ s.boltState n ≠ 3) fun s n =>
    s.modBolt n fun x => { x with msg := (hardBits b.gray).take 120, marks := [] }) ∧
  (∀ (b : SoftBlock) pos, Event (fun n => .blockDecode n ⟨b, pos⟩) (fun s n => s.modeActive n = true ∧ s.boltState n = 3 ∧
      (s.armed n BOLT.STATUS 0 = false ∨ s.get n BOLT.INJECT_TARGET ≠ 1)) fun s n =>
    let rel := reliabilities (s.chan n).eq.mu (s.is n EQ.STATUS_PRECODE_ACTIVE) b.prev b.values
    let result := chase (hardBits b.gray) rel
    let flag := flagged (s.get n BOLT.ERASE_CFG_MARGIN) result
    let marks := if flag then weakestK (rel.take 120) (s.eraseBits n) [] else []
    let t := (s.markSymbols n pos marks).add64 n BOLT.BLOCKS_LO
    let u := if flag then t.add64 n BOLT.FLAGGED_LO else t
    match result with
    | some (c, _) =>
      let k := c.diff.length
      let v := (u.add64 n BOLT.BITS_CORR_LO k).add64 n (BOLT.HIST_LO k)
      (if 0 < k then v.count n 0x37 2 0 k else v).modBolt n fun x =>
        { x with msg := (flipBits c.diff 0 (hardBits b.gray)).take 120, marks, blocks := x.blocks + 1, corr := x.corr + k }
    | none =>
      ((u.add64 n BOLT.UNCORR_LO).count n 0x36 2 0).modBolt n fun x =>
        { x with msg := (hardBits b.gray).take 120, marks, blocks := x.blocks + 1, unc := x.unc + 1 }) ∧
  (∀ (b : SoftBlock) pos, Event (fun n => .blockDecode n ⟨b, pos⟩) (fun s n => s.modeActive n = true ∧ s.boltState n = 3 ∧
      s.armed n BOLT.STATUS 0 = true ∧ s.get n BOLT.INJECT_TARGET = 1) fun s n =>
    let rel := reliabilities (s.chan n).eq.mu (s.is n EQ.STATUS_PRECODE_ACTIVE) b.prev b.values
    let marks := weakestK (rel.take 120) (s.eraseBits n) []
    let t := (((s.disarm n BOLT.STATUS 0).raise n BOLT.FLT_DEC_CHECK { flags := 1 }).markSymbols n pos marks).add64 n BOLT.BLOCKS_LO
    (((t.add64 n BOLT.FLAGGED_LO).add64 n BOLT.UNCORR_LO).count n 0x36 2 0).modBolt n fun x =>
      { x with msg := (hardBits b.gray).take 120, marks, blocks := x.blocks + 1, unc := x.unc + 1 }) ∧
  Event .berWindowEnd (fun s n => s.boltState n = 3 ∧ 16777216 ≤ (s.chan n).bolt.blocks) (fun s n =>
    let x := (s.chan n).bolt
    let code := berCode (x.corr + 4 * x.unc)
    let t := (((((s.set n BOLT.WIN_CORR x.corr).set n BOLT.WIN_UNC_COUNT x.unc).set n BOLT.BER_EST_CODE code).set n
      BOLT.BER_EST_VALID 1).set n BOLT.STATUS_BER_VALID 1).irq n BOLT.IRQ_WINDOW_END
    let u := t.modBolt n fun y => { y with blocks := 0, corr := 0, unc := 0 }
    if code ≤ s.get n BOLT.BER_CFG_THRESH then (u.raise n BOLT.FLT_BER_HIGH).irq n BOLT.IRQ_BER_HIGH else u) ∧
  Event .berWindowEnd (fun s n => s.boltState n ≠ 3 ∨ (s.chan n).bolt.blocks < 16777216) (fun s _ => s) ∧
  Request .boltClrCnt BOLT.CMD_CLR_CNT (fun s n =>
    (s.mapRegs (chPage n 8 + 0x100) (chPage n 8 + 0x200) fun _ _ => 0).set n BOLT.LOCK_COUNT 0) ∧
  Event .boltFsmPar (fun _ _ => True) (fun s n => (s.raiseFsm n BOLT.FLT_BOLT_FSM_PAR).levels n)

/-! ## The Dresser (chapter 11) and the Millrace (chapter 12) -/

/-- The Dresser: PASS starts a pass that its conditions admit and aborts at once one that they do not, a first pass starts on
its trigger (R284, R286); ABORT ends the pass that runs, and a write of EN 0 is stored and acts on it (R292). A step is
announced and carried out, or deferred with its cause (R276, R281); a measurement window of an offline scope trims what lies
outside the deadband round by round, one of a scope in service settles what is to step, or ends the scope where nothing is
(R279, R280, R287, R290); a deferral over its limit times the pass out (R282, R283). A parity error raises DRESS_FSM_PAR (R293).
-/
def Obligations.ADresserPassStartsStepsAndEnds : Prop :=
  RequestWhen (fun n => .dressCmdPass n reqHost) DRESS.CMD_PASS (fun s n => s.passMay n (s.get n DRESS.SCOPE_CMD_SCOPE) = true) (fun s n =>
    (s.passStart n (s.get n DRESS.SCOPE_CMD_SCOPE) 1).levels n) ∧
  RequestWhen (fun n => .dressCmdPass n reqHost) DRESS.CMD_PASS (fun s n => s.passMay n (s.get n DRESS.SCOPE_CMD_SCOPE) = false) (fun s n =>
    ((s.set n DRESS.PASS_RESULT (4 * 2 ^ 28 + 1 * 2 ^ 24)).sat n DRESS.PASS_COUNT_ABORTED).irq n DRESS.IRQ_PASS_ABORTED) ∧
  (∀ (s : State) (n : Ch) (mask : Nat), s.passMay n mask = true ↔ s.is n DRESS.CTRL_EN = true ∧ s.chRun n = true ∧
    s.modeActive n = true ∧ mask ≠ 0 ∧ s.is n DRESS.FLT_DRESS_FSM_PAR = false) ∧
  RequestWhen (fun n => .dressCmdAbort n false) DRESS.CMD_ABORT (fun s n => s.dressing n = true) (fun s n =>
    (s.passCut n 2 7).irq n DRESS.IRQ_PASS_ABORTED) ∧
  RequestWhen (fun n => .dressCmdAbort n false) DRESS.CMD_ABORT (fun s n => s.dressing n = false) (fun s _ => s) ∧
  (∀ (n : Ch) (s : State), s.writeOpen (DRESS.CTRL.addr n) reqHost = true → exec (.dressCmdAbort n true) s =
    .next (((s.seen (DRESS.CTRL.addr n) reqHost).plainWrite (DRESS.CTRL.addr n)
      (setBits (s.word (DRESS.CTRL.addr n)) 0 1 0)).levels n)) ∧
  (∀ wait, Event (fun n => .trimStep n .carriedOut wait) (fun s n => (s.chan n).dress.flight = none ∧ s.dressState n = 3 ∧
      s.deferCause n = 0) fun s n => ((s.addWait n wait).stepBegins n).flightLands n) ∧
  (∀ wait, Event (fun n => .trimStep n .announced wait) (fun s n => (s.chan n).dress.flight = none ∧ s.dressState n = 3 ∧
      s.deferCause n = 0) fun s n => (s.addWait n wait).stepBegins n) ∧
  (∀ wait, Event (fun n => .trimStep n .carriedOut wait) (fun s n => (s.chan n).dress.flight.isSome = true) fun s n =>
    s.flightLands n) ∧
  (∀ wait part, Event (fun n => .trimStep n part wait) (fun s n => (s.chan n).dress.flight = none ∧ s.dressState n = 3 ∧
      s.deferCause n ≠ 0) fun s n =>
    ((s.set n DRESS.STATUS_STATE 4).set n DRESS.STATUS_DEFER_CAUSE (s.deferCause n)).modDress n fun x => { x with waited := true }) ∧
  (∀ est wait, Event (fun n => .measureWindowEnd n est wait) (fun s n => s.dressState n = 5) fun s n =>
    let t := ((s.addWait n wait).addRun n (0 + s.dressWindowPs n)).modDress n fun x =>
      { x with measured := (s.chan n).dress.measured + 1, most := max x.most (min ((s.chan n).dress.measured + 1) 15) }
    let todo := t.toStep n est
    if todo = [] then t.phaseEnd n false
    else
      let u := (t.offlineTrims n todo).modDress n fun x => { x with round := x.round + 1 }
      if max 1 (s.get n DRESS.CFG_MAX_ROUNDS) ≤ (u.chan n).dress.round then u.phaseEnd n true else u) ∧
  (∀ est wait, Event (fun n => .measureWindowEnd n est wait) (fun s n => s.dressState n = 2 ∧
      ¬ ((s.chan n).dress.scopes.head? = some 0 ∧ s.shadowMode n = true)) fun s n =>
    let gap := if (s.chan n).dress.round = 0 then 0 else s.stepPs n
    let t := ((s.addWait n wait).addRun n (gap + s.dressWindowPs n)).modDress n fun x =>
      { x with measured := (s.chan n).dress.measured + 1, most := max x.most (min ((s.chan n).dress.measured + 1) 15) }
    let r := t.splitRails n ((t.toStep n est).map fun e => (e.index, decide (0 < e.quarters)))
    if r.2.dressState n ≠ 2 then r.2
    else if r.1 = [] then (r.2.scopeEnd n 1).levels n
    else (r.2.modDress n fun x => { x with due := r.1 }).set n DRESS.STATUS_STATE 3) ∧
  Event .firstPassTrigger (fun s n => s.firstTrigger n = true) (fun s n => (s.autoTrigger n 3).levels n) ∧
  Event .firstPassTrigger (fun s n => s.firstTrigger n = false) (fun s _ => s) ∧
  Event .deferTimeout (fun s n => s.dressing n = false ∨ (s.chan n).dress.waited = false ∧ s.dressState n ≠ 4) (fun s _ => s) ∧
  Event .deferTimeout (fun s n => s.dressing n = true ∧ ((s.chan n).dress.waited = true ∨ s.dressState n = 4)) (fun s n =>
    let t := (s.raise n DRESS.FLT_PASS_TIMEOUT).setSat n DRESS.DEFER_US (1000 * max 1 (s.get n DRESS.DEFER_CFG_LIMIT_MS))
    if t.dressing n then ((t.passCut n 3 8).irq n DRESS.IRQ_PASS_TIMEOUT).levels n else t.irq n DRESS.IRQ_PASS_TIMEOUT) ∧
  Event .dressFsmPar (fun _ _ => True) (fun s n => (s.raiseFsm n DRESS.FLT_DRESS_FSM_PAR).levels n)

/-- The Millrace transmitter: a frame starts where the transmitter may send, none is on the air and its gap has passed: the
answer first, then the beacon, the echo and the queue (R301, R302, R315). Its end counts it and keeps the gap, a beacon's with
ECHO_EVERY asking for an echo in its turn, a cut frame ends as aborted (R303, R312); FLUSH empties the queue and the slots; ECHO
and a due beacon fill theirs (R301, R312, R315). -/
def Obligations.TheMillraceSendsInItsOrder : Prop :=
  Event .beaconDue (fun s n => s.get n MRACE.BEACON_CFG_PERIOD ≠ 0 ∧ s.chState n ≠ 0) (fun s n =>
    (s.modMr n fun x => { x with beacon := true }).mrStatus n) ∧
  (∀ e, Event .mrFrameStart (fun s n => s.mrTxMay n = true ∧ (s.chan n).mr.air = none ∧ (s.chan n).mr.gapEnd ≤ s.dev.time.units ∧
      (s.chan n).mr.rsp = some e) (fun s n =>
    ((s.modMr n fun y => { y with rsp := none }).mrLocal n 4 e.dst (leBytes e.seq 2 ++ e.ts.bytes ++
      leBytes (((s.mrSync n).units + 2 ^ 64 - e.rx.units) % 2 ^ 64) 8 ++ [0, 0])).mrStatus n)) ∧
  Event .mrFrameStart (fun s n => s.mrTxMay n = true ∧ (s.chan n).mr.air = none ∧ (s.chan n).mr.gapEnd ≤ s.dev.time.units ∧
      (s.chan n).mr.rsp = none ∧ (s.chan n).mr.beacon = true) (fun s n =>
    ((s.modMr n fun y => { y with beacon := false }).mrLocal n 2 mrBroadcast (s.beaconBytes n)).mrStatus n) ∧
  Event .mrFrameStart (fun s n => s.mrTxMay n = true ∧ (s.chan n).mr.air = none ∧ (s.chan n).mr.gapEnd ≤ s.dev.time.units ∧
      (s.chan n).mr.rsp = none ∧ (s.chan n).mr.beacon = false ∧ (s.chan n).mr.echo = true) (fun s n =>
    ((s.modMr n fun y => { y with echo := false }).mrLocal n 3
      (if s.is n MRACE.STATUS_FAR_VALID then s.get n MRACE.FAR_ID_LO + s.get n MRACE.FAR_ID_HI_ID * 2 ^ 32 else mrBroadcast)
      []).mrStatus n) ∧
  Event .mrFrameStart (fun s n => s.mrTxMay n = true ∧ (s.chan n).mr.air = none ∧ (s.chan n).mr.gapEnd ≤ s.dev.time.units ∧
      (s.chan n).mr.rsp = none ∧ (s.chan n).mr.beacon = false ∧ (s.chan n).mr.echo = false)
    (fun s n => (s.mrFromQueue n (s.chan n).mr.queue).mrStatus n) ∧
  Event .mrFrameStart (fun s n => s.mrTxMay n = false ∨ (s.chan n).mr.air.isSome = true ∨ s.dev.time.units < (s.chan n).mr.gapEnd)
    (fun s _ => s) ∧
  (∀ o, Event .mrFrameEnd (fun s n => (s.chan n).mr.air = some o ∧ (s.chan n).mr.cut = false) fun s n =>
    let e := s.get n MRACE.BEACON_CFG_ECHO_EVERY
    let t := ((((s.irq n MRACE.IRQ_TX_DONE).incr n MRACE.TX_FRAMES).set n MRACE.TX_LAST_SENT_SEQ o.frame.seq).count n 0x40 2 0).modMr
      n fun x => { x with gapEnd := s.mrGapFrom n }
    let u := (if o.own then t else t.incr n MRLY.RELAY_TX).modMr n fun x =>
      if o.frame.typ = 2 ∧ o.own = true ∧ e ≠ 0 then
        if e ≤ x.sinceEcho + 1 then { x with air := none, slopes := [], sinceEcho := 0, echo := true }
        else { x with air := none, slopes := [], sinceEcho := x.sinceEcho + 1 }
      else { x with air := none, slopes := [] }
    (u.mrTxLevel n).mrStatus n) ∧
  (∀ o, Event .mrTxAbort (fun s n => (s.chan n).mr.air = some o ∧ (s.chan n).mr.cut = true) fun s n =>
    (((((s.irq n MRACE.IRQ_TX_ABORTED).incr n MRACE.TX_ABORTED).set n MRACE.TX_LAST_ABORT_SEQ o.frame.seq).modMr n fun x =>
      { x with air := none, slopes := [], cut := false, gapEnd := s.mrGapFrom n }).mrTxLevel n).mrStatus n) ∧
  Request .txFlush MRACE.CMD_TX_FLUSH (fun s n =>
    (s.modMr n fun x => { x with queue := [], beacon := false, echo := false, rsp := none }).mrStatus n) ∧
  Request .echo MRACE.CMD_ECHO (fun s n => (s.modMr n fun x => { x with echo := true }).mrStatus n)

/-- The Millrace receiver and the relay: preamble, sync word, header and payload follow one another, each failure counted and
ending the frame (R304 to R308); POP takes the oldest frame, on an empty FIFO none (R309); a silent far end is lost (R314). A
written word of a table entry is stored with the staged second word (R318); duplicates expire (R320); a parity error in the
queue, a slot or the FIFO drops what it spoils, in a table entry it shuts the entry out, in the cache it drops the entry, and in
a state machine it raises MR_FSM_PAR (R323). -/
def Obligations.TheMillraceReceivesAndRelays : Prop :=
  Event .preambleDetect (fun s n => s.mrRx n = 1) (fun s n => s.set n MRACE.STATUS_RX_STATE 2) ∧
  Event .preambleDetect (fun s n => s.mrRx n ≠ 1) (fun s _ => s) ∧
  (∀ gain, Event (fun n => .syncDetect n gain) (fun s n => s.mrRx n = 2) fun s n =>
    let t := (s.set n MRACE.STATUS_RX_STATE 3).set n MRACE.STATUS_RX_GAIN_FROZEN 1
    if s.is n MRACE.CFG_RX_GAIN_MAN then t else t.set n MRACE.RX_GAIN_CODE gain.toNat) ∧
  Event .rxNosync (fun s n => s.mrRx n = 2) (fun s n => s.mrRxErr n 2 MRACE.RX_NOSYNC) ∧
  (∀ h : List Byte, Event (fun n => .headerDecoded n h) (fun s n => s.mrRx n = 3) fun s n =>
    if leNat ((h.drop 32).take 2) = crc16 0xFFFF (h.take 32) ∧ mrLen h ≤ 256 then
      (s.set n MRACE.STATUS_RX_STATE 4).modMr n fun x => { x with header := h.take 34 }
    else s.mrRxErr n 1 MRACE.RX_HDR_ERR) ∧
  (∀ p : MrPayload, Event (fun n => .payloadDecoded n p) (fun s n => s.mrRx n = 4) fun s n =>
    let h := (s.chan n).mr.header
    if leNat ((p.bytes.drop (mrLen h)).take 4) = crc32 0xFFFFFFFF (h ++ p.bytes.take (mrLen h)) then
      s.mrAccept n (MrFrame.ofBytes h (p.bytes.take (mrLen h))) (TimeVal.ofUnits (s.dev.time.units - p.back)) p.rssi p.ppm
    else s.mrRxErr n 0 MRACE.RX_CRC_ERR) ∧
  Event .farLost (fun s n => s.is n MRACE.STATUS_FAR_VALID = true) (fun s n =>
    (((s.raise n MRACE.FLT_FAR_LOST).irq n MRACE.IRQ_FAR_LOST).set n MRACE.STATUS_FAR_VALID 0).setSat n MRACE.FAR_LOCAL_SINCE_MS
      (10 * max 1 (s.get n MRACE.FAR_CFG_TIMEOUT))) ∧
  Request .rxPop MRACE.CMD_RX_POP (fun s n => s.fifoCheck n (s.chan n).mr.fifo.tail) ∧
  (∀ k, When (.dupExpire k) (fun _ => True) fun s => s.modDev fun d => { d with dup := d.dup.eraseIdx k }) ∧
  (∀ (e : Fin 64) (data : Word) (n : Ch), Put (.relayEntryWrite n e data) ((MRLY.ENTRY_W0 e.val).addr n) reqHost (fun _ => True) fun s =>
    ((s.modMr n fun x => { x with relayBad := x.relayBad.filter fun k => k != e.val,
                                  relayTag := x.relayTag.filter fun k => k != e.val }).relayWord n (MRLY.ENTRY_W0 e.val) e.val data).modMr n
      fun x => { x with relay := (x.relay.filter fun p => p.1 != e.val) ++
                                 [(e.val, data, BitVec.ofNat 32 (s.get n (MRLY.ENTRY_W1 e.val)))] }) ∧
  (∀ k, Event (fun n => .mrMemPar n (.fifo k)) (fun s n => k < ((s.raise n MRACE.FLT_MR_MEM_PAR).chan n).mr.fifo.length) fun s n =>
    (((s.raise n MRACE.FLT_MR_MEM_PAR).modMr n fun y => { y with fifo := y.fifo.eraseIdx k }).incr n MRACE.RX_DROP_FULL).mrStatus n) ∧
  (∀ k, Event (fun n => .mrMemPar n (.queue k)) (fun s n => k < ((s.raise n MRACE.FLT_MR_MEM_PAR).chan n).mr.queue.length) fun s n =>
    (((s.raise n MRACE.FLT_MR_MEM_PAR).modMr n fun y => { y with queue := y.queue.eraseIdx k }).incr n MRACE.TX_ABORTED).mrStatus n) ∧
  Event (fun n => .mrMemPar n (.slot 1)) (fun s n => ((s.raise n MRACE.FLT_MR_MEM_PAR).chan n).mr.beacon = true) (fun s n =>
    (((s.raise n MRACE.FLT_MR_MEM_PAR).modMr n fun y => { y with beacon := false }).incr n MRACE.TX_ABORTED).mrStatus n) ∧
  (∀ e, Event (fun n => .relayPar n (.table e)) (fun _ _ => True) fun s n =>
    (s.raise n MRLY.FLT_RELAY_PAR).modMr n fun x => { x with relayBad := x.relayBad ++ [e.val] }) ∧
  (∀ k, Event (fun n => .relayPar n (.cache k)) (fun _ _ => True) fun s n =>
    (s.raise n MRLY.FLT_RELAY_PAR).modDev fun d => { d with dup := d.dup.eraseIdx k }) ∧
  (∀ k, Event (fun n => .mrFsmPar ⟨n, k⟩) (fun _ _ => True) fun s n => (s.raiseFsm n MRACE.FLT_MR_FSM_PAR k.val).levels n)


/-! ## The Gauge (chapter 13) -/

/-- The Gauge: a trigger starts a run where the block may and is idle, else waits, or is lost where one waits already; without
EN or in Trial it does nothing, and neither does a timer that is not selected (R333). A completed entry's value, flags and run
number are written together, a disagreement of both converters is a fault, and the last entry ends the run (R332, R334, R336). A
stream falls due and its result is written (R337); a die reading is written as valid or not, the third invalid one in a row
being a fault (R338); a diagnosis is refused or runs and is judged against its tolerance (R340); a parity error raises its fault
(R342); CLR_STATS clears (R343). -/
def Obligations.TheGaugeRunsItsSequencesStreamsAndTests : Prop :=
  RequestWhen .gaugeTrigger GAUGE.CMD_TRIGGER (fun s n => s.gaugeMay n = true ∧ s.is n GAUGE.STATUS_SEQ_BUSY = false ∧
      s.is n GAUGE.BUSY_LONG_OP = false) (fun s n => s.runStart n) ∧
  RequestWhen .gaugeTrigger GAUGE.CMD_TRIGGER (fun s n => s.is n GAUGE.CTRL_EN = true ∧ s.inTrial n = false ∧
      (s.gaugeMay n = false ∨ s.is n GAUGE.STATUS_SEQ_BUSY = true ∨ s.is n GAUGE.BUSY_LONG_OP = true)) (fun s n =>
    if s.is n GAUGE.STATUS_TRIG_PENDING then
      ((s.sat n GAUGE.COUNTS_TRIGGER_LOST).irq n GAUGE.IRQ_TRIG_LOST).count n 0x51 0 0
    else s.set n GAUGE.STATUS_TRIG_PENDING 1) ∧
  RequestWhen .gaugeTrigger GAUGE.CMD_TRIGGER (fun s n => s.is n GAUGE.CTRL_EN = false ∨ s.inTrial n = true) (fun s _ => s) ∧
  (∀ second, Event (fun n => .gaugeTimerTrigger n second) (fun s n => s.dev.refclk = true ∧
      bitOf (s.get n GAUGE.SEQ_CFG_TRIG_SRC) (if second then 1 else 0) = true ∧ s.is n GAUGE.CTRL_EN = true ∧
      s.inTrial n = false ∧ s.is n GAUGE.STATUS_SEQ_BUSY = true) fun s n =>
    if s.is n GAUGE.STATUS_TRIG_PENDING = true then
      ((s.sat n GAUGE.COUNTS_TRIGGER_LOST).irq n GAUGE.IRQ_TRIG_LOST).count n 0x51 0 0
    else s.set n GAUGE.STATUS_TRIG_PENDING 1) ∧
  (∀ second, Event (fun n => .gaugeTimerTrigger n second) (fun s n => s.dev.refclk = true ∧
      bitOf (s.get n GAUGE.SEQ_CFG_TRIG_SRC) (if second then 1 else 0) = true ∧ s.gaugeMay n = true ∧
      s.is n GAUGE.STATUS_SEQ_BUSY = false ∧ s.is n GAUGE.BUSY_LONG_OP = false) fun s n => s.runStart n) ∧
  (∀ second, Event (fun n => .gaugeTimerTrigger n second) (fun s n => s.dev.refclk = false ∨
      bitOf (s.get n GAUGE.SEQ_CFG_TRIG_SRC) (if second then 1 else 0) = false) fun s _ => s) ∧
  (∀ va vb : BitVec 16, Event (fun n => .entryComplete n va vb) (fun s n => s.dev.refclk = true ∧
      s.is n GAUGE.STATUS_SEQ_BUSY = true ∧ s.is n GAUGE.FLT_GAUGE_FSM_PAR = false ∧ s.get n GAUGE.INJECT_TARGET ≠ 2 ∧
      (entConv ((s.chan n).gauge.entries.getD (s.get n GAUGE.STATUS_CUR_ENTRY) 0) ≠ 2 ∨
        (va.toNat - vb.toNat) + (vb.toNat - va.toNat) ≤ s.get n GAUGE.CHECK_WINDOW_Q)) fun s n =>
    let e := s.get n GAUGE.STATUS_CUR_ENTRY
    let w := (s.chan n).gauge.entries.getD e 0
    let a := if entConv w = 1 then vb.toNat else va.toNat
    let t := ((s.entryConverted n w).writeResult n e w a vb.toNat false).noteRxpwr n (entInput w) (entPga w) a
    (if w.getLsbD 31 = true then t.irq n GAUGE.IRQ_ENTRY_DONE else t).entryNext n e) ∧
  (∀ va vb : BitVec 16, Event (fun n => .entryComplete n va vb) (fun s n => s.dev.refclk = true ∧
      s.is n GAUGE.STATUS_SEQ_BUSY = true ∧ s.is n GAUGE.FLT_GAUGE_FSM_PAR = false ∧ s.get n GAUGE.INJECT_TARGET ≠ 2 ∧
      entConv ((s.chan n).gauge.entries.getD (s.get n GAUGE.STATUS_CUR_ENTRY) 0) = 2 ∧
      s.get n GAUGE.CHECK_WINDOW_Q < (va.toNat - vb.toNat) + (vb.toNat - va.toNat)) fun s n =>
    let e := s.get n GAUGE.STATUS_CUR_ENTRY
    let w := (s.chan n).gauge.entries.getD e 0
    let t := s.raise n GAUGE.FLT_GAUGE_DISAGREE
    let u := ((((t.entryConverted n w).writeResult n e w va.toNat vb.toNat true).disagreed n e
      ((va.toNat - vb.toNat) + (vb.toNat - va.toNat))).noteRxpwr n (entInput w) (entPga w) va.toNat)
    if t.is n GAUGE.STATUS_SEQ_BUSY = false then t
    else (if w.getLsbD 31 = true then u.irq n GAUGE.IRQ_ENTRY_DONE else u).entryNext n e) ∧
  (∀ (s : State) (n : Ch) (e : Nat), (s.chan n).gauge.len ≤ e → s.entryNext n e =
    (((s.set n GAUGE.STATUS_SEQ_BUSY 0).incr n GAUGE.RUNS).irq n GAUGE.IRQ_SEQ_DONE).gaugeNext n) ∧
  (∀ (s : State) (n : Ch) (e : Nat), e < (s.chan n).gauge.len → s.entryNext n e = s.entryStart n (e + 1)) ∧
  (∀ k, Event (fun n => .streamDue n k) (fun s n => s.dev.refclk = true ∧ s.is n (streamActive k) = true ∧ s.chState n ≠ 3)
    fun s n => s.setStreamDue n k true) ∧
  (∀ k, Event (fun n => .streamDue n k) (fun s n => s.dev.refclk = false ∨ s.is n (streamActive k) = false ∨ s.chState n = 3)
    fun s _ => s) ∧
  (∀ k (v : BitVec 16), Event (fun n => .streamResult n k v) (fun s n => s.dev.refclk = true ∧ s.streamDue n k = true ∧
      s.is n GAUGE.FLT_GAUGE_FSM_PAR = false) fun s n => s.streamWrite n k v.toNat) ∧
  Event .dieTempDue (fun s n => s.dev.refclk = true ∧ s.analogOn n = true)
    (fun s n => s.modGauge n fun x => { x with die := true }) ∧
  Event .dieTempDue (fun s n => s.dev.refclk = false ∨ s.analogOn n = false) (fun s _ => s) ∧
  (∀ code : BitVec 14, Event (fun n => .dieTempResult n code) (fun s n => s.dev.refclk = true ∧ (s.chan n).gauge.die = true ∧
      s.is n GAUGE.FLT_GAUGE_FSM_PAR = false ∧ (code = 0 ∨ code.toNat = 16383)) fun s n =>
    let runs := (s.chan n).gauge.invalid + 1
    let t := if 3 ≤ runs then s.raise n GAUGE.FLT_DIE_TEMP_INVALID else s
    let d := discards (t.gaugePrev n true 11) 11 0 3
    let u := ((t.converted n true 11 0 (d + 2)).modGauge n fun x => { x with die := false, invalid := runs }).set n
      GAUGE.DIE_TEMP_CODE code.toNat
    (((u.setI n GAUGE.DIE_TEMP_C16 (dieC16 (Config.tempSeed n.val) code.toNat)).set n GAUGE.DIE_TEMP_VALID 0).unitEnd n
      true).set n DRESS.STATUS_TEMP_VALID 0) ∧
  (∀ code : BitVec 14, code ≠ 0 → code.toNat ≠ 16383 → Event (fun n => .dieTempResult n code) (fun s n => s.dev.refclk = true ∧
      (s.chan n).gauge.die = true ∧ s.is n GAUGE.FLT_GAUGE_FSM_PAR = false) fun s n =>
    let c16 := dieC16 (Config.tempSeed n.val) code.toNat
    let ok := decide (-640 ≤ c16 ∧ c16 ≤ 2400)
    let runs := if ok then 0 else (s.chan n).gauge.invalid + 1
    let t := if 3 ≤ runs then s.raise n GAUGE.FLT_DIE_TEMP_INVALID else s
    let d := discards (t.gaugePrev n true 11) 11 0 3
    let u := ((t.converted n true 11 0 (d + 2)).modGauge n fun x => { x with die := false, invalid := runs }).set n
      GAUGE.DIE_TEMP_CODE code.toNat
    ((((u.setI n GAUGE.DIE_TEMP_C16 c16).set n GAUGE.DIE_TEMP_VALID (if ok then 1 else 0)).unitEnd n true).dressTemp n
      (if ok then some c16 else none))) ∧
  RequestWhen .gaugeDiag GAUGE.CMD_DIAG (fun s n => 7 < s.get n GAUGE.DIAG_CFG_PATH ∨ s.is n GAUGE.CTRL_EN = false ∨
      s.get n GAUGE.DIAG_CFG_PATH = 4 ∧ s.is n GAUGE.STATUS_STREAM0_ACTIVE = true ∨
      s.get n GAUGE.DIAG_CFG_PATH = 0 ∧ s.is n GAUGE.STATUS_STREAM1_ACTIVE = true) (fun s n =>
    (s.set n GAUGE.DIAG_RESULT (3 * 2 ^ 30)).irq n GAUGE.IRQ_DIAG_DONE) ∧
  RequestWhen .gaugeDiag GAUGE.CMD_DIAG (fun s n => s.get n GAUGE.DIAG_CFG_PATH ≤ 7 ∧ s.is n GAUGE.CTRL_EN = true ∧
      (s.get n GAUGE.DIAG_CFG_PATH ≠ 4 ∨ s.is n GAUGE.STATUS_STREAM0_ACTIVE = false) ∧
      (s.get n GAUGE.DIAG_CFG_PATH ≠ 0 ∨ s.is n GAUGE.STATUS_STREAM1_ACTIVE = false)) (fun s n =>
    ((s.set n GAUGE.BUSY_LONG_OP 1).modGauge n fun x =>
      { x with diagCfg := s.word (GAUGE.DIAG_CFG.addr n), diagWait := true }).levels n) ∧
  (∀ v : BitVec 16, Event (fun n => .diagDone n v) (fun s n => s.dev.refclk = true ∧ s.is n GAUGE.STATUS_DIAG_BUSY = true ∧
      s.is n GAUGE.FLT_GAUGE_FSM_PAR = false) fun s n =>
    let c := (s.chan n).gauge.diagCfg
    let e := min 16383 ((2 * getBits c 16 10 * 2 ^ getBits c 6 2 * 16384 + 1023) / 2046)
    let ok := decide ((wholeLsb v.toNat - e) + (e - wholeLsb v.toNat) ≤ max 1 (getBits c 8 8))
    let r := if ok then s else s.raise n GAUGE.FLT_GAUGE_PATH_FAIL
    let t := (r.converted n (c.getLsbD 4) (getBits c 0 4) (getBits c 6 2) (35 + (r.chan n).gauge.extra)).modGauge n fun x =>
      { x with dirty := some (getBits c 0 4) }
    if r.is n GAUGE.STATUS_DIAG_BUSY = false then r
    else ((((t.set n GAUGE.DIAG_RESULT ((if ok then 1 else 2) * 2 ^ 30 + e * 2 ^ 16 + wholeLsb v.toNat)).set n GAUGE.STATUS_DIAG_BUSY
      0).set n GAUGE.BUSY_LONG_OP 0).irq n GAUGE.IRQ_DIAG_DONE).gaugeNext n) ∧
  Request .gaugeClrStats GAUGE.CMD_CLR_STATS (fun s n => (s.set n GAUGE.COUNTS 0).set n GAUGE.LAST_DISAGREE 0) ∧
  (∀ k, Event (fun n => .gaugeFsmPar ⟨n, k⟩) (fun _ _ => True) fun s n => (s.raiseFsm n GAUGE.FLT_GAUGE_FSM_PAR k.val).levels n)

/-- The DACs: an accepted CFG write is stored and clamps, starts a range change or flushes (R348, R349); a bipolar span with
VOUTN absent is not taken but raises SPAN_REFUSED (R345); a DATA write replaces or queues a code, and a full queue refuses it
(R348); a tick pops one code, the first after the clamp period ending the range change (R349), and an empty stream holds as an
underrun (R346, R348); without REFCLK no tick and no readback happens (R22); VOUTN lost clamps the bipolar DACs (R345); a
readback falls due under SUPV_CFG and is skipped where the output moved, otherwise compared, an injected one with its code 1,024
higher (R352, R359); a parity error raises OUT_FSM_PAR (R359). -/
def Obligations.TheDacsTakeQueueAndClampTheirCodes : Prop :=
  (∀ (d : Fin 3) (data : Word) (n : Ch), Put (.dacCfgWrite n d data) ((OUT.D_CFG d).addr n) reqHost
    (fun s => s.kilnOwns n d = false ∧ (s.voutn = true ∨ getBits data 8 3 < 3 ∨ 4 < getBits data 8 3)) fun s =>
    (((s.set n (OUT.D_CFG d) (data.toNat &&& 0x01310701)).modDac n d fun x => { x with parked := false }).cfgEffect n d
      (s.get n (OUT.D_CFG_SPAN d)) (s.get n (OUT.D_CFG_MODE d))).levels n) ∧
  (∀ (d : Fin 3) (data : Word) (n : Ch), getBits data 8 3 = 3 → Put (.dacCfgWrite n d data) ((OUT.D_CFG d).addr n) reqHost
    (fun s => s.kilnOwns n d = false ∧ s.voutn = false) fun s => s.irq n OUT.IRQ_SPAN_REFUSED) ∧
  (∀ (s : State) (n : Ch) (d : Fin 3) (span mode : Nat), s.dacState n d ≠ 0 → s.cfgEffect n d span mode =
    if s.is n (OUT.D_CFG_EN d) = false then s.dacClamp n d 0
    else if s.dacState n d = 5 ∨ s.get n (OUT.D_CFG_SPAN d) ≠ span then s.rangeChange n d
    else if s.get n (OUT.D_CFG_MODE d) ≠ mode then s.setQueue n d []
    else s) ∧
  (∀ (d : Fin 3) (code : BitVec 16) (n : Ch), Put (.dacDataPush n d code) ((OUT.D_DATA d).addr n) reqHost
    (fun s => s.kilnOwns n d = false ∧ s.dacState n d ≠ 0 ∧ s.dacState n d ≠ 5 ∧ s.get n (OUT.D_CFG_MODE d) = 0) fun s =>
    (s.modDac n d fun x => { x with parked := false }).setQueue n d [code.toNat]) ∧
  (∀ (d : Fin 3) (code : BitVec 16) (n : Ch), Put (.dacDataPush n d code) ((OUT.D_DATA d).addr n) reqHost
    (fun s => s.kilnOwns n d = false ∧ s.dacState n d ≠ 0 ∧ s.dacState n d ≠ 5 ∧ s.get n (OUT.D_CFG_MODE d) = 1 ∧
      (s.dac n d).queue.length < 64) fun s =>
    (s.modDac n d fun x => { x with parked := false }).setQueue n d ((s.dac n d).queue ++ [code.toNat])) ∧
  (∀ (s : State) (n : Ch) (d : Fin 3) (code : Nat), s.kilnOwns n d = false → s.dacState n d ≠ 0 → s.dacState n d ≠ 5 →
      s.get n (OUT.D_CFG_MODE d) ≠ 0 → 64 ≤ (s.dac n d).queue.length → s.pushDac n d code =
    (false, ((((s.modDac n d fun x => { x with parked := false }).set n (OUT.D_FLAGS_OVERFLOW d) 1).sat n
      (OUT.D_COUNTS_OVERFLOWS d)).irq n (OUT.IRQ_OVERFLOW.bit d.val)))) ∧
  (∀ d : Fin 3, Event (fun n => .dacTick n d) (fun s n => s.dev.refclk = false ∨ s.chState n = 3) fun s _ => s) ∧
  (∀ (d : Fin 3) (c : Nat) (q : List Nat), Event (fun n => .dacTick n d) (fun s n => s.dev.refclk = true ∧ s.chState n ≠ 3 ∧
      s.dacState n d = 1 ∧ (s.dac n d).queue = c :: q ∧ (s.dac n d).released = true ∧ s.dacSpan n d ≠ 0) fun s n =>
    (((s.setQueue n d q).dacOut n d c).setDacState n d 2).irq n (OUT.IRQ_RANGE_DONE.bit d.val)) ∧
  (∀ d : Fin 3, Event (fun n => .dacTick n d) (fun s n => s.dacState n d = 1 ∧
      ((s.dac n d).released = false ∨ s.dacSpan n d = 0)) fun s _ => s) ∧
  (∀ (d : Fin 3) (c : Nat) (q : List Nat), Event (fun n => .dacTick n d) (fun s n => s.dev.refclk = true ∧ s.chState n ≠ 3 ∧
      (s.dacState n d = 2 ∨ s.dacState n d = 3) ∧ (s.dac n d).queue = c :: q) fun s n =>
    ((s.setQueue n d q).dacOut n d c).setDacState n d 2) ∧
  (∀ d : Fin 3, Event (fun n => .dacTick n d) (fun s n => s.dev.refclk = true ∧ s.chState n ≠ 3 ∧ s.dacState n d = 2 ∧
      (s.dac n d).queue = [] ∧ s.get n (OUT.D_CFG_MODE d) ≠ 0 ∧ s.kilnOwns n d = false ∧ (s.dac n d).parked = false) fun s n =>
    (((s.setDacState n d 3).set n (OUT.D_FLAGS_UNDERRUN d) 1).sat n (OUT.D_COUNTS_UNDERRUNS d)).irq n
      (OUT.IRQ_UNDERRUN.bit d.val)) ∧
  (∀ d : Fin 3, Event (fun n => .clampPeriodEnd n d) (fun s n => s.dev.refclk = true ∧ s.dacState n d = 1)
    fun s n => s.modDac n d fun x => { x with released := true }) ∧
  (∀ d : Fin 3, Event (fun n => .clampPeriodEnd n d) (fun s n => s.dev.refclk = false ∨ s.dacState n d ≠ 1) fun s _ => s) ∧
  When .voutnLost (fun _ => True) (fun s => (s.modDev fun d => { d with rails := d.rails &&& 0x1F }).voutnLostAll allCh) ∧
  (∀ (s : State) (n : Ch) (d : Fin 3), s.losesVoutn n d = true → s.voutnClamp n d = s.dacClamp n d 5) ∧
  When .voutnReturn (fun _ => True) (fun s => s.modDev fun d => { d with rails := d.rails ||| 0x20 }) ∧
  (∀ d : Fin 3, Event (fun n => .readbackDue n d) (fun s n => s.dev.refclk = true ∧ s.is n (OUT.D_SUPV_CFG_EN d) = true ∧
      s.dacSpan n d ≠ 0 ∧ s.analogOn n = true ∧ (s.chan n).gauge.readback.contains d.val = false) fun s n =>
    (s.modGauge n fun x => { x with readback := x.readback ++ [d.val] }).modDac n d fun x => { x with moved := false }) ∧
  (∀ d : Fin 3, Event (fun n => .readbackDue n d) (fun s n => s.dev.refclk = false ∨ s.is n (OUT.D_SUPV_CFG_EN d) = false ∨
      s.dacSpan n d = 0 ∨ s.analogOn n = false ∨ (s.chan n).gauge.readback.contains d.val = true) fun s _ => s) ∧
  (∀ (d : Fin 3) (v : BitVec 16) (moved : Bool), Event (fun n => .readbackResult n d v moved) (fun s n => s.dev.refclk = false ∨
      (s.chan n).gauge.readback.contains d.val = false ∨ s.is n GAUGE.FLT_GAUGE_FSM_PAR = true) fun s _ => s) ∧
  (∀ (d : Fin 3) (v : BitVec 16) (moved : Bool), Event (fun n => .readbackResult n d v moved) (fun s n => s.dev.refclk = true ∧
      (s.chan n).gauge.readback.contains d.val = true ∧ s.is n GAUGE.FLT_GAUGE_FSM_PAR = false) fun s n =>
    let skip := moved || (s.dac n d).moved
    let hit := !skip && s.armed n OUT.STATUS 0 && s.get n OUT.INJECT_TARGET == d.val + 1
    let code := if hit = true then min 65535 (v.toNat + 1024) else v.toNat
    let u := if hit = true then s.disarm n OUT.STATUS 0 else s
    let k := discards (u.gaugePrev n true (8 + d.val)) (8 + d.val) 0 3
    let t := (((u.converted n true (8 + d.val) 0 (k + 2)).modGauge n fun x =>
      { x with readback := x.readback.filter fun k => k != d.val }).unitEnd n true).set n (OUT.D_SUPV_STAT_LAST d) code
    if skip = true then t.readbackSkip n d else t.readbackCompare n d code hit) ∧
  Event .outFsmPar (fun _ _ => True) (fun s n => (s.raiseFsm n OUT.FLT_OUT_FSM_PAR).levels n)

/-- The Kiln: an EN write is stored, and in FAULT its rise is the cycle of EN that the way out asks for (R357); INTEG is
writable in OFF only (R355); a tick whose sample is good runs the law (R354), one without a good sample counts it, enough of
them entering FAULT with DAC2 at code 0 (R357), and the tick that finds EN 0 turns the Kiln off (R358); saturation for
SAT_CFG.MS raises its fault once (R355); a parity error enters FAULT, and in FAULT it is raised and no more (R358). Without
REFCLK no tick happens (R22). -/
def Obligations.TheKilnTakesOneSampleATick : Prop :=
  (∀ (on : Bool) (n : Ch), Put (.kilnEnWrite n on) (KILN.CTRL.addr n) reqHost (fun s => s.kilnState n ≠ 4)
    fun s => (s.set n KILN.CTRL_EN (if on = true then 1 else 0)).levels n) ∧
  (∀ (n : Ch), Put (.kilnEnWrite n true) (KILN.CTRL.addr n) reqHost (fun s => s.kilnState n = 4 ∧ s.is n KILN.CTRL_EN = false)
    fun s => ((s.set n KILN.CTRL_EN 1).modKiln n fun x => { x with cycled := true }).levels n) ∧
  (∀ (data : Word) (n : Ch), Put (.integWrite n false data) (KILN.INTEG_LO.addr n) reqHost (fun s => s.kilnState n = 0)
    fun s => s.set n KILN.INTEG_LO data.toNat) ∧
  (∀ (data : Word) (n : Ch), Put (.integWrite n true data) (KILN.INTEG_HI_I.addr n) reqHost (fun s => s.kilnState n = 0)
    fun s => s.set n KILN.INTEG_HI_I data.toNat) ∧
  (∀ (data : Word) (n : Ch), Put (.integWrite n false data) (KILN.INTEG_LO.addr n) reqHost (fun s => s.kilnState n ≠ 0)
    fun s => s) ∧
  (∀ (data : Word) (n : Ch), Put (.integWrite n true data) (KILN.INTEG_HI_I.addr n) reqHost (fun s => s.kilnState n ≠ 0)
    fun s => s) ∧
  Event .kilnTick (fun s n => s.dev.refclk = true ∧ (s.kilnState n = 1 ∨ s.kilnState n = 2) ∧ s.is n KILN.CTRL_EN = true ∧
      s.is n GAUGE.STREAM0_DATA_NEW = true ∧ s.get n KILN.SENSOR_LO ≤ s.get n GAUGE.STREAM0_DATA_VALUE ∧
      s.get n GAUGE.STREAM0_DATA_VALUE ≤ s.get n KILN.SENSOR_HI) (fun s n =>
    ((s.streamTake n 0).kilnRun n (s.get n GAUGE.STREAM0_DATA_VALUE)).kilnAfter n) ∧
  Event .kilnTick (fun s n => s.dev.refclk = true ∧ (s.kilnState n = 1 ∨ s.kilnState n = 2) ∧ s.is n KILN.CTRL_EN = true ∧
      s.is n GAUGE.STREAM0_DATA_NEW = false ∧ (s.chan n).kiln.miss + 1 < max 1 (s.get n KILN.SENSOR_CFG_MISS_MAX)) (fun s n =>
    (((s.sat n KILN.COUNTS_MISSED).irq n KILN.IRQ_MISSED).modKiln n fun y =>
      { y with miss := (s.chan n).kiln.miss + 1 }).kilnAfter n) ∧
  Event .kilnTick (fun s n => s.dev.refclk = true ∧ (s.kilnState n = 1 ∨ s.kilnState n = 2) ∧ s.is n KILN.CTRL_EN = true ∧
      s.is n GAUGE.STREAM0_DATA_NEW = true ∧ (s.get n GAUGE.STREAM0_DATA_VALUE < s.get n KILN.SENSOR_LO ∨
        s.get n KILN.SENSOR_HI < s.get n GAUGE.STREAM0_DATA_VALUE) ∧
      (s.chan n).kiln.bad + 1 < max 1 (s.get n KILN.SENSOR_CFG_COUNT)) (fun s n =>
    ((((s.streamTake n 0).sat n KILN.COUNTS_SENSOR_BAD).irq n KILN.IRQ_SENSOR_BAD).modKiln n fun y =>
      { y with bad := (s.chan n).kiln.bad + 1 }).kilnAfter n) ∧
  (∀ (s : State) (n : Ch),
    let t := ((s.sat n KILN.COUNTS_MISSED).irq n KILN.IRQ_MISSED).modKiln n fun y => { y with miss := (s.chan n).kiln.miss + 1 }
    s.dev.refclk = true → s.kilnState n = 1 ∨ s.kilnState n = 2 → s.is n GAUGE.STREAM0_DATA_NEW = false →
    max 1 (s.get n KILN.SENSOR_CFG_MISS_MAX) ≤ (s.chan n).kiln.miss + 1 →
    (t.kilnFault n KILN.FLT_KILN_NO_SENSE).kilnState n = 4 →
    exec (.kilnTick n) s = .next (t.kilnFault n KILN.FLT_KILN_NO_SENSE)) ∧
  (∀ (s : State) (n : Ch) (f : Field), (s.raise n f).chState n ≠ 0 → (s.raise n f).outputsShut = false → s.kilnFault n f =
    (((((((s.raise n f).setQueue n 2 []).dacOut n 2 0).set n KILN.STATUS_STATE 4).set n KILN.BUSY_LONG_OP 0).set n
      KILN.INTEG_LO 0).set n KILN.INTEG_HI_I 0 |>.modKiln n fun x => { x with cycled := false }).levels n) ∧
  Event .kilnTick (fun s n => s.dev.refclk = true ∧ (s.kilnState n = 1 ∨ s.kilnState n = 2) ∧ s.is n KILN.CTRL_EN = false ∧
      s.is n GAUGE.STREAM0_DATA_NEW = true ∧ s.get n KILN.SENSOR_LO ≤ s.get n GAUGE.STREAM0_DATA_VALUE ∧
      s.get n GAUGE.STREAM0_DATA_VALUE ≤ s.get n KILN.SENSOR_HI) (fun s n => ((s.streamTake n 0).kilnOff n).levels n) ∧
  Event .kilnTick (fun s _ => s.dev.refclk = false) (fun s _ => s) ∧
  Event .kilnTick (fun s n => s.kilnState n ≠ 1 ∧ s.kilnState n ≠ 2) (fun s _ => s) ∧
  Event .kilnSat (fun s n => s.dev.refclk = true ∧ (s.kilnState n = 1 ∨ s.kilnState n = 2) ∧ s.get n KILN.SAT_CFG_MS ≠ 0 ∧
      (s.chan n).kiln.satDone = false ∧ (s.is n KILN.STATUS_AT_MAX = true ∨ s.is n KILN.STATUS_AT_MIN = true)) (fun s n =>
    ((s.raise n KILN.FLT_KILN_SAT).irq n KILN.IRQ_SAT).modKiln n fun x => { x with satDone := true }) ∧
  Event .kilnSat (fun s n => s.dev.refclk = false ∨ (s.kilnState n ≠ 1 ∧ s.kilnState n ≠ 2) ∨ s.get n KILN.SAT_CFG_MS = 0 ∨
      (s.chan n).kiln.satDone = true ∨ (s.is n KILN.STATUS_AT_MAX = false ∧ s.is n KILN.STATUS_AT_MIN = false)) (fun s _ => s) ∧
  Event .kilnFsmPar (fun s n => (s.raiseFsm n KILN.FLT_KILN_FSM_PAR).kilnState n ≠ 4) (fun s n =>
    (s.raiseFsm n KILN.FLT_KILN_FSM_PAR).kilnFault n KILN.FLT_KILN_FSM_PAR) ∧
  Event .kilnFsmPar (fun s n => (s.raiseFsm n KILN.FLT_KILN_FSM_PAR).kilnState n = 4) (fun s n =>
    s.raiseFsm n KILN.FLT_KILN_FSM_PAR)

/-- Tally: a frame counts in RUN alone, and only while its side hands frames on, a truncated one apart (R363, R364); in RUN it
adds to PARSED and is then truncated or spoiled in its key, of bad length, of bad FCS, keyless or counted (R365). An epoch
boundary in RUN starts the sweep, whose end clears the words that are left; the scan visits every context in RUN (R370, R371,
R375). SPILL_RD moves only over entries that stand, and a flush that waits goes on (R377, R378); FLUSH, SNAP, QUERY and INIT run
where Tally may and raise CMD_REFUSED elsewhere (R380, R381, R382); the end of INIT zeroes memories, pointers, EPOCH and
CTX_USED (R385); CLR_CNT zeroes the counters; a parity error stops Tally in FAULT (R387). -/
def Obligations.TallyCountsSweepsSpillsAndAnswers : Prop :=
  (∀ f : TallyFrame, Event (fun n => .tallyFrame n f) (fun s n => s.tallyState n ≠ 3 ∨
      s.tallyInput n = false ∧ f.truncated = false) fun s _ => s) ∧
  (∀ f : TallyFrame, Event (fun n => .tallyFrame n f) (fun s n => s.tallyState n = 3 ∧ f.truncated = true) fun s n =>
    (((s.sweepTo n f.swept).tallyCount n 0).count n 0x48 (s.tallySide n) 0).tallyCount n 3) ∧
  (∀ f : TallyFrame, f.truncated = false → (f.bytes.length < 64 ∨ 16383 < f.bytes.length) →
    Event (fun n => .tallyFrame n f) (fun s n => s.tallyState n = 3 ∧ s.tallyInput n = true) fun s n =>
    (((s.sweepTo n f.swept).tallyCount n 0).count n 0x48 (s.tallySide n) 0).tallyCount n 5) ∧
  (∀ (f : TallyFrame) (errors : List Nat), f.truncated = false → 64 ≤ f.bytes.length → f.bytes.length ≤ 16383 →
    f.errors = some errors → Event (fun n => .tallyFrame n f) (fun s n => s.tallyState n = 3 ∧ s.tallyInput n = true) fun s n =>
    let t := ((s.sweepTo n f.swept).tallyCount n 0).count n 0x48 (s.tallySide n) 0
    let tpl := s.get n TALLY.STATUS_TEMPLATE_ACTIVE
    if ∃ i ∈ errors, i ∈ keyBytes tpl f.bytes then t.tallyCount n 3 else t.frameFcs n tpl (frameKey tpl f.bytes)) ∧
  (∀ f : TallyFrame, f.truncated = false → 64 ≤ f.bytes.length → f.bytes.length ≤ 16383 → f.errors = none →
    Event (fun n => .tallyFrame n f) (fun s n => s.tallyState n = 3 ∧ s.tallyInput n = true) fun s n =>
    let t := ((s.sweepTo n f.swept).tallyCount n 0).count n 0x48 (s.tallySide n) 0
    let tpl := s.get n TALLY.STATUS_TEMPLATE_ACTIVE
    if crc32 0xFFFFFFFF (f.bytes.take (f.bytes.length - 4)) = leNat (f.bytes.drop (f.bytes.length - 4)) then
      match frameKey tpl f.bytes with
      | none => t.tallyCount n 4
      | some key => t.frameGood n tpl key f.bytes.length
    else t.frameFcs n tpl (frameKey tpl f.bytes)) ∧
  Event .epochBoundary (fun s n => s.tallyState n = 3) (fun s n =>
    ((((s.incr n TALLY.EPOCH).irq n TALLY.IRQ_EPOCH).set n TALLY.SWEEP_PTR_WORD 0).set n TALLY.STATUS_SWEEPING 1)) ∧
  Event .sweepDone (fun s n => s.is n TALLY.STATUS_SWEEPING = true ∧ s.tallyState n ≠ 4) (fun s n =>
    ((s.sweepTo n 131072).set n TALLY.STATUS_SWEEPING 0).irq n TALLY.IRQ_SWEEP_DONE) ∧
  Event .epochBoundary (fun s n => s.tallyState n ≠ 3) (fun s _ => s) ∧
  Event .sweepDone (fun s n => s.is n TALLY.STATUS_SWEEPING = false ∨ s.tallyState n = 4) (fun s _ => s) ∧
  Event .scanPass (fun s n => s.tallyState n ≠ 3) (fun s _ => s) ∧
  Event .scanPass (fun s n => s.tallyState n = 3) (fun s n => s.scanFrom n 0 131072) ∧
  (∀ (rd : BitVec 12) (n : Ch), Put (.spillRdWrite n rd) (TALLY.SPILL_RD.addr n) reqHost (fun s =>
      s.get n TALLY.SPILL_STAT_COUNT < spillCount (s.get n TALLY.SPILL_WR_IDX) rd.toNat) fun s => s.irq n TALLY.IRQ_SPILL_RD_BAD) ∧
  (∀ (rd : BitVec 12) (n : Ch), Put (.spillRdWrite n rd) (TALLY.SPILL_RD.addr n) reqHost (fun s =>
      spillCount (s.get n TALLY.SPILL_WR_IDX) rd.toNat ≤ s.get n TALLY.SPILL_STAT_COUNT) fun s =>
    let t := (s.set n TALLY.SPILL_RD_IDX rd.toNat).spillStat n
    if t.is n TALLY.STATUS_FLUSHING = true then t.flushRun n 131072 else t) ∧
  RequestWhen .tallyFlush TALLY.CMD_FLUSH (fun s n => s.tallyMay n = true) (fun s n =>
    (((s.set n TALLY.BUSY_LONG_OP 1).set n TALLY.STATUS_FLUSHING 1).modTally n fun x => { x with flushIdx := 0 }).flushRun n 131072) ∧
  Event .flushDone (fun s n => s.is n TALLY.STATUS_FLUSHING = true ∧ 131072 ≤ ((s.flushRun n 131072).chan n).tally.flushIdx)
    (fun s n => ((((s.flushRun n 131072).set n TALLY.STATUS_FLUSHING 0).set n TALLY.BUSY_LONG_OP 0).irq n
      TALLY.IRQ_FLUSH_DONE).levels n) ∧
  Event .flushDone (fun s n => s.is n TALLY.STATUS_FLUSHING = true ∧ ((s.flushRun n 131072).chan n).tally.flushIdx < 131072)
    (fun s n => s.flushRun n 131072) ∧
  Event .flushDone (fun s n => s.is n TALLY.STATUS_FLUSHING = false) (fun s _ => s) ∧
  RequestWhen .tallyFlush TALLY.CMD_FLUSH (fun s n => s.tallyMay n = false) (fun s n => s.irq n TALLY.IRQ_CMD_REFUSED) ∧
  RequestWhen .tallySnap TALLY.CMD_SNAP (fun s n => s.tallyMay n = true) (fun s n =>
    let x := s.ctxRead n (s.get n TALLY.SNAP_IDX_IDX) false
    let g := natGet x.1
    let t := ((((x.2.set n (TALLY.SNAP_KEY 0) (g 0 32)).set n (TALLY.SNAP_KEY 1) (g 32 32)).set n (TALLY.SNAP_KEY 2) (g 64 32)).set n
      TALLY.SNAP_KEY3 (g 96 16)).set n TALLY.SNAP_BYTES_LO (g 112 32)
    let u := ((t.set n TALLY.SNAP_BYTES_HI (g 144 16 + g 160 1 * 2 ^ 31)).set n TALLY.SNAP_FRAMES_LO (g 161 32)).set n
      TALLY.SNAP_FRAMES_HI (g 193 8 + g 201 1 * 2 ^ 31)
    (((u.set n TALLY.SNAP_FIRST_MS (g 202 24)).set n TALLY.SNAP_LAST_MS (g 226 24)).set n TALLY.SNAP_FCS_COUNT (g 250 6)).irq n
      TALLY.IRQ_SNAP_DONE) ∧
  RequestWhen .tallySnap TALLY.CMD_SNAP (fun s n => s.tallyMay n = false) (fun s n => s.irq n TALLY.IRQ_CMD_REFUSED) ∧
  RequestWhen .tallyQuery TALLY.CMD_QUERY (fun s n => s.tallyMay n = true) (fun s n => s.tallyQuery n) ∧
  RequestWhen .tallyQuery TALLY.CMD_QUERY (fun s n => s.tallyMay n = false) (fun s n => s.irq n TALLY.IRQ_CMD_REFUSED) ∧
  RequestWhen .tallyInit TALLY.CMD_INIT (fun s n => s.tallyMayInit n = true) (fun s n => (s.tallyInitStart n).levels n) ∧
  RequestWhen .tallyInit TALLY.CMD_INIT (fun s n => s.tallyMayInit n = false) (fun s n => s.irq n TALLY.IRQ_CMD_REFUSED) ∧
  (∀ (s : State) (n : Ch), (s.tallyMayInit n = true ↔ s.get n TOP.STATUS_MODE_ACTIVE = 1 ∧ s.get n TALLY.STATUS_STATE ≠ 4) ∧
    (s.tallyMay n = true ↔ s.tallyMayInit n = true ∧ s.get n TALLY.STATUS_INIT_DONE = 1)) ∧
  (∀ b < 4, wsFree (TALLY.CMD.addr 0) b = false) ∧
  Event .initDone (fun s n => s.tallyState n ≠ 1) (fun s _ => s) ∧
  Event .initDone (fun s n => s.tallyState n = 1) (fun s n =>
    let t := ((s.tallyZero (chMem n 0) 0 524288).tallyZero (chMem n 1) 0 524288).tallyZero (chMem n 2) 0 32768
    let u := (((((t.set n TALLY.SPILL_WR_IDX 0).set n TALLY.SPILL_RD_IDX 0).spillStat n).set n TALLY.EPOCH 0).set n
      TALLY.CTX_USED_COUNT 0).set n TALLY.SWEEP_PTR_WORD 0
    ((((((u.modTally n fun x => { x with seq := 0 }).set n TALLY.STATUS_INIT_DONE 1).set n TALLY.BUSY_LONG_OP 0).set n
      TALLY.STATUS_STATE 2).irq n TALLY.IRQ_INIT_DONE)).levels n) ∧
  Request .tallyClrCnt TALLY.CMD_CLR_CNT (fun s n => s.mapRegs (chPage n 0xF + 0x100) (chPage n 0xF + 0x160) fun _ _ => 0) ∧
  Event .tallyFsmPar (fun _ _ => True) (fun s n => ((((s.raiseFsm n TALLY.FLT_TALLY_FSM_PAR).set n TALLY.STATUS_STATE 4).set n
    TALLY.STATUS_FLUSHING 0).set n TALLY.STATUS_SWEEPING 0).set n TALLY.BUSY_LONG_OP 0)

/-- The counters: a selector write stores the selector and zeroes a counter that had a class together with its WRAP bit, of a
channel and of the device (R395, R399); a preset loads one half of a counter that has none and is discarded elsewhere (R396); a
read of the low word latches the high word and the WRAP bit for that requester alone (R393); a selector's parity error is a
fault and marks the selector (R413). -/
def Obligations.SelectorsPresetsAndReadsOfCountersObeyTheirRules : Prop :=
  (∀ (n : Ch) (c : Fin 64) (range : Bool) (data : Word) (req : Nat), Put (.selectorWrite (.ch n) c range data req)
    ((if range = true then CNT.RANGE c else CNT.SEL c).addr n) req (fun _ => True) fun s =>
    let t := ((if range = true then s.set n (CNT.RANGE c) data.toNat else s.set n (CNT.SEL c) (data.toNat &&& 0xFFFFCCFF)).selMended
      (.ch n) c).modHop n fun h => { h with selChanged := h.selChanged ||| 2 ^ c.val }
    if s.get n (CNT.SEL_CLASS c) = 0 then t
    else ((t.set64 n (CNT.CNT_LO c) 0).set n (wrapBit cntPage c) 0).wrapAny (.ch n)) ∧
  (∀ (c : Fin 16) (data : Word) (req : Nat), Put (.selectorWrite .dev (c.castLE (by decide)) false data req) (0xC100 + 4 * c.val) req
    (fun _ => True) fun s =>
    let t := (s.set 0 (cntF .dev CNT.SEL c) (data.toNat &&& 0xFFFFCCFF)).selMended .dev c
    if s.get 0 (cntF .dev CNT.SEL_CLASS c) = 0 then t
    else ((t.set64 0 (cntF .dev CNT.CNT_LO c) 0).set 0 (wrapBit dcntPage c) 0).wrapAny .dev) ∧
  (∀ (c : Fin 16) (data : Word) (req : Nat), Put (.selectorWrite .dev (c.castLE (by decide)) true data req) (0xC200 + 4 * c.val) req
    (fun _ => True) fun s =>
    let t := (s.set 0 (cntF .dev CNT.RANGE c) data.toNat).selMended .dev c
    if s.get 0 (cntF .dev CNT.SEL_CLASS c) = 0 then t
    else ((t.set64 0 (cntF .dev CNT.CNT_LO c) 0).set 0 (wrapBit dcntPage c) 0).wrapAny .dev) ∧
  (∀ (n : Ch) (c : Fin 64) (hi : Bool) (data : Word),
    Put (.counterPreset (.ch n) c hi data) ((if hi = true then CNT.CNT_HI c else CNT.CNT_LO c).addr n) reqHost (fun _ => True) fun s =>
    if s.get n (CNT.SEL_CLASS c) = 0 then s.set n (if hi = true then CNT.CNT_HI c else CNT.CNT_LO c) data.toNat else s) ∧
  (∀ (c : Fin 16) (data : Word), Put (.counterPreset .dev (c.castLE (by decide)) false data) (0xC400 + 16 * c.val) reqHost
    (fun _ => True) fun s =>
    if s.get 0 (cntF .dev CNT.SEL_CLASS c) = 0 then s.set 0 (cntF .dev CNT.CNT_LO c) data.toNat else s) ∧
  (∀ (c : Fin 16) (data : Word), Put (.counterPreset .dev (c.castLE (by decide)) true data) (0xC404 + 16 * c.val) reqHost
    (fun _ => True) fun s =>
    if s.get 0 (cntF .dev CNT.SEL_CLASS c) = 0 then s.set 0 (cntF .dev CNT.CNT_HI c) data.toNat else s) ∧
  (∀ (s : State) (n : Ch) (c : Fin 64) (req : Nat), (req == reqHost && s.busyPin) = false →
    s.regReach ((CNT.CNT_LO c).addr n) = codeOk → s.pageArmed ((CNT.CNT_LO c).addr n) 4 = false →
    exec (.counterLoRead (.ch n) c req) s = .next
      (let t := s.countBus (some n) 0x10 req (regLoc ((CNT.CNT_LO c).addr n))
       t.latchRead req ((CNT.CNT_LO c).addr n) (t.word ((CNT.CNT_HI c).addr n)) (BitVec.ofNat 32 (t.get n (wrapBit cntPage c))))) ∧
  (∀ (n : Ch) (c : Fin 64), When (.cntSelPar (.ch n) c) (fun _ => True) fun s =>
    (s.raise n CNT.FLT_CNT_SEL_PAR { flags := 8, detail := some (BitVec.ofNat 32 (selAddr n cntPage c)) }).modDev fun d =>
      { d with badRegs := selAddr n cntPage c :: (d.badRegs.filter fun a => a != selAddr n cntPage c) }) ∧
  (∀ c : Fin 16, When (.cntSelPar .dev (c.castLE (by decide))) (fun _ => True) fun s =>
    s.selParity .dev c { flags := 8, detail := some (BitVec.ofNat 32 (selAddr 0 dcntPage c)) })

/-- Device time: reading NOW0 latches the other words for its requester (R401); SET writes the staged time and ADJUST moves it
by ADJ, while it runs, an ADJUST out of range stopping at the end and clearing VALID (R401); a PPS edge sooner than half a
second after the last accepted one is ignored and counted, every other is captured and tracked, and late ones raise PPS_WINDOW;
with ALIGN_EN it aligns time to the second (R402, R403); a loss is a fault once (R403); the rollover runs time to its second and
the pulse ends (R404); a parity error clears VALID (R413). -/
def Obligations.DeviceTimeIsSetAdjustedAndAligned : Prop :=
  (∀ (s : State) (req : Nat), (req == reqHost && s.busyPin) = false → s.pageArmed 0x9040 4 = false →
    exec (.timeNowRead req) s = .next
      (let t := s.countBus none 0x10 req (regLoc 0x9040)
       t.latchRead req 0x9040 t.dev.time.word1 t.dev.time.word2)) ∧
  (∀ s : State, s.dev.timeRunning = false → s.timeSet = s ∧ s.timeAdjust = s) ∧
  (∀ s : State, s.dev.timeRunning = true → s.timeSet =
    let v := TimeVal.ofWords (s.word (TIME.SET0.addr 0)) (s.word (TIME.SET1.addr 0)) (s.word (TIME.SET2.addr 0))
    ((s.modDev fun d => { d with time := { v with ns := min v.ns 999999999 } }).dset TIME.STATUS_VALID 1).timeStepped) ∧
  Put .timeSet 0x905C reqHost (fun s => s.longOp 0x905C = false ∧ s.pageHeld 0x905C = false) (fun s =>
    let t := (s.plainWrite 0x905C 1).timeSet
    let u := t.dset TIME.STATUS_NEXT_ARMED (t.dget TIME.NEXT_SEC_HI_ARM)
    if u.is 0 TIME.CTRL_PPS_OUT_EN = true then u else u.modDev fun d => { d with ppsOut := false }) ∧
  (∀ s : State, s.dev.timeRunning = true →
    0 ≤ ((s.dev.time.sec * 1000000000 + s.dev.time.ns : Nat) : Int) + s.getI 0 TIME.ADJ →
    ((s.dev.time.sec * 1000000000 + s.dev.time.ns : Nat) : Int) + s.getI 0 TIME.ADJ < 2 ^ 48 * 1000000000 →
    s.timeAdjust = (s.modDev fun d => { d with time :=
      { sec := ((((s.dev.time.sec * 1000000000 + s.dev.time.ns : Nat) : Int) + s.getI 0 TIME.ADJ) / 1000000000).toNat,
        ns := ((((s.dev.time.sec * 1000000000 + s.dev.time.ns : Nat) : Int) + s.getI 0 TIME.ADJ) % 1000000000).toNat,
        frac := s.dev.time.frac } }).timeStepped) ∧
  (∀ s : State, s.dev.timeRunning = true →
    ((s.dev.time.sec * 1000000000 + s.dev.time.ns : Nat) : Int) + s.getI 0 TIME.ADJ < 0 →
    s.timeAdjust = ((s.modDev fun d => { d with time := {}, timeAcc := 0 }).dset TIME.STATUS_VALID 0).timeStepped) ∧
  (∀ s : State, s.dev.timeRunning = true →
    2 ^ 48 * 1000000000 ≤ ((s.dev.time.sec * 1000000000 + s.dev.time.ns : Nat) : Int) + s.getI 0 TIME.ADJ →
    s.timeAdjust = ((s.modDev fun d => { d with time := { sec := 2 ^ 48 - 1, ns := 999999999, frac := 0xFFFF }, timeAcc := 0 }).dset
      TIME.STATUS_VALID 0).timeStepped) ∧
  Put .timeAdjust 0x905C reqHost (fun s => s.longOp 0x905C = false ∧ s.pageHeld 0x905C = false) (fun s =>
    let t := (s.plainWrite 0x905C 2).timeAdjust
    let u := t.dset TIME.STATUS_NEXT_ARMED (t.dget TIME.NEXT_SEC_HI_ARM)
    if u.is 0 TIME.CTRL_PPS_OUT_EN = true then u else u.modDev fun d => { d with ppsOut := false }) ∧
  (∀ after, When (.ppsEdge after) (fun s => (s.elapse after).dev.timeRunning = false) fun s => s.elapse after) ∧
  (∀ after, When (.ppsEdge after) (fun s => (s.elapse after).dev.timeRunning = true ∧ (s.elapse after).dev.ppsSeen = true ∧
      (s.elapse after).dev.ppsTicks < 312500000) fun s =>
    ((s.elapse after).sat 0 TIME.PPS_COUNTS_GLITCH).dirq TIME.IRQ_PPS_GLITCH) ∧
  (∀ after, When (.ppsEdge after) (fun s => (s.elapse after).dev.timeRunning = true ∧ ((s.elapse after).dev.ppsSeen = false ∨
      312500000 ≤ (s.elapse after).dev.ppsTicks)) fun s =>
    let u := s.elapse after
    let err : Int := if u.dev.time.ns < 500000000 then (u.dev.time.ns : Int) else (u.dev.time.ns : Int) - 1000000000
    let late := decide (1000 * max 1 (u.dget TIME.PPS_CFG_WINDOW_US) < err.natAbs)
    let v := (((((if late = true then u.draise TIME.FLT_PPS_WINDOW else u).setTime TIME.PPS_CAP0 u.dev.time).dirq
      TIME.IRQ_PPS_EDGE).setI 0 TIME.PPS_ERR err).incr 0 TIME.EDGES)
    let w := if v.dget TIME.STATUS_PPS_STATE = 1 then v else (v.dset TIME.STATUS_PPS_STATE 1).dirq TIME.IRQ_PPS_FOUND
    let x := w.modDev fun d => { d with ppsSeen := true, ppsTicks := 0 }
    let y := if x.is 0 TIME.CTRL_ALIGN_EN = true then x.ppsAlign err else x
    ((if late = true then y.timeStepped else y).ppsWake allCh).devWake 1) ∧
  (∀ (s : State) (err : Int), s.is 0 TIME.NEXT_SEC_HI_ARM = false → s.ppsAlign err = s.modDev fun d =>
    { d with time := { sec := if err < 0 then (s.dev.time.sec + 1) % 2 ^ 48 else s.dev.time.sec, ns := 0, frac := 0 },
             ppsOut := d.ppsOut || (s.is 0 TIME.CTRL_PPS_OUT_EN && decide (500000000 ≤ s.dev.time.ns)) }) ∧
  (∀ (s : State) (err : Int), s.is 0 TIME.NEXT_SEC_HI_ARM = true → s.ppsAlign err = (((s.modDev fun d =>
    { d with time := { sec := s.dget TIME.NEXT_SEC_LO + 2 ^ 32 * s.dget TIME.NEXT_SEC_HI_SEC, ns := 0, frac := 0 },
             ppsOut := d.ppsOut || (s.is 0 TIME.CTRL_PPS_OUT_EN && decide (500000000 ≤ s.dev.time.ns)) }).dset
    TIME.NEXT_SEC_HI_ARM 0).dset TIME.STATUS_NEXT_ARMED 0).dset TIME.STATUS_VALID 1) ∧
  When .ppsLoss (fun s => s.dget TIME.STATUS_PPS_STATE = 1) (fun s =>
    ((((s.draise TIME.FLT_PPS_LOSS).dirq TIME.IRQ_PPS_LOSS).sat 0 TIME.PPS_COUNTS_LOSS_COUNT).dset TIME.STATUS_PPS_STATE 2).modDev
      fun d => { d with ppsTicks := max d.ppsTicks 937500000 }) ∧
  When .ppsLoss (fun s => s.dget TIME.STATUS_PPS_STATE ≠ 1) (fun s => s) ∧
  When .secondRollover (fun _ => True) (fun s => s.elapse s.ticksToSecond) ∧
  When .ppsOutPulseEnd (fun _ => True) (fun s => s.modDev fun d => { d with ppsOut := false }) ∧
  When .timePar (fun _ => True) (fun s => (s.raiseFsm 0 TIME.FLT_TIME_PAR).dset TIME.STATUS_VALID 0)

/-- The Hopper: a boundary triggers a dump, or counts a missed one while it is suspended or stopped (R405, R411); DUMP triggers
likewise; the latch takes header, counters and snapshot, with their CRC, and opens its record by a first write with WRITING = 1
(R406, R407); the end of its writes stores the rest, the header last, moves WR_IDX and SEQ, and counts or laps (R409, R410); a
write of RD_IDX consumes what stands only (R410); a parity error drops the record and stops it (R413). -/
def Obligations.TheHopperDumpsItsRecords : Prop :=
  Event .hopperBoundary (fun s n => s.chState n = 0 ∨ s.is n HOP.CTRL_EN = false ∨ s.get n HOP.CFG_PERIOD_MS = 0) (fun s _ => s) ∧
  Event .hopperBoundary (fun s n => s.chState n ≠ 0 ∧ s.is n HOP.CTRL_EN = true ∧ s.get n HOP.CFG_PERIOD_MS ≠ 0 ∧
      (s.is n HOP.STATUS_SUSPENDED = true ∨ (s.chan n).hop.stopped = true)) (fun s n =>
    (s.sat n HOP.COUNTS_MISSED).modHop n fun x => { x with missed := min 65535 (x.missed + 1) }) ∧
  Event .hopperBoundary (fun s n => s.chState n ≠ 0 ∧ s.is n HOP.CTRL_EN = true ∧ s.get n HOP.CFG_PERIOD_MS ≠ 0 ∧
      s.is n HOP.STATUS_SUSPENDED = false ∧ (s.chan n).hop.stopped = false) (fun s n =>
    s.modHop n fun x => { x with trig := x.trig ||| 1 }) ∧
  RequestWhen .hopperDump HOP.CMD_DUMP (fun s n => s.is n HOP.STATUS_SUSPENDED = false ∧ (s.chan n).hop.stopped = false)
    (fun s n => s.modHop n fun x => { x with trig := x.trig ||| 2 }) ∧
  RequestWhen .hopperDump HOP.CMD_DUMP (fun s n => s.is n HOP.STATUS_SUSPENDED = true ∨ (s.chan n).hop.stopped = true)
    (fun s _ => s) ∧
  Event .hopperLatch (fun s n => (s.chan n).hop.trig ≠ 0 ∧ (s.chan n).hop.stopped = false ∧ s.is n HOP.STATUS_WRITING = false ∧
      s.is n HOP.STATUS_SUSPENDED = false ∧ s.chState n ≠ 0) (fun s n =>
    let header := s.hopHeader n
    let counters := (List.range 64).map fun c => s.get64 n (CNT.CNT_LO c)
    let snap := s.hopWords n (s.hopAddrs n)
    let rest := counters ++ pairWords snap
    let crc := crc32 0xFFFFFFFF (recordBytes header rest)
    let words := header.take 7 ++ [header.getD 7 0 + crc * 2 ^ 32] ++ rest
    let slot := s.get n HOP.WR_IDX_IDX
    ((s.modHop n fun _ => { words, slot, cycle := (s.chan n).hop.cycle }).set n HOP.STATUS_WRITING 1).busWrite (chMem n 3)
      (128 * slot) (header.headD 0 + 2 ^ 47) reqHopper) ∧
  Event .hopperLatch (fun s n => (s.chan n).hop.trig = 0 ∨ (s.chan n).hop.stopped = true ∨ s.is n HOP.STATUS_WRITING = true ∨
      s.is n HOP.STATUS_SUSPENDED = true ∨ s.chState n = 0) (fun s _ => s) ∧
  Event .hopperWriteDone (fun s n => s.is n HOP.STATUS_WRITING = true ∧ s.memOn n = true) (fun s n =>
    let x := (s.chan n).hop
    let t := ((s.hopPuts (chMem n 3) (128 * x.slot + 8) (x.words.drop 8)).hopPuts (chMem n 3) (128 * x.slot + 1)
      ((x.words.drop 1).take 7)).hopPuts (chMem n 3) (128 * x.slot) (x.words.take 1)
    let was := t.get n HOP.FILL_COUNT
    let u := (t.set n HOP.WR_IDX_IDX (x.slot + 1)).set n HOP.SEQ_NEXT (t.get n HOP.SEQ_NEXT + 1)
    let v := if was = 256 then
        (((u.set n HOP.RD_IDX_IDX (u.get n HOP.RD_IDX_IDX + 1)).set n HOP.FILL_LAPPED 1).irq n HOP.IRQ_LAPPED).sat n HOP.COUNTS_LAPPED
      else (u.set n HOP.FILL_COUNT (was + 1)).hopLevelIrq n was
    ((v.set n HOP.STATUS_WRITING 0).irq n HOP.IRQ_DUMP).modHop n fun y => { y with words := [], slot := 0 }) ∧
  Event .hopperWriteDone (fun s n => s.is n HOP.STATUS_WRITING = false ∨ s.memOn n = false) (fun s _ => s) ∧
  (∀ (idx : Byte) (n : Ch), Put (.hopRdIdxWrite n idx) (HOP.RD_IDX.addr n) reqHost (fun _ => True) fun s =>
    let c := (s.get n HOP.WR_IDX_IDX + 256 - idx.toNat) % 256
    if s.get n HOP.FILL_COUNT < c then s.irq n HOP.IRQ_RD_BAD
    else (s.set n HOP.RD_IDX_IDX idx.toNat).set n HOP.FILL_COUNT c) ∧
  Event .hopFsmPar (fun _ _ => True) (fun s n => ((s.raiseFsm n HOP.FLT_HOP_FSM_PAR).set n HOP.STATUS_WRITING 0).modHop n fun x =>
    { x with stopped := true, trig := 0, words := [], slot := 0 })

/-- The scrubber, a memory's write-back and the leak of a bucket: GO starts a scrub of a range that its memory holds and is
refused elsewhere, while a pass runs and while the scrubber is stopped; STOP ends a continuous run after its pass; the pass's
end reports it and begins the next of a continuous run (R430). A write-back stores the data of its word where none older of its
bank waits (R424); a leak takes one from a bucket's level, never below 0 (R425). -/
def Obligations.MemoriesAreScrubbedAndWrittenBack : Prop :=
  Request (fun n => .scrubGo (.ch n)) MEM.SCRUB_CMD_GO (fun s n => s.scrubGo (.ch n)) ∧
  Put (.scrubGo .dev) 0xA04C reqHost (fun s => s.longOp 0xA04C = false ∧ s.pageHeld 0xA04C = false) (fun s => (s.plainWrite 0xA04C 1).scrubGo .dev) ∧
  (∀ (s : State) (x : Scope) (m : Nat), scrubMem x (s.xget x MEM.SCRUB_CFG_MEM) = some m → (s.scrubSt x).active = false →
    s.xget x MEM.SCRUB_START_OFFSET % 8 = 0 → s.xget x MEM.SCRUB_LEN_BYTES % 8 = 0 → s.xget x MEM.SCRUB_LEN_BYTES ≠ 0 →
    s.xget x MEM.SCRUB_START_OFFSET + s.xget x MEM.SCRUB_LEN_BYTES ≤ 8 * memWords m → s.xget x MEM.STATUS_SCRUB_STOPPED ≠ 1 →
    s.scrubGo x = ((s.xset x MEM.STATUS_SCRUB_BUSY 1).xset x MEM.STATUS_SCRUB_CONT (s.xget x MEM.SCRUB_CFG_CONT)).modScrub x
      fun _ => { active := true, mem := m, start := s.xget x MEM.SCRUB_START_OFFSET / 8, len := s.xget x MEM.SCRUB_LEN_BYTES / 8 }) ∧
  (∀ (s : State) (x : Scope), (scrubMem x (s.xget x MEM.SCRUB_CFG_MEM) = none ∨ (s.scrubSt x).active = true ∨
      s.xget x MEM.SCRUB_START_OFFSET % 8 ≠ 0 ∨ s.xget x MEM.SCRUB_LEN_BYTES % 8 ≠ 0 ∨ s.xget x MEM.SCRUB_LEN_BYTES = 0 ∨
      s.xget x MEM.STATUS_SCRUB_STOPPED = 1) → s.scrubGo x = s.xirq x MEM.IRQ_SCRUB_REFUSED) ∧
  (∀ (s : State) (x : Scope) (m : Nat), scrubMem x (s.xget x MEM.SCRUB_CFG_MEM) = some m →
      8 * memWords m < s.xget x MEM.SCRUB_START_OFFSET + s.xget x MEM.SCRUB_LEN_BYTES →
    s.scrubGo x = s.xirq x MEM.IRQ_SCRUB_REFUSED) ∧
  RequestWhen (fun n => .scrubStop (.ch n)) MEM.SCRUB_CMD_STOP (fun s n => (s.scrubSt (.ch n)).active = true ∧
      s.get n MEM.STATUS_SCRUB_CONT = 1) (fun s n => s.modScrub (.ch n) fun y => { y with stopAfter := true }) ∧
  RequestWhen (fun n => .scrubStop (.ch n)) MEM.SCRUB_CMD_STOP (fun s n => (s.scrubSt (.ch n)).active = false ∨
      s.get n MEM.STATUS_SCRUB_CONT ≠ 1) (fun s _ => s) ∧
  Put (.scrubStop .dev) 0xA04C reqHost (fun s => s.longOp 0xA04C = false ∧ s.pageHeld 0xA04C = false) (fun s => (s.plainWrite 0xA04C 2).scrubStop .dev) ∧
  (∀ x us, When (.scrubPassEnd x us) (fun s => (s.scrubSt x).active = true) fun s =>
    let r := scrubWords x (s.scrubSt x).mem (s.scrubSt x).start (s.scrubSt x).len ({}, s)
    let t := ((r.2.scrubSummary x (s.scrubSt x).len r.1 us).incr (scopeCh x) (scopeF x MEM.SCRUB_PASSES)).xirq x MEM.IRQ_SCRUB_DONE
    if t.xget x MEM.STATUS_SCRUB_CONT = 1 ∧ (s.scrubSt x).stopAfter = false then t
    else ((t.xset x MEM.STATUS_SCRUB_BUSY 0).xset x MEM.STATUS_SCRUB_CONT 0).modScrub x fun _ => {}) ∧
  (∀ x us, When (.scrubPassEnd x us) (fun s => (s.scrubSt x).active = false) fun s => s) ∧
  (∀ x k e, When (.eccWriteback x k) (fun s => (s.wbList (scopePad x))[k]? = some e ∧ s.xget x MEM.STATUS_WB_STOPPED ≠ 1 ∧
      ∀ f ∈ (s.wbList (scopePad x)).take k, f.mem ≠ e.mem ∨ memBank f.mem f.word ≠ memBank e.mem e.word) fun s =>
    s.memWrite e.mem e.word (s.memData e.mem e.word)) ∧
  (∀ x k, When (.eccWriteback x k) (fun s => (s.wbList (scopePad x)).length ≤ k) fun s => s) ∧
  (∀ x k e f, When (.eccWriteback x k) (fun s => (s.wbList (scopePad x))[k]? = some e ∧ f ∈ (s.wbList (scopePad x)).take k ∧
      f.mem = e.mem ∧ memBank f.mem f.word = memBank e.mem e.word) fun s => s) ∧
  (∀ x k, When (.eccWriteback x k) (fun s => s.xget x MEM.STATUS_WB_STOPPED = 1) fun s => s) ∧
  (∀ x i, When (.leakTick x i) (fun _ => True) fun s =>
    s.xset x (MEM.B_BUCKET_LEVEL i.val) (s.xget x (MEM.B_BUCKET_LEVEL i.val) - 1))

/-- The March test of a scratchpad: GO is refused on a bad range, over a pinned one and while stopped, and starts elsewhere
(R436); a slice's end passes, or fails with its first failing word, whatever lies outside the range being no failure of it
(R435); the budget's end ends it INCOMPLETE (R436); a parity error of an engine is a fault, aborts the scrub (R432), stops that
engine and ends what ran, the march's own with the word it was on (R439, R537). -/
def Obligations.AMarchTestsWhatIsNotPinned : Prop :=
  Request (fun n => .marchGo (.ch n)) MEM.MARCH_CMD_GO (fun s n => s.marchGo (.ch n)) ∧
  Put (.marchGo .dev) 0xA078 reqHost (fun s => s.longOp 0xA078 = false ∧ s.pageHeld 0xA078 = false) (fun s => (s.plainWrite 0xA078 1).marchGo .dev) ∧
  (∀ (s : State) (x : Scope), (s.xget x MEM.MARCH_START_OFFSET % 8 ≠ 0 ∨ s.xget x MEM.MARCH_LEN_BYTES % 8 ≠ 0 ∨
      s.xget x MEM.MARCH_LEN_BYTES = 0 ∨
      8 * memWords (scopePad x) < s.xget x MEM.MARCH_START_OFFSET + s.xget x MEM.MARCH_LEN_BYTES) →
    s.marchGo x = (s.xset x MEM.MARCH_RESULT (5 * 2 ^ 29)).xirq x MEM.IRQ_MARCH_DONE) ∧
  (∀ (s : State) (x : Scope), s.xget x MEM.MARCH_START_OFFSET % 8 = 0 → s.xget x MEM.MARCH_LEN_BYTES % 8 = 0 →
    s.xget x MEM.MARCH_LEN_BYTES ≠ 0 →
    s.xget x MEM.MARCH_START_OFFSET + s.xget x MEM.MARCH_LEN_BYTES ≤ 8 * memWords (scopePad x) →
    s.marchGo x =
      if s.pinned x (s.xget x MEM.MARCH_START_OFFSET) (s.xget x MEM.MARCH_LEN_BYTES) = true then
        (s.xset x MEM.MARCH_RESULT (4 * 2 ^ 29)).xirq x MEM.IRQ_MARCH_DONE
      else if s.xget x MEM.STATUS_MARCH_STOPPED = 1 then (s.xset x MEM.MARCH_RESULT (6 * 2 ^ 29)).xirq x MEM.IRQ_MARCH_DONE
      else ((s.xset x MEM.STATUS_MARCH_BUSY 1).xset x MEM.BUSY_LONG_OP 1).modMarch x fun _ =>
        { active := true, start := s.xget x MEM.MARCH_START_OFFSET / 8, len := s.xget x MEM.MARCH_LEN_BYTES / 8 }) ∧
  (∀ x l, When (.marchSliceEnd x l) (fun s => (s.marchSt x).active = true) fun s =>
    let y := s.marchSt x
    let bad := l.filter fun f => decide (y.start ≤ f.word ∧ f.word < y.start + y.len)
    let t := (s.marchBus (scopePad x) y.start y.len).marchFails (scopePad x) bad
    match bad with
    | [] => t.marchEnd x 1 0
    | f :: _ => t.marchEnd x 2 (8 * f.word)) ∧
  (∀ x l, When (.marchSliceEnd x l) (fun s => (s.marchSt x).active = false) fun s => s) ∧
  (∀ x, When (.marchBudgetEnd x) (fun _ => True) fun s => if (s.marchSt x).active = true then s.marchEnd x 3 0 else s) ∧
  (∀ x, When (.memCtrlPar x .scrubber) (fun _ => True) fun s =>
    (((s.raiseFsm (scopeCh x) (scopeF x MEM.FLT_MEM_CTRL_PAR) 0).scrubAbort x).xset x MEM.STATUS_SCRUB_STOPPED 1).marchStop x) ∧
  (∀ x, When (.memCtrlPar x .writeBack) (fun _ => True) fun s =>
    (((s.raiseFsm (scopeCh x) (scopeF x MEM.FLT_MEM_CTRL_PAR) 2).scrubAbort x).xset x MEM.STATUS_WB_STOPPED 1).marchStop x) ∧
  (∀ x w c, When (.memCtrlPar x (.march w c)) (fun _ => True) fun s =>
    let t := ((s.raiseFsm (scopeCh x) (scopeF x MEM.FLT_MEM_CTRL_PAR) 1).scrubAbort x).xset x MEM.STATUS_MARCH_STOPPED 1
    if (t.marchSt x).active = true then (t.marchTorn x w c).marchEnd x 3 (8 * w) else t)

/-- The Sluice's reaction: a collected fault is logged and reacted to by its class, a Device-stop shutting the Sluice (R449,
R460), but not in RESET or OFF; a fault bit written 1 is cleared and withdrawn, and raised anew where its condition still holds
(R453); enables are written bit by bit (R455); a self-fault is noted ahead of the log and shuts the Sluice (R458). The fault
log: a queued entry goes to the slot of WR_IDX with the next SEQ, laps the oldest of a full log unless that one is of class 3,
and then is dropped and counted; RD_IDX consumes what stands only (R459, R460). -/
def Obligations.FaultsAreCollectedLoggedClearedAndMasked : Prop :=
  ((∀ r l, When .faultCollect (fun s => s.dev.collect = r :: l ∧ s.dev.state ≠ .reset ∧ s.dev.state ≠ .off) fun s =>
    ((s.modDev fun d => { d with collect := l }).logPush r).classReact r.cls r.src) ∧
  When .faultCollect (fun s => s.dev.collect = []) (fun s => s) ∧
  (∀ (s : State) (r : LogRec), s.logPush r =
    if s.dev.logQueue.length < 16 then s.modDev fun d => { d with logQueue := d.logQueue ++ [r] }
    else (s.sat 0 FLOG.COUNTS_DROPPED).dirq FLOG.IRQ_DROPPED) ∧
  When .faultCollect (fun s => s.dev.state = .reset ∨ s.dev.state = .off) (fun s => s) ∧
  (∀ (s : State) (src : Nat), s.classReact 0 src = (s.dirq SLUICE.IRQ_NOTICE).sat 0 SLUICE.CLASS_COUNT0_NOTICE) ∧
  (∀ (s : State) (src : Nat), s.classReact 1 src =
    ((s.dirq SLUICE.IRQ_NOTICE).dirq SLUICE.IRQ_DEGRADE).sat 0 SLUICE.CLASS_COUNT0_DEGRADE) ∧
  (∀ (s : State) (src : Nat), s.classReact 2 src = (((s.dirq SLUICE.IRQ_NOTICE).dirq SLUICE.IRQ_DEGRADE).dirq
    SLUICE.IRQ_CHANNEL_STOP).sat 0 SLUICE.CLASS_COUNT1_CHANNEL_STOP) ∧
  (∀ (s : State) (src : Nat), s.classReact 3 src = ((((s.dirq SLUICE.IRQ_NOTICE).dirq SLUICE.IRQ_DEGRADE).dirq
    SLUICE.IRQ_DEVICE_STOP).sat 0 SLUICE.CLASS_COUNT1_DEVICE_STOP).shutSluice src) ∧
  (∀ (page : Nat) (data : Word), Put (.faultClear page data) (page / 0x1000 * 0x1000 + 0x18) reqHost (fun _ => True) fun s =>
    s.clearFaults (page / 0x1000 * 0x1000 + 0x18) data 16) ∧
  (∀ (s : State) (n : Ch) (f : Field) (page : Nat), s.is n f = false → s.clearFault n f page = s) ∧
  (∀ (s : State) (n : Ch) (f : Field) (page : Nat), s.is n f = true →
    let t := (s.set n f 0).modCh n fun c => { c with trial := { c.trial with
      pend := c.trial.pend.filter fun r => !(r.src == f.source n && r.bit == f.lo) } }
    (t.relatch n f page = none → s.clearFault n f page = (t.withdraw n f).afterClear n f) ∧
    ∀ note, t.relatch n f page = some note → s.clearFault n f page = (t.modDev fun d =>
      { d with forwarded := d.forwarded.filter fun e => !(e.src == f.source n && e.bit == f.lo) }).raise n f note) ∧
  (∀ (page : Nat) (data : Word) (r : RegDef), regDef (page / 0x1000 * 0x1000 + 0x1C) = some r →
    Put (.fltEnWrite page data) (page / 0x1000 * 0x1000 + 0x1C) reqHost (fun _ => True) fun s =>
      s.enBits (page / 0x1000 * 0x1000 + 0x1C) (BitVec.ofNat 32 r.rw) data 16) ∧
  (∀ x reg, When (.selfFault x reg) (fun _ => True) fun s => s.selfFault x reg {}) ∧
  (∀ (s : State) (x : Scope) (reg : Nat) (note : FaultNote), s.selfFault x reg note =
    let r : LogRec :=
      { ts := s.dev.time, src := selfSource x, bit := 0, cls := 3, flags := 4 + note.flags, dflt := 3,
        detail := BitVec.ofNat 32 (reg % 256), req := (match note.req with | some q => reqByte q | none => 0),
        chState := (match x with | .ch n => s.chState n | .dev => 0), devState := s.dev.state.code }
    (((((s.dset SLUICE.SELF_VALID 1).dset SLUICE.SELF_SOURCE (selfSource x)).dset SLUICE.SELF_REG reg).dset
      SLUICE.STATUS_SELF_FAULT 1).modDev fun d =>
      { d with logQueue := if d.logQueue.length < 16 then r :: d.logQueue else d.logQueue }).shutSluice (selfSource x))) ∧
  (When .logEntryWrite (fun s => s.dev.logQueue = []) (fun s => s) ∧
  (∀ r l, When .logEntryWrite (fun s => s.dev.logQueue = r :: l ∧ s.logProtected = true) fun s =>
    ((s.modDev fun d => { d with logQueue := l }).sat 0 FLOG.COUNTS_DROPPED).dirq FLOG.IRQ_DROPPED) ∧
  (∀ r l, When .logEntryWrite (fun s => s.dev.logQueue = r :: l ∧ s.logProtected = false ∧ s.dget FLOG.FILL_COUNT = 256) fun s =>
    let t := ((((s.modDev fun d => { d with logQueue := l }).memWrites (devMem 3) (4 * s.dget FLOG.WR_IDX_IDX)
      (r.words (s.dget FLOG.SEQ_NEXT))).dset FLOG.WR_IDX_IDX (s.dget FLOG.WR_IDX_IDX + 1)).dset FLOG.SEQ_NEXT
      (s.dget FLOG.SEQ_NEXT + 1)).dirq FLOG.IRQ_ENTRY
    ((((t.dset FLOG.RD_IDX_IDX (t.dget FLOG.RD_IDX_IDX + 1)).dset FLOG.FILL_LAPPED 1).dirq FLOG.IRQ_LAPPED).sat 0
      FLOG.COUNTS_LAPPED).logStatus) ∧
  (∀ r l, When .logEntryWrite (fun s => s.dev.logQueue = r :: l ∧ s.dget FLOG.FILL_COUNT ≠ 256) fun s =>
    let t := ((((s.modDev fun d => { d with logQueue := l }).memWrites (devMem 3) (4 * s.dget FLOG.WR_IDX_IDX)
      (r.words (s.dget FLOG.SEQ_NEXT))).dset FLOG.WR_IDX_IDX (s.dget FLOG.WR_IDX_IDX + 1)).dset FLOG.SEQ_NEXT
      (s.dget FLOG.SEQ_NEXT + 1)).dirq FLOG.IRQ_ENTRY
    ((t.dset FLOG.FILL_COUNT (s.dget FLOG.FILL_COUNT + 1)).logLevel (s.dget FLOG.FILL_COUNT)).logStatus) ∧
  (∀ idx : Byte, Put (.flogRdIdxWrite idx) 0x8048 reqHost (fun _ => True) fun s =>
    let c := (s.dget FLOG.WR_IDX_IDX + 256 - idx.toNat) % 256
    if s.dget FLOG.FILL_COUNT < c then s.dirq FLOG.IRQ_RD_BAD
    else ((s.dset FLOG.RD_IDX_IDX idx.toNat).dset FLOG.FILL_COUNT c).logStatus))


/-- Trial: GO starts it where nothing refuses it and is refused with its reason elsewhere (R470); the slices start once the
transmitter is off, under TRIAL_ALL in their group's turn, with the wright held (R471); a slice's end, or its budget's, gives
the slice its result, the march its own, and starts the next (R468, R469, R471); the restore ends the Trial (R473); the device
slices run in HOLDING only, in bit order, a failing one a fault (R476, R485); a parity error ends the Trial at once, its pages
torn (R474). The instructions that take the pins of the part take them, any other gives them back, TRST_N among them (R483,
R484). -/
def Obligations.TrialRunsItsSlicesUnderTheirBudgets : Prop :=
  RequestWhen .trialGo TRIAL.CMD_GO (fun s n => s.trialRefusal n = 0) (fun s n =>
    s.trialBegin n (s.get n TRIAL.CFG_MASK) (s.get n TRIAL.CFG_COUNT_LOG2)) ∧
  RequestWhen .trialGo TRIAL.CMD_GO (fun s n => s.trialRefusal n ≠ 0) (fun s n =>
    (s.set n TRIAL.REFUSE_REASON (s.trialRefusal n)).irq n TRIAL.IRQ_REFUSED) ∧
  Event .trialSlicesStart (fun s n => (s.allBegin n).inTrial n = true ∧ (s.allBegin n).trialState n = 1 ∧
      (s.allBegin n).ltxState n = 0 ∧ ((s.allBegin n).trialAll = false ∨ (s.allBegin n).groupTurn n = true)) (fun s n =>
    (((((s.allBegin n).toStandby n).set n MBXW.WRIGHT_STATUS_STATE 4).modWright n fun x => { x with holding := false }).wrightCut
      n).trialNext n) ∧
  Event .trialSlicesStart (fun s n => (s.allBegin n).inTrial n = false ∨ (s.allBegin n).trialState n ≠ 1 ∨
      (s.allBegin n).ltxState n ≠ 0 ∨ ((s.allBegin n).trialAll = true ∧ (s.allBegin n).groupTurn n = false))
    (fun s n => s.allBegin n) ∧
  (∀ k l pass fails ms, Event (fun n => .trialSliceEnd (.ch n) pass fails ms) (fun s n =>
      (s.trialState n = 2 ∨ s.trialState n = 3) ∧ (s.trialSt n).slices = k :: l ∧ k ≠ 6 ∧ hasSig (s.trialSt n).count = false) fun s n =>
    ((s.set n (TRIAL.RESULT_NO_SIG.bit k) 1).sliceResult n k 3).trialNext n) ∧
  (∀ pass fails ms, Event (fun n => .trialSliceEnd (.ch n) pass fails ms) (fun s n =>
      (s.trialState n ≠ 2 ∧ s.trialState n ≠ 3) ∨ (s.trialSt n).slices = []) fun s _ => s) ∧
  (∀ fails ms, Event (fun n => .trialBudgetExpiry (.ch n) fails ms) (fun s n =>
      (s.trialState n ≠ 2 ∧ s.trialState n ≠ 3) ∨ (s.trialSt n).slices = []) fun s _ => s) ∧
  (∀ l fails ms, Event (fun n => .trialBudgetExpiry (.ch n) fails ms) (fun s n =>
      (s.trialState n = 2 ∨ s.trialState n = 3) ∧ (s.trialSt n).slices = 6 :: l) fun s n =>
    ((s.marchClose n fails).sliceResult n 6 (if fails ≠ 0 then 2 else 3)).trialNext n) ∧
  (∀ k l pass fails ms, Event (fun n => .trialSliceEnd (.ch n) pass fails ms) (fun s n =>
      (s.trialState n = 2 ∨ s.trialState n = 3) ∧ (s.trialSt n).slices = k :: l ∧ k ≠ 6 ∧ hasSig (s.trialSt n).count = true) fun s n =>
    (s.sliceResult n k (if pass = true then 1 else 2)).trialNext n) ∧
  (∀ l pass fails ms, Event (fun n => .trialSliceEnd (.ch n) pass fails ms) (fun s n =>
      (s.trialState n = 2 ∨ s.trialState n = 3) ∧ (s.trialSt n).slices = 6 :: l) fun s n =>
    ((s.marchClose n fails).sliceResult n 6 (if fails ≠ 0 then 2 else 1)).trialNext n) ∧
  (∀ k l fails ms, Event (fun n => .trialBudgetExpiry (.ch n) fails ms) (fun s n =>
      (s.trialState n = 2 ∨ s.trialState n = 3) ∧ (s.trialSt n).slices = k :: l ∧ k ≠ 6) fun s n =>
    (s.sliceResult n k 3).trialNext n) ∧
  (∀ us, Event (fun n => .trialRestoreEnd n us) (fun s n => s.inTrial n = false ∨ s.trialState n ≠ 4 ∨
      s.wrightState n = 1) fun s _ => s) ∧
  (∀ us, Event (fun n => .trialRestoreEnd n us) (fun s n => s.inTrial n = true ∧ s.trialState n = 4 ∧ s.wrightState n ≠ 1) fun s n =>
    (s.trialFinish n us fun a =>
      let b := a.scanReset n (s.trialSt n).ran
      if (s.trialSt n).ran.contains 6 = true then b.dressSeed n else b).allNote n (s.trialSt n).all) ∧
  (∀ mask : BitVec 3, Put (.devTrialGo mask) 0xB044 reqHost (fun s => s.longOp 0xB044 = false ∧ s.pageHeld 0xB044 = false) fun s =>
    (s.plainWrite 0xB044 (BitVec.ofNat 32 (mask.toNat * 256 + 1))).devTrialGo) ∧
  (∀ s : State, s.dev.state ≠ .holding ∨ s.trialAll = true → s.devTrialGo = s.dirq DTRIAL.IRQ_REFUSED) ∧
  (∀ s : State, s.dev.trialSlices = [] → ∀ pass early ms, s.devSliceEnd pass early ms = s) ∧
  (∀ (s : State) (k : Nat) (l : List Nat) (pass early : Bool) (ms : Nat), s.dev.trialSlices = k :: l →
    s.devSliceEnd pass early ms =
      let sig := k == 2 || hasSig s.devCount
      let r := if early = true ∨ sig = false then 3 else if pass = true then 1 else 2
      let t := (if r = 2 then s.draise DTRIAL.FLT_DEV_TRIAL_FAIL else s).dset { DTRIAL.RESULT_SLICES with lo := 2 * k, w := 2 } r
      let u := (if sig = true then t else t.dset (DTRIAL.RESULT_NO_SIG.bit k) 1).modDev fun d => { d with trialSlices := l }
      match l with
      | [] => u.devTrialDone ms
      | j :: _ => u.dset DTRIAL.STATUS_CUR j) ∧
  (∀ (s : State) (k : Nat) (l : List Nat), s.dev.state = .holding → s.trialAll = false →
    (List.range 3).filter (s.dget DTRIAL.CMD_MASK).testBit = k :: l → s.devTrialGo =
    (((((s.dset DTRIAL.RESULT_SLICES 0).dset DTRIAL.RESULT_NO_SIG 0).dset DTRIAL.STATUS_RUNNING 1).dset DTRIAL.BUSY_LONG_OP 1).dset
      DTRIAL.STATUS_CUR k).modDev fun d => { d with trialSlices := k :: l }) ∧
  (∀ pass fails ms, When (.trialSliceEnd .dev pass fails ms) (fun _ => True) fun s => s.devSliceEnd pass false ms) ∧
  (∀ fails ms, When (.trialBudgetExpiry .dev fails ms) (fun _ => True) fun s => s.devSliceEnd false true ms) ∧
  Event .trialFsmPar (fun _ _ => True) (fun s n =>
    (s.trialKill n fun a => a.scanTorn n (s.trialSt n).ran).raiseFsm n TRIAL.FLT_TRIAL_FSM_PAR) ∧
  (∀ i : BitVec 8, When (.jtagInstruction i) (fun _ => True) fun s =>
    (s.modDev fun d => { d with jtag := i.toNat, jtagPins := jtagTakes i }).dset DTRIAL.STATUS_JTAG_PINS
      (if jtagTakes i = true then 1 else 0)) ∧
  When .trstNAssert (fun _ => True) (fun s =>
    (s.modDev fun d => { d with jtag := 1, jtagPins := false }).dset DTRIAL.STATUS_JTAG_PINS 0)

/-- The pattern units: a checker in HUNT locks and one in LOCK loses lock, the counts of its open gate kept (R480, R481); the
gate opens in lock and closes with GATE_DONE; GATE_GO and CLR zero the counts, CLR closing the gate without GATE_DONE; GATE_STOP
closes it (R481); ERR_INJ counts (R482); a changed CFG sends its checker back to HUNT, a write that changes nothing does nothing
(R482); a parity error disables every unit (R485). -/
def Obligations.CheckersLockAndGatesCount : Prop :=
  (∀ c : Fin 3, Event (fun n => .checkerLock n c) (fun s n => s.patLock n c = 1 ∧ s.is n (PAT.C_STATE_UNSUPPORTED c) = false)
    fun s n => ((s.set n (PAT.C_STATE_LOCK_STATE c) 2).set n (PAT.STATUS_LOCK.bit c.val) 1).irq n (PAT.IRQ_LOCK.bit c.val)) ∧
  (∀ c : Fin 3, Event (fun n => .checkerLock n c) (fun s n => s.patLock n c ≠ 1 ∨ s.is n (PAT.C_STATE_UNSUPPORTED c) = true)
    fun s _ => s) ∧
  (∀ c bits errs, Event (fun n => .checkerLockLost n c bits errs) (fun s n => s.patLock n c = 2) fun s n =>
    (((s.patCount n c bits errs).patSet n c 1).irq n (PAT.IRQ_LOCK_LOST.bit c.val)).sat n (PAT.C_LOCK_LOST_COUNT c)) ∧
  (∀ c bits errs, Event (fun n => .checkerLockLost n c bits errs) (fun s n => s.patLock n c ≠ 2) fun s _ => s) ∧
  (∀ (s : State) (n : Ch) (c : Fin 3) (bits errs : Nat), s.patGate n c = 2 → s.patLock n c = 2 → s.patCount n c bits errs =
    (s.sat64 n (PAT.C_BITS_LO c) bits).sat64 n (PAT.C_ERRS_LO c) errs) ∧
  (∀ (s : State) (n : Ch) (c : Fin 3) (bits errs : Nat), s.patGate n c ≠ 2 ∨ s.patLock n c ≠ 2 → s.patCount n c bits errs = s) ∧
  (∀ c : Fin 3, Event (fun n => .gateOpen n c) (fun s n => s.patGate n c ≠ 1 ∨ s.patLock n c ≠ 2) fun s _ => s) ∧
  (∀ c bits errs, Event (fun n => .gateClose n c bits errs) (fun s n => s.patGate n c ≠ 2 ∨ s.get n (PAT.C_GATE_US c) = 0)
    fun s _ => s) ∧
  (∀ c : Fin 3, Event (fun n => .gateOpen n c) (fun s n => s.patGate n c = 1 ∧ s.patLock n c = 2)
    fun s n => s.set n (PAT.C_STATE_GATE c) 2) ∧
  (∀ c bits errs, Event (fun n => .gateClose n c bits errs) (fun s n => s.patGate n c = 2 ∧ s.get n (PAT.C_GATE_US c) ≠ 0) fun s n =>
    ((s.patCount n c bits errs).set n (PAT.C_STATE_GATE c) 3).irq n (PAT.IRQ_GATE_DONE.bit c.val)) ∧
  (∀ c : Fin 3, Request (fun n => .gateGo n c) (PAT.C_CMD_GATE_GO c) fun s n =>
    ((s.set64 n (PAT.C_BITS_LO c) 0).set64 n (PAT.C_ERRS_LO c) 0).set n (PAT.C_STATE_GATE c) 1) ∧
  (∀ c : Fin 3, Request (fun n => .gateStop n c) (PAT.C_CMD_GATE_STOP c) fun s n => s.gateStop n c) ∧
  (∀ (s : State) (n : Ch) (c : Fin 3), s.patGate n c = 1 → s.gateStop n c =
    (s.set n (PAT.C_STATE_GATE c) 3).irq n (PAT.IRQ_GATE_DONE.bit c.val)) ∧
  (∀ (s : State) (n : Ch) (c : Fin 3), s.patGate n c = 2 → s.gateStop n c =
    ((s.patDraw n c).set n (PAT.C_STATE_GATE c) 3).irq n (PAT.IRQ_GATE_DONE.bit c.val)) ∧
  (∀ (s : State) (n : Ch) (c : Fin 3), s.patGate n c ≠ 1 → s.patGate n c ≠ 2 → s.gateStop n c = s) ∧
  (∀ c : Fin 3, Request (fun n => .patClr n c) (PAT.C_CMD_CLR c) fun s n =>
    ((s.set64 n (PAT.C_BITS_LO c) 0).set64 n (PAT.C_ERRS_LO c) 0).set n (PAT.C_STATE_GATE c) 0) ∧
  (∀ u : Fin 3, Request (fun n => .errInj n u) (PAT.G_CMD_ERR_INJ u) fun s n => s.incr n (PAT.G_INJ_COUNT u)) ∧
  (∀ (u : Fin 3) (data : Word) (n : Ch), Put (.patCfgWrite n (u.castLE (by decide)) data) ((PAT.U_CFG u).addr n) reqHost
    (fun _ => True) fun s =>
    if data &&& 0xFF00000F#32 = s.word ((PAT.U_CFG u).addr n) then s
    else (s.set n (PAT.U_CFG u) (data &&& 0xFF00000F#32).toNat).levels n) ∧
  (∀ (c : Fin 3) (data : Word) (n : Ch), Put (.patCfgWrite n (c.natAdd 3) data) ((PAT.U_CFG (c.val + 3)).addr n) reqHost
    (fun _ => True) fun s =>
    let t := s.patDraw n c
    if data &&& 0xFF00000F#32 = t.word ((PAT.U_CFG (c.val + 3)).addr n) then t
    else
      let u := (t.set n (PAT.U_CFG (c.val + 3)) (data &&& 0xFF00000F#32).toNat).set n (PAT.C_STATE_UNSUPPORTED c)
        (if getBits (data &&& 0xFF00000F#32) 0 4 = 9 then 1 else 0)
      (if u.patLock n c = 0 then u else u.patSet n c 1).levels n) ∧
  Event .patFsmPar (fun _ _ => True) (fun s n =>
    ((List.range 6).foldl (fun a u => a.set n (PAT.U_CFG_EN u) 0) (s.raiseFsm n PAT.FLT_PAT_FSM_PAR)).levels n)

/-- Power paths: a request is refused with the first refuser's code and the mask of all, and is accounted (R497, R498); it
completes at once in its target state, or starts its path (R491); a write of a requester that may not ask is discarded (R491). A
WAIT is answered by the controller that runs, and enters the state or is refused (R494, R497); no WAIT in time ends the path
(R494, R497). A leg's end, counted in ENTRIES where it is an entry's, reaches its state and ends the path, or starts the next
leg, which an entry's refusers end and a shut Sluice keeps from starting (R491, R504); a parity error ends a path under way as
SEQUENCER_BUSY (R505); CLR_STATS zeroes the counts. -/
def Obligations.PowerStatesAreReachedLegByLeg : Prop :=
  (∀ (target : BitVec 3) (req : Nat) (n : Ch), targetReq (some n) req = true →
    Put (.chPwrTarget n target req) (PWR.TARGET.addr n) req (fun _ => True) fun s => s.pwrRequest (.ch n) target.toNat) ∧
  (∀ (target : BitVec 3) (req : Nat) (n : Ch), targetReq (some n) req = false →
    Put (.chPwrTarget n target req) (PWR.TARGET.addr n) req (fun _ => True) fun s => s) ∧
  (∀ (target : BitVec 4) (req : Nat), targetReq none req = true →
    Put (.devPwrTarget target req) 0x4040 req (fun _ => True) fun s => s.pwrRequest .dev target.toNat) ∧
  (∀ (target : BitVec 4) (req : Nat), targetReq none req = false →
    Put (.devPwrTarget target req) 0x4040 req (fun _ => True) fun s => s) ∧
  (∀ (s : State) (x : Scope) (target c : Nat) (l : List Nat), s.refusers x target = c :: l → s.pwrRequest x target =
    ((((((s.incr (scopeCh x) (pwrF x PWR.REFUSALS)).sat (scopeCh x) (pwrF x (PWR.REFUSER_COUNT_COUNT c))).pset x
      PWR.LAST_REFUSAL_CODE c).pset x PWR.LAST_REFUSAL_MASK (refuserMask (c :: l))).pset x PWR.LAST_REFUSAL_TARGET target).pirq x
      PWR.IRQ_REFUSED).pwrTell x c) ∧
  (∀ (s : State) (n : Ch) (target : Nat), s.refusers (.ch n) target = [] → s.pwrRequest (.ch n) target =
    let t := s.set n PWR.TARGET_STATE target
    if t.chState n = target then t.irq n PWR.IRQ_DONE else t.pathStart (.ch n) target false false) ∧
  (∀ (s : State) (target : Nat), s.refusers .dev target = [] → s.pwrRequest .dev target =
    let t := s.dset { DPWR.TARGET with lo := 0, w := 4 } target
    if t.dev.state.code = target then t.pirq .dev PWR.IRQ_DONE else t.pathStart .dev target false false) ∧
  (∀ n : Ch, When (.controllerWait (.ch n)) (fun s => s.phase (.ch n) = 2 ∧ (s.path (.ch n)).deaf = false ∧
      s.get n MBXW.WRIGHT_STATUS_STATE = 2 ∧ (s.chan n).wright.holding = false ∧ (s.chan n).wright.inReset = false ∧
      s.entryRefusers (.ch n) = []) fun s =>
    (((s.setWright n 3).setPhase (.ch n) 3).modPath (.ch n) fun p => { p with waitAt := s.dev.ticks }).levels n) ∧
  (∀ n c l, When (.controllerWait (.ch n)) (fun s => s.phase (.ch n) = 2 ∧ (s.path (.ch n)).deaf = false ∧
      s.get n MBXW.WRIGHT_STATUS_STATE = 2 ∧ (s.chan n).wright.holding = false ∧ (s.chan n).wright.inReset = false ∧
      s.entryRefusers (.ch n) = c :: l) fun s =>
    s.pathAbort (.ch n) c (refuserMask (c :: l))) ∧
  When (.controllerWait .dev) (fun s => s.phase .dev = 2 ∧ (s.path .dev).deaf = false ∧ s.dget MILLER.STATUS_CORE = 1 ∧
      s.millerBoxFull = false ∧ s.channelActive 6 = false) (fun s =>
    ((s.millerSleep.setPhase .dev 3).modPath .dev fun p => { p with waitAt := s.dev.ticks }).levelsAll allCh) ∧
  When (.controllerWait .dev) (fun s => s.phase .dev = 2 ∧ (s.path .dev).deaf = false ∧ s.dget MILLER.STATUS_CORE = 1 ∧
      s.millerBoxFull = false ∧ s.channelActive 6 = true) (fun s => s.pathAbort .dev 0xA (refuserMask [0xA])) ∧
  (∀ x, When (.controllerWait x) (fun s => s.phase x ≠ 2 ∨ (s.path x).deaf = true) fun s => s) ∧
  (∀ n : Ch, When (.controllerWait (.ch n)) (fun s => s.get n MBXW.WRIGHT_STATUS_STATE ≠ 2 ∨ (s.chan n).wright.holding = true ∨
      (s.chan n).wright.inReset = true) fun s => s) ∧
  When (.controllerWait .dev) (fun s => s.dget MILLER.STATUS_CORE ≠ 1) (fun s => s) ∧
  (∀ x, When (.waitTimeout x) (fun s => s.phase x = 2) fun s => s.pathAbort x 8 0x100) ∧
  (∀ x, When (.waitTimeout x) (fun s => s.phase x ≠ 2) fun s => s) ∧
  (∀ x us w st, When (.legComplete x us w) (fun s => (s.path x).legs = [st] ∧ s.phase x ≠ 0 ∧ s.phase x ≠ 2 ∧ s.legMay x st = true) fun s =>
    let t := if s.phase x = 3 then s.incr (scopeCh x) (pwrF x PWR.ENTRIES) else s
    (((t.pwrReach x st).modPath x fun p => { p with legs := [] }).pathDone x us w).pwrLevels x) ∧
  (∀ x us w st next l, When (.legComplete x us w) (fun s => (s.path x).legs = st :: next :: l ∧ s.phase x ≠ 0 ∧ s.phase x ≠ 2 ∧
      s.phase x ≠ 3 ∧ s.legMay x st = true ∧
      (isEntry x next = false ∨ ((s.pwrReach x st).modPath x fun p => { p with legs := next :: l }).entryRefusers x = []) ∧
      ((s.pwrReach x st).modPath x fun p => { p with legs := next :: l }).dev.shut = false) fun s =>
    (((s.pwrReach x st).modPath x fun p => { p with legs := next :: l }).legStart x next).pwrLevels x) ∧
  (∀ x us w st next l, When (.legComplete x us w) (fun s => (s.path x).legs = st :: next :: l ∧ s.phase x ≠ 0 ∧ s.phase x ≠ 2 ∧
      s.phase x ≠ 3 ∧ s.legMay x st = true ∧
      ((s.pwrReach x st).modPath x fun p => { p with legs := next :: l }).dev.shut = true) fun s =>
    (((s.pwrReach x st).modPath x fun p => { p with legs := next :: l }).pathEnd x).pwrLevels x) ∧
  (∀ x us w st next l c r, When (.legComplete x us w) (fun s => (s.path x).legs = st :: next :: l ∧ s.phase x ≠ 0 ∧ s.phase x ≠ 2 ∧
      s.phase x ≠ 3 ∧ s.legMay x st = true ∧ isEntry x next = true ∧
      ((s.pwrReach x st).modPath x fun p => { p with legs := next :: l }).entryRefusers x = c :: r ∧
      ((s.pwrReach x st).modPath x fun p => { p with legs := next :: l }).dev.shut = false) fun s =>
    ((s.pwrReach x st).modPath x fun p => { p with legs := next :: l }).pathAbort x c (refuserMask (c :: r))) ∧
  (∀ x us w, When (.legComplete x us w) (fun s => s.phase x = 0 ∨ s.phase x = 2 ∨ (s.path x).legs = [] ∨
      ∃ st, (s.path x).legs.head? = some st ∧ s.legMay x st = false) fun s => s) ∧
  Event .pwrFsmPar (fun s n => (s.raiseFsm n PWR.FLT_PWR_FSM_PAR).phase (.ch n) ≠ 0) (fun s n =>
    (s.raiseFsm n PWR.FLT_PWR_FSM_PAR).pathAbort (.ch n) 1 2) ∧
  Event .pwrFsmPar (fun s n => (s.raiseFsm n PWR.FLT_PWR_FSM_PAR).phase (.ch n) = 0 ∧
      ((s.raiseFsm n PWR.FLT_PWR_FSM_PAR).path (.ch n)).latched = 0) (fun s n => s.raiseFsm n PWR.FLT_PWR_FSM_PAR) ∧
  When .pwrSeqPar (fun _ => True) (fun s => s.raiseFsm 0 DPWR.FLT_PWR_SEQ_PAR) ∧
  Put (.pwrClrStats .dev) 0x4044 reqHost (fun _ => True) (fun s =>
    (s.plainWrite 0x4044 2).mapRegs 0x4060 0x40C0 fun _ _ => 0) ∧
  (∀ n : Ch, Put (.pwrClrStats (.ch n)) (PWR.CMD.addr n) reqHost (fun _ => True) fun s =>
    (s.plainWrite (PWR.CMD.addr n) 2).mapRegs (chPage n 0x16 + 0x60) (chPage n 0x16 + 0xC0) fun _ _ => 0)

/-- Wakes and Watch: an enabled wake that acts where the scope rests starts its path to the hub (R499); during a wake's exit it
is added to WAKE_SRC (R499); on the way into a state it is latched (R501), to be replayed at the path's end (R501); a disabled
one is ignored, the device's HOST wake apart (R499), and so is any while the Sluice is shut. A wake timer of 0 wakes nothing
(R499). A Watch sample starts in WATCH and converts RXPWR, its result counts the run of hits and wakes at the HITS-th, and it is
missed where no result came (R502, R503); without REFCLK none starts and none converts (R22). -/
def Obligations.WakesEndTheSleepThatTheyMeet : Prop :=
  (∀ n : Ch, Put (.chWakeCmd n) (PWR.CMD_WAKE.addr n) reqHost (fun _ => True) fun s => (s.plainWrite (PWR.CMD.addr n) 1).chWake n 2) ∧
  (∀ (s : State) (x : Scope) (src : Nat), (bitOf (s.pget x PWR.WAKE_EN) src = true ∨ (x = .dev ∧ src = 2)) → s.dev.shut = false →
      s.phase x = 0 →
    (s.path x).latched = 0 → s.wakeScope x src =
      if wakeActs x src (s.pwrState x) = true then (s.pset x PWR.WAKE_SRC (2 ^ src)).pathStart x (pwrHub x) true false else s) ∧
  (∀ (s : State) (x : Scope) (src : Nat), s.dev.shut = true → s.wakeScope x src = s) ∧
  (∀ (s : State) (x : Scope) (src : Nat), bitOf (s.pget x PWR.WAKE_EN) src = false → ¬ (x = .dev ∧ src = 2) →
    s.wakeScope x src = s) ∧
  (∀ (s : State) (x : Scope) (src : Nat), bitOf (s.pget x PWR.WAKE_EN) src = true → s.dev.shut = false → s.phase x ≠ 0 →
    (s.path x).byWake = true → s.wakeScope x src =
      if wakeActs x src (s.pwrState x) = true then s.pset x PWR.WAKE_SRC (s.pget x PWR.WAKE_SRC ||| 2 ^ src) else s) ∧
  (∀ (s : State) (x : Scope) (src : Nat), bitOf (s.pget x PWR.WAKE_EN) src = true → s.dev.shut = false → s.phase x ≠ 0 →
    (s.path x).byWake = false → isEntry x (s.path x).target = true → wakeActs x src (s.path x).target = true →
    s.wakeScope x src = (s.pset x PWR.STATUS_WAKE_LATCHED 1).modPath x fun q => { q with latched := q.latched ||| 2 ^ src }) ∧
  (∀ n : Ch, When (.wakeTimerExpiry (.ch n)) (fun s => s.get n PWR.WAKE_TIMER_MS ≠ 0) fun s => s.chWake n 4) ∧
  When (.wakeTimerExpiry .dev) (fun s => s.pget .dev PWR.WAKE_TIMER_MS ≠ 0) (fun s => s.devWake 4) ∧
  (∀ x, When (.wakeTimerExpiry x) (fun s => s.pget x PWR.WAKE_TIMER_MS = 0) fun s => s) ∧
  When (.wakeReplay .dev) (fun s => s.phase .dev = 0 ∧ (s.path .dev).latched ≠ 0 ∧ s.dev.shut = false) (fun s =>
    ((((s.pset .dev PWR.STATUS_WAKE_LATCHED 0).pset .dev PWR.WAKE_SRC (s.path .dev).latched).pirq .dev PWR.IRQ_BOUNCED).sat 0
      (pwrF .dev PWR.BOUNCES_COUNT)).pathStart .dev 4 true true) ∧
  (∀ n : Ch, When (.wakeReplay (.ch n)) (fun s => s.phase (.ch n) = 0 ∧ (s.path (.ch n)).latched ≠ 0 ∧ s.dev.shut = false) fun s =>
    (((((s.set n PWR.STATUS_WAKE_LATCHED 0).set n PWR.WAKE_SRC (s.path (.ch n)).latched).irq n PWR.IRQ_BOUNCED).sat n
      PWR.BOUNCES_COUNT).pathStart (.ch n) 1 true true).devWake 5) ∧
  (∀ x, When (.wakeReplay x) (fun s => s.phase x ≠ 0 ∨ (s.path x).latched = 0 ∨ s.dev.shut = true) fun s => s) ∧
  Event .watchSampleStart (fun s n => s.dev.refclk = true ∧ s.chState n = 3 ∧ s.chPhase n = 0 ∧ s.is n PWR.STATUS_SAMPLING = false) (fun s n =>
    ((s.set n PWR.STATUS_SAMPLING 1).setStreamDue n 1 true).modGauge n fun x =>
      { x with b := { x.b with prev := x.b.prev.map fun p => (16, p.2) } }) ∧
  Event .watchSampleStart (fun s n => s.dev.refclk = false ∨ s.chState n ≠ 3 ∨ s.chPhase n ≠ 0 ∨
      s.is n PWR.STATUS_SAMPLING = true) (fun s _ => s) ∧
  (∀ v : BitVec 16, Event (fun n => .watchSampleResult n v) (fun s n => s.dev.refclk = false ∨ s.is n PWR.STATUS_SAMPLING = false ∨
      s.streamDue n 1 = false ∨ s.is n GAUGE.FLT_GAUGE_FSM_PAR = true) fun s _ => s) ∧
  (∀ v : BitVec 16, Event (fun n => .watchSampleResult n v) (fun s n => s.dev.refclk = true ∧ s.is n PWR.STATUS_SAMPLING = true ∧ s.streamDue n 1 = true ∧
      s.is n GAUGE.FLT_GAUGE_FSM_PAR = false) fun s n =>
    let t := ((s.streamWrite n 1 v.toNat).streamTake n 1).incr n PWR.SAMPLES
    let run := t.get n PWR.WATCH_LAST_RUN
    let u := ((t.set n PWR.WATCH_LAST_VALUE v.toNat).set n PWR.WATCH_LAST_VALID 1).set n PWR.WATCH_LAST_RUN
      (if t.watchHit n v.toNat = true then min 15 (run + 1) else 0)
    if t.watchHit n v.toNat = true ∧ run + 1 = max 1 (s.get n PWR.WATCH_CFG_HITS) then
      ((u.irq n PWR.IRQ_WATCH_HIT).sat n PWR.WATCH_COUNTS_HITS).chWake n 0
    else u) ∧
  Event .watchSampleEnd (fun s n => s.is n PWR.STATUS_SAMPLING = true) (fun s n =>
    let t := s.set n PWR.STATUS_SAMPLING 0
    if t.streamDue n 1 = true then
      (((t.setStreamDue n 1 false).irq n PWR.IRQ_SAMPLE_MISS).sat n PWR.WATCH_COUNTS_MISSES).incr n PWR.SAMPLES
    else t) ∧
  Event .watchSampleEnd (fun s n => s.is n PWR.STATUS_SAMPLING = false) (fun s _ => s)

/-- The temperature sensors: an update takes the valid readings, keeps MAX and PEAK, and moves ABOVE, WARN and BELOW with their
hysteresis, the rise of ABOVE a fault; CLR_PEAK sets PEAK to MAX (R530 to R532). -/
def Obligations.TheSensorsJudgeTheHottestReading : Prop :=
  (∀ complex, When (.sensUpdate complex) (fun _ => True) fun s =>
    let a := s.takeTemps allCh
    let b := match complex with
      | some v => (a.dset SENS.COMPLEX_VALID 1).dset SENS.COMPLEX_C16 v.toNat
      | none => a.dset SENS.COMPLEX_VALID 0
    let vs := b.tempList.map Prod.snd
    let t := b.tempMax (hottest b.tempList)
    let above := thresholdNext (t.is 0 SENS.STATUS_ABOVE) t.tjUpper t.tjHyst vs
    let warn := thresholdNext (t.is 0 SENS.STATUS_WARN) (toSigned 16 (t.dget SENS.CFG_WARN)) t.tjHyst vs
    let below := vs.any fun v => decide (v < t.tjLower)
    let u := ((t.dset SENS.STATUS_ABOVE (if above = true then 1 else 0)).dset SENS.STATUS_WARN
      (if warn = true then 1 else 0)).dset SENS.STATUS_BELOW (if below = true then 1 else 0)
    let v := if above = true ∧ t.is 0 SENS.STATUS_ABOVE = false then (u.draise SENS.FLT_TJ_ABOVE_GRADE).dirq SENS.IRQ_ABOVE else u
    let w := if t.is 0 SENS.STATUS_ABOVE = true ∧ above = false then v.dirq SENS.IRQ_ABOVE_CLEAR else v
    let y := if warn = true ∧ t.is 0 SENS.STATUS_WARN = false then w.dirq SENS.IRQ_WARN else w
    if below = true ∧ t.is 0 SENS.STATUS_BELOW = false then y.dirq SENS.IRQ_BELOW_GRADE else y) ∧
  (∀ (now : Bool) (upper hyst : Int) (l : List Int), thresholdNext now upper hyst l = true ↔
    ∃ v ∈ l, (if now = true then upper - hyst else upper) < v) ∧
  Put .clrPeak 0xE054 reqHost (fun s => s.longOp 0xE054 = false ∧ s.pageHeld 0xE054 = false) (fun s =>
    (s.plainWrite 0xE054 1).dset SENS.PEAK ((s.plainWrite 0xE054 1).dget SENS.MAX))
end

