-- ==== Sys2Proof/Laws/Store.lean ====
section
/-! SUPPORT. The laws of sparse storage: a read after a write, and every operation keeps the canonical form. -/

namespace Sys2Proof.Machine

variable {α : Type} (d : Nat → α)

theorem Store.get_erase_ne (m : List (Nat × α)) {a b : Nat} (h : a ≠ b) :
    Store.get d (Store.erase m a) b = Store.get d m b := by
  induction m with
  | nil => rfl
  | cons c m ih =>
    unfold Store.erase
    by_cases hc : c.1 = a
    · rw [if_pos hc, ih]
      have hb : c.1 ≠ b := fun e => h (hc.symm.trans e)
      simp only [Store.get, if_neg hb]
    · rw [if_neg hc]
      simp only [Store.get, ih]

theorem Store.get_insert_ne (m : List (Nat × α)) {a b : Nat} (v : α) (h : a ≠ b) :
    Store.get d (Store.insert m a v) b = Store.get d m b := by
  induction m with
  | nil => simp only [Store.insert, Store.get, if_neg h]
  | cons c m ih =>
    unfold Store.insert
    split
    · simp only [Store.get, if_neg h]
    · split
      · rename_i hc
        have hb : c.1 ≠ b := fun e => h (hc.trans e)
        simp only [Store.get, if_neg h, if_neg hb]
      · simp only [Store.get, ih]

theorem Store.get_insert_same (m : List (Nat × α)) (a : Nat) (v : α) :
    Store.get d (Store.insert m a v) a = v := by
  induction m with
  | nil => simp [Store.insert, Store.get]
  | cons c m ih =>
    unfold Store.insert
    split
    · simp [Store.get]
    · split
      · simp [Store.get]
      · rename_i hc
        have hb : c.1 ≠ a := fun e => hc e.symm
        simp only [Store.get, if_neg hb, ih]

theorem Store.get_erase_same (m : List (Nat × α)) (a : Nat) : Store.get d (Store.erase m a) a = d a := by
  induction m with
  | nil => rfl
  | cons c m ih =>
    unfold Store.erase
    by_cases hc : c.1 = a
    · rw [if_pos hc, ih]
    · rw [if_neg hc]
      simp only [Store.get, if_neg hc, ih]

/-- A read after a write to the same address gives the value written. -/
@[simp] theorem Store.get_set_same [DecidableEq α] (m : List (Nat × α)) (a : Nat) (v : α) : Store.get d (Store.set d m a v) a = v := by
  unfold Store.set
  split
  · rename_i h
    rw [Store.get_erase_same, h]
  · exact Store.get_insert_same d _ a v

/-- A write leaves every other address alone. -/
theorem Store.get_set_ne [DecidableEq α] (m : List (Nat × α)) {a b : Nat} (v : α) (h : a ≠ b) :
    Store.get d (Store.set d m a v) b = Store.get d m b := by
  unfold Store.set
  split
  · exact Store.get_erase_ne d m h
  · rw [Store.get_insert_ne d _ v h, Store.get_erase_ne d m h]

theorem Store.mem_erase {m : List (Nat × α)} {a : Nat} {e : Nat × α} (h : e ∈ Store.erase m a) : e ∈ m ∧ e.1 ≠ a := by
  induction m with
  | nil => cases h
  | cons c m ih =>
    unfold Store.erase at h
    split at h
    · exact ⟨List.mem_cons_of_mem _ (ih h).1, (ih h).2⟩
    · rename_i hc
      rcases List.mem_cons.mp h with rfl | h
      · exact ⟨List.mem_cons_self, hc⟩
      · exact ⟨List.mem_cons_of_mem _ (ih h).1, (ih h).2⟩

theorem Store.mem_insert {m : List (Nat × α)} {a : Nat} {v : α} {e : Nat × α} (h : e ∈ Store.insert m a v) :
    e = (a, v) ∨ e ∈ m := by
  induction m with
  | nil => exact .inl (by simpa [Store.insert] using h)
  | cons c m ih =>
    unfold Store.insert at h
    split at h
    · rcases List.mem_cons.mp h with rfl | h
      · exact .inl rfl
      · exact .inr h
    · split at h
      · rcases List.mem_cons.mp h with rfl | h
        · exact .inl rfl
        · exact .inr (List.mem_cons_of_mem _ h)
      · rcases List.mem_cons.mp h with rfl | h
        · exact .inr List.mem_cons_self
        · rcases ih h with h | h
          · exact .inl h
          · exact .inr (List.mem_cons_of_mem _ h)

/-- The canonical form of a list with a first entry. -/
theorem Store.wf_cons [DecidableEq α] {c : Nat × α} {m : List (Nat × α)} :
    Store.wf d (c :: m) = true ↔ (∀ e ∈ m, c.1 < e.1) ∧ c.2 ≠ d c.1 ∧ Store.wf d m = true := by
  simp [Store.wf, Bool.and_eq_true, and_assoc]

theorem Store.wf_erase [DecidableEq α] {m : List (Nat × α)} (h : Store.wf d m = true) (a : Nat) :
    Store.wf d (Store.erase m a) = true := by
  induction m with
  | nil => rfl
  | cons c m ih =>
    obtain ⟨h1, h2, h3⟩ := (Store.wf_cons d).mp h
    unfold Store.erase
    split
    · exact ih h3
    · exact (Store.wf_cons d).mpr ⟨fun e he => h1 e (Store.mem_erase he).1, h2, ih h3⟩

theorem Store.wf_insert [DecidableEq α] {m : List (Nat × α)} (h : Store.wf d m = true) (a : Nat) (v : α) (hv : v ≠ d a) :
    Store.wf d (Store.insert m a v) = true := by
  induction m with
  | nil => exact (Store.wf_cons d).mpr ⟨by simp, hv, rfl⟩
  | cons c m ih =>
    obtain ⟨h1, h2, h3⟩ := (Store.wf_cons d).mp h
    unfold Store.insert
    split
    · rename_i hlt
      refine (Store.wf_cons d).mpr ⟨fun e he => ?_, hv, h⟩
      rcases List.mem_cons.mp he with rfl | he
      · exact hlt
      · exact Nat.lt_trans hlt (h1 e he)
    · split
      · rename_i heq
        exact (Store.wf_cons d).mpr ⟨fun e he => by rw [heq]; exact h1 e he, hv, h3⟩
      · rename_i hlt hne
        refine (Store.wf_cons d).mpr ⟨fun e he => ?_, h2, ih h3⟩
        rcases Store.mem_insert he with rfl | he
        · show c.1 < a
          omega
        · exact h1 e he

/-- A write keeps the canonical form. -/
theorem Store.wf_set [DecidableEq α] {m : List (Nat × α)} (h : Store.wf d m = true) (a : Nat) (v : α) :
    Store.wf d (Store.set d m a v) = true := by
  unfold Store.set
  split
  · exact Store.wf_erase d h a
  · rename_i hv
    exact Store.wf_insert d (Store.wf_erase d h a) a v hv

/-- Leaving entries out keeps the canonical form. -/
theorem Store.wf_filter [DecidableEq α] {m : List (Nat × α)} (h : Store.wf d m = true) (p : Nat × α → Bool) :
    Store.wf d (m.filter p) = true := by
  induction m with
  | nil => rfl
  | cons c m ih =>
    obtain ⟨h1, h2, h3⟩ := (Store.wf_cons d).mp h
    by_cases hp : p c = true
    · rw [List.filter_cons_of_pos hp]
      exact (Store.wf_cons d).mpr ⟨fun e he => h1 e (List.mem_filter.mp he).1, h2, ih h3⟩
    · rw [List.filter_cons_of_neg hp]
      exact ih h3

/-- Rewriting the values and leaving out those that an unlisted address reads as keeps the canonical form. -/
theorem Store.wf_map [DecidableEq α] {m : List (Nat × α)} (h : Store.wf d m = true) (f : Nat × α → Nat × α) (hf : ∀ c, (f c).1 = c.1) :
    Store.wf d ((m.map f).filter fun c => decide (c.2 ≠ d c.1)) = true := by
  induction m with
  | nil => rfl
  | cons c m ih =>
    obtain ⟨h1, h2, h3⟩ := (Store.wf_cons d).mp h
    by_cases hp : (f c).2 = d (f c).1
    · rw [List.map_cons, List.filter_cons_of_neg (by simp [hp])]
      exact ih h3
    · rw [List.map_cons, List.filter_cons_of_pos (by simp [hp])]
      refine (Store.wf_cons d).mpr ⟨fun e he => ?_, hp, ih h3⟩
      obtain ⟨x, hx, rfl⟩ := List.mem_map.mp (List.mem_filter.mp he).1
      rw [hf, hf]
      exact h1 x hx

end Sys2Proof.Machine
end

