-- ==== Sys2Proof/Laws/State.lean ====
section
/-! SUPPORT. What each primitive update of the state changes and what it leaves alone, field by field, and the read and
write laws of registers, register fields, memory bytes and hidden state. -/

namespace Sys2Proof.Machine

variable (s : State)

/-! ## A register word written -/

@[simp] theorem State.setWord_pending (a : Nat) (v : Word) : (s.setWord a v).pending = s.pending := rfl
@[simp] theorem State.setWord_mem (a : Nat) (v : Word) : (s.setWord a v).mem = s.mem := rfl
@[simp] theorem State.setWord_ch (a : Nat) (v : Word) : (s.setWord a v).ch = s.ch := rfl
@[simp] theorem State.setWord_dev (a : Nat) (v : Word) : (s.setWord a v).dev = s.dev := rfl
@[simp] theorem State.setWord_draws (a : Nat) (v : Word) : (s.setWord a v).draws = s.draws := rfl

/-- A register reads as what was last written to it. -/
@[simp] theorem State.word_setWord_same (a : Nat) (v : Word) : (s.setWord a v).word a = v :=
  Store.get_set_same resetWord s.regs a v

/-- A register write leaves every other register alone. -/
theorem State.word_setWord_ne {a b : Nat} (v : Word) (h : a ≠ b) : (s.setWord a v).word b = s.word b :=
  Store.get_set_ne resetWord s.regs v h

/-! ## A register field written -/

@[simp] theorem State.set_pending (n : Ch) (f : Field) (v : Nat) : (s.set n f v).pending = s.pending := rfl
@[simp] theorem State.set_mem (n : Ch) (f : Field) (v : Nat) : (s.set n f v).mem = s.mem := rfl
@[simp] theorem State.set_ch (n : Ch) (f : Field) (v : Nat) : (s.set n f v).ch = s.ch := rfl
@[simp] theorem State.set_dev (n : Ch) (f : Field) (v : Nat) : (s.set n f v).dev = s.dev := rfl
@[simp] theorem State.set_draws (n : Ch) (f : Field) (v : Nat) : (s.set n f v).draws = s.draws := rfl

/-- A field write leaves every other register alone. -/
theorem State.word_set_ne {n : Ch} {f : Field} (v : Nat) {x : Nat} (h : f.addr n ≠ x) : (s.set n f v).word x = s.word x :=
  State.word_setWord_ne s _ h

/-- A bit of a word with a field replaced. -/
theorem setBits_getLsbD (x : Word) (lo w v i : Nat) (hi : i < 32) :
    (setBits x lo w v).getLsbD i = if lo ≤ i ∧ i < lo + w then v.testBit (i - lo) else x.getLsbD i := by
  unfold setBits bitMask
  simp only [BitVec.getLsbD_or, BitVec.getLsbD_and, BitVec.getLsbD_not, BitVec.getLsbD_ofNat, Nat.testBit_shiftLeft,
    Nat.testBit_two_pow_sub_one, Nat.testBit_mod_two_pow, hi, decide_true, Bool.true_and, ge_iff_le]
  by_cases h1 : lo ≤ i
  · by_cases h2 : i < lo + w
    · have h3 : i - lo < w := by omega
      simp [h1, h2, h3]
    · have h3 : ¬ i - lo < w := by omega
      simp [h1, h2, h3]
  · simp [h1]

theorem getBits_testBit (x : Word) (lo w i : Nat) :
    (getBits x lo w).testBit i = (decide (i < w) && x.getLsbD (lo + i)) := by
  simp [getBits, Nat.testBit_mod_two_pow, Nat.testBit_shiftRight, BitVec.getLsbD]

theorem getBits_setBits_same (x : Word) (lo w v : Nat) (h : lo + w ≤ 32) :
    getBits (setBits x lo w v) lo w = v % 2 ^ w := by
  apply Nat.eq_of_testBit_eq
  intro i
  rw [getBits_testBit, Nat.testBit_mod_two_pow]
  by_cases hi : i < w
  · rw [setBits_getLsbD x lo w v (lo + i) (by omega), if_pos ⟨by omega, by omega⟩, Nat.add_sub_cancel_left]
  · simp [hi]

theorem getBits_setBits_disjoint (x : Word) (lo w v lo' w' : Nat) (h : lo' + w' ≤ 32)
    (hd : lo + w ≤ lo' ∨ lo' + w' ≤ lo) : getBits (setBits x lo w v) lo' w' = getBits x lo' w' := by
  apply Nat.eq_of_testBit_eq
  intro i
  rw [getBits_testBit, getBits_testBit]
  by_cases hi : i < w'
  · rw [setBits_getLsbD x lo w v (lo' + i) (by omega), if_neg (by omega)]
  · simp [hi]

/-- A field reads as the low bits of what was last written to it. -/
theorem State.get_set_same (n : Ch) (f : Field) (v : Nat) (h : f.lo + f.w ≤ 32) :
    (s.set n f v).get n f = v % 2 ^ f.w := by
  unfold State.get State.set
  rw [State.word_setWord_same, getBits_setBits_same _ _ _ _ h]

/-- A field write leaves the fields of every other register alone. -/
theorem State.get_set_addr {n m : Ch} {f g : Field} (v : Nat) (h : f.addr n ≠ g.addr m) :
    (s.set n f v).get m g = s.get m g := by
  unfold State.get State.set
  rw [State.word_setWord_ne s _ h]

/-- A field write leaves the other fields of its register alone. -/
theorem State.get_set_bits {n m : Ch} {f g : Field} (v : Nat) (ha : f.addr n = g.addr m) (hg : g.lo + g.w ≤ 32)
    (hd : f.lo + f.w ≤ g.lo ∨ g.lo + g.w ≤ f.lo) : (s.set n f v).get m g = s.get m g := by
  unfold State.get State.set
  rw [ha, State.word_setWord_same, getBits_setBits_disjoint _ _ _ _ _ _ hg hd]

/-- Two fields of one page set that share no bit. -/
def Field.apart (f g : Field) : Bool :=
  decide (g.lo + g.w ≤ 32 ∧ (f.base + f.off ≠ g.base + g.off ∨ f.lo + f.w ≤ g.lo ∨ g.lo + g.w ≤ f.lo))

/-- A field write leaves every field of its channel that shares no bit with it alone. -/
theorem State.get_set_apart {n : Ch} {f g : Field} (v : Nat) (h : f.apart g = true) : (s.set n f v).get n g = s.get n g := by
  obtain ⟨hg, hd⟩ := of_decide_eq_true h
  by_cases ha : f.addr n = g.addr n
  · refine State.get_set_bits s v ha hg (hd.resolve_left fun hne => hne ?_)
    unfold Field.addr at ha
    omega
  · exact State.get_set_addr s v ha

/-- A field's value fits its width. -/
theorem State.get_lt (n : Ch) (f : Field) : s.get n f < 2 ^ f.w := Nat.mod_lt _ (Nat.two_pow_pos _)

/-! ## A memory byte written -/

@[simp] theorem State.setCell_pending (a : Nat) (v : Byte) : (s.setCell a v).pending = s.pending := rfl
@[simp] theorem State.setCell_regs (a : Nat) (v : Byte) : (s.setCell a v).regs = s.regs := rfl
@[simp] theorem State.setCell_ch (a : Nat) (v : Byte) : (s.setCell a v).ch = s.ch := rfl
@[simp] theorem State.setCell_dev (a : Nat) (v : Byte) : (s.setCell a v).dev = s.dev := rfl
@[simp] theorem State.setCell_draws (a : Nat) (v : Byte) : (s.setCell a v).draws = s.draws := rfl

/-- A byte of memory reads as what was last written to it. -/
@[simp] theorem State.cell_setCell_same (a : Nat) (v : Byte) : (s.setCell a v).cell a = v :=
  Store.get_set_same memDefault s.mem a v

/-- A write of one byte leaves every other byte alone. -/
theorem State.cell_setCell_ne {a b : Nat} (v : Byte) (h : a ≠ b) : (s.setCell a v).cell b = s.cell b :=
  Store.get_set_ne memDefault s.mem v h

/-! ## Hidden state rewritten -/

@[simp] theorem State.modCh_pending (n : Ch) (f : Chan → Chan) : (s.modCh n f).pending = s.pending := rfl
@[simp] theorem State.modCh_regs (n : Ch) (f : Chan → Chan) : (s.modCh n f).regs = s.regs := rfl
@[simp] theorem State.modCh_mem (n : Ch) (f : Chan → Chan) : (s.modCh n f).mem = s.mem := rfl
@[simp] theorem State.modCh_dev (n : Ch) (f : Chan → Chan) : (s.modCh n f).dev = s.dev := rfl
@[simp] theorem State.modCh_draws (n : Ch) (f : Chan → Chan) : (s.modCh n f).draws = s.draws := rfl
@[simp] theorem State.modCh_word (n : Ch) (f : Chan → Chan) (a : Nat) : (s.modCh n f).word a = s.word a := rfl
@[simp] theorem State.modCh_get (n m : Ch) (f : Chan → Chan) (g : Field) : (s.modCh n f).get m g = s.get m g := rfl

/-- The hidden state of the channel rewritten. -/
@[simp] theorem State.chan_modCh_same (n : Ch) (f : Chan → Chan) : (s.modCh n f).chan n = f (s.chan n) := by
  simp [State.modCh, State.chan]

/-- The hidden state of every other channel. -/
theorem State.chan_modCh_ne {n m : Ch} (f : Chan → Chan) (h : n ≠ m) : (s.modCh n f).chan m = s.chan m := by
  have : n.val ≠ m.val := fun e => h (Fin.ext e)
  simp [State.modCh, State.chan, this]

@[simp] theorem State.modDev_pending (f : Dev → Dev) : (s.modDev f).pending = s.pending := rfl
@[simp] theorem State.modDev_regs (f : Dev → Dev) : (s.modDev f).regs = s.regs := rfl
@[simp] theorem State.modDev_mem (f : Dev → Dev) : (s.modDev f).mem = s.mem := rfl
@[simp] theorem State.modDev_ch (f : Dev → Dev) : (s.modDev f).ch = s.ch := rfl
@[simp] theorem State.modDev_dev (f : Dev → Dev) : (s.modDev f).dev = f s.dev := rfl
@[simp] theorem State.modDev_draws (f : Dev → Dev) : (s.modDev f).draws = s.draws := rfl
@[simp] theorem State.modDev_word (f : Dev → Dev) (a : Nat) : (s.modDev f).word a = s.word a := rfl
@[simp] theorem State.modDev_get (f : Dev → Dev) (m : Ch) (g : Field) : (s.modDev f).get m g = s.get m g := rfl
@[simp] theorem State.modDev_chan (f : Dev → Dev) (m : Ch) : (s.modDev f).chan m = s.chan m := rfl

@[simp] theorem State.set_chan (n m : Ch) (f : Field) (v : Nat) : (s.set n f v).chan m = s.chan m := rfl
@[simp] theorem State.set_cell (n : Ch) (f : Field) (v a : Nat) : (s.set n f v).cell a = s.cell a := rfl
@[simp] theorem State.setCell_word (a : Nat) (v : Byte) (b : Nat) : (s.setCell a v).word b = s.word b := rfl
@[simp] theorem State.setCell_get (a : Nat) (v : Byte) (m : Ch) (g : Field) : (s.setCell a v).get m g = s.get m g := rfl
@[simp] theorem State.modCh_cell (n : Ch) (f : Chan → Chan) (a : Nat) : (s.modCh n f).cell a = s.cell a := rfl
@[simp] theorem State.modDev_cell (f : Dev → Dev) (a : Nat) : (s.modDev f).cell a = s.cell a := rfl

/-- A fresh free value advances the counter and nothing else. -/
@[simp] theorem State.draw_pending : s.draw.2.pending = s.pending := rfl
@[simp] theorem State.draw_regs : s.draw.2.regs = s.regs := rfl
@[simp] theorem State.draw_mem : s.draw.2.mem = s.mem := rfl
@[simp] theorem State.draw_ch : s.draw.2.ch = s.ch := rfl
@[simp] theorem State.draw_dev : s.draw.2.dev = s.dev := rfl

end Sys2Proof.Machine
end

