-- ==== Sys2Proof/Laws/Keeps.lean ====
section
/-! SUPPORT. What no command of the part does, whatever it is: `Keeps a s` says that `s` has the queue of `a`, its
identity and every OTP bit that it had programmed, and the canonical form of registers and memory if `a` had it.  Each
primitive update keeps this; the files Keeps… prove it of every operation. -/

namespace Sys2Proof.Machine

/-- What every operation keeps (R73, R101). -/
structure Keeps (a s : State) : Prop where
  pending : s.pending = a.pending
  canonical : a.canonical = true → s.canonical = true
  order : s.dev.order = a.dev.order
  uid : s.dev.uid = a.dev.uid
  valid : ∀ w, a.otpValid w = true → s.otpValid w = true
  bits : ∀ w i, (a.otpBits w).getLsbD i = true → (s.otpBits w).getLsbD i = true

/-- What a rewriting of the complex's hidden state keeps. -/
structure DevKeeps (d e : Dev) : Prop where
  order : e.order = d.order
  uid : e.uid = d.uid
  words : e.fuseWords = d.fuseWords
  valid : e.fuseValid = d.fuseValid

theorem Keeps.refl (a : State) : Keeps a a :=
  ⟨rfl, id, rfl, rfl, fun _ h => h, fun _ _ h => h⟩

theorem Keeps.trans {a b c : State} (h : Keeps a b) (k : Keeps b c) : Keeps a c :=
  ⟨k.pending.trans h.pending, fun x => k.canonical (h.canonical x), k.order.trans h.order, k.uid.trans h.uid,
    fun w x => k.valid w (h.valid w x), fun w i x => k.bits w i (h.bits w i x)⟩

variable {a s : State}

/-- An update of registers or memory that keeps their canonical form. -/
theorem Keeps.of_store {t : State} (h : Keeps a s) (hp : t.pending = s.pending) (hd : t.dev = s.dev)
    (hc : s.canonical = true → t.canonical = true) : Keeps a t :=
  h.trans ⟨hp, hc, by rw [hd], by rw [hd], fun w x => by unfold State.otpValid at *; rw [hd]; exact x,
    fun w i x => by unfold State.otpBits at *; rw [hd]; exact x⟩

theorem State.canonical_iff (s : State) :
    s.canonical = true ↔ Store.wf resetWord s.regs = true ∧ Store.wf memDefault s.mem = true := by
  unfold State.canonical
  exact Bool.and_eq_true_iff

theorem Keeps.setWord (h : Keeps a s) (x : Nat) (v : Word) : Keeps a (s.setWord x v) :=
  h.of_store rfl rfl fun hc => by
    obtain ⟨h1, h2⟩ := (State.canonical_iff s).mp hc
    exact (State.canonical_iff _).mpr ⟨Store.wf_set resetWord h1 x v, h2⟩

theorem Keeps.set (h : Keeps a s) (n : Ch) (f : Field) (v : Nat) : Keeps a (s.set n f v) := h.setWord _ _

theorem Keeps.mapRegs (h : Keeps a s) (lo hi : Nat) (f : Nat → Word → Word) : Keeps a (s.mapRegs lo hi f) :=
  h.of_store rfl rfl fun hc => by
    obtain ⟨h1, h2⟩ := (State.canonical_iff s).mp hc
    refine (State.canonical_iff _).mpr ⟨?_, h2⟩
    exact Store.wf_map resetWord h1 (fun c => if lo ≤ c.1 ∧ c.1 < hi then (c.1, f c.1 c.2) else c)
      fun c => by split <;> rfl

theorem Keeps.resetPage (h : Keeps a s) (base : Nat) : Keeps a (s.resetPage base) :=
  h.of_store rfl rfl fun hc => by
    obtain ⟨h1, h2⟩ := (State.canonical_iff s).mp hc
    exact (State.canonical_iff _).mpr ⟨Store.wf_filter resetWord h1 _, h2⟩

theorem Keeps.setCell (h : Keeps a s) (x : Nat) (v : Byte) : Keeps a (s.setCell x v) :=
  h.of_store rfl rfl fun hc => by
    obtain ⟨h1, h2⟩ := (State.canonical_iff s).mp hc
    exact (State.canonical_iff _).mpr ⟨h1, Store.wf_set memDefault h2 x v⟩

theorem Keeps.dropMem (h : Keeps a s) (p : Nat → Bool) : Keeps a { s with mem := Store.drop p s.mem } :=
  h.of_store rfl rfl fun hc => by
    obtain ⟨h1, h2⟩ := (State.canonical_iff s).mp hc
    exact (State.canonical_iff _).mpr ⟨h1, Store.wf_filter memDefault h2 _⟩

theorem Keeps.poisonAll (h : Keeps a s) : Keeps a s.poisonAll :=
  h.of_store rfl rfl fun hc => (State.canonical_iff _).mpr ⟨((State.canonical_iff s).mp hc).1, rfl⟩

theorem Keeps.modCh (h : Keeps a s) (n : Ch) (f : Chan → Chan) : Keeps a (s.modCh n f) :=
  h.of_store rfl rfl id

theorem Keeps.modDev (h : Keeps a s) (f : Dev → Dev) (hf : ∀ d, DevKeeps d (f d)) : Keeps a (s.modDev f) :=
  h.trans ⟨rfl, id, (hf s.dev).order, (hf s.dev).uid,
    fun w x => by
      unfold State.otpValid at *
      rw [State.modDev_dev, (hf s.dev).valid]
      exact x,
    fun w i x => by
      unfold State.otpBits at *
      rw [State.modDev_dev, (hf s.dev).words]
      exact x⟩

theorem Keeps.draw (h : Keeps a s) : Keeps a s.draw.2 := h.of_store rfl rfl id

theorem Keeps.ite {c : Prop} [Decidable c] {x y : State} (hx : Keeps a x) (hy : Keeps a y) :
    Keeps a (if c then x else y) := by
  split
  · exact hx
  · exact hy

theorem Keeps.foldl {β : Type} {f : State → β → State} (hf : ∀ s x, Keeps a s → Keeps a (f s x)) (l : List β)
    (h : Keeps a s) : Keeps a (l.foldl f s) := by
  induction l generalizing s with
  | nil => exact h
  | cons x l ih => exact ih (hf s x h)

end Sys2Proof.Machine
end

