-- ==== Sys2Proof/Laws/KeepsBase.lean ====
section
/-! SUPPORT. `Keeps` of the shared operations: registers, levels, faults, mailboxes and memory words: what each does to a state, it keeps the queue, the
canonical form, the identity and the programmed fuses. -/

namespace Sys2Proof.Machine

/-! ## Ops -/

theorem keeps_setI {a0 s : State} (h : Keeps a0 s) (n : Ch) (f : Field) (v : Int) :
    Keeps a0 (State.setI s n f v) := by
  unfold State.setI
  with_reducible (repeat' first | assumption | apply Keeps.ite | apply Keeps.set | split | intro _)

theorem keeps_dset {a0 s : State} (h : Keeps a0 s) (f : Field) (v : Nat) :
    Keeps a0 (State.dset s f v) := by
  unfold State.dset
  with_reducible (repeat' first | assumption | apply Keeps.ite | apply Keeps.set | split | intro _)

theorem keeps_irq {a0 s : State} (h : Keeps a0 s) (n : Ch) (f : Field) :
    Keeps a0 (State.irq s n f) := by
  unfold State.irq
  with_reducible (repeat' first | assumption | apply Keeps.ite | apply Keeps.set | split | intro _)

theorem keeps_dirq {a0 s : State} (h : Keeps a0 s) (f : Field) :
    Keeps a0 (State.dirq s f) := by
  unfold State.dirq
  with_reducible (repeat' first | assumption | apply Keeps.ite | apply Keeps.set | split | intro _)

theorem keeps_incr {a0 s : State} (h : Keeps a0 s) (n : Ch) (f : Field) (k : Nat) :
    Keeps a0 (State.incr s n f k) := by
  unfold State.incr
  with_reducible (repeat' first | assumption | apply Keeps.ite | apply Keeps.set | split | intro _)

theorem keeps_sat {a0 s : State} (h : Keeps a0 s) (n : Ch) (f : Field) (k : Nat) :
    Keeps a0 (State.sat s n f k) := by
  unfold State.sat
  with_reducible (repeat' first | assumption | apply Keeps.ite | apply Keeps.set | split | intro _)

theorem keeps_setSat {a0 s : State} (h : Keeps a0 s) (n : Ch) (f : Field) (v : Nat) :
    Keeps a0 (State.setSat s n f v) := by
  unfold State.setSat
  with_reducible (repeat' first | assumption | apply Keeps.ite | apply Keeps.set | split | intro _)

theorem keeps_set64 {a0 s : State} (h : Keeps a0 s) (n : Ch) (lo : Field) (v : Nat) :
    Keeps a0 (State.set64 s n lo v) := by
  unfold State.set64
  with_reducible (repeat' first | assumption | apply Keeps.ite | apply Keeps.set | split | intro _)

theorem keeps_add64 {a0 s : State} (h : Keeps a0 s) (n : Ch) (lo : Field) (k : Nat) :
    Keeps a0 (State.add64 s n lo k) := by
  unfold State.add64
  with_reducible (repeat' first | assumption | apply Keeps.ite | apply keeps_set64 | split | intro _)

theorem keeps_sat64 {a0 s : State} (h : Keeps a0 s) (n : Ch) (lo : Field) (k : Nat) :
    Keeps a0 (State.sat64 s n lo k) := by
  unfold State.sat64
  with_reducible (repeat' first | assumption | apply Keeps.ite | apply keeps_set64 | split | intro _)

theorem keeps_wakePage {a0 s : State} (h : Keeps a0 s) (base : Nat) :
    Keeps a0 (State.wakePage s base) := by
  unfold State.wakePage
  with_reducible (repeat' first | assumption | apply Keeps.ite | apply Keeps.mapRegs | split | intro _)

theorem keeps_setBytesLE {a0 s : State} (h : Keeps a0 s) (a : Nat) (x0 : Nat) (x1 : Nat) :
    Keeps a0 (State.setBytesLE s a x0 x1) := by
  fun_induction State.setBytesLE s a x0 x1 <;>
    with_reducible (repeat' first | assumption | apply Keeps.ite | apply Keeps.setCell | apply_assumption | split | intro _)

theorem keeps_memPutSyn {a0 s : State} (h : Keeps a0 s) (m w v syn : Nat) :
    Keeps a0 (State.memPutSyn s m w v syn) := by
  unfold State.memPutSyn
  with_reducible (repeat' first | assumption | apply Keeps.ite | apply keeps_setBytesLE | apply Keeps.setCell | split | intro _)

theorem keeps_memPut {a0 s : State} (h : Keeps a0 s) (m w v : Nat) :
    Keeps a0 (State.memPut s m w v) := by
  unfold State.memPut
  with_reducible (repeat' first | assumption | apply Keeps.ite | apply keeps_memPutSyn | split | intro _)

theorem keeps_poison {a0 s : State} (h : Keeps a0 s) (m : Nat) : Keeps a0 (s.poison m) :=
  h.dropMem _

theorem keeps_poisonCh {a0 s : State} (h : Keeps a0 s) (n : Ch) : Keeps a0 (s.poisonCh n) :=
  h.dropMem _

/-! ## Count -/

theorem keeps_bump {a0 s : State} (h : Keeps a0 s) (n : Ch) (pg c k : Nat) :
    Keeps a0 (State.bump s n pg c k) := by
  unfold State.bump
  with_reducible (repeat' first | assumption | apply Keeps.ite | apply keeps_add64 | apply Keeps.set | apply keeps_irq | split | intro _)

theorem keeps_countBelow {a0 s : State} (h : Keeps a0 s) (n : Ch) (pg : Nat) (e : CntEvent) (x0 : Nat) :
    Keeps a0 (State.countBelow s n pg e x0) := by
  fun_induction State.countBelow s n pg e x0 <;>
    with_reducible (repeat' first | assumption | apply Keeps.ite | apply keeps_bump | apply_assumption | split | intro _)

theorem keeps_count {a0 s : State} (h : Keeps a0 s) (n : Ch) (cls side inst : Nat) (amount : Nat) :
    Keeps a0 (State.count s n cls side inst amount) := by
  unfold State.count
  with_reducible (repeat' first | assumption | apply Keeps.ite | apply keeps_countBelow | split | intro _)

theorem keeps_dcount {a0 s : State} (h : Keeps a0 s) (cls inst : Nat) (amount : Nat) :
    Keeps a0 (State.dcount s cls inst amount) := by
  unfold State.dcount
  with_reducible (repeat' first | assumption | apply Keeps.ite | apply keeps_countBelow | split | intro _)

theorem keeps_countBus {a0 s : State} (h : Keeps a0 s) (n? : Option Ch) (cls req loc : Nat) (amount : Nat) :
    Keeps a0 (State.countBus s n? cls req loc amount) := by
  unfold State.countBus
  with_reducible (repeat' first | assumption | apply Keeps.ite | apply keeps_countBelow | split | intro _)

/-! ## LvlLane -/

theorem keeps_modLane {a0 s : State} (h : Keeps a0 s) (n : Ch) (l : Fin 2) (f : LaneSt → LaneSt) :
    Keeps a0 (State.modLane s n l f) := by
  unfold State.modLane
  with_reducible (repeat' first | assumption | apply Keeps.ite | apply Keeps.modCh | split | intro _)

theorem keeps_setFirActive {a0 s : State} (h : Keeps a0 s) (n : Ch) (l : Fin 2) (c : List Int) :
    Keeps a0 (State.setFirActive s n l c) := by
  unfold State.setFirActive
  with_reducible (repeat' first | assumption | apply Keeps.ite | apply Keeps.set | split | intro _)

theorem keeps_loadStagedFir {a0 s : State} (h : Keeps a0 s) (n : Ch) (l : Fin 2) :
    Keeps a0 (State.loadStagedFir s n l) := by
  unfold State.loadStagedFir
  with_reducible (repeat' first | assumption | apply Keeps.ite | apply keeps_setFirActive | split | intro _)

theorem keeps_setTaps {a0 s : State} (h : Keeps a0 s) (n : Ch) (l : Fin 2) (i : Nat) (x0 : List Int) :
    Keeps a0 (State.setTaps s n l i x0) := by
  fun_induction State.setTaps s n l i x0 <;>
    with_reducible (repeat' first | assumption | apply Keeps.ite | apply keeps_setI | apply_assumption | split | intro _)

theorem keeps_startTaps {a0 s : State} (h : Keeps a0 s) (n : Ch) (l : Fin 2) :
    Keeps a0 (State.startTaps s n l) := by
  unfold State.startTaps
  with_reducible (repeat' first | assumption | apply Keeps.ite | apply keeps_setTaps | apply keeps_setI | split | intro _)

theorem keeps_leaveIdle {a0 s : State} (h : Keeps a0 s) (n : Ch) (l : Fin 2) :
    Keeps a0 (State.leaveIdle s n l) := by
  unfold State.leaveIdle
  with_reducible (repeat' first | assumption | apply Keeps.ite | apply keeps_modLane | apply keeps_setFirActive | split | intro _)

theorem keeps_clearLock {a0 s : State} (h : Keeps a0 s) (n : Ch) (l : Fin 2) :
    Keeps a0 (State.clearLock s n l) := by
  unfold State.clearLock
  with_reducible (repeat' first | assumption | apply Keeps.ite | apply Keeps.set | split | intro _)

theorem keeps_toSigWait {a0 s : State} (h : Keeps a0 s) (n : Ch) (l : Fin 2) :
    Keeps a0 (State.toSigWait s n l) := by
  unfold State.toSigWait
  with_reducible (repeat' first | assumption | apply Keeps.ite | apply keeps_leaveIdle | apply keeps_clearLock | apply Keeps.set | apply keeps_modLane | apply keeps_setFirActive | apply keeps_sat | apply keeps_count | apply keeps_loadStagedFir | split | intro _)

theorem keeps_toIdle {a0 s : State} (h : Keeps a0 s) (n : Ch) (l : Fin 2) :
    Keeps a0 (State.toIdle s n l) := by
  unfold State.toIdle
  with_reducible (repeat' first | assumption | apply Keeps.ite | apply keeps_clearLock | apply Keeps.set | apply keeps_setTaps | apply keeps_setI | apply keeps_setFirActive | apply keeps_modLane | split | intro _)

theorem keeps_toPattern {a0 s : State} (h : Keeps a0 s) (n : Ch) (l : Fin 2) :
    Keeps a0 (State.toPattern s n l) := by
  unfold State.toPattern
  with_reducible (repeat' first | assumption | apply Keeps.ite | apply keeps_leaveIdle | apply keeps_clearLock | apply Keeps.set | apply keeps_startTaps | apply keeps_modLane | split | intro _)

theorem keeps_rateLevel {a0 s : State} (h : Keeps a0 s) (n : Ch) (l : Fin 2) :
    Keeps a0 (State.rateLevel s n l) := by
  unfold State.rateLevel
  with_reducible (repeat' first | assumption | apply Keeps.ite | apply Keeps.set | split | intro _)

theorem keeps_laneLevel {a0 s : State} (h : Keeps a0 s) (n : Ch) (l : Fin 2) :
    Keeps a0 (State.laneLevel s n l) := by
  unfold State.laneLevel
  with_reducible (repeat' first | assumption | apply Keeps.ite | apply keeps_rateLevel | apply keeps_toPattern | apply keeps_toSigWait | apply keeps_toIdle | split | intro _)

theorem keeps_holdoverLevel {a0 s : State} (h : Keeps a0 s) (n : Ch) :
    Keeps a0 (State.holdoverLevel s n) := by
  unfold State.holdoverLevel
  with_reducible (repeat' first | assumption | apply Keeps.ite | apply Keeps.set | apply keeps_irq | split | intro _)

/-! ## LvlHfec -/

theorem keeps_modHfec {a0 s : State} (h : Keeps a0 s) (n : Ch) (f : HfecSt → HfecSt) :
    Keeps a0 (State.modHfec s n f) := by
  unfold State.modHfec
  with_reducible (repeat' first | assumption | apply Keeps.ite | apply Keeps.modCh | split | intro _)

theorem keeps_alignStatus {a0 s : State} (h : Keeps a0 s) (n : Ch) :
    Keeps a0 (State.alignStatus s n) := by
  unfold State.alignStatus
  with_reducible (repeat' first | assumption | apply Keeps.ite | apply Keeps.set | split | intro _)

theorem keeps_hunterLevel {a0 s : State} (h : Keeps a0 s) (n : Ch) (h : Fin 3) :
    Keeps a0 (State.hunterLevel s n h) := by
  unfold State.hunterLevel
  with_reducible (repeat' first | assumption | apply Keeps.ite | apply keeps_modHfec | apply Keeps.set | split | intro _)

theorem keeps_lfLevel {a0 s : State} (h : Keeps a0 s) (n : Ch) :
    Keeps a0 (State.lfLevel s n) := by
  unfold State.lfLevel
  with_reducible (repeat' first | assumption | apply Keeps.ite | apply Keeps.set | split | intro _)

theorem keeps_hfecLevel {a0 s : State} (h : Keeps a0 s) (n : Ch) :
    Keeps a0 (State.hfecLevel s n) := by
  unfold State.hfecLevel
  with_reducible (repeat' first | assumption | apply Keeps.ite | apply keeps_hunterLevel | apply keeps_alignStatus | apply keeps_lfLevel | split | intro _)

/-! ## LvlLtx -/

theorem keeps_modLtx {a0 s : State} (h : Keeps a0 s) (n : Ch) (f : LtxSt → LtxSt) :
    Keeps a0 (State.modLtx s n f) := by
  unfold State.modLtx
  with_reducible (repeat' first | assumption | apply Keeps.ite | apply Keeps.modCh | split | intro _)

theorem keeps_ltxApplyOff {a0 s : State} (h : Keeps a0 s) (n : Ch) :
    Keeps a0 (State.ltxApplyOff s n) := by
  unfold State.ltxApplyOff
  with_reducible (repeat' first | assumption | apply Keeps.ite | apply Keeps.set | apply keeps_modLtx | split | intro _)

theorem keeps_ltxOff {a0 s : State} (h : Keeps a0 s) (n : Ch) :
    Keeps a0 (State.ltxOff s n) := by
  unfold State.ltxOff
  with_reducible (repeat' first | assumption | apply Keeps.ite | apply Keeps.set | apply keeps_irq | apply keeps_ltxApplyOff | split | intro _)

theorem keeps_ltxLead {a0 s : State} (h : Keeps a0 s) (n : Ch) :
    Keeps a0 (State.ltxLead s n) := by
  unfold State.ltxLead
  with_reducible (repeat' first | assumption | apply Keeps.ite | apply keeps_ltxApplyOff | apply Keeps.set | apply keeps_modLtx | split | intro _)

theorem keeps_ltxDown {a0 s : State} (h : Keeps a0 s) (n : Ch) :
    Keeps a0 (State.ltxDown s n) := by
  unfold State.ltxDown
  with_reducible (repeat' first | assumption | apply Keeps.ite | apply Keeps.set | apply keeps_modLtx | split | intro _)

theorem keeps_ltxReverse {a0 s : State} (h : Keeps a0 s) (n : Ch) :
    Keeps a0 (State.ltxReverse s n) := by
  unfold State.ltxReverse
  with_reducible (repeat' first | assumption | apply Keeps.ite | apply Keeps.set | apply keeps_modLtx | split | intro _)

theorem keeps_ltxUnlead {a0 s : State} (h : Keeps a0 s) (n : Ch) :
    Keeps a0 (State.ltxUnlead s n) := by
  unfold State.ltxUnlead
  with_reducible (repeat' first | assumption | apply Keeps.ite | apply Keeps.set | apply keeps_ltxOff | split | intro _)

theorem keeps_abruptStop {a0 s : State} (h : Keeps a0 s) (n : Ch) :
    Keeps a0 (State.abruptStop s n) := by
  unfold State.abruptStop
  with_reducible (repeat' first | assumption | apply Keeps.ite | apply keeps_ltxOff | apply Keeps.set | apply keeps_irq | apply keeps_sat | split | intro _)

theorem keeps_ltxLevel {a0 s : State} (h : Keeps a0 s) (n : Ch) :
    Keeps a0 (State.ltxLevel s n) := by
  unfold State.ltxLevel
  with_reducible (repeat' first | assumption | apply Keeps.ite | apply Keeps.set | apply keeps_ltxLead | apply keeps_ltxApplyOff | apply keeps_ltxUnlead | apply keeps_ltxReverse | apply keeps_ltxDown | split | intro _)

/-! ## LvlLrx -/

theorem keeps_modLrx {a0 s : State} (h : Keeps a0 s) (n : Ch) (f : LrxSt → LrxSt) :
    Keeps a0 (State.modLrx s n f) := by
  unfold State.modLrx
  with_reducible (repeat' first | assumption | apply Keeps.ite | apply Keeps.modCh | split | intro _)

theorem keeps_capTrig {a0 s : State} (h : Keeps a0 s) (n : Ch) (k : Nat) :
    Keeps a0 (State.capTrig s n k) := by
  unfold State.capTrig
  with_reducible (repeat' first | assumption | apply Keeps.ite | apply keeps_modLrx | split | intro _)

theorem keeps_capStop {a0 s : State} (h : Keeps a0 s) (n : Ch) (state : Nat) :
    Keeps a0 (State.capStop s n state) := by
  unfold State.capStop
  with_reducible (repeat' first | assumption | apply Keeps.ite | apply Keeps.set | apply keeps_modLrx | split | intro _)

theorem keeps_capEpoch {a0 s : State} (h : Keeps a0 s) (n : Ch) (swap : Bool) :
    Keeps a0 (State.capEpoch s n swap) := by
  unfold State.capEpoch
  with_reducible (repeat' first | assumption | apply Keeps.ite | apply keeps_modLrx | apply keeps_capStop | apply keeps_irq | split | intro _)

theorem keeps_windowSpoilt {a0 s : State} (h : Keeps a0 s) (n : Ch) :
    Keeps a0 (State.windowSpoilt s n) := by
  unfold State.windowSpoilt
  with_reducible (repeat' first | assumption | apply Keeps.ite | apply Keeps.modCh | split | intro _)

theorem keeps_gainTo {a0 s : State} (h : Keeps a0 s) (n : Ch) (code : Nat) :
    Keeps a0 (State.gainTo s n code) := by
  unfold State.gainTo
  with_reducible (repeat' first | assumption | apply Keeps.ite | apply Keeps.set | apply keeps_incr | apply keeps_modLrx | apply keeps_capTrig | apply keeps_capEpoch | apply keeps_windowSpoilt | split | intro _)

theorem keeps_sigRise {a0 s : State} (h : Keeps a0 s) (n : Ch) :
    Keeps a0 (State.sigRise s n) := by
  unfold State.sigRise
  with_reducible (repeat' first | assumption | apply Keeps.ite | apply Keeps.set | apply keeps_irq | apply keeps_capTrig | split | intro _)

theorem keeps_sigOff {a0 s : State} (h : Keeps a0 s) (n : Ch) :
    Keeps a0 (State.sigOff s n) := by
  unfold State.sigOff
  with_reducible (repeat' first | assumption | apply Keeps.ite | apply Keeps.set | apply keeps_capTrig | split | intro _)

theorem keeps_lrxBusy {a0 s : State} (h : Keeps a0 s) (n : Ch) :
    Keeps a0 (State.lrxBusy s n) := by
  unfold State.lrxBusy
  with_reducible (repeat' first | assumption | apply Keeps.ite | apply Keeps.set | split | intro _)

theorem keeps_gainAcq {a0 s : State} (h : Keeps a0 s) (n : Ch) :
    Keeps a0 (State.gainAcq s n) := by
  unfold State.gainAcq
  with_reducible (repeat' first | assumption | apply Keeps.ite | apply Keeps.set | apply keeps_modLrx | apply keeps_gainTo | split | intro _)

theorem keeps_gainWait {a0 s : State} (h : Keeps a0 s) (n : Ch) :
    Keeps a0 (State.gainWait s n) := by
  unfold State.gainWait
  with_reducible (repeat' first | assumption | apply Keeps.ite | apply keeps_gainAcq | apply Keeps.set | split | intro _)

theorem keeps_gainFixed {a0 s : State} (h : Keeps a0 s) (n : Ch) (state code : Nat) :
    Keeps a0 (State.gainFixed s n state code) := by
  unfold State.gainFixed
  with_reducible (repeat' first | assumption | apply Keeps.ite | apply Keeps.set | apply keeps_gainTo | apply keeps_sigRise | split | intro _)

theorem keeps_gainOff {a0 s : State} (h : Keeps a0 s) (n : Ch) :
    Keeps a0 (State.gainOff s n) := by
  unfold State.gainOff
  with_reducible (repeat' first | assumption | apply Keeps.ite | apply Keeps.set | apply keeps_sigOff | split | intro _)

theorem keeps_gainLevel {a0 s : State} (h : Keeps a0 s) (n : Ch) :
    Keeps a0 (State.gainLevel s n) := by
  unfold State.gainLevel
  with_reducible (repeat' first | assumption | apply Keeps.ite | apply keeps_gainOff | apply keeps_gainFixed | apply keeps_gainWait | split | intro _)

theorem keeps_swapEnd {a0 s : State} (h : Keeps a0 s) (n : Ch) (reason : Nat) :
    Keeps a0 (State.swapEnd s n reason) := by
  unfold State.swapEnd
  with_reducible (repeat' first | assumption | apply Keeps.ite | apply Keeps.set | apply keeps_modLrx | apply keeps_sat | apply keeps_irq | split | intro _)

theorem keeps_bankLevel {a0 s : State} (h : Keeps a0 s) (n : Ch) :
    Keeps a0 (State.bankLevel s n) := by
  unfold State.bankLevel
  with_reducible (repeat' first | assumption | apply Keeps.ite | apply Keeps.set | apply keeps_modLrx | split | intro _)

theorem keeps_lrxLevel {a0 s : State} (h : Keeps a0 s) (n : Ch) :
    Keeps a0 (State.lrxLevel s n) := by
  unfold State.lrxLevel
  with_reducible (repeat' first | assumption | apply Keeps.ite | apply keeps_gainLevel | apply keeps_bankLevel | apply keeps_modLrx | apply keeps_swapEnd | apply Keeps.set | apply keeps_capStop | apply keeps_lrxBusy | split | intro _)

/-! ## LvlRx -/

theorem keeps_modTim {a0 s : State} (h : Keeps a0 s) (n : Ch) (f : TimSt → TimSt) :
    Keeps a0 (State.modTim s n f) := by
  unfold State.modTim
  with_reducible (repeat' first | assumption | apply Keeps.ite | apply Keeps.modCh | split | intro _)

theorem keeps_modEq {a0 s : State} (h : Keeps a0 s) (n : Ch) (f : EqSt → EqSt) :
    Keeps a0 (State.modEq s n f) := by
  unfold State.modEq
  with_reducible (repeat' first | assumption | apply Keeps.ite | apply Keeps.modCh | split | intro _)

theorem keeps_modBolt {a0 s : State} (h : Keeps a0 s) (n : Ch) (f : BoltSt → BoltSt) :
    Keeps a0 (State.modBolt s n f) := by
  unfold State.modBolt
  with_reducible (repeat' first | assumption | apply Keeps.ite | apply Keeps.modCh | split | intro _)

theorem keeps_timUnlock {a0 s : State} (h : Keeps a0 s) (n : Ch) :
    Keeps a0 (State.timUnlock s n) := by
  unfold State.timUnlock
  with_reducible (repeat' first | assumption | apply Keeps.ite | apply Keeps.set | split | intro _)

theorem keeps_loopAcq {a0 s : State} (h : Keeps a0 s) (n : Ch) :
    Keeps a0 (State.loopAcq s n) := by
  unfold State.loopAcq
  with_reducible (repeat' first | assumption | apply Keeps.ite | apply keeps_timUnlock | apply Keeps.set | apply keeps_sat | apply keeps_modTim | split | intro _)

theorem keeps_loopOff {a0 s : State} (h : Keeps a0 s) (n : Ch) :
    Keeps a0 (State.loopOff s n) := by
  unfold State.loopOff
  with_reducible (repeat' first | assumption | apply Keeps.ite | apply keeps_timUnlock | apply Keeps.set | apply keeps_modTim | split | intro _)

theorem keeps_deskewLevel {a0 s : State} (h : Keeps a0 s) (n : Ch) :
    Keeps a0 (State.deskewLevel s n) := by
  unfold State.deskewLevel
  with_reducible (repeat' first | assumption | apply Keeps.ite | apply Keeps.set | split | intro _)

theorem keeps_loopLevel {a0 s : State} (h : Keeps a0 s) (n : Ch) :
    Keeps a0 (State.loopLevel s n) := by
  unfold State.loopLevel
  with_reducible (repeat' first | assumption | apply Keeps.ite | apply keeps_loopOff | apply keeps_loopAcq | apply keeps_timUnlock | apply Keeps.set | split | intro _)

theorem keeps_loopGuard {a0 s : State} (h : Keeps a0 s) (n : Ch) :
    Keeps a0 (State.loopGuard s n) := by
  unfold State.loopGuard
  with_reducible (repeat' first | assumption | apply Keeps.ite | apply Keeps.set | split | intro _)

theorem keeps_putFfe {a0 s : State} (h : Keeps a0 s) (n : Ch) (i : Nat) (x0 : List Int) :
    Keeps a0 (State.putFfe s n i x0) := by
  fun_induction State.putFfe s n i x0 <;>
    with_reducible (repeat' first | assumption | apply Keeps.ite | apply keeps_setI | apply_assumption | split | intro _)

theorem keeps_putTaps {a0 s : State} (h : Keeps a0 s) (n : Ch) :
    Keeps a0 (State.putTaps s n) := by
  unfold State.putTaps
  with_reducible (repeat' first | assumption | apply Keeps.ite | apply keeps_putFfe | apply keeps_setI | split | intro _)

theorem keeps_eqTapsReset {a0 s : State} (h : Keeps a0 s) (n : Ch) :
    Keeps a0 (State.eqTapsReset s n) := by
  unfold State.eqTapsReset
  with_reducible (repeat' first | assumption | apply Keeps.ite | apply keeps_modEq | apply keeps_putTaps | split | intro _)

theorem keeps_holdDrop {a0 s : State} (h : Keeps a0 s) (n : Ch) :
    Keeps a0 (State.holdDrop s n) := by
  unfold State.holdDrop
  with_reducible (repeat' first | assumption | apply Keeps.ite | apply Keeps.set | apply keeps_modEq | split | intro _)

theorem keeps_eyeAbort {a0 s : State} (h : Keeps a0 s) (n : Ch) :
    Keeps a0 (State.eyeAbort s n) := by
  unfold State.eyeAbort
  with_reducible (repeat' first | assumption | apply Keeps.ite | apply Keeps.set | split | intro _)

theorem keeps_eqEnter {a0 s : State} (h : Keeps a0 s) (n : Ch) (st : Nat) :
    Keeps a0 (State.eqEnter s n st) := by
  unfold State.eqEnter
  with_reducible (repeat' first | assumption | apply Keeps.ite | apply keeps_holdDrop | apply keeps_eyeAbort | apply Keeps.set | apply keeps_modEq | apply keeps_modTim | split | intro _)

theorem keeps_eqApplyOff {a0 s : State} (h : Keeps a0 s) (n : Ch) :
    Keeps a0 (State.eqApplyOff s n) := by
  unfold State.eqApplyOff
  with_reducible (repeat' first | assumption | apply Keeps.ite | apply Keeps.set | apply keeps_modEq | apply keeps_eqTapsReset | split | intro _)

theorem keeps_eqOff {a0 s : State} (h : Keeps a0 s) (n : Ch) :
    Keeps a0 (State.eqOff s n) := by
  unfold State.eqOff
  with_reducible (repeat' first | assumption | apply Keeps.ite | apply keeps_eqEnter | apply keeps_modEq | apply keeps_eqApplyOff | split | intro _)

theorem keeps_eqWait {a0 s : State} (h : Keeps a0 s) (n : Ch) :
    Keeps a0 (State.eqWait s n) := by
  unfold State.eqWait
  with_reducible (repeat' first | assumption | apply Keeps.ite | apply keeps_eqEnter | split | intro _)

theorem keeps_eqMoves {a0 s : State} (h : Keeps a0 s) (n : Ch) :
    Keeps a0 (State.eqMoves s n) := by
  unfold State.eqMoves
  with_reducible (repeat' first | assumption | apply Keeps.ite | apply keeps_eqApplyOff | apply keeps_eqOff | apply keeps_eqWait | apply keeps_eqEnter | apply keeps_modEq | split | intro _)

theorem keeps_guardLevel {a0 s : State} (h : Keeps a0 s) (n : Ch) :
    Keeps a0 (State.guardLevel s n) := by
  unfold State.guardLevel
  with_reducible (repeat' first | assumption | apply Keeps.ite | apply keeps_holdDrop | apply keeps_irq | split | intro _)

theorem keeps_eqStatus {a0 s : State} (h : Keeps a0 s) (n : Ch) :
    Keeps a0 (State.eqStatus s n) := by
  unfold State.eqStatus
  with_reducible (repeat' first | assumption | apply Keeps.ite | apply Keeps.set | apply keeps_modEq | split | intro _)

theorem keeps_boltDrop {a0 s : State} (h : Keeps a0 s) (n : Ch) (st : Nat) :
    Keeps a0 (State.boltDrop s n st) := by
  unfold State.boltDrop
  with_reducible (repeat' first | assumption | apply Keeps.ite | apply Keeps.set | apply keeps_modBolt | split | intro _)

theorem keeps_boltLevel {a0 s : State} (h : Keeps a0 s) (n : Ch) :
    Keeps a0 (State.boltLevel s n) := by
  unfold State.boltLevel
  with_reducible (repeat' first | assumption | apply Keeps.ite | apply keeps_boltDrop | apply Keeps.set | apply keeps_modBolt | split | intro _)

theorem keeps_rxLevel {a0 s : State} (h : Keeps a0 s) (n : Ch) :
    Keeps a0 (State.rxLevel s n) := by
  unfold State.rxLevel
  with_reducible (repeat' first | assumption | apply Keeps.ite | apply Keeps.set | apply keeps_deskewLevel | apply keeps_loopLevel | apply keeps_eqMoves | apply keeps_guardLevel | apply keeps_loopGuard | apply keeps_eqStatus | apply keeps_boltLevel | split | intro _)

/-! ## LvlDress -/

theorem keeps_modDress {a0 s : State} (h : Keeps a0 s) (n : Ch) (f : DressSt → DressSt) :
    Keeps a0 (State.modDress s n f) := by
  unfold State.modDress
  with_reducible (repeat' first | assumption | apply Keeps.ite | apply Keeps.modCh | split | intro _)

theorem keeps_scopeStart {a0 s : State} (h : Keeps a0 s) (n : Ch) (scope state : Nat) :
    Keeps a0 (State.scopeStart s n scope state) := by
  unfold State.scopeStart
  with_reducible (repeat' first | assumption | apply Keeps.ite | apply Keeps.set | apply keeps_modDress | split | intro _)

theorem keeps_passIdle {a0 s : State} (h : Keeps a0 s) (n : Ch) :
    Keeps a0 (State.passIdle s n) := by
  unfold State.passIdle
  with_reducible (repeat' first | assumption | apply Keeps.ite | apply Keeps.set | apply keeps_modDress | split | intro _)

theorem keeps_passResult {a0 s : State} (h : Keeps a0 s) (n : Ch) (status : Nat) :
    Keeps a0 (State.passResult s n status) := by
  unfold State.passResult
  with_reducible (repeat' first | assumption | apply Keeps.ite | apply Keeps.set | apply keeps_setSat | split | intro _)

theorem keeps_passDone {a0 s : State} (h : Keeps a0 s) (n : Ch) :
    Keeps a0 (State.passDone s n) := by
  unfold State.passDone
  with_reducible (repeat' first | assumption | apply Keeps.ite | apply keeps_passResult | apply keeps_irq | apply keeps_sat | apply Keeps.set | apply keeps_passIdle | split | intro _)

theorem keeps_passCut {a0 s : State} (h : Keeps a0 s) (n : Ch) (status result : Nat) :
    Keeps a0 (State.passCut s n status result) := by
  unfold State.passCut
  with_reducible (repeat' first | assumption | apply Keeps.ite | apply keeps_modDress | apply keeps_passResult | apply keeps_sat | apply keeps_passIdle | apply Keeps.set | split | intro _)

theorem keeps_passAbort {a0 s : State} (h : Keeps a0 s) (n : Ch) :
    Keeps a0 (State.passAbort s n) := by
  unfold State.passAbort
  with_reducible (repeat' first | assumption | apply Keeps.ite | apply keeps_passCut | apply keeps_irq | split | intro _)

theorem keeps_passNext {a0 s : State} (h : Keeps a0 s) (n : Ch) (x0 : List Nat) :
    Keeps a0 (State.passNext s n x0) := by
  fun_induction State.passNext s n x0 <;>
    with_reducible (repeat' first | assumption | apply Keeps.ite | apply keeps_passDone | apply keeps_modDress | apply keeps_scopeStart | apply Keeps.set | apply_assumption | split | intro _)

theorem keeps_scopeEnd {a0 s : State} (h : Keeps a0 s) (n : Ch) (result : Nat) :
    Keeps a0 (State.scopeEnd s n result) := by
  unfold State.scopeEnd
  with_reducible (repeat' first | assumption | apply Keeps.ite | apply keeps_modDress | apply keeps_passNext | split | intro _)

theorem keeps_passStart {a0 s : State} (h : Keeps a0 s) (n : Ch) (mask trigger : Nat) :
    Keeps a0 (State.passStart s n mask trigger) := by
  unfold State.passStart
  with_reducible (repeat' first | assumption | apply Keeps.ite | apply Keeps.set | apply keeps_irq | apply keeps_modDress | apply keeps_passNext | split | intro _)

theorem keeps_roundEnd {a0 s : State} (h : Keeps a0 s) (n : Ch) :
    Keeps a0 (State.roundEnd s n) := by
  unfold State.roundEnd
  with_reducible (repeat' first | assumption | apply Keeps.ite | apply keeps_modDress | apply keeps_scopeEnd | apply Keeps.set | split | intro _)

theorem keeps_autoTrigger {a0 s : State} (h : Keeps a0 s) (n : Ch) (k : Nat) :
    Keeps a0 (State.autoTrigger s n k) := by
  unfold State.autoTrigger
  with_reducible (repeat' first | assumption | apply Keeps.ite | apply Keeps.set | apply keeps_modDress | apply keeps_passStart | split | intro _)

theorem keeps_autoPending {a0 s : State} (h : Keeps a0 s) (n : Ch) :
    Keeps a0 (State.autoPending s n) := by
  unfold State.autoPending
  with_reducible (repeat' first | assumption | apply Keeps.ite | apply Keeps.set | apply keeps_passStart | split | intro _)

theorem keeps_passSkips {a0 s : State} (h : Keeps a0 s) (n : Ch) :
    Keeps a0 (State.passSkips s n) := by
  unfold State.passSkips
  extract_lets x add skip due s1
  with_reducible (repeat' first | assumption | apply Keeps.ite | apply keeps_modDress | apply keeps_scopeEnd | apply keeps_roundEnd | split | intro _)

theorem keeps_passDefer {a0 s : State} (h : Keeps a0 s) (n : Ch) :
    Keeps a0 (State.passDefer s n) := by
  unfold State.passDefer
  with_reducible (repeat' first | assumption | apply Keeps.ite | apply Keeps.set | apply keeps_modDress | split | intro _)

theorem keeps_passSwap {a0 s : State} (h : Keeps a0 s) (n : Ch) :
    Keeps a0 (State.passSwap s n) := by
  unfold State.passSwap
  with_reducible (repeat' first | assumption | apply Keeps.ite | apply keeps_scopeEnd | apply keeps_passAbort | apply keeps_modDress | split | intro _)

theorem keeps_passStop {a0 s : State} (h : Keeps a0 s) (n : Ch) :
    Keeps a0 (State.passStop s n) := by
  unfold State.passStop
  with_reducible (repeat' first | assumption | apply Keeps.ite | apply keeps_modDress | apply keeps_passAbort | split | intro _)

theorem keeps_dressLevel {a0 s : State} (h : Keeps a0 s) (n : Ch) :
    Keeps a0 (State.dressLevel s n) := by
  unfold State.dressLevel
  with_reducible (repeat' first | assumption | apply Keeps.ite | apply keeps_modDress | apply keeps_passCut | apply keeps_passAbort | apply keeps_passStop | apply keeps_passSwap | apply keeps_passSkips | apply keeps_passDefer | apply keeps_autoPending | split | intro _)

/-! ## LvlMr -/

theorem keeps_modMr {a0 s : State} (h : Keeps a0 s) (n : Ch) (f : MrSt → MrSt) :
    Keeps a0 (State.modMr s n f) := by
  unfold State.modMr
  with_reducible (repeat' first | assumption | apply Keeps.ite | apply Keeps.modCh | split | intro _)

theorem keeps_mrStatus {a0 s : State} (h : Keeps a0 s) (n : Ch) :
    Keeps a0 (State.mrStatus s n) := by
  unfold State.mrStatus
  with_reducible (repeat' first | assumption | apply Keeps.ite | apply Keeps.set | split | intro _)

theorem keeps_mrGain {a0 s : State} (h : Keeps a0 s) (n : Ch) :
    Keeps a0 (State.mrGain s n) := by
  unfold State.mrGain
  with_reducible (repeat' first | assumption | apply Keeps.ite | apply Keeps.set | split | intro _)

theorem keeps_mrSearch {a0 s : State} (h : Keeps a0 s) (n : Ch) :
    Keeps a0 (State.mrSearch s n) := by
  unfold State.mrSearch
  with_reducible (repeat' first | assumption | apply Keeps.ite | apply Keeps.set | apply keeps_modMr | split | intro _)

theorem keeps_mrAbandon {a0 s : State} (h : Keeps a0 s) (n : Ch) :
    Keeps a0 (State.mrAbandon s n) := by
  unfold State.mrAbandon
  with_reducible (repeat' first | assumption | apply Keeps.ite | apply keeps_incr | apply keeps_mrSearch | split | intro _)

theorem keeps_mrCut {a0 s : State} (h : Keeps a0 s) (n : Ch) :
    Keeps a0 (State.mrCut s n) := by
  unfold State.mrCut
  with_reducible (repeat' first | assumption | apply Keeps.ite | apply keeps_modMr | split | intro _)

theorem keeps_mrRxLevel {a0 s : State} (h : Keeps a0 s) (n : Ch) :
    Keeps a0 (State.mrRxLevel s n) := by
  unfold State.mrRxLevel
  with_reducible (repeat' first | assumption | apply Keeps.ite | apply keeps_mrSearch | apply keeps_mrAbandon | apply Keeps.set | split | intro _)

theorem keeps_mrTxLevel {a0 s : State} (h : Keeps a0 s) (n : Ch) :
    Keeps a0 (State.mrTxLevel s n) := by
  unfold State.mrTxLevel
  with_reducible (repeat' first | assumption | apply Keeps.ite | apply keeps_mrCut | split | intro _)

theorem keeps_mrLevel {a0 s : State} (h : Keeps a0 s) (n : Ch) :
    Keeps a0 (State.mrLevel s n) := by
  unfold State.mrLevel
  with_reducible (repeat' first | assumption | apply Keeps.ite | apply keeps_mrGain | apply keeps_mrRxLevel | apply keeps_mrTxLevel | apply keeps_mrStatus | split | intro _)

/-! ## LvlOut -/

theorem keeps_modDac {a0 s : State} (h : Keeps a0 s) (n : Ch) (d : Fin 3) (f : DacSt → DacSt) :
    Keeps a0 (State.modDac s n d f) := by
  unfold State.modDac
  with_reducible (repeat' first | assumption | apply Keeps.ite | apply Keeps.modCh | split | intro _)

theorem keeps_setDacState {a0 s : State} (h : Keeps a0 s) (n : Ch) (d : Fin 3) (v : Nat) :
    Keeps a0 (State.setDacState s n d v) := by
  unfold State.setDacState
  with_reducible (repeat' first | assumption | apply Keeps.ite | apply Keeps.set | split | intro _)

theorem keeps_setQueue {a0 s : State} (h : Keeps a0 s) (n : Ch) (d : Fin 3) (q : List Nat) :
    Keeps a0 (State.setQueue s n d q) := by
  unfold State.setQueue
  with_reducible (repeat' first | assumption | apply Keeps.ite | apply keeps_modDac | apply Keeps.set | split | intro _)

theorem keeps_dacOut {a0 s : State} (h : Keeps a0 s) (n : Ch) (d : Fin 3) (c : Nat) :
    Keeps a0 (State.dacOut s n d c) := by
  unfold State.dacOut
  with_reducible (repeat' first | assumption | apply Keeps.ite | apply Keeps.set | apply keeps_modDac | split | intro _)

theorem keeps_dacRange {a0 s : State} (h : Keeps a0 s) (n : Ch) (d : Fin 3) :
    Keeps a0 (State.dacRange s n d) := by
  unfold State.dacRange
  with_reducible (repeat' first | assumption | apply Keeps.ite | apply keeps_setDacState | apply keeps_dacOut | apply keeps_modDac | split | intro _)

theorem keeps_dacClamp {a0 s : State} (h : Keeps a0 s) (n : Ch) (d : Fin 3) (st : Nat) :
    Keeps a0 (State.dacClamp s n d st) := by
  unfold State.dacClamp
  with_reducible (repeat' first | assumption | apply Keeps.ite | apply keeps_setQueue | apply keeps_setDacState | apply keeps_dacOut | apply keeps_modDac | split | intro _)

theorem keeps_dacSafe {a0 s : State} (h : Keeps a0 s) (n : Ch) (d : Fin 3) :
    Keeps a0 (State.dacSafe s n d) := by
  unfold State.dacSafe
  with_reducible (repeat' first | assumption | apply Keeps.ite | apply keeps_setQueue | apply keeps_dacOut | apply keeps_modDac | apply keeps_setDacState | split | intro _)

theorem keeps_dacRelease {a0 s : State} (h : Keeps a0 s) (n : Ch) (d : Fin 3) :
    Keeps a0 (State.dacRelease s n d) := by
  unfold State.dacRelease
  with_reducible (repeat' first | assumption | apply Keeps.ite | apply keeps_setDacState | apply keeps_dacRange | split | intro _)

theorem keeps_dacLevel {a0 s : State} (h : Keeps a0 s) (n : Ch) (d : Fin 3) :
    Keeps a0 (State.dacLevel s n d) := by
  unfold State.dacLevel
  with_reducible (repeat' first | assumption | apply Keeps.ite | apply keeps_dacClamp | apply keeps_dacSafe | apply keeps_dacRelease | apply keeps_dacRange | split | intro _)

theorem keeps_outLevel {a0 s : State} (h : Keeps a0 s) (n : Ch) :
    Keeps a0 (State.outLevel s n) := by
  unfold State.outLevel
  with_reducible (repeat' first | assumption | apply Keeps.ite | apply keeps_dacLevel | split | intro _)

theorem keeps_modKiln {a0 s : State} (h : Keeps a0 s) (n : Ch) (f : KilnSt → KilnSt) :
    Keeps a0 (State.modKiln s n f) := by
  unfold State.modKiln
  with_reducible (repeat' first | assumption | apply Keeps.ite | apply Keeps.modCh | split | intro _)

theorem keeps_kilnOff {a0 s : State} (h : Keeps a0 s) (n : Ch) :
    Keeps a0 (State.kilnOff s n) := by
  unfold State.kilnOff
  with_reducible (repeat' first | assumption | apply Keeps.ite | apply Keeps.set | split | intro _)

theorem keeps_kilnStart {a0 s : State} (h : Keeps a0 s) (n : Ch) :
    Keeps a0 (State.kilnStart s n) := by
  unfold State.kilnStart
  with_reducible (repeat' first | assumption | apply Keeps.ite | apply keeps_modKiln | apply keeps_modDac | apply keeps_setQueue | apply Keeps.set | apply keeps_irq | split | intro _)

theorem keeps_kilnLevel {a0 s : State} (h : Keeps a0 s) (n : Ch) :
    Keeps a0 (State.kilnLevel s n) := by
  unfold State.kilnLevel
  with_reducible (repeat' first | assumption | apply Keeps.ite | apply keeps_kilnOff | apply keeps_kilnStart | apply Keeps.set | split | intro _)

theorem keeps_modGauge {a0 s : State} (h : Keeps a0 s) (n : Ch) (f : GaugeSt → GaugeSt) :
    Keeps a0 (State.modGauge s n f) := by
  unfold State.modGauge
  with_reducible (repeat' first | assumption | apply Keeps.ite | apply Keeps.modCh | split | intro _)

theorem keeps_converted {a0 s : State} (h : Keeps a0 s) (n : Ch) (b : Bool) (input pga k : Nat) :
    Keeps a0 (State.converted s n b input pga k) := by
  unfold State.converted
  with_reducible (repeat' first | assumption | apply Keeps.ite | apply keeps_incr | apply keeps_modGauge | split | intro _)

theorem keeps_payDiscard {a0 s : State} (h : Keeps a0 s) (n : Ch) (w : Word) :
    Keeps a0 (State.payDiscard s n w) := by
  unfold State.payDiscard
  with_reducible (repeat' first | assumption | apply Keeps.ite | apply keeps_modGauge | split | intro _)

theorem keeps_entryStart {a0 s : State} (h : Keeps a0 s) (n : Ch) (e : Nat) :
    Keeps a0 (State.entryStart s n e) := by
  unfold State.entryStart
  with_reducible (repeat' first | assumption | apply Keeps.ite | apply Keeps.set | apply keeps_modGauge | apply keeps_payDiscard | split | intro _)

theorem keeps_clearFresh {a0 s : State} (h : Keeps a0 s) (n : Ch) (x0 : Nat) :
    Keeps a0 (State.clearFresh s n x0) := by
  fun_induction State.clearFresh s n x0 <;>
    with_reducible (repeat' first | assumption | apply Keeps.ite | apply Keeps.set | apply_assumption | split | intro _)

theorem keeps_runStart {a0 s : State} (h : Keeps a0 s) (n : Ch) :
    Keeps a0 (State.runStart s n) := by
  unfold State.runStart
  with_reducible (repeat' first | assumption | apply Keeps.ite | apply keeps_clearFresh | apply Keeps.set | apply keeps_modGauge | apply keeps_entryStart | split | intro _)

theorem keeps_diagStart {a0 s : State} (h : Keeps a0 s) (n : Ch) :
    Keeps a0 (State.diagStart s n) := by
  unfold State.diagStart
  with_reducible (repeat' first | assumption | apply Keeps.ite | apply Keeps.set | apply keeps_modGauge | split | intro _)

theorem keeps_gaugeNext {a0 s : State} (h : Keeps a0 s) (n : Ch) :
    Keeps a0 (State.gaugeNext s n) := by
  unfold State.gaugeNext
  with_reducible (repeat' first | assumption | apply Keeps.ite | apply keeps_diagStart | apply Keeps.set | apply keeps_runStart | split | intro _)

theorem keeps_gaugeStop {a0 s : State} (h : Keeps a0 s) (n : Ch) :
    Keeps a0 (State.gaugeStop s n) := by
  unfold State.gaugeStop
  with_reducible (repeat' first | assumption | apply Keeps.ite | apply Keeps.set | apply keeps_irq | apply keeps_modGauge | split | intro _)

theorem keeps_gaugeLevel {a0 s : State} (h : Keeps a0 s) (n : Ch) :
    Keeps a0 (State.gaugeLevel s n) := by
  unfold State.gaugeLevel
  with_reducible (repeat' first | assumption | apply Keeps.ite | apply Keeps.set | apply keeps_modGauge | apply keeps_gaugeStop | apply keeps_gaugeNext | split | intro _)

/-! ## LvlMem -/

theorem keeps_modScrub {a0 s : State} (h : Keeps a0 s) (x : Scope) (f : ScrubSt → ScrubSt) :
    Keeps a0 (State.modScrub s x f) := by
  unfold State.modScrub
  with_reducible (repeat' first | assumption | apply Keeps.ite | apply Keeps.modCh | apply Keeps.modDev | exact fun d => ⟨rfl, rfl, rfl, rfl⟩ | split | intro _)

theorem keeps_modMarch {a0 s : State} (h : Keeps a0 s) (x : Scope) (f : MarchSt → MarchSt) :
    Keeps a0 (State.modMarch s x f) := by
  unfold State.modMarch
  with_reducible (repeat' first | assumption | apply Keeps.ite | apply Keeps.modCh | apply Keeps.modDev | exact fun d => ⟨rfl, rfl, rfl, rfl⟩ | split | intro _)

theorem keeps_xset {a0 s : State} (h : Keeps a0 s) (x : Scope) (f : Field) (v : Nat) :
    Keeps a0 (State.xset s x f v) := by
  unfold State.xset
  with_reducible (repeat' first | assumption | apply Keeps.ite | apply Keeps.set | split | intro _)

theorem keeps_xirq {a0 s : State} (h : Keeps a0 s) (x : Scope) (f : Field) :
    Keeps a0 (State.xirq s x f) := by
  unfold State.xirq
  with_reducible (repeat' first | assumption | apply Keeps.ite | apply keeps_irq | split | intro _)

theorem keeps_scrubSummary {a0 s : State} (h : Keeps a0 s) (x : Scope) (words : Nat) (a : ScrubSum) (us : Nat) :
    Keeps a0 (State.scrubSummary s x words a us) := by
  unfold State.scrubSummary
  with_reducible (repeat' first | assumption | apply Keeps.ite | apply keeps_xset | apply keeps_poison | split | intro _)

theorem keeps_scrubIdle {a0 s : State} (h : Keeps a0 s) (x : Scope) :
    Keeps a0 (State.scrubIdle s x) := by
  unfold State.scrubIdle
  with_reducible (repeat' first | assumption | apply Keeps.ite | apply keeps_xset | apply keeps_modScrub | split | intro _)

theorem keeps_scrubAbort {a0 s : State} (h : Keeps a0 s) (x : Scope) :
    Keeps a0 (State.scrubAbort s x) := by
  unfold State.scrubAbort
  with_reducible (repeat' first | assumption | apply Keeps.ite | apply keeps_scrubSummary | apply keeps_scrubIdle | apply keeps_xirq | split | intro _)

/-! ## LvlTally -/

theorem keeps_modTally {a0 s : State} (h : Keeps a0 s) (n : Ch) (f : TallySt → TallySt) :
    Keeps a0 (State.modTally s n f) := by
  unfold State.modTally
  with_reducible (repeat' first | assumption | apply Keeps.ite | apply Keeps.modCh | split | intro _)

theorem keeps_tallyInitStart {a0 s : State} (h : Keeps a0 s) (n : Ch) :
    Keeps a0 (State.tallyInitStart s n) := by
  unfold State.tallyInitStart
  with_reducible (repeat' first | assumption | apply Keeps.ite | apply keeps_scrubAbort | apply Keeps.set | apply keeps_modTally | split | intro _)

theorem keeps_sweepStart {a0 s : State} (h : Keeps a0 s) (n : Ch) :
    Keeps a0 (State.sweepStart s n) := by
  unfold State.sweepStart
  with_reducible (repeat' first | assumption | apply Keeps.ite | apply Keeps.set | split | intro _)

theorem keeps_tallyMove {a0 s : State} (h : Keeps a0 s) (n : Ch) :
    Keeps a0 (State.tallyMove s n) := by
  unfold State.tallyMove
  with_reducible (repeat' first | assumption | apply Keeps.ite | apply keeps_tallyInitStart | apply Keeps.set | apply keeps_sweepStart | split | intro _)

theorem keeps_tallyLevel {a0 s : State} (h : Keeps a0 s) (n : Ch) :
    Keeps a0 (State.tallyLevel s n) := by
  unfold State.tallyLevel
  with_reducible (repeat' first | assumption | apply Keeps.ite | apply keeps_tallyMove | apply Keeps.set | split | intro _)

/-! ## LvlCnt -/

theorem keeps_modHop {a0 s : State} (h : Keeps a0 s) (n : Ch) (f : HopSt → HopSt) :
    Keeps a0 (State.modHop s n f) := by
  unfold State.modHop
  with_reducible (repeat' first | assumption | apply Keeps.ite | apply Keeps.modCh | split | intro _)

theorem keeps_clkLevel {a0 s : State} (h : Keeps a0 s) (n : Ch) :
    Keeps a0 (State.clkLevel s n) := by
  unfold State.clkLevel
  with_reducible (repeat' first | assumption | apply Keeps.ite | apply Keeps.set | apply keeps_modHop | split | intro _)

theorem keeps_hopLevel {a0 s : State} (h : Keeps a0 s) (n : Ch) :
    Keeps a0 (State.hopLevel s n) := by
  unfold State.hopLevel
  with_reducible (repeat' first | assumption | apply Keeps.ite | apply Keeps.set | apply keeps_modHop | split | intro _)

theorem keeps_cntLevel {a0 s : State} (h : Keeps a0 s) (n : Ch) :
    Keeps a0 (State.cntLevel s n) := by
  unfold State.cntLevel
  with_reducible (repeat' first | assumption | apply Keeps.ite | apply keeps_clkLevel | apply keeps_hopLevel | split | intro _)

/-! ## LvlPat -/

theorem keeps_patSet {a0 s : State} (h : Keeps a0 s) (n : Ch) (c st : Nat) :
    Keeps a0 (State.patSet s n c st) := by
  unfold State.patSet
  with_reducible (repeat' first | assumption | apply Keeps.ite | apply Keeps.set | split | intro _)

theorem keeps_patCount {a0 s : State} (h : Keeps a0 s) (n : Ch) (c bits errs : Nat) :
    Keeps a0 (State.patCount s n c bits errs) := by
  unfold State.patCount
  with_reducible (repeat' first | assumption | apply Keeps.ite | apply keeps_sat64 | split | intro _)

theorem keeps_patDraw {a0 s : State} (h : Keeps a0 s) (n : Ch) (c : Nat) :
    Keeps a0 (State.patDraw s n c) := by
  unfold State.patDraw
  with_reducible (repeat' first | assumption | apply Keeps.ite | apply keeps_patCount | apply Keeps.draw | split | intro _)

theorem keeps_patChecker {a0 s : State} (h : Keeps a0 s) (n : Ch) (c : Nat) :
    Keeps a0 (State.patChecker s n c) := by
  unfold State.patChecker
  with_reducible (repeat' first | assumption | apply Keeps.ite | apply keeps_patSet | apply keeps_patDraw | split | intro _)

theorem keeps_patActive {a0 s : State} (h : Keeps a0 s) (n : Ch) (x0 : Nat) :
    Keeps a0 (State.patActive s n x0) := by
  fun_induction State.patActive s n x0 <;>
    with_reducible (repeat' first | assumption | apply Keeps.ite | apply Keeps.set | apply_assumption | split | intro _)

theorem keeps_patLevel {a0 s : State} (h : Keeps a0 s) (n : Ch) :
    Keeps a0 (State.patLevel s n) := by
  unfold State.patLevel
  with_reducible (repeat' first | assumption | apply Keeps.ite | apply keeps_patActive | apply keeps_patChecker | split | intro _)

/-! ## Levels -/

theorem keeps_levels {a0 s : State} (h : Keeps a0 s) (n : Ch) :
    Keeps a0 (State.levels s n) := by
  unfold State.levels
  with_reducible (repeat' first | assumption | apply Keeps.ite | apply keeps_lrxLevel | apply keeps_rxLevel | apply keeps_laneLevel | apply keeps_holdoverLevel | apply keeps_hfecLevel | apply keeps_ltxLevel | apply keeps_mrLevel | apply keeps_kilnLevel | apply keeps_outLevel | apply keeps_gaugeLevel | apply keeps_dressLevel | apply keeps_tallyLevel | apply keeps_cntLevel | apply keeps_patLevel | split | intro _)

theorem keeps_levelsAll {a0 s : State} (h : Keeps a0 s) (x0 : List Ch) :
    Keeps a0 (State.levelsAll s x0) := by
  fun_induction State.levelsAll s x0 <;>
    with_reducible (repeat' first | assumption | apply Keeps.ite | apply keeps_levels | apply_assumption | split | intro _)

/-! ## Faults -/

theorem keeps_sluiceSum {a0 s : State} (h : Keeps a0 s) :
    Keeps a0 (State.sluiceSum s) := by
  unfold State.sluiceSum
  with_reducible (repeat' first | assumption | apply Keeps.ite | apply keeps_dset | split | intro _)

theorem keeps_safeUpdate {a0 s : State} (h : Keeps a0 s) (n : Ch) :
    Keeps a0 (State.safeUpdate s n) := by
  unfold State.safeUpdate
  with_reducible (repeat' first | assumption | apply Keeps.ite | apply keeps_dset | apply keeps_sluiceSum | apply Keeps.set | apply keeps_irq | apply keeps_sat | apply keeps_levels | split | intro _)

theorem keeps_safeUpdateAll {a0 s : State} (h : Keeps a0 s) (x0 : List Ch) :
    Keeps a0 (State.safeUpdateAll s x0) := by
  fun_induction State.safeUpdateAll s x0 <;>
    with_reducible (repeat' first | assumption | apply Keeps.ite | apply keeps_safeUpdate | apply_assumption | split | intro _)

theorem keeps_forwardRec {a0 s : State} (h : Keeps a0 s) (n : Ch) (f : Field) (r : LogRec) :
    Keeps a0 (State.forwardRec s n f r) := by
  unfold State.forwardRec
  with_reducible (repeat' first | assumption | apply Keeps.ite | apply Keeps.set | apply keeps_safeUpdate | apply keeps_sluiceSum | apply Keeps.modDev | exact fun d => ⟨rfl, rfl, rfl, rfl⟩ | split | intro _)

theorem keeps_forward {a0 s : State} (h : Keeps a0 s) (n : Ch) (f : Field) (status : Word) (note : FaultNote) :
    Keeps a0 (State.forward s n f status note) := by
  unfold State.forward
  with_reducible (repeat' first | assumption | apply Keeps.ite | apply keeps_forwardRec | split | intro _)

theorem keeps_hopFault {a0 s : State} (h : Keeps a0 s) (n : Ch) (f : Field) (cls : Nat) :
    Keeps a0 (State.hopFault s n f cls) := by
  unfold State.hopFault
  with_reducible (repeat' first | assumption | apply Keeps.ite | apply keeps_modHop | split | intro _)

theorem keeps_raise {a0 s : State} (h : Keeps a0 s) (n : Ch) (f : Field) (note : FaultNote) :
    Keeps a0 (State.raise s n f note) := by
  unfold State.raise
  with_reducible (repeat' first | assumption | apply Keeps.ite | apply Keeps.set | apply keeps_count | apply keeps_dcount | apply keeps_hopFault | apply Keeps.modCh | apply keeps_forward | split | intro _)

theorem keeps_draise {a0 s : State} (h : Keeps a0 s) (f : Field) (note : FaultNote) :
    Keeps a0 (State.draise s f note) := by
  unfold State.draise
  with_reducible (repeat' first | assumption | apply Keeps.ite | apply keeps_raise | split | intro _)

theorem keeps_withdraw {a0 s : State} (h : Keeps a0 s) (n : Ch) (f : Field) :
    Keeps a0 (State.withdraw s n f) := by
  unfold State.withdraw
  with_reducible (repeat' first | assumption | apply Keeps.ite | apply keeps_safeUpdate | apply keeps_sluiceSum | apply Keeps.modDev | exact fun d => ⟨rfl, rfl, rfl, rfl⟩ | split | intro _)

theorem keeps_disarm {a0 s : State} (h : Keeps a0 s) (n : Ch) (f : Field) (b : Nat) :
    Keeps a0 (State.disarm s n f b) := by
  unfold State.disarm
  with_reducible (repeat' first | assumption | apply Keeps.ite | apply Keeps.set | split | intro _)

theorem keeps_raiseFsm {a0 s : State} (h : Keeps a0 s) (n : Ch) (f : Field) (k : Nat) :
    Keeps a0 (State.raiseFsm s n f k) := by
  unfold State.raiseFsm
  with_reducible (repeat' first | assumption | apply Keeps.ite | apply keeps_disarm | apply keeps_raise | split | intro _)

theorem keeps_dropCleared {a0 s : State} (h : Keeps a0 s) :
    Keeps a0 (State.dropCleared s) := by
  unfold State.dropCleared
  with_reducible (repeat' first | assumption | apply Keeps.ite | apply keeps_sluiceSum | apply Keeps.modDev | exact fun d => ⟨rfl, rfl, rfl, rfl⟩ | split | intro _)

/-! ## Box -/

theorem keeps_bset {a0 s : State} (h : Keeps a0 s) (b : Box) (f : Nat → Nat → Field) (v : Nat) :
    Keeps a0 (State.bset s b f v) := by
  unfold State.bset
  with_reducible (repeat' first | assumption | apply Keeps.ite | apply Keeps.set | split | intro _)

theorem keeps_boxMsg {a0 s : State} (h : Keeps a0 s) (x0 : Box) :
    Keeps a0 (State.boxMsg s x0) := by
  unfold State.boxMsg
  with_reducible (repeat' first | assumption | apply Keeps.ite | apply keeps_dirq | split | intro _)

theorem keeps_boxTaken {a0 s : State} (h : Keeps a0 s) (x0 : Box) :
    Keeps a0 (State.boxTaken s x0) := by
  unfold State.boxTaken
  with_reducible (repeat' first | assumption | apply Keeps.ite | apply keeps_dirq | split | intro _)

theorem keeps_boxRing {a0 s : State} (h : Keeps a0 s) (b : Box) :
    Keeps a0 (State.boxRing s b) := by
  unfold State.boxRing
  with_reducible (repeat' first | assumption | apply Keeps.ite | apply keeps_bset | apply keeps_boxMsg | apply keeps_dcount | split | intro _)

theorem keeps_boxTake {a0 s : State} (h : Keeps a0 s) (b : Box) :
    Keeps a0 (State.boxTake s b) := by
  unfold State.boxTake
  with_reducible (repeat' first | assumption | apply Keeps.ite | apply keeps_bset | apply keeps_boxTaken | apply keeps_dirq | split | intro _)

theorem keeps_boxReset {a0 s : State} (h : Keeps a0 s) (b : Box) :
    Keeps a0 (State.boxReset s b) := by
  unfold State.boxReset
  with_reducible (repeat' first | assumption | apply Keeps.ite | apply keeps_bset | split | intro _)

theorem keeps_boxResets {a0 s : State} (h : Keeps a0 s) (x0 : List Box) :
    Keeps a0 (State.boxResets s x0) := by
  fun_induction State.boxResets s x0 <;>
    with_reducible (repeat' first | assumption | apply Keeps.ite | apply keeps_boxReset | apply_assumption | split | intro _)

theorem keeps_boxStore {a0 s : State} (h : Keeps a0 s) (b : Box) (i : Nat) (w : Word) :
    Keeps a0 (State.boxStore s b i w) := by
  unfold State.boxStore
  with_reducible (repeat' first | assumption | apply Keeps.ite | apply Keeps.set | apply Keeps.setWord | apply Keeps.modDev | exact fun d => ⟨rfl, rfl, rfl, rfl⟩ | split | intro _)

theorem keeps_boxWords {a0 s : State} (h : Keeps a0 s) (b : Box) (i : Nat) (x0 : List Word) :
    Keeps a0 (State.boxWords s b i x0) := by
  fun_induction State.boxWords s b i x0 <;>
    with_reducible (repeat' first | assumption | apply Keeps.ite | apply keeps_boxStore | apply_assumption | split | intro _)

theorem keeps_modFw {a0 s : State} (h : Keeps a0 s) (k : Fin 4) (f : FwCmd → FwCmd) :
    Keeps a0 (State.modFw s k f) := by
  unfold State.modFw
  with_reducible (repeat' first | assumption | apply Keeps.ite | apply Keeps.modDev | exact fun d => ⟨rfl, rfl, rfl, rfl⟩ | split | intro _)

theorem keeps_fwPost {a0 s : State} (h : Keeps a0 s) (k : Fin 4) (words : List Word) :
    Keeps a0 (State.fwPost s k words) := by
  unfold State.fwPost
  with_reducible (repeat' first | assumption | apply Keeps.ite | apply keeps_modFw | apply keeps_boxWords | apply keeps_boxRing | apply Keeps.modDev | exact fun d => ⟨rfl, rfl, rfl, rfl⟩ | split | intro _)

theorem keeps_fwAnswer {a0 s : State} (h : Keeps a0 s) (k : Fin 4) (status : Nat) (results : List Word) :
    Keeps a0 (State.fwAnswer s k status results) := by
  unfold State.fwAnswer
  with_reducible (repeat' first | assumption | apply Keeps.ite | apply keeps_fwPost | split | intro _)

theorem keeps_fwWrightLost {a0 s : State} (h : Keeps a0 s) (n : Ch) (x0 : List FwCmd) :
    Keeps a0 (State.fwWrightLost s n x0) := by
  fun_induction State.fwWrightLost s n x0 <;>
    with_reducible (repeat' first | assumption | apply Keeps.ite | apply keeps_fwAnswer | apply_assumption | split | intro _)

theorem keeps_fwPowerRefused {a0 s : State} (h : Keeps a0 s) (n : Ch) (code : Nat) :
    Keeps a0 (State.fwPowerRefused s n code) := by
  unfold State.fwPowerRefused
  with_reducible (repeat' first | assumption | apply Keeps.ite | apply Keeps.modDev | exact fun d => ⟨rfl, rfl, rfl, rfl⟩ | split | intro _)

/-! ## MemOps -/

theorem keeps_modWb {a0 s : State} (h : Keeps a0 s) (m : Nat) (f : List WbEntry → List WbEntry) :
    Keeps a0 (State.modWb s m f) := by
  unfold State.modWb
  with_reducible (repeat' first | assumption | apply Keeps.ite | apply Keeps.modCh | apply Keeps.modDev | exact fun d => ⟨rfl, rfl, rfl, rfl⟩ | split | intro _)

theorem keeps_countMem {a0 s : State} (h : Keeps a0 s) (m w cls req : Nat) (amount : Nat) :
    Keeps a0 (State.countMem s m w cls req amount) := by
  unfold State.countMem
  with_reducible (repeat' first | assumption | apply Keeps.ite | apply keeps_countBus | split | intro _)

theorem keeps_takeInject {a0 s : State} (h : Keeps a0 s) (m w : Nat) :
    Keeps a0 (State.takeInject s m w).2 := by
  unfold State.takeInject
  with_reducible (repeat' first | assumption | apply Keeps.ite | apply keeps_disarm | split | intro _)

theorem keeps_memWrite {a0 s : State} (h : Keeps a0 s) (m w v : Nat) :
    Keeps a0 (State.memWrite s m w v) := by
  unfold State.memWrite
  with_reducible (repeat' first | assumption | apply Keeps.ite | apply keeps_takeInject | apply keeps_memPutSyn | apply keeps_modWb | apply Keeps.modDev | exact fun d => ⟨rfl, rfl, rfl, rfl⟩ | split | intro _)

theorem keeps_memLast {a0 s : State} (h : Keeps a0 s) (m : Nat) (f : Field) (w req : Nat) (poison : Bool) :
    Keeps a0 (State.memLast s m f w req poison) := by
  unfold State.memLast
  with_reducible (repeat' first | assumption | apply Keeps.ite | apply Keeps.set | apply keeps_poison | split | intro _)

theorem keeps_bucketAdd {a0 s : State} (h : Keeps a0 s) (m w req : Nat) :
    Keeps a0 (State.bucketAdd s m w req) := by
  unfold State.bucketAdd
  with_reducible (repeat' first | assumption | apply Keeps.ite | apply Keeps.set | apply keeps_incr | apply keeps_irq | apply keeps_raise | split | intro _)

theorem keeps_ceNote {a0 s : State} (h : Keeps a0 s) (m w req : Nat) :
    Keeps a0 (State.ceNote s m w req) := by
  unfold State.ceNote
  with_reducible (repeat' first | assumption | apply Keeps.ite | apply keeps_incr | apply keeps_memLast | apply keeps_countMem | apply keeps_irq | apply keeps_bucketAdd | split | intro _)

theorem keeps_ceRead {a0 s : State} (h : Keeps a0 s) (m w req : Nat) :
    Keeps a0 (State.ceRead s m w req) := by
  unfold State.ceRead
  with_reducible (repeat' first | assumption | apply Keeps.ite | apply keeps_ceNote | apply keeps_sat | apply keeps_modWb | split | intro _)

theorem keeps_ueRead {a0 s : State} (h : Keeps a0 s) (m w req : Nat) :
    Keeps a0 (State.ueRead s m w req) := by
  unfold State.ueRead
  with_reducible (repeat' first | assumption | apply Keeps.ite | apply keeps_poison | apply keeps_raise | apply keeps_incr | apply keeps_memLast | apply keeps_countMem | split | intro _)

theorem keeps_memRead {a0 s : State} (h : Keeps a0 s) (m w req : Nat) :
    Keeps a0 (State.memRead s m w req).2 := by
  unfold State.memRead
  with_reducible (repeat' first | assumption | apply Keeps.ite | apply keeps_ceRead | apply keeps_poison | apply keeps_ueRead | split | intro _)

theorem keeps_busRead {a0 s : State} (h : Keeps a0 s) (m w req : Nat) :
    Keeps a0 (State.busRead s m w req).2 := by
  unfold State.busRead
  extract_lets r
  with_reducible (repeat' first | assumption | apply Keeps.ite | apply keeps_countMem | apply keeps_memRead | split | intro _)

theorem keeps_busWrite {a0 s : State} (h : Keeps a0 s) (m w v req : Nat) :
    Keeps a0 (State.busWrite s m w v req) := by
  unfold State.busWrite
  with_reducible (repeat' first | assumption | apply Keeps.ite | apply keeps_countMem | apply keeps_memWrite | split | intro _)

theorem keeps_memMerge {a0 s : State} (h : Keeps a0 s) (m w b k v req : Nat) :
    Keeps a0 (State.memMerge s m w b k v req).2 := by
  unfold State.memMerge
  with_reducible (repeat' first | assumption | apply Keeps.ite | apply keeps_memWrite | apply keeps_ceNote | apply keeps_poison | apply keeps_ueRead | split | intro _)

theorem wf_zeroCells (m w k : Nat) : Store.wf memDefault (zeroCells m w k) = true := by
  unfold zeroCells
  have step : ∀ (l : List Nat), l.Pairwise (· < ·) →
      Store.wf memDefault (l.map fun i => (memAddr m (w + i) + 8, (0 : Byte))) = true := by
    intro l
    induction l with
    | nil => intro _; rfl
    | cons x l ih =>
      intro h
      obtain ⟨h1, h2⟩ := List.pairwise_cons.mp h
      refine (Store.wf_cons memDefault).mpr ⟨?_, ?_, ih h2⟩
      · intro e he
        obtain ⟨y, hy, rfl⟩ := List.mem_map.mp he
        have := h1 y hy
        simp only [memAddr]
        omega
      · have : (memAddr m (w + x) + 8) % 16 = 8 := by simp only [memAddr]; omega
        simp only [memDefault, if_pos this]
        decide
  exact step _ List.pairwise_lt_range

theorem wf_append {d : Nat → Byte} {l r : List Host.Cell} (hl : Store.wf d l = true) (hr : Store.wf d r = true)
    (h : ∀ x ∈ l, ∀ y ∈ r, x.1 < y.1) : Store.wf d (l ++ r) = true := by
  induction l with
  | nil => exact hr
  | cons c l ih =>
    obtain ⟨h1, h2, h3⟩ := (Store.wf_cons d).mp hl
    refine (Store.wf_cons d).mpr ⟨?_, h2, ih h3 fun x hx => h x (List.mem_cons_of_mem _ hx)⟩
    intro e he
    rcases List.mem_append.mp he with he | he
    · exact h1 e he
    · exact h c List.mem_cons_self e he

theorem keeps_memZero {a0 s : State} (h : Keeps a0 s) (m w k : Nat) : Keeps a0 (s.memZero m w k) := by
  have hs : Keeps a0 { s with mem := (s.mem.filter fun c => decide (c.1 < memAddr m w)) ++ zeroCells m w k ++
      (s.mem.filter fun c => decide (memAddr m (w + k) ≤ c.1)) } := by
    refine h.of_store rfl rfl fun hc => ?_
    obtain ⟨h1, h2⟩ := (State.canonical_iff s).mp hc
    refine (State.canonical_iff _).mpr ⟨h1, wf_append (wf_append (Store.wf_filter memDefault h2 _) (wf_zeroCells m w k) ?_)
      (Store.wf_filter memDefault h2 _) ?_⟩
    · intro x hx y hy
      obtain ⟨i, _, rfl⟩ := List.mem_map.mp hy
      have := of_decide_eq_true (List.mem_filter.mp hx).2
      simp only [memAddr] at *
      omega
    · intro x hx y hy
      have hy' := of_decide_eq_true (List.mem_filter.mp hy).2
      rcases List.mem_append.mp hx with hx | hx
      · have := of_decide_eq_true (List.mem_filter.mp hx).2
        simp only [memAddr] at *
        omega
      · obtain ⟨i, hi, rfl⟩ := List.mem_map.mp hx
        have := List.mem_range.mp hi
        simp only [memAddr] at *
        omega
  unfold State.memZero
  extract_lets lo hi s1 gone s2
  have k2 : Keeps a0 s2 := by
    apply Keeps.modDev
    · exact keeps_modWb hs ..
    · exact fun d => ⟨rfl, rfl, rfl, rfl⟩
  split
  · exact k2
  · exact keeps_memWrite k2 ..

theorem keeps_memWrites {a0 s : State} (h : Keeps a0 s) (m w : Nat) (x0 : List Nat) :
    Keeps a0 (State.memWrites s m w x0) := by
  fun_induction State.memWrites s m w x0 <;>
    with_reducible (repeat' first | assumption | apply Keeps.ite | apply keeps_memWrite | apply_assumption | split | intro _)

end Sys2Proof.Machine
end

