-- ==== Sys2Proof/Machine/PatGen.lean ====
section
/-! DEFINITION. What the pattern units send and check, and the host lanes' transmit filter (R136, R139, R142, R477 to R482).
No command carries symbols, so no step calls these; the checkers' bits and errors come as operands of their events. -/

namespace Sys2Proof.Machine

/-- The feedback taps of PATTERN codes 0x0 to 0x5, and of 0x6, 0x7 and the codes that act as 0x7 (R478; IEEE 802.3, log
entry 58). -/
def prbsTaps (code : Nat) : List Nat :=
  match code with
  | 0 => [7, 6]
  | 1 => [9, 5]
  | 2 => [13, 12, 2, 1]
  | 3 => [15, 14]
  | 4 => [23, 18]
  | 6 => [13, 12, 2, 1]
  | _ => [31, 28]

/-- The next `k` bits of a sequence after the bits of `st`, the latest first: each is the XOR of the bits that many places
back. -/
def prbs (taps : List Nat) : Nat → List Bool → List Bool
  | 0, _ => []
  | k + 1, st =>
    let b := parity (taps.map fun t => st.getD (t - 1) false)
    b :: prbs taps k (b :: st.take 30)

/-- Whether a code sends one bit per symbol (R478). -/
def patBinary (code : Nat) : Bool := decide (code < 6)

/-- The symbols of a list of bits: −3 and +3 for one bit a symbol, the Gray map for two (R478). -/
def patSymbols (code : Nat) : List Bool → List (Fin 4)
  | [] => []
  | [a] => if patBinary code then [if a then 3 else 0] else []
  | a :: b :: l =>
    if patBinary code then (if a then 3 else 0) :: patSymbols code (b :: l) else grayOf a b :: patSymbols code l

/-- USER[63:0] of a unit. -/
def State.patUser (s : State) (n : Ch) (u : Nat) : Nat := s.get n (PAT.U_USER_LO u) + 2 ^ 32 * s.get n (PAT.U_USER_HI u)

/-- Symbol `i` of the square wave: SQ_HALF + 1 symbols at −3, then as many at +3 (R478). -/
def squareSymbol (half i : Nat) : Fin 4 := if i / (half + 1) % 2 = 0 then 0 else 3

/-- Symbols `i` to i + k - 1 that unit `u` generates since its start, `st` being the PRBS bits before them; INVERT negates every
level (R478). -/
def State.pattern (s : State) (n : Ch) (u i k : Nat) (st : List Bool) : List (Fin 4) :=
  let code := s.get n (PAT.U_CFG_PATTERN u)
  let plain :=
    match code with
    | 8 => (List.range k).map fun j => Config.ssprq (i + j)
    | 9 => (List.range k).map fun j => squareSymbol (s.get n (PAT.U_CFG_SQ_HALF u)) (i + j)
    | 10 =>
      (List.range k).map fun j =>
        let at_ := 2 * ((i + j) % 32)
        grayOf ((s.patUser n u).testBit at_) ((s.patUser n u).testBit (at_ + 1))
    | _ => patSymbols code (prbs (prbsTaps code) (if patBinary code then k else 2 * k) st)
  if s.is n (PAT.U_CFG_INVERT u) then plain.map fun p => 3 - p else plain

/-- ERR_INJ inverts the first bit of the next symbol sent (R482). -/
def injectError (code : Nat) : List (Fin 4) → List (Fin 4)
  | [] => []
  | p :: l =>
    match bitsOfGray p with
    | [a, b] => (if patBinary code then 3 - p else grayOf (!a) b) :: l
    | _ => p :: l

/-- The bits that a checker of a code counts for a decided symbol, after INVERT (R478). -/
def checkerBits (code : Nat) (invert : Bool) (p : Fin 4) : List Bool :=
  let q : Fin 4 := if invert then 3 - p else p
  if patBinary code then [decide (2 ≤ q.val)] else bitsOfGray q

/-- The bit errors between decided and expected symbols (R481). -/
def bitErrors (code : Nat) (invert : Bool) (got want : List (Fin 4)) : Nat :=
  (((got.flatMap (checkerBits code invert)).zip (want.flatMap (checkerBits code invert))).filter fun x => x.1 != x.2).length

/-- A lock state (1 HUNT, 2 LOCK) after a symbol: `clean` error-free symbols in a row, `errs` symbol errors of the last 1,024
(R480). -/
def checkerNext (locked : Bool) (clean errs : Nat) : Bool := if locked then decide (errs < 64) else decide (128 ≤ clean)

/-! ## The host lanes' transmitter and receiver settings -/

/-- TX_SWING in mV differential peak to peak (R139), CDR_BW in MHz (R142). -/
def State.laneSwing (s : State) (n : Ch) (l : Fin 2) : Nat := 700 + 150 * s.get n (HL.CFG_TX_SWING l)
def State.cdrBandwidth (s : State) (n : Ch) (l : Fin 2) : Nat := 2 ^ s.get n (HL.CFG_CDR_BW l)

/-- The differential output of symbol `j` of a stream of levels in 1/384 mV: the six taps in 1/64 of full swing, full at a sum
of 64, with TX_POL (R136, R139).  Full swing is half the peak-to-peak value at level ±3; c(i) weights the symbol i places
before. -/
def State.laneOut (s : State) (n : Ch) (l : Fin 2) (level : Int → Int) (j : Int) : Int :=
  let taps := s.firActive n l
  let y := ((List.range 6).map fun i => taps.getD i 0 * level (j - ((i : Int) - 3))).sum
  (if s.is n (HL.CFG_TX_POL l) then -1 else 1) * y * (s.laneSwing n l : Int)

/-- The lane number whose PRBS13 seed the training pattern uses (R143). -/
def State.trainSeedLane (s : State) (n : Ch) (l : Fin 2) : Nat := s.get n (HL.TRAIN_CFG_SEED_LANE l)

end Sys2Proof.Machine
end

