-- ==== Sys2Proof/Machine/LtxOut.lean ====
section
/-! DEFINITION. What the line transmitter and the host transmitters send (R134, R165, R170, R172, R177 to R180, R182, R184,
R185, R187 to R189, R195, R196, R295, R296, R298, R448): the source of the stream and the stages of R177 in their order, read
from the state.  No command carries symbols, so no step calls these. -/

namespace Sys2Proof.Machine

/-- The level of a transmitted symbol (R179). -/
def txLevel (p : Fin 4) : Int := 2 * (p.val : Int) - 3

/-- The symbols of a 128-bit block, block bit 2k first (R179). -/
def blockSymbols : List Bool → List (Fin 4)
  | a :: b :: bs => grayOf a b :: blockSymbols bs
  | _ => []

/-- What a transmitter sends. -/
inductive TxSource where
  | idle
  | training
  | fill
  | data
  | corrected
  | localFault
  | pattern
  | ditherOnly
deriving DecidableEq, Repr

/-- The source of the line stream (R20, R165, R167, R170, R190, R195, R196): electrical idle in OFF; in LISTEN no data term;
the pattern generator in ON; in Terminate the decoded stream or Local Fault; in Transparent host data or, in holdover, the
PRBS31Q fill. -/
def State.lineSource (s : State) (n : Ch) : TxSource :=
  if s.ltxState n = 0 then .idle
  else if s.listening n then .ditherOnly
  else if s.patOn n 2 then .pattern
  else if s.is n TOP.STATUS_ACTIVE_OUTER then (if s.is n HFEC.STATUS_LF_TO_LINE then .localFault else .corrected)
  else if s.is n TOP.STATUS_HOLDOVER then .fill
  else .data

/-- The source of a host lane's transmitter (R134, R165, R170, R172, R448, R479): a safe channel sends Local Fault in Terminate
while its CORE_RX runs, and electrical idle in Transparent and under HFEC_FSM_PAR. -/
def State.hostSource (s : State) (n : Ch) (l : Fin 2) : TxSource :=
  let st := s.laneState n l
  let shut := s.outputsShut && !(s.is n TOP.CLK_STATUS_CH_PLL_LOCK && s.dev.refclk)
  if st = 0 ∨ shut = true ∨ s.is n HFEC.FLT_HFEC_FSM_PAR = true then .idle
  else if s.is n FLT.STATUS_SAFE then (if s.is n TOP.STATUS_ACTIVE_OUTER then .localFault else .idle)
  else
    match st with
    | 3 => .training
    | 5 => .training
    | 4 =>
      if s.is n TOP.STATUS_ACTIVE_OUTER then (if s.is n HFEC.STATUS_LF_TO_HOST then .localFault else .corrected) else .data
    | 6 => if s.is n (PAT.U_CFG_EN l.val) then .pattern else .idle
    | _ => if (s.lane n l).trainEn then .training else .fill

/-- The transmitted symbols of the messages of a word, from the precoder state `p` (R178 to R180). -/
def State.txSymbols (s : State) (n : Ch) (p : Fin 4) (msgs : List (List Bool)) : List (Fin 4) :=
  let gs := blockSymbols (msgs.flatMap innerEncode)
  if s.is n LTX.STATUS_PRECODE_ACTIVE then precode p gs else gs

/-- A word of four messages through encoder, Gray mapper and precoder, whose state runs on across words (R180). -/
def State.txWord (s : State) (n : Ch) (msgs : List (List Bool)) : List (Fin 4) × State :=
  let ps := s.txSymbols n (s.chan n).ltx.pre msgs
  (ps, s.modLtx n fun x => { x with pre := ps.getLastD x.pre })

/-- The 480 bits that the inner encoder takes in a core cycle (R178): the host's bits, what HFEC sends, the PRBS31Q fill from
the state `st`, or the bits of a Local Fault codeword. -/
def State.encoderInput (s : State) (n : Ch) (host st fault : List Bool) : List Bool :=
  match s.lineSource n with
  | .corrected => (bitsOfSymbols (s.chan n).hfec.outHost).take 480
  | .localFault => (bitsOfSymbols (faultCodeword fault).1).take 480
  | .fill => prbs (prbsTaps 7) 480 st
  | _ => host

/-- The pattern insertion point (R177, R196): the generator's symbols replace the transmitted ones. -/
def State.inserted (s : State) (n : Ch) (ps pattern : List (Fin 4)) : List (Fin 4) := if s.patOn n 2 then pattern else ps

/-- The level at place `j` of a stream; outside it none. -/
def levelAt (stream : List (Fin 4)) (j : Int) : Int :=
  if j < 0 then 0 else ((stream[j.toNat]?).map txLevel).getD 0

/-- y(n) in 1/768 of the outer level from tap `i` on, `k` taps: register tap i is cursor c(i - MAIN) (R182). -/
def State.firOut (s : State) (n : Ch) (stream : List (Fin 4)) (j : Int) : Nat → Int
  | 0 => 0
  | k + 1 =>
    s.firOut n stream j k +
      s.getI n (LTX.FIR_ACTIVE_COEF k) * levelAt stream (j - ((k : Int) - (s.get n LTX.FIR_MAIN_ACTIVE_MAIN : Int)))

/-- The table index of a context (R185). -/
def nlIndex (before here after : Fin 4) : Nat := 16 * before.val + 4 * here.val + after.val

/-- The correction that a path applies: NL_ACTIVEi for path 0, and for the others the loaded entry, or 0 where the path
read it with bad parity (R185, R187). -/
def State.nlCorr (s : State) (n : Ch) (path i : Nat) : Int :=
  let x := (s.chan n).ltx
  if path = 0 then s.getI n (LTX.NL_ACTIVE_CORR i)
  else if x.zeroed.contains (path, i) then 0
  else toSigned 8 (x.table.getD i 0)

/-- OUTER_CODE with values below 32 acting as 32 (R184). -/
def State.outerCode (s : State) (n : Ch) : Nat := max 32 (s.get n LTX.CFG_OUTER_CODE)

/-- The chirp that a frame sends `t` × 1/65,536 ns after its start: its slope, the time into it, and the envelope e in 2^-64;
none in the gap (R295, R298).  Every chirp's phase starts at 0, also that of a truncated or a faded one. -/
def MrSt.chirpAt (x : MrSt) (t : Nat) : Option (Bool × Nat × Int) :=
  let T := 65536 * x.chirpNs
  let lead := mrLead
  let coded := x.coded
  if x.air.isNone ∨ T = 0 then none
  else if t < lead then some (false, t % T, raisedCosine t lead)
  else
    let u := t - lead
    if u < coded then
      let i := u / T
      let slope := if i < 16 then false else if i < 18 then true else x.slopes.getD (i - 18) false
      some (slope, u % T, fixOne)
    else if u - coded < lead then some (false, (u - coded) % T, raisedCosine (lead - (u - coded)) lead)
    else none

/-- The phase of a chirp of length `T` in 2^-64 turns, `t` after its start, both in 1/65,536 ns: 8 MHz rising or 40 MHz falling
by 32 MHz over T (R295). -/
def chirpPhase (down : Bool) (t T : Nat) : Int :=
  let f := (if down then 40 else 8 : Int)
  let sweep := 16 * (t : Int) * t / T
  fixOne * (f * t + (if down then - sweep else sweep)) / 65536000

/-- The peak amplitude A in 2^-64 LSB: OUTER_CODE × 10^(LEVEL/20) with LEVEL = −18 − 0.5 × LEVEL_ATT dB, as latched at the
frame's start (R189, R296). -/
def State.ditherPeak (s : State) (n : Ch) : Int := (s.outerCode n : Int) * tenPow80 (72 + 2 * (s.chan n).mr.att)

/-- The envelope of a frame that was cut off while LTX stays ON, `t` after the frame's start: from the value it had then to 0
over 8 µs, along the shape of the lead-out (R303; log entry 42). -/
def MrSt.cutEnvelope (x : MrSt) (t : Nat) : Int :=
  match x.chirpAt x.cutAt with
  | some (_, _, e) => if t - x.cutAt < mrLead then e * raisedCosine (mrLead - (t - x.cutAt)) mrLead / fixOne else 0
  | none => 0

/-- The Millrace's sample at device time `now`, in 1/16 LSB, rounded down (R189, R295); with LTX out of ON its envelope alone
carries a cut frame down (R303). -/
def State.ditherSample (s : State) (n : Ch) (now : TimeVal) : Int :=
  let x := (s.chan n).mr
  let t := now.units - x.began
  match x.chirpAt t with
  | none => 0
  | some (down, at_, e) =>
    let e := if x.cut && s.ltxState n == 3 then x.cutEnvelope t else e
    16 * (s.ditherPeak n * e / fixOne * sinTurns (chirpPhase down at_ (65536 * x.chirpNs)) / fixOne) / fixOne

/-- d(n) of R184: a sample in 1/16 LSB, summed only while the dither is on (R189). -/
def State.ditherIn (s : State) (n : Ch) (d : Int) : Int := if s.ditherOn n then d else 0

/-- s(n) exactly, in 1/768 LSB, from y(n) in 1/768, the correction in LSB and the dither in 1/16 LSB (R184); in LISTEN the data
term and the correction are 0 (R195). -/
def State.sumExact (s : State) (n : Ch) (y corr d : Int) : Int :=
  (if s.listening n then 0 else (s.outerCode n : Int) * y + 768 * corr) + 48 * s.ditherIn n d

/-- s(n) kept to 4 fractional bits; the direction of that step is not stated (log entry 3). -/
def keep4 (exact : Int) : Int := exact / 48 + (if exact % 48 ≠ 0 ∧ Config.keepUp exact = true then 1 else 0)

/-- The rounding to the nearest integer, halves towards +∞, of `k` sixteenths under the envelope `g` in 1/65,536, before
saturation (R184). -/
def roundCode (k : Int) (g : Nat) : Int := (2 * k * (g : Int) + 1048576) / 2097152

/-- Whether the sample is clipped, as SAT_COUNT counts it (R184). -/
def clippedCode (c : Int) : Bool := decide (c < -128 ∨ 127 < c)

/-- The code after saturation and polarity: −128 negated is +127 (R184, R188). -/
def State.outCode (s : State) (n : Ch) (k : Int) (g : Nat) : Int :=
  let c := clampI (-128) 127 (roundCode k g)
  if s.is n LTX.STATUS_POL_ACTIVE then min 127 (-c) else c

/-- The symbol at place `j` of a stream, 0 outside it. -/
def symbolAt (stream : List (Fin 4)) (j : Int) : Fin 4 := if j < 0 then 0 else stream.getD j.toNat 0

/-- The code for symbol `j` of a stream of inserted symbols on its path, with the dither sample `d` (R177, R182 to R188). -/
def State.lineCode (s : State) (n : Ch) (stream : List (Fin 4)) (j : Nat) (d : Int) : Int :=
  let at_ := fun i : Int => symbolAt stream i
  let corr := s.nlCorr n (j % 256) (nlIndex (at_ (j - 1)) (at_ j) (at_ (j + 1)))
  s.outCode n (keep4 (s.sumExact n (s.firOut n stream j 9) corr d)) (s.envelope n)

/-- What TXP/TXN carry for a word of messages at device time `now` (R177, R190): none is electrical idle, in OFF; in LEAD and
LAG g is 0 and every code 0. -/
def State.lineOut (s : State) (n : Ch) (msgs : List (List Bool)) (pattern : List (Fin 4)) (now : TimeVal) :
    Option (List Int) :=
  if s.ltxState n = 0 then none
  else
    let stream := s.inserted n (s.txWord n msgs).1 pattern
    some ((List.range stream.length).map fun j => s.lineCode n stream j (s.ditherSample n now))

/-- The differential amplitude of code +127 in mVpk (R188). -/
def dacFullScale (fs : Nat) : Nat := 500 + 100 * (fs % 4)

end Sys2Proof.Machine
end

