-- ==== Sys2Proof/Laws/KeepsBlocks.lean ====
section
/-! SUPPORT. `Keeps` of the link and channel blocks, from the host lanes to the output stage: what each does to a state, it keeps the queue, the
canonical form, the identity and the programmed fuses. -/

namespace Sys2Proof.Machine

/-! ## HostLane -/

theorem keeps_toFailed {a0 s : State} (h : Keeps a0 s) (n : Ch) (l : Fin 2) :
    Keeps a0 (State.toFailed s n l) := by
  unfold State.toFailed
  with_reducible (repeat' first | assumption | apply Keeps.ite | apply Keeps.set | apply keeps_irq | apply keeps_sat | apply keeps_count | split | intro _)

theorem keeps_leaveData {a0 s : State} (h : Keeps a0 s) (n : Ch) (l : Fin 2) (cause : LockCause) :
    Keeps a0 (State.leaveData s n l cause) := by
  unfold State.leaveData
  with_reducible (repeat' first | assumption | apply Keeps.ite | apply keeps_raise | apply Keeps.set | apply keeps_irq | apply keeps_sat | apply keeps_count | apply keeps_toSigWait | apply keeps_clearLock | apply keeps_toFailed | apply keeps_levels | split | intro _)

theorem keeps_doHostSigDetect {a0 s : State} (h : Keeps a0 s) (n : Ch) (l : Fin 2) :
    Keeps a0 (doHostSigDetect n l s) := by
  unfold doHostSigDetect
  with_reducible (repeat' first | assumption | apply Keeps.ite | apply Keeps.set | apply keeps_irq | split | intro _)

theorem keeps_doHostSigFall {a0 s : State} (h : Keeps a0 s) (n : Ch) (l : Fin 2) (long : Bool) :
    Keeps a0 (doHostSigFall n l long s) := by
  unfold doHostSigFall
  with_reducible (repeat' first | assumption | apply Keeps.ite | apply Keeps.set | apply keeps_leaveData | apply keeps_clearLock | apply keeps_modLane | split | intro _)

theorem keeps_doCdrLock {a0 s : State} (h : Keeps a0 s) (n : Ch) (l : Fin 2) (ppm : Int) :
    Keeps a0 (doCdrLock n l ppm s) := by
  unfold doCdrLock
  with_reducible (repeat' first | assumption | apply Keeps.ite | apply Keeps.set | apply keeps_setI | apply keeps_startTaps | apply keeps_irq | apply keeps_levels | split | intro _)

theorem keeps_doCdrPpmUpdate {a0 s : State} (h : Keeps a0 s) (n : Ch) (l : Fin 2) (ppm : Int) :
    Keeps a0 (doCdrPpmUpdate n l ppm s) := by
  unfold doCdrPpmUpdate
  with_reducible (repeat' first | assumption | apply Keeps.ite | apply keeps_setI | apply keeps_levels | apply keeps_leaveData | apply Keeps.set | split | intro _)

theorem keeps_doLockLost {a0 s : State} (h : Keeps a0 s) (n : Ch) (l : Fin 2) (cause : LockCause) :
    Keeps a0 (doLockLost n l cause s) := by
  unfold doLockLost
  with_reducible (repeat' first | assumption | apply Keeps.ite | apply keeps_leaveData | apply Keeps.set | split | intro _)

theorem keeps_decideExt {a0 s : State} (h : Keeps a0 s) (n : Ch) (l : Fin 2) (farAdv : Bool) :
    Keeps a0 (State.decideExt s n l farAdv) := by
  unfold State.decideExt
  with_reducible (repeat' first | assumption | apply Keeps.ite | apply Keeps.set | apply keeps_modLane | apply keeps_irq | split | intro _)

theorem keeps_doFrameLock {a0 s : State} (h : Keeps a0 s) (n : Ch) (l : Fin 2) (inverted farAdv : Bool) :
    Keeps a0 (doFrameLock n l inverted farAdv s) := by
  unfold doFrameLock
  with_reducible (repeat' first | assumption | apply Keeps.ite | apply Keeps.set | apply keeps_decideExt | apply keeps_modLane | split | intro _)

theorem keeps_doTrainRequest {a0 s : State} (h : Keeps a0 s) (n : Ch) (l : Fin 2) (req : TrainReq) (farReady : Bool) :
    Keeps a0 (doTrainRequest n l req farReady s) := by
  unfold doTrainRequest
  with_reducible (repeat' first | assumption | apply Keeps.ite | apply Keeps.set | apply keeps_modLane | apply keeps_irq | apply keeps_sat | apply keeps_setFirActive | split | intro _)

theorem keeps_localReady {a0 s : State} (h : Keeps a0 s) (n : Ch) (l : Fin 2) :
    Keeps a0 (State.localReady s n l) := by
  unfold State.localReady
  with_reducible (repeat' first | assumption | apply Keeps.ite | apply Keeps.set | apply keeps_modLane | split | intro _)

theorem keeps_sendReq {a0 s : State} (h : Keeps a0 s) (n : Ch) (l : Fin 2) (pos : Nat) (up turned : Bool) :
    Keeps a0 (State.sendReq s n l pos up turned) := by
  unfold State.sendReq
  with_reducible (repeat' first | assumption | apply Keeps.ite | apply keeps_localReady | apply keeps_modLane | split | intro _)

theorem keeps_startTap {a0 s : State} (h : Keeps a0 s) (n : Ch) (l : Fin 2) (pos : Nat) :
    Keeps a0 (State.startTap s n l pos) := by
  unfold State.startTap
  extract_lets order x d d'
  with_reducible (repeat' first | assumption | apply Keeps.ite | apply keeps_sendReq | apply keeps_modLane | apply keeps_localReady | apply Keeps.draw | split | intro _)

theorem keeps_doTrainMeasurement {a0 s : State} (h : Keeps a0 s) (n : Ch) (l : Fin 2) (snr clipped : Nat) (taps : List Int) (dfe : Int) :
    Keeps a0 (doTrainMeasurement n l snr clipped taps dfe s) := by
  unfold doTrainMeasurement
  extract_lets s1 s2 x s3 better s3'
  with_reducible (repeat' first | assumption | apply Keeps.ite | apply keeps_setSat | apply Keeps.set | apply keeps_setTaps | apply keeps_setI | apply keeps_modLane | apply keeps_startTap | apply keeps_sendReq | split | intro _)

theorem keeps_doTrainNoresp {a0 s : State} (h : Keeps a0 s) (n : Ch) (l : Fin 2) :
    Keeps a0 (doTrainNoresp n l s) := by
  unfold doTrainNoresp
  extract_lets x t s1
  with_reducible (repeat' first | assumption | apply Keeps.ite | apply keeps_sat | apply keeps_modLane | apply keeps_startTap | apply keeps_sendReq | split | intro _)

theorem keeps_doTrainDone {a0 s : State} (h : Keeps a0 s) (n : Ch) (l : Fin 2) (ms : Nat) :
    Keeps a0 (doTrainDone n l ms s) := by
  unfold doTrainDone
  with_reducible (repeat' first | assumption | apply Keeps.ite | apply Keeps.set | apply keeps_setSat | apply keeps_irq | apply keeps_levels | split | intro _)

theorem keeps_doTrainTimeout {a0 s : State} (h : Keeps a0 s) (n : Ch) (l : Fin 2) :
    Keeps a0 (doTrainTimeout n l s) := by
  unfold doTrainTimeout
  with_reducible (repeat' first | assumption | apply Keeps.ite | apply keeps_raise | apply keeps_toFailed | apply keeps_levels | split | intro _)

theorem keeps_doAutoRetrain {a0 s : State} (h : Keeps a0 s) (n : Ch) (l : Fin 2) :
    Keeps a0 (doAutoRetrain n l s) := by
  unfold doAutoRetrain
  with_reducible (repeat' first | assumption | apply Keeps.ite | apply keeps_toSigWait | apply keeps_levels | split | intro _)

theorem keeps_retrain {a0 s : State} (h : Keeps a0 s) (n : Ch) (l : Fin 2) :
    Keeps a0 (State.retrain s n l) := by
  unfold State.retrain
  with_reducible (repeat' first | assumption | apply Keeps.ite | apply keeps_toSigWait | apply keeps_levels | split | intro _)

theorem keeps_writeTxFir {a0 s : State} (h : Keeps a0 s) (n : Ch) (l : Fin 2) (hi : Bool) (data : Word) :
    Keeps a0 (State.writeTxFir s n l hi data) := by
  unfold State.writeTxFir
  with_reducible (repeat' first | assumption | apply Keeps.ite | apply Keeps.set | apply keeps_setFirActive | split | intro _)

theorem keeps_hostAdapt {a0 s : State} (h : Keeps a0 s) (n : Ch) (l : Fin 2) (us : List HostLms) :
    Keeps a0 (State.hostAdapt s n l us) := by
  unfold State.hostAdapt
  with_reducible (repeat' first | assumption | apply Keeps.ite | apply keeps_setTaps | apply keeps_setI | apply keeps_modLane | split | intro _)

theorem keeps_doHostGuardWindow {a0 s : State} (h : Keeps a0 s) (n : Ch) (l : Fin 2) (occ : List Nat) (snr clipped : Nat) (us : List HostLms) :
    Keeps a0 (doHostGuardWindow n l occ snr clipped us s) := by
  unfold doHostGuardWindow
  with_reducible (repeat' first | assumption | apply Keeps.ite | apply keeps_setSat | apply Keeps.set | apply keeps_hostAdapt | apply keeps_modLane | apply keeps_count | split | intro _)

theorem keeps_laneParity {a0 s : State} (h : Keeps a0 s) (n : Ch) (l : Fin 2) :
    Keeps a0 (State.laneParity s n l) := by
  unfold State.laneParity
  with_reducible (repeat' first | assumption | apply Keeps.ite | apply keeps_toIdle | apply keeps_rateLevel | apply keeps_levels | split | intro _)

/-! ## Hfec -/

theorem keeps_alignLost {a0 s : State} (h : Keeps a0 s) (n : Ch) (d : Fin 2) :
    Keeps a0 (State.alignLost s n d) := by
  unfold State.alignLost
  with_reducible (repeat' first | assumption | apply Keeps.ite | apply keeps_raise | apply keeps_irq | apply keeps_sat | apply keeps_count | split | intro _)

theorem keeps_sideEdge {a0 s : State} (h : Keeps a0 s) (s0 : State) (n : Ch) (d : Fin 2) :
    Keeps a0 (State.sideEdge s s0 n d) := by
  unfold State.sideEdge
  with_reducible (repeat' first | assumption | apply Keeps.ite | apply Keeps.set | apply keeps_modHfec | split | intro _)

theorem keeps_alignEdges {a0 s : State} (h : Keeps a0 s) (s0 : State) (n : Ch) :
    Keeps a0 (State.alignEdges s s0 n) := by
  unfold State.alignEdges
  with_reducible (repeat' first | assumption | apply Keeps.ite | apply keeps_irq | apply keeps_alignLost | apply keeps_sideEdge | split | intro _)

theorem keeps_deskew {a0 s : State} (h : Keeps a0 s) (n : Ch) (m : Marker) :
    Keeps a0 (State.deskew s n m) := by
  unfold State.deskew
  with_reducible (repeat' first | assumption | apply Keeps.ite | apply keeps_setSat | apply Keeps.set | apply keeps_modHfec | apply keeps_raise | split | intro _)

theorem keeps_doMarkerPeriod {a0 s : State} (h : Keeps a0 s) (n : Ch) (h : Fin 3) (m : Marker) :
    Keeps a0 (doMarkerPeriod n h m s) := by
  unfold doMarkerPeriod
  with_reducible (repeat' first | assumption | apply Keeps.ite | apply keeps_modHfec | apply Keeps.set | apply keeps_raise | apply keeps_deskew | apply keeps_sat | apply keeps_alignEdges | apply keeps_levels | split | intro _)

theorem keeps_slipGo {a0 s : State} (h : Keeps a0 s) (n : Ch) :
    Keeps a0 (State.slipGo s n) := by
  unfold State.slipGo
  with_reducible (repeat' first | assumption | apply Keeps.ite | apply Keeps.set | apply keeps_modHfec | apply keeps_irq | split | intro _)

theorem keeps_doSlipApply {a0 s : State} (h : Keeps a0 s) (n : Ch) :
    Keeps a0 (doSlipApply n s) := by
  unfold doSlipApply
  with_reducible (repeat' first | assumption | apply Keeps.ite | apply Keeps.set | apply keeps_modHfec | apply keeps_irq | apply keeps_sat | apply keeps_levels | split | intro _)

theorem keeps_doManualSwitch {a0 s : State} (h : Keeps a0 s) (n : Ch) :
    Keeps a0 (doManualSwitch n s) := by
  unfold doManualSwitch
  with_reducible (repeat' first | assumption | apply Keeps.ite | apply keeps_modHfec | apply keeps_alignStatus | split | intro _)

theorem keeps_handCopy {a0 s : State} (h : Keeps a0 s) (n : Ch) (d : Fin 2) (symbols : List Nat) (bad : Bool) :
    Keeps a0 (State.handCopy s n d symbols bad) := by
  unfold State.handCopy
  with_reducible (repeat' first | assumption | apply Keeps.ite | apply keeps_modHfec | split | intro _)

theorem keeps_sideSends {a0 s : State} (h : Keeps a0 s) (n : Ch) (d : Fin 2) (out : List Nat) :
    Keeps a0 (State.sideSends s n d out) := by
  unfold State.sideSends
  with_reducible (repeat' first | assumption | apply Keeps.ite | apply keeps_modHfec | split | intro _)

theorem keeps_doCodewordDecode {a0 s : State} (h : Keeps a0 s) (n : Ch) (d : Fin 2) (cw : Codeword) :
    Keeps a0 (doCodewordDecode n d cw s) := by
  unfold doCodewordDecode
  extract_lets term sent side bad use marks many s0 s1 s2 s2' s3 s4 s5 s6 s7 s3' s4' s5'
  with_reducible (repeat' first | assumption | apply Keeps.ite | apply keeps_sideSends | apply keeps_modHfec | apply keeps_irq | apply keeps_sat | apply keeps_add64 | apply keeps_count | apply keeps_handCopy | apply keeps_raise | split | intro _)

theorem keeps_doSerWindowEnd {a0 s : State} (h : Keeps a0 s) (n : Ch) (d : Fin 2) :
    Keeps a0 (doSerWindowEnd n d s) := by
  unfold doSerWindowEnd
  with_reducible (repeat' first | assumption | apply Keeps.ite | apply keeps_modHfec | apply keeps_raise | apply Keeps.set | apply keeps_irq | split | intro _)

theorem keeps_hfecClear {a0 s : State} (h : Keeps a0 s) (n : Ch) :
    Keeps a0 (State.hfecClear s n) := by
  unfold State.hfecClear
  with_reducible (repeat' first | assumption | apply Keeps.ite | apply Keeps.mapRegs | split | intro _)

theorem keeps_hfecParity {a0 s : State} (h : Keeps a0 s) (n : Ch) :
    Keeps a0 (State.hfecParity s n) := by
  unfold State.hfecParity
  with_reducible (repeat' first | assumption | apply Keeps.ite | apply keeps_levels | split | intro _)

/-! ## Ltx -/

theorem keeps_doLeadEnd {a0 s : State} (h : Keeps a0 s) (n : Ch) :
    Keeps a0 (doLeadEnd n s) := by
  unfold doLeadEnd
  with_reducible (repeat' first | assumption | apply Keeps.ite | apply Keeps.set | apply keeps_modLtx | apply keeps_sat | apply keeps_levels | split | intro _)

theorem keeps_doRampUpEnd {a0 s : State} (h : Keeps a0 s) (n : Ch) :
    Keeps a0 (doRampUpEnd n s) := by
  unfold doRampUpEnd
  with_reducible (repeat' first | assumption | apply Keeps.ite | apply Keeps.set | apply keeps_irq | apply keeps_levels | split | intro _)

theorem keeps_doRampDownEnd {a0 s : State} (h : Keeps a0 s) (n : Ch) :
    Keeps a0 (doRampDownEnd n s) := by
  unfold doRampDownEnd
  with_reducible (repeat' first | assumption | apply Keeps.ite | apply Keeps.set | apply keeps_levels | split | intro _)

theorem keeps_doLagEnd {a0 s : State} (h : Keeps a0 s) (n : Ch) :
    Keeps a0 (doLagEnd n s) := by
  unfold doLagEnd
  with_reducible (repeat' first | assumption | apply Keeps.ite | apply keeps_ltxOff | apply keeps_levels | split | intro _)

theorem keeps_firCopy {a0 s : State} (h : Keeps a0 s) (n : Ch) (x0 : Nat) :
    Keeps a0 (State.firCopy s n x0) := by
  fun_induction State.firCopy s n x0 <;>
    with_reducible (repeat' first | assumption | apply Keeps.ite | apply Keeps.set | apply_assumption | split | intro _)

theorem keeps_firApply {a0 s : State} (h : Keeps a0 s) (n : Ch) :
    Keeps a0 (State.firApply s n) := by
  unfold State.firApply
  with_reducible (repeat' first | assumption | apply Keeps.ite | apply keeps_firCopy | apply Keeps.set | apply keeps_irq | split | intro _)

theorem keeps_nlLoad {a0 s : State} (h : Keeps a0 s) (n : Ch) :
    Keeps a0 (State.nlLoad s n) := by
  unfold State.nlLoad
  with_reducible (repeat' first | assumption | apply Keeps.ite | apply keeps_modLtx | apply keeps_disarm | apply Keeps.set | split | intro _)

theorem keeps_nlCopy {a0 s : State} (h : Keeps a0 s) (n : Ch) (i : Nat) (x0 : List Nat) :
    Keeps a0 (State.nlCopy s n i x0) := by
  fun_induction State.nlCopy s n i x0 <;>
    with_reducible (repeat' first | assumption | apply Keeps.ite | apply Keeps.set | apply_assumption | split | intro _)

theorem keeps_doNlBankSwitch {a0 s : State} (h : Keeps a0 s) (n : Ch) :
    Keeps a0 (doNlBankSwitch n s) := by
  unfold doNlBankSwitch
  with_reducible (repeat' first | assumption | apply Keeps.ite | apply keeps_nlCopy | apply keeps_modLtx | apply Keeps.set | apply keeps_irq | split | intro _)

theorem keeps_doNlParity {a0 s : State} (h : Keeps a0 s) (n : Ch) (path : Fin 256) (i : Fin 64) :
    Keeps a0 (doNlParity n path i s) := by
  unfold doNlParity
  with_reducible (repeat' first | assumption | apply Keeps.ite | apply keeps_raise | apply keeps_modLtx | apply Keeps.set | split | intro _)

theorem keeps_doDacSatWindow {a0 s : State} (h : Keeps a0 s) (n : Ch) (clipped : Nat) :
    Keeps a0 (doDacSatWindow n clipped s) := by
  unfold doDacSatWindow
  with_reducible (repeat' first | assumption | apply Keeps.ite | apply keeps_sat | apply keeps_raise | apply keeps_irq | split | intro _)

theorem keeps_doTxdisMismatch {a0 s : State} (h : Keeps a0 s) (n : Ch) (high : Bool) :
    Keeps a0 (doTxdisMismatch n high s) := by
  unfold doTxdisMismatch
  with_reducible (repeat' first | assumption | apply Keeps.ite | apply keeps_modLtx | apply keeps_raise | split | intro _)

theorem keeps_ltxParity {a0 s : State} (h : Keeps a0 s) (n : Ch) :
    Keeps a0 (State.ltxParity s n) := by
  unfold State.ltxParity
  with_reducible (repeat' first | assumption | apply Keeps.ite | apply keeps_abruptStop | apply keeps_levels | split | intro _)

/-! ## Lrx -/

theorem keeps_sigFall {a0 s : State} (h : Keeps a0 s) (n : Ch) :
    Keeps a0 (State.sigFall s n) := by
  unfold State.sigFall
  with_reducible (repeat' first | assumption | apply Keeps.ite | apply keeps_raise | apply keeps_sigOff | apply keeps_irq | apply keeps_count | split | intro _)

theorem keeps_gainResume {a0 s : State} (h : Keeps a0 s) (n : Ch) :
    Keeps a0 (State.gainResume s n) := by
  unfold State.gainResume
  with_reducible (repeat' first | assumption | apply Keeps.ite | apply keeps_modLrx | apply Keeps.set | apply keeps_sigFall | apply keeps_gainWait | apply keeps_sigRise | split | intro _)

theorem keeps_doSdRawRise {a0 s : State} (h : Keeps a0 s) (n : Ch) (mv : Nat) :
    Keeps a0 (doSdRawRise n mv s) := by
  unfold doSdRawRise
  with_reducible (repeat' first | assumption | apply Keeps.ite | apply Keeps.set | apply keeps_gainAcq | apply keeps_sigRise | apply keeps_levels | split | intro _)

theorem keeps_doSdRawFall {a0 s : State} (h : Keeps a0 s) (n : Ch) (mv us : Nat) :
    Keeps a0 (doSdRawFall n mv us s) := by
  unfold doSdRawFall
  with_reducible (repeat' first | assumption | apply Keeps.ite | apply Keeps.set | apply keeps_sigFall | apply keeps_levels | split | intro _)

theorem keeps_gainMove {a0 s : State} (h : Keeps a0 s) (n : Ch) (e : Int) :
    Keeps a0 (State.gainMove s n e) := by
  unfold State.gainMove
  with_reducible (repeat' first | assumption | apply Keeps.ite | apply keeps_gainTo | split | intro _)

theorem keeps_gainFreeze {a0 s : State} (h : Keeps a0 s) (n : Ch) (t : Nat) (rail : Bool) :
    Keeps a0 (State.gainFreeze s n t rail) := by
  unfold State.gainFreeze
  with_reducible (repeat' first | assumption | apply Keeps.ite | apply Keeps.set | apply keeps_setSat | apply keeps_irq | apply keeps_modLrx | apply keeps_sigRise | apply keeps_levels | split | intro _)

theorem keeps_doGainMeasurement {a0 s : State} (h : Keeps a0 s) (n : Ch) (rms t : Nat) :
    Keeps a0 (doGainMeasurement n rms t s) := by
  unfold doGainMeasurement
  with_reducible (repeat' first | assumption | apply Keeps.ite | apply keeps_gainMove | apply keeps_gainFreeze | apply keeps_modLrx | split | intro _)

theorem keeps_doGainAcqTimeout {a0 s : State} (h : Keeps a0 s) (n : Ch) :
    Keeps a0 (doGainAcqTimeout n s) := by
  unfold doGainAcqTimeout
  with_reducible (repeat' first | assumption | apply Keeps.ite | apply keeps_gainFreeze | split | intro _)

theorem keeps_gainReacq {a0 s : State} (h : Keeps a0 s) (n : Ch) :
    Keeps a0 (State.gainReacq s n) := by
  unfold State.gainReacq
  with_reducible (repeat' first | assumption | apply Keeps.ite | apply Keeps.set | apply keeps_modLrx | apply keeps_lrxBusy | split | intro _)

theorem keeps_notice {a0 s : State} (h : Keeps a0 s) (n : Ch) (source : Nat) :
    Keeps a0 (State.notice s n source) := by
  unfold State.notice
  with_reducible (repeat' first | assumption | apply Keeps.ite | apply Keeps.modCh | split | intro _)

theorem keeps_doReacqStep {a0 s : State} (h : Keeps a0 s) (n : Ch) (rms t : Nat) :
    Keeps a0 (doReacqStep n rms t s) := by
  unfold doReacqStep
  with_reducible (repeat' first | assumption | apply Keeps.ite | apply keeps_modLrx | apply keeps_gainMove | apply keeps_notice | apply keeps_gainFreeze | apply keeps_lrxBusy | split | intro _)

theorem keeps_doRmsWindow {a0 s : State} (h : Keeps a0 s) (n : Ch) (rms : Nat) : Keeps a0 (doRmsWindow n rms s) := by
  have k1 := keeps_setSat h n LRX.RMS_RMS rms
  unfold doRmsWindow
  split
  · exact h
  · extract_lets s1 d tg out s2
    clear_value out
    split
    · exact k1
    · split
      · exact keeps_irq (keeps_modLrx k1 ..) ..
      · exact keeps_modLrx k1 ..

theorem keeps_writeGainCfg {a0 s : State} (h : Keeps a0 s) (n : Ch) (data : Word) :
    Keeps a0 (State.writeGainCfg s n data) := by
  unfold State.writeGainCfg
  with_reducible (repeat' first | assumption | apply Keeps.ite | apply Keeps.set | apply keeps_gainTo | apply keeps_gainFixed | apply keeps_sigFall | apply keeps_lrxBusy | apply keeps_levels | apply keeps_gainWait | split | intro _)

theorem keeps_doTandemWindow {a0 s : State} (h : Keeps a0 s) (n : Ch) (spur : Nat) (skew : Int) :
    Keeps a0 (doTandemWindow n spur skew s) := by
  unfold doTandemWindow
  with_reducible (repeat' first | assumption | apply Keeps.ite | apply keeps_setSat | apply keeps_setI | apply keeps_modLrx | apply keeps_raise | split | intro _)

theorem keeps_swapRefuse {a0 s : State} (h : Keeps a0 s) (n : Ch) (reason : Nat) :
    Keeps a0 (State.swapRefuse s n reason) := by
  unfold State.swapRefuse
  with_reducible (repeat' first | assumption | apply Keeps.ite | apply Keeps.set | apply keeps_sat | apply keeps_irq | split | intro _)

theorem keeps_swapRequest {a0 s : State} (h : Keeps a0 s) (n : Ch) :
    Keeps a0 (State.swapRequest s n) := by
  unfold State.swapRequest
  with_reducible (repeat' first | assumption | apply Keeps.ite | apply keeps_swapRefuse | apply Keeps.set | apply keeps_modLrx | apply keeps_levels | split | intro _)

theorem keeps_plausJudge {a0 s : State} (h : Keeps a0 s) (n : Ch) (fail : Bool) :
    Keeps a0 (State.plausJudge s n fail) := by
  unfold State.plausJudge
  with_reducible (repeat' first | assumption | apply Keeps.ite | apply keeps_sat | apply keeps_capTrig | apply keeps_raise | apply Keeps.set | apply keeps_modLrx | split | intro _)

theorem keeps_swapJudge {a0 s : State} (h : Keeps a0 s) (n : Ch) (fail : Bool) :
    Keeps a0 (State.swapJudge s n fail) := by
  unfold State.swapJudge
  with_reducible (repeat' first | assumption | apply Keeps.ite | apply Keeps.set | apply keeps_modLrx | apply keeps_swapRefuse | apply keeps_levels | split | intro _)

theorem keeps_doPlausWindow {a0 s : State} (h : Keeps a0 s) (n : Ch) (d : Nat) :
    Keeps a0 (doPlausWindow n d s) := by
  unfold doPlausWindow
  with_reducible (repeat' first | assumption | apply Keeps.ite | apply keeps_modLrx | apply Keeps.set | apply keeps_levels | apply keeps_setSat | apply keeps_plausJudge | apply keeps_swapJudge | split | intro _)

theorem keeps_plausTest {a0 s : State} (h : Keeps a0 s) (n : Ch) :
    Keeps a0 (State.plausTest s n) := by
  unfold State.plausTest
  with_reducible (repeat' first | assumption | apply Keeps.ite | apply keeps_modLrx | apply keeps_lrxBusy | apply Keeps.set | apply keeps_irq | split | intro _)

theorem keeps_doPlausTestEnd {a0 s : State} (h : Keeps a0 s) (n : Ch) :
    Keeps a0 (doPlausTestEnd n s) := by
  unfold doPlausTestEnd
  with_reducible (repeat' first | assumption | apply Keeps.ite | apply keeps_modLrx | apply keeps_lrxBusy | apply keeps_raise | apply Keeps.set | apply keeps_irq | split | intro _)

theorem keeps_doWaitGuardTimeout {a0 s : State} (h : Keeps a0 s) (n : Ch) :
    Keeps a0 (doWaitGuardTimeout n s) := by
  unfold doWaitGuardTimeout
  with_reducible (repeat' first | assumption | apply Keeps.ite | apply keeps_swapEnd | apply keeps_levels | split | intro _)

theorem keeps_doBankSwapSwitch {a0 s : State} (h : Keeps a0 s) (n : Ch) :
    Keeps a0 (doBankSwapSwitch n s) := by
  unfold doBankSwapSwitch
  with_reducible (repeat' first | assumption | apply Keeps.ite | apply Keeps.set | apply keeps_sat | apply keeps_irq | apply keeps_count | apply keeps_notice | apply keeps_capEpoch | apply keeps_capTrig | apply keeps_modLrx | apply keeps_levels | split | intro _)

theorem keeps_writeBankCfg {a0 s : State} (h : Keeps a0 s) (n : Ch) (data : Word) :
    Keeps a0 (State.writeBankCfg s n data) := by
  unfold State.writeBankCfg
  with_reducible (repeat' first | assumption | apply Keeps.ite | apply Keeps.set | apply keeps_levels | split | intro _)

theorem keeps_capArm {a0 s : State} (h : Keeps a0 s) (n : Ch) :
    Keeps a0 (State.capArm s n) := by
  unfold State.capArm
  with_reducible (repeat' first | assumption | apply Keeps.ite | apply Keeps.set | apply keeps_modLrx | apply keeps_levels | split | intro _)

theorem keeps_doCapPreFilled {a0 s : State} (h : Keeps a0 s) (n : Ch) :
    Keeps a0 (doCapPreFilled n s) := by
  unfold doCapPreFilled
  with_reducible (repeat' first | assumption | apply Keeps.ite | apply Keeps.set | split | intro _)

theorem keeps_doCapTrigger {a0 s : State} (h : Keeps a0 s) (n : Ch) (stored : Nat) :
    Keeps a0 (doCapTrigger n stored s) := by
  unfold doCapTrigger
  with_reducible (repeat' first | assumption | apply Keeps.ite | apply Keeps.set | apply keeps_modLrx | split | intro _)

theorem keeps_putEpochs {a0 s : State} (h : Keeps a0 s) (n : Ch) (base : Int) (i : Nat) (x0 : List (CapEpoch × Int)) :
    Keeps a0 (State.putEpochs s n base i x0) := by
  fun_induction State.putEpochs s n base i x0 <;>
    with_reducible (repeat' first | assumption | apply Keeps.ite | apply Keeps.set | apply_assumption | split | intro _)

theorem keeps_putSamples {a0 s : State} (h : Keeps a0 s) (n : Ch) (w : Nat) (x0 : List Byte) (x1 : Nat) :
    Keeps a0 (State.putSamples s n w x0 x1) := by
  fun_induction State.putSamples s n w x0 x1 <;>
    with_reducible (repeat' first | assumption | apply Keeps.ite | apply keeps_memWrite | apply_assumption | split | intro _)

theorem keeps_doCapDone {a0 s : State} (h : Keeps a0 s) (n : Ch) (r : CapRecord) :
    Keeps a0 (doCapDone n r s) := by
  unfold doCapDone
  with_reducible (repeat' first | assumption | apply Keeps.ite | apply keeps_putSamples | apply keeps_count | apply Keeps.set | apply keeps_putEpochs | apply keeps_modLrx | apply keeps_irq | split | intro _)

theorem keeps_capAbort {a0 s : State} (h : Keeps a0 s) (n : Ch) :
    Keeps a0 (State.capAbort s n) := by
  unfold State.capAbort
  with_reducible (repeat' first | assumption | apply Keeps.ite | apply keeps_capStop | split | intro _)

theorem keeps_doClipWindow {a0 s : State} (h : Keeps a0 s) (n : Ch) (clipped : Nat) :
    Keeps a0 (doClipWindow n clipped s) := by
  unfold doClipWindow
  with_reducible (repeat' first | assumption | apply Keeps.ite | apply keeps_sat | apply keeps_raise | apply keeps_capTrig | split | intro _)

theorem keeps_lrxClear {a0 s : State} (h : Keeps a0 s) (n : Ch) :
    Keeps a0 (State.lrxClear s n) := by
  unfold State.lrxClear
  with_reducible (repeat' first | assumption | apply Keeps.ite | apply Keeps.set | split | intro _)

theorem keeps_lrxParity {a0 s : State} (h : Keeps a0 s) (n : Ch) :
    Keeps a0 (State.lrxParity s n) := by
  unfold State.lrxParity
  with_reducible (repeat' first | assumption | apply Keeps.ite | apply keeps_modLrx | apply keeps_swapEnd | apply keeps_capStop | apply keeps_lrxBusy | apply keeps_levels | split | intro _)

/-! ## RxPath -/

theorem keeps_ncoNext {a0 s : State} (h : Keeps a0 s) (n : Ch) (p : Int) :
    Keeps a0 (State.ncoNext s n p) := by
  unfold State.ncoNext
  with_reducible (repeat' first | assumption | apply Keeps.ite | apply keeps_modTim | split | intro _)

/-! ## Tim -/

theorem keeps_satFlags {a0 s : State} (h : Keeps a0 s) (n : Ch) (f irq : Field) (mask : Nat) :
    Keeps a0 (State.satFlags s n f irq mask) := by
  unfold State.satFlags
  with_reducible (repeat' first | assumption | apply Keeps.ite | apply Keeps.set | apply keeps_irq | split | intro _)

theorem keeps_pfCopy {a0 s : State} (h : Keeps a0 s) (n : Ch) (x0 : Nat) :
    Keeps a0 (State.pfCopy s n x0) := by
  fun_induction State.pfCopy s n x0 <;>
    with_reducible (repeat' first | assumption | apply Keeps.ite | apply Keeps.set | apply_assumption | split | intro _)

theorem keeps_pfApply {a0 s : State} (h : Keeps a0 s) (n : Ch) :
    Keeps a0 (State.pfApply s n) := by
  unfold State.pfApply
  with_reducible (repeat' first | assumption | apply Keeps.ite | apply keeps_pfCopy | split | intro _)

theorem keeps_coreRxFollow {a0 s : State} (h : Keeps a0 s) (n : Ch) :
    Keeps a0 (State.coreRxFollow s n) := by
  unfold State.coreRxFollow
  with_reducible (repeat' first | assumption | apply Keeps.ite | apply keeps_setI | split | intro _)

theorem keeps_coreRxLock {a0 s : State} (h : Keeps a0 s) (n : Ch) (lineIn : Nat) :
    Keeps a0 (State.coreRxLock s n lineIn) := by
  unfold State.coreRxLock
  with_reducible (repeat' first | assumption | apply Keeps.ite | apply Keeps.set | split | intro _)

theorem keeps_doPhaseErrWindow {a0 s : State} (h : Keeps a0 s) (n : Ch) (rms : Nat) (mean : Int) (sat : BitVec 4) (lineIn : Nat) :
    Keeps a0 (doPhaseErrWindow n rms mean sat lineIn s) := by
  unfold doPhaseErrWindow
  with_reducible (repeat' first | assumption | apply Keeps.ite | apply keeps_setSat | apply keeps_setI | apply keeps_satFlags | apply keeps_sat | apply keeps_coreRxLock | apply Keeps.set | apply keeps_irq | apply keeps_coreRxFollow | apply keeps_levels | apply keeps_modTim | apply keeps_raise | apply keeps_count | apply keeps_loopAcq | split | intro _)

theorem keeps_doTimRange {a0 s : State} (h : Keeps a0 s) (n : Ch) :
    Keeps a0 (doTimRange n s) := by
  unfold doTimRange
  with_reducible (repeat' first | assumption | apply Keeps.ite | apply keeps_raise | apply Keeps.set | apply keeps_satFlags | split | intro _)

theorem keeps_timReacq {a0 s : State} (h : Keeps a0 s) (n : Ch) :
    Keeps a0 (State.timReacq s n) := by
  unfold State.timReacq
  with_reducible (repeat' first | assumption | apply Keeps.ite | apply keeps_loopAcq | apply keeps_levels | split | intro _)

theorem keeps_doQuickEqRefresh {a0 s : State} (h : Keeps a0 s) (n : Ch) :
    Keeps a0 (doQuickEqRefresh n s) := by
  unfold doQuickEqRefresh
  with_reducible (repeat' first | assumption | apply Keeps.ite | apply keeps_modTim | split | intro _)

theorem keeps_doFreqUpdate {a0 s : State} (h : Keeps a0 s) (n : Ch) (ppm : Int) (frac : BitVec 32) :
    Keeps a0 (doFreqUpdate n ppm frac s) := by
  unfold doFreqUpdate
  with_reducible (repeat' first | assumption | apply Keeps.ite | apply keeps_modTim | apply Keeps.set | apply keeps_setI | apply keeps_coreRxFollow | split | intro _)

theorem keeps_doDeskewCoarse {a0 s : State} (h : Keeps a0 s) (n : Ch) :
    Keeps a0 (doDeskewCoarse n s) := by
  unfold doDeskewCoarse
  with_reducible (repeat' first | assumption | apply Keeps.ite | apply Keeps.set | apply keeps_irq | apply keeps_boltDrop | apply keeps_sat | apply keeps_levels | split | intro _)

theorem keeps_doFineSlewStep {a0 s : State} (h : Keeps a0 s) (n : Ch) :
    Keeps a0 (doFineSlewStep n s) := by
  unfold doFineSlewStep
  with_reducible (repeat' first | assumption | apply Keeps.ite | apply Keeps.set | apply keeps_deskewLevel | split | intro _)

theorem keeps_timClear {a0 s : State} (h : Keeps a0 s) (n : Ch) :
    Keeps a0 (State.timClear s n) := by
  unfold State.timClear
  with_reducible (repeat' first | assumption | apply Keeps.ite | apply Keeps.set | split | intro _)

theorem keeps_timParity {a0 s : State} (h : Keeps a0 s) (n : Ch) :
    Keeps a0 (State.timParity s n) := by
  unfold State.timParity
  with_reducible (repeat' first | assumption | apply Keeps.ite | apply keeps_loopOff | apply keeps_levels | split | intro _)

/-! ## Eq -/

theorem keeps_doLmsUpdate {a0 s : State} (h : Keeps a0 s) (n : Ch) (ffe dfe levels : List Int) :
    Keeps a0 (doLmsUpdate n ffe dfe levels s) := by
  unfold doLmsUpdate
  with_reducible (repeat' first | assumption | apply Keeps.ite | apply keeps_levels | apply keeps_modEq | apply keeps_putTaps | apply keeps_satFlags | split | intro _)

theorem keeps_writeFfeTap {a0 s : State} (h : Keeps a0 s) (n : Ch) (t : Nat) (data : Word) :
    Keeps a0 (State.writeFfeTap s n t data) := by
  unfold State.writeFfeTap
  with_reducible (repeat' first | assumption | apply Keeps.ite | apply Keeps.set | apply keeps_modEq | split | intro _)

theorem keeps_writeDfe {a0 s : State} (h : Keeps a0 s) (n : Ch) (data : Word) :
    Keeps a0 (State.writeDfe s n data) := by
  unfold State.writeDfe
  with_reducible (repeat' first | assumption | apply Keeps.ite | apply Keeps.set | apply keeps_setI | apply keeps_modEq | apply keeps_satFlags | apply keeps_eqStatus | split | intro _)

theorem keeps_doDressNotice {a0 s : State} (h : Keeps a0 s) (n : Ch) :
    Keeps a0 (doDressNotice n s) := by
  unfold doDressNotice
  with_reducible (repeat' first | assumption | apply Keeps.ite | apply Keeps.modCh | apply keeps_incr | apply keeps_count | apply keeps_modEq | apply keeps_eqStatus | split | intro _)

theorem keeps_doNoticeEnd {a0 s : State} (h : Keeps a0 s) (n : Ch) :
    Keeps a0 (doNoticeEnd n s) := by
  unfold doNoticeEnd
  with_reducible (repeat' first | assumption | apply Keeps.ite | apply keeps_modEq | apply keeps_eqStatus | split | intro _)

theorem keeps_guardJudge {a0 s : State} (h : Keeps a0 s) (n : Ch) (cause : Nat) :
    Keeps a0 (State.guardJudge s n cause) := by
  unfold State.guardJudge
  with_reducible (repeat' first | assumption | apply Keeps.ite | apply Keeps.set | apply keeps_modEq | apply keeps_holdDrop | apply keeps_irq | apply keeps_levels | apply keeps_sat | apply keeps_count | split | intro _)

theorem keeps_eqReport {a0 s : State} (h : Keeps a0 s) (n : Ch) (w : EqWindow) :
    Keeps a0 (State.eqReport s n w) := by
  unfold State.eqReport
  with_reducible (repeat' first | assumption | apply Keeps.ite | apply keeps_setSat | apply keeps_setI | apply keeps_satFlags | apply keeps_sat | split | intro _)

theorem keeps_doGuardWindow {a0 s : State} (h : Keeps a0 s) (n : Ch) (w : EqWindow) :
    Keeps a0 (doGuardWindow n w s) := by
  unfold doGuardWindow
  with_reducible (repeat' first | assumption | apply Keeps.ite | apply keeps_eqReport | apply Keeps.set | apply keeps_modEq | apply keeps_irq | apply keeps_levels | apply keeps_raise | apply keeps_eqEnter | apply keeps_eqTapsReset | apply keeps_guardJudge | split | intro _)

theorem keeps_doGuardLong {a0 s : State} (h : Keeps a0 s) (n : Ch) :
    Keeps a0 (doGuardLong n s) := by
  unfold doGuardLong
  with_reducible (repeat' first | assumption | apply Keeps.ite | apply keeps_raise | apply keeps_sat | apply keeps_modEq | split | intro _)

theorem keeps_eqRestart {a0 s : State} (h : Keeps a0 s) (n : Ch) :
    Keeps a0 (State.eqRestart s n) := by
  unfold State.eqRestart
  with_reducible (repeat' first | assumption | apply Keeps.ite | apply keeps_eqWait | apply keeps_eqTapsReset | apply keeps_levels | split | intro _)

theorem keeps_eyeStart {a0 s : State} (h : Keeps a0 s) (n : Ch) :
    Keeps a0 (State.eyeStart s n) := by
  unfold State.eyeStart
  with_reducible (repeat' first | assumption | apply Keeps.ite | apply keeps_memZero | apply Keeps.set | split | intro _)

theorem keeps_eyeBin {a0 s : State} (h : Keeps a0 s) (n : Ch) (a p k : Nat) : Keeps a0 (s.eyeBin n a p k) := by
  have hm := keeps_memRead h (chMem n 5) ((0x8000 + 2 * (64 * a + p)) / 8) reqDresser
  unfold State.eyeBin
  extract_lets m b
  split
  · rename_i s1 he
    rw [he] at hm
    exact hm
  · rename_i v s1 he
    rw [he] at hm
    have k1 : Keeps a0 s1 := hm
    extract_lets new s2
    have k2 : Keeps a0 s2 := keeps_memWrite k1 ..
    split
    · exact keeps_satFlags k2 ..
    · exact k2

theorem keeps_eyeBins {a0 s : State} (h : Keeps a0 s) (n : Ch) (p : Nat) (x0 : List (Fin 256 × Nat)) :
    Keeps a0 (State.eyeBins s n p x0) := by
  fun_induction State.eyeBins s n p x0 <;>
    with_reducible (repeat' first | assumption | apply Keeps.ite | apply keeps_eyeBin | apply_assumption | split | intro _)

theorem keeps_doEyePhaseEnd {a0 s : State} (h : Keeps a0 s) (n : Ch) (hits : List (Fin 256 × Nat)) :
    Keeps a0 (doEyePhaseEnd n hits s) := by
  unfold doEyePhaseEnd
  with_reducible (repeat' first | assumption | apply Keeps.ite | apply keeps_eyeBins | apply Keeps.set | apply keeps_irq | split | intro _)

theorem keeps_eqClear {a0 s : State} (h : Keeps a0 s) (n : Ch) :
    Keeps a0 (State.eqClear s n) := by
  unfold State.eqClear
  with_reducible (repeat' first | assumption | apply Keeps.ite | apply Keeps.set | apply keeps_modEq | split | intro _)

theorem keeps_eqParity {a0 s : State} (h : Keeps a0 s) (n : Ch) :
    Keeps a0 (State.eqParity s n) := by
  unfold State.eqParity
  with_reducible (repeat' first | assumption | apply Keeps.ite | apply keeps_eqOff | apply keeps_levels | split | intro _)

/-! ## LtxOut -/

theorem keeps_txWord {a0 s : State} (h : Keeps a0 s) (n : Ch) (msgs : List (List Bool)) :
    Keeps a0 (State.txWord s n msgs).2 := by
  unfold State.txWord
  with_reducible (repeat' first | assumption | apply Keeps.ite | apply keeps_modLtx | split | intro _)

/-! ## Bolt -/

theorem keeps_doAcqWindowEnd {a0 s : State} (h : Keeps a0 s) (n : Ch) (counts : List Nat) :
    Keeps a0 (doAcqWindowEnd n counts s) := by
  unfold doAcqWindowEnd
  with_reducible (repeat' first | assumption | apply Keeps.ite | apply Keeps.set | apply keeps_modBolt | apply keeps_irq | apply keeps_levels | split | intro _)

theorem keeps_doLockWindowEnd {a0 s : State} (h : Keeps a0 s) (n : Ch) (zeros : Nat) :
    Keeps a0 (doLockWindowEnd n zeros s) := by
  unfold doLockWindowEnd
  with_reducible (repeat' first | assumption | apply Keeps.ite | apply keeps_modBolt | apply keeps_raise | apply keeps_irq | apply keeps_sat | apply keeps_boltDrop | apply keeps_levels | split | intro _)

theorem keeps_markSymbols {a0 s : State} (h : Keeps a0 s) (n : Ch) (pos : Nat) (marks : List Nat) :
    Keeps a0 (State.markSymbols s n pos marks) := by
  unfold State.markSymbols
  with_reducible (repeat' first | assumption | apply Keeps.ite | apply keeps_modHfec | split | intro _)

theorem keeps_doBlockDecode {a0 s : State} (h : Keeps a0 s) (n : Ch) (b : SoftBlock) (pos : Nat) :
    Keeps a0 (doBlockDecode n b pos s) := by
  unfold doBlockDecode
  extract_lets bits rel found hit s0 result flag marks s1 s2 k s3 s4 s3'
  clear_value result
  with_reducible (repeat' first | assumption | apply Keeps.ite | apply keeps_modBolt | apply keeps_disarm | apply keeps_raise | apply keeps_markSymbols | apply keeps_add64 | apply keeps_count | split | intro _)

theorem keeps_doBerWindowEnd {a0 s : State} (h : Keeps a0 s) (n : Ch) :
    Keeps a0 (doBerWindowEnd n s) := by
  unfold doBerWindowEnd
  with_reducible (repeat' first | assumption | apply Keeps.ite | apply Keeps.set | apply keeps_irq | apply keeps_modBolt | apply keeps_raise | split | intro _)

theorem keeps_boltClear {a0 s : State} (h : Keeps a0 s) (n : Ch) :
    Keeps a0 (State.boltClear s n) := by
  unfold State.boltClear
  with_reducible (repeat' first | assumption | apply Keeps.ite | apply Keeps.mapRegs | apply Keeps.set | split | intro _)

theorem keeps_boltParity {a0 s : State} (h : Keeps a0 s) (n : Ch) :
    Keeps a0 (State.boltParity s n) := by
  unfold State.boltParity
  with_reducible (repeat' first | assumption | apply Keeps.ite | apply keeps_levels | split | intro _)

/-! ## Mem -/

theorem keeps_scrubGo {a0 s : State} (h : Keeps a0 s) (x : Scope) :
    Keeps a0 (State.scrubGo s x) := by
  unfold State.scrubGo
  with_reducible (repeat' first | assumption | apply Keeps.ite | apply keeps_xirq | apply keeps_xset | apply keeps_modScrub | split | intro _)

theorem keeps_scrubStop {a0 s : State} (h : Keeps a0 s) (x : Scope) :
    Keeps a0 (State.scrubStop s x) := by
  unfold State.scrubStop
  with_reducible (repeat' first | assumption | apply Keeps.ite | apply keeps_modScrub | split | intro _)

theorem keeps_scrubWord {a0 : State} (x : Scope) (m w : Nat) (a : ScrubSum × State) (h : Keeps a0 a.2) :
    Keeps a0 (scrubWord x m w a).2 := by
  unfold scrubWord
  extract_lets s s1 s1'
  with_reducible (repeat' first | assumption | apply Keeps.ite | apply keeps_countMem | apply keeps_ceNote | apply keeps_busWrite | apply keeps_poison | apply keeps_ueRead | apply keeps_raise | split | intro _)

theorem keeps_scrubWords {a0 : State} (x : Scope) (m w : Nat) (x0 : Nat) (x1 : ScrubSum × State) (h : Keeps a0 x1.2) :
    Keeps a0 (scrubWords x m w x0 x1).2 := by
  fun_induction scrubWords x m w x0 x1 <;>
    with_reducible (repeat' first | assumption | apply Keeps.ite | apply keeps_scrubWord | apply_assumption | split | intro _)

theorem keeps_doScrubPassEnd {a0 s : State} (h : Keeps a0 s) (x : Scope) (us : Nat) :
    Keeps a0 (doScrubPassEnd x us s) := by
  unfold doScrubPassEnd
  with_reducible (repeat' first | assumption | apply Keeps.ite | apply keeps_scrubWords | apply keeps_scrubSummary | apply keeps_incr | apply keeps_xirq | apply keeps_scrubIdle | split | intro _)

theorem keeps_doEccWriteback {a0 s : State} (h : Keeps a0 s) (x : Scope) (k : Nat) :
    Keeps a0 (doEccWriteback x k s) := by
  unfold doEccWriteback
  extract_lets l older
  with_reducible (repeat' first | assumption | apply Keeps.ite | apply keeps_memWrite | split | intro _)

theorem keeps_doLeakTick {a0 s : State} (h : Keeps a0 s) (x : Scope) (i : Fin 7) :
    Keeps a0 (doLeakTick x i s) := by
  unfold doLeakTick
  with_reducible (repeat' first | assumption | apply Keeps.ite | apply keeps_xset | split | intro _)

theorem keeps_writeMemCfg {a0 s : State} (h : Keeps a0 s) (x : Scope) (i : Nat) (data : Word) :
    Keeps a0 (State.writeMemCfg s x i data) := by
  unfold State.writeMemCfg
  with_reducible (repeat' first | assumption | apply Keeps.ite | apply keeps_xset | split | intro _)

theorem keeps_marchGo {a0 s : State} (h : Keeps a0 s) (x : Scope) : Keeps a0 (s.marchGo x) := by
  have hr : ∀ r : Nat, Keeps a0 ((s.xset x MEM.MARCH_RESULT (r * 2 ^ 29)).xirq x MEM.IRQ_MARCH_DONE) := fun r =>
    keeps_xirq (keeps_xset h ..) ..
  unfold State.marchGo
  extract_lets start len refuse
  with_reducible (repeat' first | exact hr _ | apply Keeps.ite)
  exact keeps_modMarch (keeps_xset (keeps_xset h ..) ..) ..

theorem keeps_marchEnd {a0 s : State} (h : Keeps a0 s) (x : Scope) (result off : Nat) :
    Keeps a0 (State.marchEnd s x result off) := by
  unfold State.marchEnd
  with_reducible (repeat' first | assumption | apply Keeps.ite | apply keeps_raise | apply keeps_xset | apply keeps_xirq | apply keeps_modMarch | split | intro _)

theorem keeps_marchBus {a0 s : State} (h : Keeps a0 s) (m w : Nat) (x0 : Nat) :
    Keeps a0 (State.marchBus s m w x0) := by
  fun_induction State.marchBus s m w x0 <;>
    with_reducible (repeat' first | assumption | apply Keeps.ite | apply keeps_countMem | apply_assumption | split | intro _)

theorem keeps_marchFails {a0 s : State} (h : Keeps a0 s) (m : Nat) (x0 : List MarchFail) :
    Keeps a0 (State.marchFails s m x0) := by
  fun_induction State.marchFails s m x0 <;>
    with_reducible (repeat' first | assumption | apply Keeps.ite | apply keeps_memPutSyn | apply_assumption | split | intro _)

theorem keeps_doMarchSliceEnd {a0 s : State} (h : Keeps a0 s) (x : Scope) (fails : List MarchFail) :
    Keeps a0 (doMarchSliceEnd x fails s) := by
  unfold doMarchSliceEnd
  extract_lets y m bad s1
  clear_value bad
  with_reducible (repeat' first | assumption | apply Keeps.ite | apply keeps_marchBus | apply keeps_marchFails | apply keeps_marchEnd | split | intro _)

theorem keeps_marchStop {a0 s : State} (h : Keeps a0 s) (x : Scope) :
    Keeps a0 (State.marchStop s x) := by
  unfold State.marchStop
  with_reducible (repeat' first | assumption | apply Keeps.ite | apply keeps_marchEnd | split | intro _)

theorem keeps_doMarchBudgetEnd {a0 s : State} (h : Keeps a0 s) (x : Scope) :
    Keeps a0 (doMarchBudgetEnd x s) := by
  unfold doMarchBudgetEnd
  with_reducible (repeat' first | assumption | apply Keeps.ite | apply keeps_marchStop | split | intro _)

theorem keeps_marchTorn {a0 s : State} (h : Keeps a0 s) (x : Scope) (word : Nat) (complemented : Bool) :
    Keeps a0 (State.marchTorn s x word complemented) := by
  unfold State.marchTorn
  with_reducible (repeat' first | assumption | apply Keeps.ite | apply keeps_memPutSyn | apply Keeps.draw | split | intro _)

theorem keeps_memParity {a0 s : State} (h : Keeps a0 s) (x : Scope) (e : MemEngine) :
    Keeps a0 (State.memParity s x e) := by
  unfold State.memParity
  with_reducible (repeat' first | assumption | apply Keeps.ite | apply keeps_scrubAbort | apply keeps_xset | apply keeps_marchStop | apply keeps_marchTorn | apply keeps_marchEnd | split | intro _)

theorem keeps_memResume {a0 s : State} (h : Keeps a0 s) (x : Scope) :
    Keeps a0 (State.memResume s x) := by
  unfold State.memResume
  with_reducible (repeat' first | assumption | apply Keeps.ite | apply keeps_xset | split | intro _)

/-! ## Dress -/

theorem keeps_seedWords {a0 s : State} (h : Keeps a0 s) (n : Ch) (w : Nat) (x0 : Nat) :
    Keeps a0 (State.seedWords s n w x0) := by
  fun_induction State.seedWords s n w x0 <;>
    with_reducible (repeat' first | assumption | apply Keeps.ite | apply keeps_busWrite | apply_assumption | split | intro _)

theorem keeps_dressSeed {a0 s : State} (h : Keeps a0 s) (n : Ch) :
    Keeps a0 (State.dressSeed s n) := by
  unfold State.dressSeed
  with_reducible (repeat' first | assumption | apply Keeps.ite | apply keeps_seedWords | apply Keeps.set | apply keeps_irq | split | intro _)

theorem keeps_trimLoadWord {a0 s : State} (h : Keeps a0 s) (n : Ch) (w : Nat) :
    Keeps a0 (State.trimLoadWord s n w) := by
  unfold State.trimLoadWord
  extract_lets r
  with_reducible (repeat' first | assumption | apply Keeps.ite | apply keeps_busRead | apply keeps_raise | apply keeps_busWrite | split | intro _)

theorem keeps_trimLoadWords {a0 s : State} (h : Keeps a0 s) (n : Ch) (w : Nat) (x0 : Nat) :
    Keeps a0 (State.trimLoadWords s n w x0) := by
  fun_induction State.trimLoadWords s n w x0 <;>
    with_reducible (repeat' first | assumption | apply Keeps.ite | apply keeps_trimLoadWord | apply_assumption | split | intro _)

theorem keeps_trimLoad {a0 s : State} (h : Keeps a0 s) (n : Ch) (tandem : Bool) :
    Keeps a0 (State.trimLoad s n tandem) := by
  unfold State.trimLoad
  with_reducible (repeat' first | assumption | apply Keeps.ite | apply keeps_trimLoadWords | split | intro _)

theorem keeps_addWait {a0 s : State} (h : Keeps a0 s) (n : Ch) (ps : Nat) :
    Keeps a0 (State.addWait s n ps) := by
  unfold State.addWait
  with_reducible (repeat' first | assumption | apply Keeps.ite | apply keeps_modDress | apply keeps_setSat | split | intro _)

theorem keeps_addRun {a0 s : State} (h : Keeps a0 s) (n : Ch) (ps : Nat) :
    Keeps a0 (State.addRun s n ps) := by
  unfold State.addRun
  with_reducible (repeat' first | assumption | apply Keeps.ite | apply keeps_modDress | split | intro _)

theorem keeps_trimRail {a0 s : State} (h : Keeps a0 s) (n : Ch) (i : Nat) (up : Bool) :
    Keeps a0 (State.trimRail s n i up) := by
  unfold State.trimRail
  with_reducible (repeat' first | assumption | apply Keeps.ite | apply keeps_raise | apply keeps_irq | apply Keeps.set | apply keeps_modDress | split | intro _)

theorem keeps_splitRails {a0 s : State} (h : Keeps a0 s) (n : Ch) (x0 : List (Nat × Bool)) :
    Keeps a0 (State.splitRails s n x0).2 := by
  fun_induction State.splitRails s n x0 <;>
    with_reducible (repeat' first | assumption | apply Keeps.ite | apply keeps_trimRail | apply_assumption | split | intro _)

theorem keeps_putTrim {a0 s : State} (h : Keeps a0 s) (n : Ch) (b : Nat) (code : Int) :
    Keeps a0 (State.putTrim s n b code) := by
  unfold State.putTrim
  with_reducible (repeat' first | assumption | apply Keeps.ite | apply keeps_countMem | apply keeps_memMerge | apply keeps_raise | apply keeps_memWrite | apply keeps_modDress | split | intro _)

theorem keeps_countStep {a0 s : State} (h : Keeps a0 s) (n : Ch) (i : Nat) :
    Keeps a0 (State.countStep s n i) := by
  unfold State.countStep
  with_reducible (repeat' first | assumption | apply Keeps.ite | apply keeps_incr | apply keeps_count | split | intro _)

theorem keeps_trimStep {a0 s : State} (h : Keeps a0 s) (n : Ch) (i : Nat) (up : Bool) :
    Keeps a0 (State.trimStep s n i up) := by
  unfold State.trimStep
  with_reducible (repeat' first | assumption | apply Keeps.ite | apply keeps_trimRail | apply keeps_putTrim | apply keeps_countStep | split | intro _)

theorem keeps_flightLands {a0 s : State} (h : Keeps a0 s) (n : Ch) :
    Keeps a0 (State.flightLands s n) := by
  unfold State.flightLands
  with_reducible (repeat' first | assumption | apply Keeps.ite | apply keeps_trimStep | apply Keeps.set | apply keeps_modDress | apply keeps_passAbort | apply keeps_levels | apply keeps_roundEnd | split | intro _)

theorem keeps_stepBegins {a0 s : State} (h : Keeps a0 s) (n : Ch) :
    Keeps a0 (State.stepBegins s n) := by
  unfold State.stepBegins
  with_reducible (repeat' first | assumption | apply Keeps.ite | apply keeps_addRun | apply keeps_modDress | apply Keeps.set | apply keeps_notice | split | intro _)

theorem keeps_doTrimStep {a0 s : State} (h : Keeps a0 s) (n : Ch) (part : StepPart) (wait : Nat) :
    Keeps a0 (doTrimStep n part wait s) := by
  unfold doTrimStep
  with_reducible (repeat' first | assumption | apply Keeps.ite | apply keeps_flightLands | apply Keeps.set | apply keeps_modDress | apply keeps_addWait | apply keeps_stepBegins | split | intro _)

theorem keeps_offlineTrims {a0 s : State} (h : Keeps a0 s) (n : Ch) (x0 : List TrimError) :
    Keeps a0 (State.offlineTrims s n x0) := by
  fun_induction State.offlineTrims s n x0 <;>
    with_reducible (repeat' first | assumption | apply Keeps.ite | apply keeps_trimRail | apply keeps_putTrim | apply keeps_countStep | apply_assumption | split | intro _)

theorem keeps_phaseEnd {a0 s : State} (h : Keeps a0 s) (n : Ch) (limit : Bool) :
    Keeps a0 (State.phaseEnd s n limit) := by
  unfold State.phaseEnd
  with_reducible (repeat' first | assumption | apply Keeps.ite | apply keeps_modDress | apply Keeps.set | apply keeps_swapRequest | apply keeps_levels | apply keeps_scopeEnd | split | intro _)

theorem keeps_doMeasureWindowEnd {a0 s : State} (h : Keeps a0 s) (n : Ch) (est : List TrimError) (wait : Nat) :
    Keeps a0 (doMeasureWindowEnd n est wait s) := by
  unfold doMeasureWindowEnd
  with_reducible (repeat' first | assumption | apply Keeps.ite | apply keeps_addWait | apply keeps_addRun | apply keeps_modDress | apply keeps_phaseEnd | apply keeps_offlineTrims | apply keeps_splitRails | apply keeps_scopeEnd | apply keeps_levels | apply Keeps.set | split | intro _)

theorem keeps_dressPass {a0 s : State} (h : Keeps a0 s) (n : Ch) :
    Keeps a0 (State.dressPass s n) := by
  unfold State.dressPass
  with_reducible (repeat' first | assumption | apply Keeps.ite | apply keeps_passStart | apply keeps_levels | apply Keeps.set | apply keeps_sat | apply keeps_irq | split | intro _)

theorem keeps_doFirstPassTrigger {a0 s : State} (h : Keeps a0 s) (n : Ch) :
    Keeps a0 (doFirstPassTrigger n s) := by
  unfold doFirstPassTrigger
  with_reducible (repeat' first | assumption | apply Keeps.ite | apply keeps_autoTrigger | apply keeps_levels | split | intro _)

theorem keeps_dressTemp {a0 s : State} (h : Keeps a0 s) (n : Ch) (reading : Option Int) :
    Keeps a0 (State.dressTemp s n reading) := by
  unfold State.dressTemp
  with_reducible (repeat' first | assumption | apply Keeps.ite | apply Keeps.set | apply keeps_modDress | apply keeps_setI | apply keeps_autoTrigger | apply keeps_levels | split | intro _)

theorem keeps_doDeferTimeout {a0 s : State} (h : Keeps a0 s) (n : Ch) :
    Keeps a0 (doDeferTimeout n s) := by
  unfold doDeferTimeout
  with_reducible (repeat' first | assumption | apply Keeps.ite | apply keeps_raise | apply keeps_setSat | apply keeps_passCut | apply keeps_irq | apply keeps_levels | split | intro _)

theorem keeps_dressParity {a0 s : State} (h : Keeps a0 s) (n : Ch) :
    Keeps a0 (State.dressParity s n) := by
  unfold State.dressParity
  with_reducible (repeat' first | assumption | apply Keeps.ite | apply keeps_levels | split | intro _)

/-! ## Gauge -/

theorem keeps_gaugeTrigger {a0 s : State} (h : Keeps a0 s) (n : Ch) :
    Keeps a0 (State.gaugeTrigger s n) := by
  unfold State.gaugeTrigger
  with_reducible (repeat' first | assumption | apply Keeps.ite | apply keeps_runStart | apply keeps_sat | apply keeps_irq | apply keeps_count | apply Keeps.set | split | intro _)

theorem keeps_doGaugeTimerTrigger {a0 s : State} (h : Keeps a0 s) (n : Ch) (second : Bool) :
    Keeps a0 (doGaugeTimerTrigger n second s) := by
  unfold doGaugeTimerTrigger
  with_reducible (repeat' first | assumption | apply Keeps.ite | apply keeps_gaugeTrigger | split | intro _)

theorem keeps_noteRxpwr {a0 s : State} (h : Keeps a0 s) (n : Ch) (input pga v : Nat) :
    Keeps a0 (State.noteRxpwr s n input pga v) := by
  unfold State.noteRxpwr
  with_reducible (repeat' first | assumption | apply Keeps.ite | apply Keeps.set | split | intro _)

theorem keeps_entryConverted {a0 s : State} (h : Keeps a0 s) (n : Ch) (w : Word) :
    Keeps a0 (State.entryConverted s n w) := by
  unfold State.entryConverted
  with_reducible (repeat' first | assumption | apply Keeps.ite | apply keeps_converted | split | intro _)

theorem keeps_writeResult {a0 s : State} (h : Keeps a0 s) (n : Ch) (e : Nat) (w : Word) (a b : Nat) (failed : Bool) :
    Keeps a0 (State.writeResult s n e w a b failed) := by
  unfold State.writeResult
  with_reducible (repeat' first | assumption | apply Keeps.ite | apply Keeps.set | apply keeps_modGauge | split | intro _)

theorem keeps_disagreed {a0 s : State} (h : Keeps a0 s) (n : Ch) (e diff : Nat) :
    Keeps a0 (State.disagreed s n e diff) := by
  unfold State.disagreed
  with_reducible (repeat' first | assumption | apply Keeps.ite | apply Keeps.set | apply keeps_sat | apply keeps_irq | split | intro _)

theorem keeps_entryNext {a0 s : State} (h : Keeps a0 s) (n : Ch) (e : Nat) :
    Keeps a0 (State.entryNext s n e) := by
  unfold State.entryNext
  with_reducible (repeat' first | assumption | apply Keeps.ite | apply keeps_entryStart | apply Keeps.set | apply keeps_incr | apply keeps_irq | apply keeps_gaugeNext | split | intro _)

theorem keeps_doEntryComplete {a0 s : State} (h : Keeps a0 s) (n : Ch) (va vb : BitVec 16) :
    Keeps a0 (doEntryComplete n va vb s) := by
  unfold doEntryComplete
  with_reducible (repeat' first | assumption | apply Keeps.ite | apply keeps_disarm | apply keeps_raise | apply keeps_entryConverted | apply keeps_writeResult | apply keeps_disagreed | apply keeps_noteRxpwr | apply keeps_irq | apply keeps_entryNext | split | intro _)

theorem keeps_resultRead {a0 s : State} (h : Keeps a0 s) (n : Ch) (e req : Nat) :
    Keeps a0 (State.resultRead s n e req).2 := by
  unfold State.resultRead
  with_reducible (repeat' first | assumption | apply Keeps.ite | apply keeps_modGauge | split | intro _)

theorem keeps_unitEnd {a0 s : State} (h : Keeps a0 s) (n : Ch) (b : Bool) :
    Keeps a0 (State.unitEnd s n b) := by
  unfold State.unitEnd
  with_reducible (repeat' first | assumption | apply Keeps.ite | apply keeps_payDiscard | apply keeps_modGauge | split | intro _)

theorem keeps_setStreamDue {a0 s : State} (h : Keeps a0 s) (n : Ch) (k : Fin 2) (v : Bool) :
    Keeps a0 (State.setStreamDue s n k v) := by
  unfold State.setStreamDue
  with_reducible (repeat' first | assumption | apply Keeps.ite | apply keeps_modGauge | split | intro _)

theorem keeps_doStreamDue {a0 s : State} (h : Keeps a0 s) (n : Ch) (k : Fin 2) :
    Keeps a0 (doStreamDue n k s) := by
  unfold doStreamDue
  with_reducible (repeat' first | assumption | apply Keeps.ite | apply keeps_setStreamDue | split | intro _)

theorem keeps_streamWrite {a0 s : State} (h : Keeps a0 s) (n : Ch) (k : Fin 2) (v : Nat) :
    Keeps a0 (State.streamWrite s n k v) := by
  unfold State.streamWrite
  with_reducible (repeat' first | assumption | apply Keeps.ite | apply keeps_converted | apply keeps_setStreamDue | apply Keeps.set | apply keeps_irq | apply keeps_noteRxpwr | apply keeps_unitEnd | split | intro _)

theorem keeps_doStreamResult {a0 s : State} (h : Keeps a0 s) (n : Ch) (k : Fin 2) (v : BitVec 16) :
    Keeps a0 (doStreamResult n k v s) := by
  unfold doStreamResult
  with_reducible (repeat' first | assumption | apply Keeps.ite | apply keeps_streamWrite | split | intro _)

theorem keeps_streamTake {a0 s : State} (h : Keeps a0 s) (n : Ch) (k : Fin 2) :
    Keeps a0 (State.streamTake s n k) := by
  unfold State.streamTake
  with_reducible (repeat' first | assumption | apply Keeps.ite | apply Keeps.set | split | intro _)

theorem keeps_doDieTempDue {a0 s : State} (h : Keeps a0 s) (n : Ch) :
    Keeps a0 (doDieTempDue n s) := by
  unfold doDieTempDue
  with_reducible (repeat' first | assumption | apply Keeps.ite | apply keeps_modGauge | split | intro _)

theorem keeps_doDieTempResult {a0 s : State} (h : Keeps a0 s) (n : Ch) (code : BitVec 14) :
    Keeps a0 (doDieTempResult n code s) := by
  unfold doDieTempResult
  with_reducible (repeat' first | assumption | apply Keeps.ite | apply keeps_raise | apply keeps_converted | apply keeps_modGauge | apply Keeps.set | apply keeps_setI | apply keeps_unitEnd | apply keeps_dressTemp | split | intro _)

theorem keeps_gaugeDiag {a0 s : State} (h : Keeps a0 s) (n : Ch) :
    Keeps a0 (State.gaugeDiag s n) := by
  unfold State.gaugeDiag
  with_reducible (repeat' first | assumption | apply Keeps.ite | apply Keeps.set | apply keeps_irq | apply keeps_modGauge | apply keeps_levels | split | intro _)

theorem keeps_doDiagDone {a0 s : State} (h : Keeps a0 s) (n : Ch) (v : BitVec 16) :
    Keeps a0 (doDiagDone n v s) := by
  unfold doDiagDone
  with_reducible (repeat' first | assumption | apply Keeps.ite | apply keeps_raise | apply keeps_converted | apply keeps_modGauge | apply Keeps.set | apply keeps_irq | apply keeps_gaugeNext | split | intro _)

theorem keeps_gaugeClear {a0 s : State} (h : Keeps a0 s) (n : Ch) :
    Keeps a0 (State.gaugeClear s n) := by
  unfold State.gaugeClear
  with_reducible (repeat' first | assumption | apply Keeps.ite | apply Keeps.set | split | intro _)

theorem keeps_gaugeParity {a0 s : State} (h : Keeps a0 s) (n : Ch) :
    Keeps a0 (State.gaugeParity s n) := by
  unfold State.gaugeParity
  with_reducible (repeat' first | assumption | apply Keeps.ite | apply keeps_levels | split | intro _)

/-! ## Out -/

theorem keeps_rangeChange {a0 s : State} (h : Keeps a0 s) (n : Ch) (d : Fin 3) :
    Keeps a0 (State.rangeChange s n d) := by
  unfold State.rangeChange
  with_reducible (repeat' first | assumption | apply Keeps.ite | apply keeps_setQueue | apply keeps_dacOut | apply keeps_modDac | apply keeps_dacRange | split | intro _)

theorem keeps_cfgEffect {a0 s : State} (h : Keeps a0 s) (n : Ch) (d : Fin 3) (spanWas modeWas : Nat) :
    Keeps a0 (State.cfgEffect s n d spanWas modeWas) := by
  unfold State.cfgEffect
  with_reducible (repeat' first | assumption | apply Keeps.ite | apply keeps_dacClamp | apply keeps_rangeChange | apply keeps_setQueue | split | intro _)

theorem keeps_writeDacCfg {a0 s : State} (h : Keeps a0 s) (n : Ch) (d : Fin 3) (data : Word) :
    Keeps a0 (State.writeDacCfg s n d data).2 := by
  unfold State.writeDacCfg
  extract_lets span spanWas modeWas s1
  with_reducible (repeat' first | assumption | apply Keeps.ite | apply keeps_irq | apply Keeps.set | apply keeps_modDac | apply keeps_cfgEffect | apply keeps_levels | split | intro _)

theorem keeps_pushDac {a0 s : State} (h : Keeps a0 s) (n : Ch) (d : Fin 3) (code : Nat) :
    Keeps a0 (State.pushDac s n d code).2 := by
  unfold State.pushDac
  extract_lets st q s1 s2
  with_reducible (repeat' first | assumption | apply Keeps.ite | apply keeps_modDac | apply keeps_setQueue | apply Keeps.set | apply keeps_sat | apply keeps_irq | split | intro _)

theorem keeps_dacPop {a0 s : State} (h : Keeps a0 s) (n : Ch) (d : Fin 3) (c : Nat) (q : List Nat) :
    Keeps a0 (State.dacPop s n d c q) := by
  unfold State.dacPop
  with_reducible (repeat' first | assumption | apply Keeps.ite | apply keeps_setQueue | apply keeps_dacOut | apply keeps_setDacState | apply keeps_irq | split | intro _)

theorem keeps_dacUnderrun {a0 s : State} (h : Keeps a0 s) (n : Ch) (d : Fin 3) :
    Keeps a0 (State.dacUnderrun s n d) := by
  unfold State.dacUnderrun
  with_reducible (repeat' first | assumption | apply Keeps.ite | apply keeps_setDacState | apply Keeps.set | apply keeps_sat | apply keeps_irq | split | intro _)

theorem keeps_doDacTick {a0 s : State} (h : Keeps a0 s) (n : Ch) (d : Fin 3) :
    Keeps a0 (doDacTick n d s) := by
  unfold doDacTick
  with_reducible (repeat' first | assumption | apply Keeps.ite | apply keeps_dacPop | apply keeps_dacUnderrun | split | intro _)

theorem keeps_doClampPeriodEnd {a0 s : State} (h : Keeps a0 s) (n : Ch) (d : Fin 3) :
    Keeps a0 (doClampPeriodEnd n d s) := by
  unfold doClampPeriodEnd
  with_reducible (repeat' first | assumption | apply Keeps.ite | apply keeps_modDac | split | intro _)

theorem keeps_voutnClamp {a0 s : State} (h : Keeps a0 s) (n : Ch) (d : Fin 3) :
    Keeps a0 (State.voutnClamp s n d) := by
  unfold State.voutnClamp
  with_reducible (repeat' first | assumption | apply Keeps.ite | apply keeps_dacClamp | split | intro _)

theorem keeps_voutnLost {a0 s : State} (h : Keeps a0 s) (n : Ch) :
    Keeps a0 (State.voutnLost s n) := by
  unfold State.voutnLost
  with_reducible (repeat' first | assumption | apply Keeps.ite | apply keeps_raise | apply keeps_voutnClamp | apply keeps_levels | split | intro _)

theorem keeps_voutnLostAll {a0 s : State} (h : Keeps a0 s) (x0 : List Ch) :
    Keeps a0 (State.voutnLostAll s x0) := by
  fun_induction State.voutnLostAll s x0 <;>
    with_reducible (repeat' first | assumption | apply Keeps.ite | apply keeps_voutnLost | apply_assumption | split | intro _)

theorem keeps_doVoutnLost {a0 s : State} (h : Keeps a0 s) :
    Keeps a0 (doVoutnLost s) := by
  unfold doVoutnLost
  with_reducible (repeat' first | assumption | apply Keeps.ite | apply keeps_voutnLostAll | apply Keeps.modDev | exact fun d => ⟨rfl, rfl, rfl, rfl⟩ | split | intro _)

theorem keeps_doVoutnReturn {a0 s : State} (h : Keeps a0 s) :
    Keeps a0 (doVoutnReturn s) := by
  unfold doVoutnReturn
  with_reducible (repeat' first | assumption | apply Keeps.ite | apply Keeps.modDev | exact fun d => ⟨rfl, rfl, rfl, rfl⟩ | split | intro _)

theorem keeps_doReadbackDue {a0 s : State} (h : Keeps a0 s) (n : Ch) (d : Fin 3) :
    Keeps a0 (doReadbackDue n d s) := by
  unfold doReadbackDue
  with_reducible (repeat' first | assumption | apply Keeps.ite | apply keeps_modGauge | apply keeps_modDac | split | intro _)

theorem keeps_readbackCompare {a0 s : State} (h : Keeps a0 s) (n : Ch) (d : Fin 3) (v : Nat) (hit : Bool) :
    Keeps a0 (State.readbackCompare s n d v hit) := by
  unfold State.readbackCompare
  with_reducible (repeat' first | assumption | apply Keeps.ite | apply Keeps.set | apply keeps_modDac | apply keeps_incr | apply keeps_raise | apply keeps_sat | split | intro _)

theorem keeps_readbackSkip {a0 s : State} (h : Keeps a0 s) (n : Ch) (d : Fin 3) :
    Keeps a0 (State.readbackSkip s n d) := by
  unfold State.readbackSkip
  with_reducible (repeat' first | assumption | apply Keeps.ite | apply keeps_modDac | apply Keeps.set | split | intro _)

theorem keeps_doReadbackResult {a0 s : State} (h : Keeps a0 s) (n : Ch) (d : Fin 3) (v : BitVec 16) (moved : Bool) :
    Keeps a0 (doReadbackResult n d v moved s) := by
  unfold doReadbackResult
  with_reducible (repeat' first | assumption | apply Keeps.ite | apply keeps_disarm | apply keeps_converted | apply keeps_modGauge | apply keeps_unitEnd | apply Keeps.set | apply keeps_readbackSkip | apply keeps_readbackCompare | split | intro _)

theorem keeps_outParity {a0 s : State} (h : Keeps a0 s) (n : Ch) :
    Keeps a0 (State.outParity s n) := by
  unfold State.outParity
  with_reducible (repeat' first | assumption | apply Keeps.ite | apply keeps_levels | split | intro _)

theorem keeps_kilnFault {a0 s : State} (h : Keeps a0 s) (n : Ch) (f : Field) :
    Keeps a0 (State.kilnFault s n f) := by
  unfold State.kilnFault
  with_reducible (repeat' first | assumption | apply Keeps.ite | apply keeps_raise | apply keeps_setQueue | apply keeps_dacOut | apply Keeps.set | apply keeps_modKiln | apply keeps_levels | split | intro _)

theorem keeps_kilnParity {a0 s : State} (h : Keeps a0 s) (n : Ch) :
    Keeps a0 (State.kilnParity s n) := by
  unfold State.kilnParity
  with_reducible (repeat' first | assumption | apply Keeps.ite | apply keeps_kilnFault | split | intro _)

theorem keeps_writeKilnEn {a0 s : State} (h : Keeps a0 s) (n : Ch) (v : Nat) :
    Keeps a0 (State.writeKilnEn s n v) := by
  unfold State.writeKilnEn
  with_reducible (repeat' first | assumption | apply Keeps.ite | apply Keeps.set | apply keeps_modKiln | apply keeps_levels | split | intro _)

theorem keeps_writeInteg {a0 s : State} (h : Keeps a0 s) (n : Ch) (hi : Bool) (data : Word) :
    Keeps a0 (State.writeInteg s n hi data) := by
  unfold State.writeInteg
  with_reducible (repeat' first | assumption | apply Keeps.ite | apply Keeps.set | split | intro _)

theorem keeps_kilnPush {a0 s : State} (h : Keeps a0 s) (n : Ch) (c : Nat) :
    Keeps a0 (State.kilnPush s n c) := by
  unfold State.kilnPush
  with_reducible (repeat' first | assumption | apply Keeps.ite | apply keeps_setQueue | split | intro _)

theorem keeps_lawWrite {a0 s : State} (h : Keeps a0 s) (n : Ch) (ceil lo : Int) (r : LawOut) :
    Keeps a0 (State.lawWrite s n ceil lo r) := by
  unfold State.lawWrite
  with_reducible (repeat' first | assumption | apply Keeps.ite | apply Keeps.set | apply keeps_modKiln | apply keeps_setI | apply keeps_kilnPush | split | intro _)

theorem keeps_kilnRun {a0 s : State} (h : Keeps a0 s) (n : Ch) (t : Nat) :
    Keeps a0 (State.kilnRun s n t) := by
  unfold State.kilnRun
  with_reducible (repeat' first | assumption | apply Keeps.ite | apply Keeps.set | apply keeps_modKiln | apply keeps_lawWrite | apply Keeps.draw | split | intro _)

theorem keeps_kilnAfter {a0 s : State} (h : Keeps a0 s) (n : Ch) :
    Keeps a0 (State.kilnAfter s n) := by
  unfold State.kilnAfter
  with_reducible (repeat' first | assumption | apply Keeps.ite | apply Keeps.set | apply keeps_irq | apply keeps_modKiln | split | intro _)

theorem keeps_kilnBad {a0 s : State} (h : Keeps a0 s) (n : Ch) (sensor : Bool) :
    Keeps a0 (State.kilnBad s n sensor) := by
  unfold State.kilnBad
  with_reducible (repeat' first | assumption | apply Keeps.ite | apply keeps_sat | apply keeps_irq | apply keeps_modKiln | apply keeps_kilnFault | split | intro _)

theorem keeps_doKilnTick {a0 s : State} (h : Keeps a0 s) (n : Ch) :
    Keeps a0 (doKilnTick n s) := by
  unfold doKilnTick
  with_reducible (repeat' first | assumption | apply Keeps.ite | apply keeps_streamTake | apply keeps_kilnBad | apply keeps_kilnOff | apply keeps_levels | apply keeps_kilnRun | apply keeps_kilnAfter | split | intro _)

theorem keeps_doKilnSat {a0 s : State} (h : Keeps a0 s) (n : Ch) :
    Keeps a0 (doKilnSat n s) := by
  unfold doKilnSat
  with_reducible (repeat' first | assumption | apply Keeps.ite | apply keeps_raise | apply keeps_irq | apply keeps_modKiln | split | intro _)

end Sys2Proof.Machine
end

