-- ==== Sys2Proof/Laws/KeepsEngines.lean ====
section
/-! SUPPORT. `Keeps` of power, the Millrace, the Tally, the counters, the Trial, the Sluice and their companions: what each does to a state, it keeps the queue, the
canonical form, the identity and the programmed fuses. -/

namespace Sys2Proof.Machine

/-! ## Pwr -/

theorem keeps_pset {a0 s : State} (h : Keeps a0 s) (x : Scope) (f : Field) (v : Nat) :
    Keeps a0 (State.pset s x f v) := by
  unfold State.pset
  with_reducible (repeat' first | assumption | apply Keeps.ite | apply Keeps.set | split | intro _)

theorem keeps_pirq {a0 s : State} (h : Keeps a0 s) (x : Scope) (f : Field) :
    Keeps a0 (State.pirq s x f) := by
  unfold State.pirq
  with_reducible (repeat' first | assumption | apply Keeps.ite | apply keeps_irq | split | intro _)

theorem keeps_modPath {a0 s : State} (h : Keeps a0 s) (x : Scope) (f : PwrPath → PwrPath) :
    Keeps a0 (State.modPath s x f) := by
  unfold State.modPath
  with_reducible (repeat' first | assumption | apply Keeps.ite | apply Keeps.modCh | apply Keeps.modDev | exact fun d => ⟨rfl, rfl, rfl, rfl⟩ | split | intro _)

theorem keeps_pwrRefuse {a0 s : State} (h : Keeps a0 s) (x : Scope) (code mask target : Nat) :
    Keeps a0 (State.pwrRefuse s x code mask target) := by
  unfold State.pwrRefuse
  with_reducible (repeat' first | assumption | apply Keeps.ite | apply keeps_incr | apply keeps_sat | apply keeps_pset | apply keeps_pirq | split | intro _)

theorem keeps_pwrTell {a0 s : State} (h : Keeps a0 s) (x : Scope) (code : Nat) :
    Keeps a0 (State.pwrTell s x code) := by
  unfold State.pwrTell
  with_reducible (repeat' first | assumption | apply Keeps.ite | apply keeps_fwPowerRefused | split | intro _)

theorem keeps_setTargetActive {a0 s : State} (h : Keeps a0 s) (x : Scope) (v : Nat) :
    Keeps a0 (State.setTargetActive s x v) := by
  unfold State.setTargetActive
  with_reducible (repeat' first | assumption | apply Keeps.ite | apply Keeps.set | apply keeps_dset | split | intro _)

theorem keeps_pwrLevels {a0 s : State} (h : Keeps a0 s) (x0 : Scope) :
    Keeps a0 (State.pwrLevels s x0) := by
  unfold State.pwrLevels
  with_reducible (repeat' first | assumption | apply Keeps.ite | apply keeps_levels | apply keeps_levelsAll | split | intro _)

theorem keeps_setPhase {a0 s : State} (h : Keeps a0 s) (x : Scope) (p : Nat) :
    Keeps a0 (State.setPhase s x p) := by
  unfold State.setPhase
  with_reducible (repeat' first | assumption | apply Keeps.ite | apply keeps_pset | split | intro _)

theorem keeps_pathEnd {a0 s : State} (h : Keeps a0 s) (x : Scope) :
    Keeps a0 (State.pathEnd s x) := by
  unfold State.pathEnd
  with_reducible (repeat' first | assumption | apply Keeps.ite | apply keeps_setPhase | apply keeps_setTargetActive | apply keeps_pset | apply keeps_modPath | split | intro _)

theorem keeps_pathAbort {a0 s : State} (h : Keeps a0 s) (x : Scope) (code mask : Nat) :
    Keeps a0 (State.pathAbort s x code mask) := by
  unfold State.pathAbort
  with_reducible (repeat' first | assumption | apply Keeps.ite | apply keeps_pathEnd | apply keeps_pwrRefuse | apply keeps_pwrTell | apply keeps_pwrLevels | split | intro _)

theorem keeps_setWright {a0 s : State} (h : Keeps a0 s) (n : Ch) (st : Nat) :
    Keeps a0 (State.setWright s n st) := by
  unfold State.setWright
  with_reducible (repeat' first | assumption | apply Keeps.ite | apply Keeps.set | split | intro _)

theorem keeps_legStart {a0 s : State} (h : Keeps a0 s) (x : Scope) (st : Nat) :
    Keeps a0 (State.legStart s x st) := by
  unfold State.legStart
  with_reducible (repeat' first | assumption | apply Keeps.ite | apply keeps_setPhase | apply keeps_modPath | apply Keeps.set | apply keeps_setStreamDue | apply keeps_setWright | split | intro _)

theorem keeps_pathStart {a0 s : State} (h : Keeps a0 s) (x : Scope) (target : Nat) (byWake replayed : Bool) :
    Keeps a0 (State.pathStart s x target byWake replayed) := by
  unfold State.pathStart
  extract_lets legs s1
  clear_value legs
  with_reducible (repeat' first | assumption | apply Keeps.ite | apply keeps_setTargetActive | apply keeps_modPath | apply keeps_legStart | apply keeps_pwrLevels | split | intro _)

theorem keeps_pwrRequest {a0 s : State} (h : Keeps a0 s) (x : Scope) (target : Nat) :
    Keeps a0 (State.pwrRequest s x target) := by
  unfold State.pwrRequest
  extract_lets l
  clear_value l
  rcases l with _ | ⟨c, l⟩
  · cases x with
    | dev => exact Keeps.ite (keeps_pirq (keeps_dset h ..) ..) (keeps_pathStart (keeps_dset h ..) ..)
    | ch n => exact Keeps.ite (keeps_pirq (h.set ..) ..) (keeps_pathStart (h.set ..) ..)
  · exact keeps_pwrTell (keeps_pwrRefuse h ..) ..

theorem keeps_wakeScope {a0 s : State} (h : Keeps a0 s) (x : Scope) (src : Nat) :
    Keeps a0 (State.wakeScope s x src) := by
  unfold State.wakeScope
  with_reducible (repeat' first | assumption | apply Keeps.ite | apply keeps_pset | apply keeps_pathStart | apply keeps_modPath | split | intro _)

theorem keeps_devWake {a0 s : State} (h : Keeps a0 s) (src : Nat) :
    Keeps a0 (State.devWake s src) := by
  unfold State.devWake
  with_reducible (repeat' first | assumption | apply Keeps.ite | apply keeps_wakeScope | split | intro _)

theorem keeps_chWake {a0 s : State} (h : Keeps a0 s) (n : Ch) (src : Nat) :
    Keeps a0 (State.chWake s n src) := by
  unfold State.chWake
  with_reducible (repeat' first | assumption | apply Keeps.ite | apply keeps_wakeScope | apply keeps_devWake | split | intro _)

theorem keeps_doWakeReplay {a0 s : State} (h : Keeps a0 s) (x : Scope) :
    Keeps a0 (doWakeReplay x s) := by
  unfold doWakeReplay
  with_reducible (repeat' first | assumption | apply Keeps.ite | apply keeps_pset | apply keeps_pirq | apply keeps_sat | apply keeps_pathStart | apply keeps_devWake | split | intro _)

theorem keeps_doWakeTimerExpiry {a0 s : State} (h : Keeps a0 s) (x : Scope) :
    Keeps a0 (doWakeTimerExpiry x s) := by
  unfold doWakeTimerExpiry
  with_reducible (repeat' first | assumption | apply Keeps.ite | apply keeps_chWake | apply keeps_devWake | split | intro _)

theorem keeps_wakePages {a0 s : State} (h : Keeps a0 s) (n : Ch) (x0 : List Nat) :
    Keeps a0 (State.wakePages s n x0) := by
  fun_induction State.wakePages s n x0 <;>
    with_reducible (repeat' first | assumption | apply Keeps.ite | apply keeps_wakePage | apply_assumption | split | intro _)

theorem keeps_forgetPages {a0 s : State} (h : Keeps a0 s) (n : Ch) :
    Keeps a0 (State.forgetPages s n) := by
  unfold State.forgetPages
  with_reducible (repeat' first | assumption | apply Keeps.ite | apply Keeps.modDev | exact fun d => ⟨rfl, rfl, rfl, rfl⟩ | split | intro _)

theorem keeps_goDark {a0 s : State} (h : Keeps a0 s) (n : Ch) :
    Keeps a0 (State.goDark s n) := by
  unfold State.goDark
  with_reducible (repeat' first | assumption | apply Keeps.ite | apply keeps_wakePages | apply keeps_poisonCh | apply Keeps.modCh | apply keeps_relay | apply keeps_forgetPages | apply keeps_dropCleared | apply keeps_safeUpdate | apply keeps_setWright | apply Keeps.modDev | exact fun d => ⟨rfl, rfl, rfl, rfl⟩ | split | intro _)

theorem keeps_goAsleep {a0 s : State} (h : Keeps a0 s) (n : Ch) (st : Nat) :
    Keeps a0 (State.goAsleep s n st) := by
  unfold State.goAsleep
  with_reducible (repeat' first | assumption | apply Keeps.ite | apply Keeps.set | apply Keeps.modCh | apply keeps_scrubAbort | apply keeps_marchStop | split | intro _)

theorem keeps_fromDark {a0 s : State} (h : Keeps a0 s) (n : Ch) :
    Keeps a0 (State.fromDark s n) := by
  unfold State.fromDark
  with_reducible (repeat' first | assumption | apply Keeps.ite | apply keeps_dressSeed | apply keeps_safeUpdate | split | intro _)

theorem keeps_millerSleep {a0 s : State} (h : Keeps a0 s) :
    Keeps a0 (State.millerSleep s) := by
  unfold State.millerSleep
  with_reducible (repeat' first | assumption | apply Keeps.ite | apply keeps_dset | split | intro _)

theorem keeps_millerWake {a0 s : State} (h : Keeps a0 s) :
    Keeps a0 (State.millerWake s) := by
  unfold State.millerWake
  with_reducible (repeat' first | assumption | apply Keeps.ite | apply keeps_dset | split | intro _)

theorem keeps_pwrReach {a0 s : State} (h : Keeps a0 s) (x : Scope) (st : Nat) :
    Keeps a0 (State.pwrReach s x st) := by
  unfold State.pwrReach
  with_reducible (repeat' first | assumption | apply Keeps.ite | apply Keeps.set | apply keeps_goDark | apply keeps_goAsleep | apply keeps_fromDark | apply keeps_setWright | apply keeps_millerSleep | apply keeps_millerWake | apply Keeps.modDev | exact fun d => ⟨rfl, rfl, rfl, rfl⟩ | split | intro _)

theorem keeps_pathDone {a0 s : State} (h : Keeps a0 s) (x : Scope) (us waitUs : Nat) :
    Keeps a0 (State.pathDone s x us waitUs) := by
  unfold State.pathDone
  with_reducible (repeat' first | assumption | apply Keeps.ite | apply keeps_pset | apply keeps_pirq | apply keeps_pathEnd | apply keeps_setPhase | apply keeps_setTargetActive | apply keeps_modPath | split | intro _)

theorem keeps_doLegComplete {a0 s : State} (h : Keeps a0 s) (x : Scope) (us waitUs : Nat) :
    Keeps a0 (doLegComplete x us waitUs s) := by
  unfold doLegComplete
  split
  · exact h
  · split
    · exact h
    · extract_lets s1 s2 l
      have k1 : Keeps a0 s1 := by unfold s1; with_reducible (repeat' first | assumption | apply Keeps.ite | apply keeps_incr | apply keeps_pwrReach | apply keeps_modPath | apply keeps_pathDone | apply keeps_pwrLevels | apply keeps_pathEnd | apply keeps_pathAbort | apply keeps_legStart | split | intro _)
      clear_value s1
      have k2 : Keeps a0 s2 := by unfold s2; with_reducible (repeat' first | assumption | apply Keeps.ite | apply keeps_incr | apply keeps_pwrReach | apply keeps_modPath | apply keeps_pathDone | apply keeps_pwrLevels | apply keeps_pathEnd | apply keeps_pathAbort | apply keeps_legStart | split | intro _)
      clear_value s2
      with_reducible (repeat' first | assumption | apply Keeps.ite | apply keeps_incr | apply keeps_pwrReach | apply keeps_modPath | apply keeps_pathDone | apply keeps_pwrLevels | apply keeps_pathEnd | apply keeps_pathAbort | apply keeps_legStart | split | intro _)
      extract_lets l
      clear_value l
      cases l <;> with_reducible (repeat' first | assumption | apply Keeps.ite | apply keeps_incr | apply keeps_pwrReach | apply keeps_modPath | apply keeps_pathDone | apply keeps_pwrLevels | apply keeps_pathEnd | apply keeps_pathAbort | apply keeps_legStart | split | intro _)

theorem keeps_doControllerWait {a0 s : State} (h : Keeps a0 s) (x : Scope) :
    Keeps a0 (doControllerWait x s) := by
  unfold doControllerWait
  extract_lets runs l s1
  clear_value l
  have k2 : Keeps a0 s1 := by unfold s1; with_reducible (repeat' first | assumption | apply Keeps.ite | apply keeps_pathAbort | apply keeps_setWright | apply keeps_millerSleep | apply keeps_setPhase | apply keeps_modPath | apply keeps_pwrLevels | split | intro _)
  with_reducible (repeat' first | assumption | apply Keeps.ite | apply keeps_pathAbort | apply keeps_setWright | apply keeps_millerSleep | apply keeps_setPhase | apply keeps_modPath | apply keeps_pwrLevels | split | intro _)

theorem keeps_doWaitTimeout {a0 s : State} (h : Keeps a0 s) (x : Scope) :
    Keeps a0 (doWaitTimeout x s) := by
  unfold doWaitTimeout
  with_reducible (repeat' first | assumption | apply Keeps.ite | apply keeps_pathAbort | split | intro _)

theorem keeps_pwrShut {a0 s : State} (h : Keeps a0 s) (x : Scope) :
    Keeps a0 (State.pwrShut s x) := by
  unfold State.pwrShut
  with_reducible (repeat' first | assumption | apply Keeps.ite | apply keeps_pathAbort | split | intro _)

theorem keeps_doChPllRelock {a0 s : State} (h : Keeps a0 s) (n : Ch) :
    Keeps a0 (doChPllRelock n s) := by
  unfold doChPllRelock
  with_reducible (repeat' first | assumption | apply Keeps.ite | apply Keeps.set | apply Keeps.modCh | apply keeps_modPath | apply keeps_levels | split | intro _)

theorem keeps_doWatchSampleStart {a0 s : State} (h : Keeps a0 s) (n : Ch) :
    Keeps a0 (doWatchSampleStart n s) := by
  unfold doWatchSampleStart
  with_reducible (repeat' first | assumption | apply Keeps.ite | apply Keeps.set | apply keeps_setStreamDue | apply keeps_modGauge | split | intro _)

theorem keeps_doWatchSampleResult {a0 s : State} (h : Keeps a0 s) (n : Ch) (v : BitVec 16) :
    Keeps a0 (doWatchSampleResult n v s) := by
  unfold doWatchSampleResult
  with_reducible (repeat' first | assumption | apply Keeps.ite | apply keeps_streamWrite | apply keeps_streamTake | apply keeps_incr | apply Keeps.set | apply keeps_irq | apply keeps_sat | apply keeps_chWake | split | intro _)

theorem keeps_doWatchSampleEnd {a0 s : State} (h : Keeps a0 s) (n : Ch) :
    Keeps a0 (doWatchSampleEnd n s) := by
  unfold doWatchSampleEnd
  with_reducible (repeat' first | assumption | apply Keeps.ite | apply Keeps.set | apply keeps_setStreamDue | apply keeps_irq | apply keeps_sat | apply keeps_incr | split | intro _)

theorem keeps_pwrClear {a0 s : State} (h : Keeps a0 s) (x : Scope) :
    Keeps a0 (State.pwrClear s x) := by
  unfold State.pwrClear
  with_reducible (repeat' first | assumption | apply Keeps.ite | apply Keeps.mapRegs | split | intro _)

theorem keeps_pwrParity {a0 s : State} (h : Keeps a0 s) (n : Ch) :
    Keeps a0 (State.pwrParity s n) := by
  unfold State.pwrParity
  with_reducible (repeat' first | assumption | apply Keeps.ite | apply keeps_pathEnd | apply keeps_pathAbort | split | intro _)

/-! ## Mrace -/

theorem keeps_mrSeq {a0 s : State} (h : Keeps a0 s) (n : Ch) :
    Keeps a0 (State.mrSeq s n).2 := by
  unfold State.mrSeq
  with_reducible (repeat' first | assumption | apply Keeps.ite | apply keeps_incr | split | intro _)

theorem keeps_mrInject {a0 s : State} (h : Keeps a0 s) (n : Ch) (f : Field) (target : Nat) :
    Keeps a0 (State.mrInject s n f target).2 := by
  unfold State.mrInject
  with_reducible (repeat' first | assumption | apply Keeps.ite | apply keeps_disarm | split | intro _)

theorem keeps_mrPush {a0 s : State} (h : Keeps a0 s) (n : Ch) (o : MrOut) :
    Keeps a0 (State.mrPush s n o) := by
  unfold State.mrPush
  with_reducible (repeat' first | assumption | apply Keeps.ite | apply keeps_mrInject | apply keeps_modMr | apply keeps_mrStatus | split | intro _)

theorem keeps_mrSend {a0 s : State} (h : Keeps a0 s) (n : Ch) (ttl : Nat) (payload : List Byte) :
    Keeps a0 (State.mrSend s n ttl payload).2 := by
  unfold State.mrSend
  with_reducible (repeat' first | assumption | apply Keeps.ite | apply keeps_mrSeq | apply keeps_mrPush | split | intro _)

theorem keeps_fifoCheck {a0 s : State} (h : Keeps a0 s) (n : Ch) (x0 : List MrIn) :
    Keeps a0 (State.fifoCheck s n x0) := by
  fun_induction State.fifoCheck s n x0 <;>
    with_reducible (repeat' first | assumption | apply Keeps.ite | apply keeps_modMr | apply keeps_mrStatus | apply keeps_raise | apply keeps_incr | apply_assumption | split | intro _)

theorem keeps_mrDeliver {a0 s : State} (h : Keeps a0 s) (n : Ch) (f : MrFrame) (rx : TimeVal) (rssi : Int) :
    Keeps a0 (State.mrDeliver s n f rx rssi) := by
  unfold State.mrDeliver
  with_reducible (repeat' first | assumption | apply Keeps.ite | apply keeps_incr | apply keeps_irq | apply keeps_mrInject | apply keeps_fifoCheck | split | intro _)

theorem keeps_mrPop {a0 s : State} (h : Keeps a0 s) (n : Ch) :
    Keeps a0 (State.mrPop s n) := by
  unfold State.mrPop
  with_reducible (repeat' first | assumption | apply Keeps.ite | apply keeps_fifoCheck | split | intro _)

theorem keeps_mrFlush {a0 s : State} (h : Keeps a0 s) (n : Ch) :
    Keeps a0 (State.mrFlush s n) := by
  unfold State.mrFlush
  with_reducible (repeat' first | assumption | apply Keeps.ite | apply keeps_modMr | apply keeps_mrStatus | split | intro _)

theorem keeps_mrEcho {a0 s : State} (h : Keeps a0 s) (n : Ch) :
    Keeps a0 (State.mrEcho s n) := by
  unfold State.mrEcho
  with_reducible (repeat' first | assumption | apply Keeps.ite | apply keeps_modMr | apply keeps_mrStatus | split | intro _)

theorem keeps_doBeaconDue {a0 s : State} (h : Keeps a0 s) (n : Ch) :
    Keeps a0 (doBeaconDue n s) := by
  unfold doBeaconDue
  with_reducible (repeat' first | assumption | apply Keeps.ite | apply keeps_modMr | apply keeps_mrStatus | split | intro _)

theorem keeps_mrStart {a0 s : State} (h : Keeps a0 s) (n : Ch) (o : MrOut) :
    Keeps a0 (State.mrStart s n o) := by
  unfold State.mrStart
  with_reducible (repeat' first | assumption | apply Keeps.ite | apply keeps_modMr | split | intro _)

theorem keeps_mrLocal {a0 s : State} (h : Keeps a0 s) (n : Ch) (typ dst : Nat) (payload : List Byte) :
    Keeps a0 (State.mrLocal s n typ dst payload) := by
  unfold State.mrLocal
  with_reducible (repeat' first | assumption | apply Keeps.ite | apply keeps_mrSeq | apply keeps_modMr | apply keeps_mrStart | split | intro _)

theorem keeps_mrFromQueue {a0 s : State} (h : Keeps a0 s) (n : Ch) (x0 : List MrOut) :
    Keeps a0 (State.mrFromQueue s n x0) := by
  fun_induction State.mrFromQueue s n x0 <;>
    with_reducible (repeat' first | assumption | apply Keeps.ite | apply keeps_modMr | apply keeps_raise | apply keeps_incr | apply keeps_mrStart | apply keeps_irq | apply_assumption | split | intro _)

theorem keeps_doMrFrameStart {a0 s : State} (h : Keeps a0 s) (n : Ch) :
    Keeps a0 (doMrFrameStart n s) := by
  unfold doMrFrameStart
  with_reducible (repeat' first | assumption | apply Keeps.ite | apply keeps_modMr | apply keeps_mrLocal | apply keeps_mrFromQueue | apply keeps_mrStatus | split | intro _)

theorem keeps_doMrFrameEnd {a0 s : State} (h : Keeps a0 s) (n : Ch) :
    Keeps a0 (doMrFrameEnd n s) := by
  unfold doMrFrameEnd
  with_reducible (repeat' first | assumption | apply Keeps.ite | apply keeps_irq | apply keeps_incr | apply Keeps.set | apply keeps_count | apply keeps_modMr | apply keeps_mrTxLevel | apply keeps_mrStatus | split | intro _)

theorem keeps_doMrTxAbort {a0 s : State} (h : Keeps a0 s) (n : Ch) :
    Keeps a0 (doMrTxAbort n s) := by
  unfold doMrTxAbort
  with_reducible (repeat' first | assumption | apply Keeps.ite | apply keeps_irq | apply keeps_incr | apply Keeps.set | apply keeps_modMr | apply keeps_mrTxLevel | apply keeps_mrStatus | split | intro _)

theorem keeps_doPreambleDetect {a0 s : State} (h : Keeps a0 s) (n : Ch) :
    Keeps a0 (doPreambleDetect n s) := by
  unfold doPreambleDetect
  with_reducible (repeat' first | assumption | apply Keeps.ite | apply Keeps.set | split | intro _)

theorem keeps_doSyncDetect {a0 s : State} (h : Keeps a0 s) (n : Ch) (gain : BitVec 7) :
    Keeps a0 (doSyncDetect n gain s) := by
  unfold doSyncDetect
  with_reducible (repeat' first | assumption | apply Keeps.ite | apply Keeps.set | split | intro _)

theorem keeps_mrRxErr {a0 s : State} (h : Keeps a0 s) (n : Ch) (kind : Nat) (f : Field) :
    Keeps a0 (State.mrRxErr s n kind f) := by
  unfold State.mrRxErr
  with_reducible (repeat' first | assumption | apply Keeps.ite | apply keeps_incr | apply keeps_irq | apply keeps_count | apply keeps_mrSearch | split | intro _)

theorem keeps_doRxNosync {a0 s : State} (h : Keeps a0 s) (n : Ch) :
    Keeps a0 (doRxNosync n s) := by
  unfold doRxNosync
  with_reducible (repeat' first | assumption | apply Keeps.ite | apply keeps_mrRxErr | split | intro _)

theorem keeps_doHeaderDecoded {a0 s : State} (h : Keeps a0 s) (n : Ch) (h : List Byte) :
    Keeps a0 (doHeaderDecoded n h s) := by
  unfold doHeaderDecoded
  with_reducible (repeat' first | assumption | apply Keeps.ite | apply Keeps.set | apply keeps_modMr | apply keeps_mrRxErr | split | intro _)

theorem keeps_mrBeacon {a0 s : State} (h : Keeps a0 s) (n : Ch) (f : MrFrame) (rssi ppm : Int) :
    Keeps a0 (State.mrBeacon s n f rssi ppm) := by
  unfold State.mrBeacon
  with_reducible (repeat' first | assumption | apply Keeps.ite | apply keeps_raise | apply keeps_irq | apply Keeps.set | apply keeps_setI | apply keeps_incr | split | intro _)

theorem keeps_mrEchoRsp {a0 s : State} (h : Keeps a0 s) (n : Ch) (f : MrFrame) (rx : TimeVal) (ppm : Int) :
    Keeps a0 (State.mrEchoRsp s n f rx ppm) := by
  unfold State.mrEchoRsp
  with_reducible (repeat' first | assumption | apply Keeps.ite | apply Keeps.set | apply keeps_modMr | apply keeps_irq | apply keeps_mrStatus | split | intro _)

theorem keeps_mrEchoReq {a0 s : State} (h : Keeps a0 s) (n : Ch) (f : MrFrame) (rx : TimeVal) :
    Keeps a0 (State.mrEchoReq s n f rx) := by
  unfold State.mrEchoReq
  with_reducible (repeat' first | assumption | apply Keeps.ite | apply keeps_modMr | apply keeps_mrStatus | split | intro _)

theorem keeps_dupScrub {a0 s : State} (h : Keeps a0 s) (n : Ch) :
    Keeps a0 (State.dupScrub s n) := by
  unfold State.dupScrub
  with_reducible (repeat' first | assumption | apply Keeps.ite | apply keeps_raise | apply Keeps.modDev | exact fun d => ⟨rfl, rfl, rfl, rfl⟩ | split | intro _)

theorem keeps_dupCheck {a0 s : State} (h : Keeps a0 s) (n : Ch) (f : MrFrame) :
    Keeps a0 (State.dupCheck s n f).2 := by
  unfold State.dupCheck
  extract_lets s0 i k
  with_reducible (repeat' first | assumption | apply Keeps.ite | apply keeps_dupScrub | apply keeps_mrInject | apply Keeps.modDev | exact fun d => ⟨rfl, rfl, rfl, rfl⟩ | split | intro _)

theorem keeps_relayScrub {a0 s : State} (h : Keeps a0 s) (n : Ch) :
    Keeps a0 (State.relayScrub s n) := by
  unfold State.relayScrub
  with_reducible (repeat' first | assumption | apply Keeps.ite | apply keeps_raise | apply keeps_modMr | split | intro _)

theorem keeps_relayCopy {a0 s : State} (h : Keeps a0 s) (n m : Ch) (f : MrFrame) (rx : TimeVal) :
    Keeps a0 (State.relayCopy s n m f rx).2 := by
  unfold State.relayCopy
  with_reducible (repeat' first | assumption | apply Keeps.ite | apply keeps_incr | apply keeps_irq | apply keeps_mrPush | split | intro _)

theorem keeps_relayCopies {a0 s : State} (h : Keeps a0 s) (n : Ch) (f : MrFrame) (rx : TimeVal) (x0 : List Ch) :
    Keeps a0 (State.relayCopies s n f rx x0).2 := by
  fun_induction State.relayCopies s n f rx x0 <;>
    with_reducible (repeat' first | assumption | apply Keeps.ite | apply keeps_relayCopy | apply_assumption | split | intro _)

theorem keeps_relayForward {a0 s : State} (h : Keeps a0 s) (n : Ch) (f : MrFrame) (rx : TimeVal) (w : Word) :
    Keeps a0 (State.relayForward s n f rx w) := by
  unfold State.relayForward
  with_reducible (repeat' first | assumption | apply Keeps.ite | apply keeps_incr | apply keeps_irq | apply keeps_relayCopies | split | intro _)

theorem keeps_relay {a0 s : State} (h : Keeps a0 s) (n : Ch) (f : MrFrame) (rx : TimeVal) (rssi : Int) :
    Keeps a0 (State.relay s n f rx rssi) := by
  unfold State.relay
  extract_lets d local1 s1 s2 s3
  with_reducible (repeat' first | assumption | apply Keeps.ite | apply keeps_incr | apply keeps_irq | apply keeps_dupCheck | apply keeps_mrDeliver | apply keeps_relayScrub | apply keeps_relayForward | split | intro _)

theorem keeps_mrAccept {a0 s : State} (h : Keeps a0 s) (n : Ch) (f : MrFrame) (rx : TimeVal) (rssi ppm : Int) :
    Keeps a0 (State.mrAccept s n f rx rssi ppm) := by
  unfold State.mrAccept
  with_reducible (repeat' first | assumption | apply Keeps.ite | apply keeps_incr | apply keeps_count | apply keeps_mrSearch | apply keeps_modMr | apply keeps_mrBeacon | apply keeps_mrEchoReq | apply keeps_mrEchoRsp | apply keeps_relay | apply keeps_irq | apply keeps_chWake | split | intro _)

theorem keeps_doPayloadDecoded {a0 s : State} (h : Keeps a0 s) (n : Ch) (p : MrPayload) :
    Keeps a0 (doPayloadDecoded n p s) := by
  unfold doPayloadDecoded
  with_reducible (repeat' first | assumption | apply Keeps.ite | apply keeps_mrAccept | apply keeps_mrRxErr | split | intro _)

theorem keeps_doFarLost {a0 s : State} (h : Keeps a0 s) (n : Ch) :
    Keeps a0 (doFarLost n s) := by
  unfold doFarLost
  with_reducible (repeat' first | assumption | apply Keeps.ite | apply keeps_raise | apply keeps_irq | apply Keeps.set | apply keeps_setSat | split | intro _)

theorem keeps_doDupExpire {a0 s : State} (h : Keeps a0 s) (k : Nat) :
    Keeps a0 (doDupExpire k s) := by
  unfold doDupExpire
  with_reducible (repeat' first | assumption | apply Keeps.ite | apply Keeps.modDev | exact fun d => ⟨rfl, rfl, rfl, rfl⟩ | split | intro _)

theorem keeps_relayWord {a0 s : State} (h : Keeps a0 s) (n : Ch) (f : Field) (e : Nat) (data : Word) :
    Keeps a0 (State.relayWord s n f e data) := by
  unfold State.relayWord
  with_reducible (repeat' first | assumption | apply Keeps.ite | apply keeps_mrInject | apply Keeps.set | apply keeps_modMr | split | intro _)

theorem keeps_writeRelayW1 {a0 s : State} (h : Keeps a0 s) (n : Ch) (e : Nat) (data : Word) :
    Keeps a0 (State.writeRelayW1 s n e data) := by
  unfold State.writeRelayW1
  with_reducible (repeat' first | assumption | apply Keeps.ite | apply keeps_relayWord | split | intro _)

theorem keeps_writeRelayW0 {a0 s : State} (h : Keeps a0 s) (n : Ch) (e : Nat) (data : Word) :
    Keeps a0 (State.writeRelayW0 s n e data) := by
  unfold State.writeRelayW0
  with_reducible (repeat' first | assumption | apply Keeps.ite | apply keeps_modMr | apply keeps_relayWord | apply keeps_relay | split | intro _)

theorem keeps_mrDrop {a0 s : State} (h : Keeps a0 s) (n : Ch) (w : MrWord) :
    Keeps a0 (State.mrDrop s n w) := by
  unfold State.mrDrop
  with_reducible (repeat' first | assumption | apply Keeps.ite | apply keeps_modMr | apply keeps_incr | apply keeps_mrStatus | split | intro _)

theorem keeps_relayLose {a0 s : State} (h : Keeps a0 s) (n : Ch) (w : RelayWord) :
    Keeps a0 (State.relayLose s n w) := by
  unfold State.relayLose
  with_reducible (repeat' first | assumption | apply Keeps.ite | apply keeps_modMr | apply Keeps.modDev | exact fun d => ⟨rfl, rfl, rfl, rfl⟩ | split | intro _)

theorem keeps_mrParity {a0 s : State} (h : Keeps a0 s) (n : Ch) :
    Keeps a0 (State.mrParity s n) := by
  unfold State.mrParity
  with_reducible (repeat' first | assumption | apply Keeps.ite | apply keeps_levels | split | intro _)

/-! ## Tally -/

theorem keeps_tallyCount {a0 s : State} (h : Keeps a0 s) (n : Ch) (c : Nat) (k : Nat) :
    Keeps a0 (State.tallyCount s n c k) := by
  unfold State.tallyCount
  with_reducible (repeat' first | assumption | apply Keeps.ite | apply keeps_add64 | split | intro _)

theorem keeps_tallyUe {a0 s : State} (h : Keeps a0 s) (n : Ch) :
    Keeps a0 (State.tallyUe s n) := by
  unfold State.tallyUe
  with_reducible (repeat' first | assumption | apply Keeps.ite | apply keeps_raise | apply keeps_tallyCount | split | intro _)

theorem keeps_countSpan {a0 s : State} (h : Keeps a0 s) (m cls w k : Nat) (x0 : Nat) :
    Keeps a0 (State.countSpan s m cls w k x0) := by
  fun_induction State.countSpan s m cls w k x0 <;>
    with_reducible (repeat' first | assumption | apply Keeps.ite | apply keeps_countMem | apply_assumption | split | intro _)

theorem keeps_tallyZero {a0 s : State} (h : Keeps a0 s) (m w k : Nat) :
    Keeps a0 (State.tallyZero s m w k) := by
  unfold State.tallyZero
  with_reducible (repeat' first | assumption | apply Keeps.ite | apply keeps_countSpan | apply keeps_memZero | split | intro _)

theorem keeps_sweepTo {a0 s : State} (h : Keeps a0 s) (n : Ch) (p : Nat) :
    Keeps a0 (State.sweepTo s n p) := by
  unfold State.sweepTo
  with_reducible (repeat' first | assumption | apply Keeps.ite | apply keeps_tallyZero | apply Keeps.set | split | intro _)

theorem keeps_sketchAdd {a0 s : State} (h : Keeps a0 s) (n : Ch) (r e : Nat) :
    Keeps a0 (State.sketchAdd s n r e).2 := by
  unfold State.sketchAdd
  with_reducible (repeat' first | assumption | apply Keeps.ite | apply keeps_tallyCount | apply keeps_memRead | apply keeps_tallyUe | apply keeps_memWrite | split | intro _)

theorem keeps_sketchRows {a0 s : State} (h : Keeps a0 s) (n : Ch) (t key : Nat) (x0 : Nat) :
    Keeps a0 (State.sketchRows s n t key x0).2 := by
  fun_induction State.sketchRows s n t key x0 <;>
    with_reducible (repeat' first | assumption | apply Keeps.ite | apply keeps_sketchAdd | apply_assumption | split | intro _)

theorem keeps_sketchLook {a0 s : State} (h : Keeps a0 s) (n : Ch) (t key : Nat) (x0 : Nat) :
    Keeps a0 (State.sketchLook s n t key x0).2 := by
  fun_induction State.sketchLook s n t key x0 <;>
    with_reducible (repeat' first | assumption | apply Keeps.ite | apply keeps_memRead | apply keeps_tallyUe | apply_assumption | split | intro _)

theorem keeps_ctxWrite {a0 s : State} (h : Keeps a0 s) (n : Ch) (i v : Nat) :
    Keeps a0 (State.ctxWrite s n i v) := by
  unfold State.ctxWrite
  with_reducible (repeat' first | assumption | apply Keeps.ite | apply keeps_memWrites | split | intro _)

theorem keeps_ctxWords {a0 s : State} (h : Keeps a0 s) (n : Ch) (i : Nat) (bus : Bool) (x0 : Nat) :
    Keeps a0 (State.ctxWords s n i bus x0).2 := by
  induction x0 with
  | zero => exact h
  | succ k ih =>
    unfold State.ctxWords
    extract_lets a m x
    have ka : Keeps a0 a.2 := ih
    clear_value a
    have kx : Keeps a0 x.2 := by
      unfold x
      split
      · exact keeps_busRead ka ..
      · exact keeps_memRead ka ..
    clear_value x
    split <;> exact kx

theorem keeps_ctxRead {a0 s : State} (h : Keeps a0 s) (n : Ch) (i : Nat) (bus : Bool) :
    Keeps a0 (State.ctxRead s n i bus).2 := by
  unfold State.ctxRead
  extract_lets x s1 s2
  with_reducible (repeat' first | assumption | apply Keeps.ite | apply keeps_ctxWords | apply keeps_tallyUe | apply Keeps.set | apply keeps_ctxWrite | split | intro _)

theorem keeps_ctxSet {a0 s : State} (h : Keeps a0 s) (n : Ch) (set : Nat) (x0 : Nat) :
    Keeps a0 (State.ctxSet s n set x0).2 := by
  fun_induction State.ctxSet s n set x0 <;>
    with_reducible (repeat' first | assumption | apply Keeps.ite | apply Keeps.set | apply keeps_ctxRead | apply_assumption | split | intro _)

theorem keeps_tallyPromote {a0 s : State} (h : Keeps a0 s) (n : Ch) (t key len set : Nat) (ways : List Nat) :
    Keeps a0 (State.tallyPromote s n t key len set ways) := by
  unfold State.tallyPromote
  with_reducible (repeat' first | assumption | apply Keeps.ite | apply keeps_ctxWrite | apply Keeps.set | apply keeps_tallyCount | apply keeps_incr | apply keeps_count | apply keeps_irq | split | intro _)

theorem keeps_frameFcs {a0 s : State} (h : Keeps a0 s) (n : Ch) (t : Nat) (key : Option Nat) :
    Keeps a0 (State.frameFcs s n t key) := by
  unfold State.frameFcs
  extract_lets s1
  have k1 : Keeps a0 s1 := keeps_tallyCount h ..
  clear_value s1
  split
  · exact k1
  · extract_lets set r
    have kr : Keeps a0 r.2 := keeps_ctxSet k1 ..
    clear_value r set
    split
    · exact keeps_ctxWrite kr ..
    · exact kr

theorem keeps_frameGood {a0 s : State} (h : Keeps a0 s) (n : Ch) (t key len : Nat) :
    Keeps a0 (State.frameGood s n t key len) := by
  unfold State.frameGood
  extract_lets s1 e set r
  with_reducible (repeat' first | assumption | apply Keeps.ite | apply keeps_count | apply keeps_sketchRows | apply Keeps.set | apply keeps_ctxSet | apply keeps_ctxWrite | apply keeps_tallyCount | apply keeps_tallyPromote | split | intro _)

theorem keeps_doTallyFrame {a0 s : State} (h : Keeps a0 s) (n : Ch) (f : TallyFrame) :
    Keeps a0 (doTallyFrame n f s) := by
  unfold doTallyFrame
  with_reducible (repeat' first | assumption | apply Keeps.ite | apply keeps_sweepTo | apply keeps_tallyCount | apply keeps_count | apply keeps_frameFcs | apply keeps_frameGood | split | intro _)

theorem keeps_doEpochBoundary {a0 s : State} (h : Keeps a0 s) (n : Ch) :
    Keeps a0 (doEpochBoundary n s) := by
  unfold doEpochBoundary
  with_reducible (repeat' first | assumption | apply Keeps.ite | apply keeps_incr | apply keeps_irq | apply keeps_sweepStart | split | intro _)

theorem keeps_doSweepDone {a0 s : State} (h : Keeps a0 s) (n : Ch) :
    Keeps a0 (doSweepDone n s) := by
  unfold doSweepDone
  with_reducible (repeat' first | assumption | apply Keeps.ite | apply keeps_sweepTo | apply Keeps.set | apply keeps_irq | split | intro _)

theorem keeps_spillStat {a0 s : State} (h : Keeps a0 s) (n : Ch) :
    Keeps a0 (State.spillStat s n) := by
  unfold State.spillStat
  with_reducible (repeat' first | assumption | apply Keeps.ite | apply Keeps.set | split | intro _)

theorem keeps_tallyPuts {a0 s : State} (h : Keeps a0 s) (m w : Nat) (x0 : List Nat) :
    Keeps a0 (State.tallyPuts s m w x0) := by
  fun_induction State.tallyPuts s m w x0 <;>
    with_reducible (repeat' first | assumption | apply Keeps.ite | apply keeps_busWrite | apply_assumption | split | intro _)

theorem keeps_spill {a0 s : State} (h : Keeps a0 s) (n : Ch) (i v reason : Nat) :
    Keeps a0 (State.spill s n i v reason) := by
  unfold State.spill
  with_reducible (repeat' first | assumption | apply Keeps.ite | apply keeps_tallyPuts | apply keeps_tallyCount | apply Keeps.set | apply keeps_modTally | apply keeps_spillStat | apply keeps_count | apply keeps_irq | apply keeps_raise | split | intro _)

theorem keeps_scanOne {a0 s : State} (h : Keeps a0 s) (n : Ch) (i : Nat) :
    Keeps a0 (State.scanOne s n i) := by
  unfold State.scanOne
  with_reducible (repeat' first | assumption | apply Keeps.ite | apply keeps_ctxRead | apply keeps_tallyCount | apply keeps_spill | split | intro _)

theorem keeps_scanFrom {a0 s : State} (h : Keeps a0 s) (n : Ch) (i : Nat) (x0 : Nat) :
    Keeps a0 (State.scanFrom s n i x0) := by
  fun_induction State.scanFrom s n i x0 <;>
    with_reducible (repeat' first | assumption | apply Keeps.ite | apply keeps_scanOne | apply_assumption | split | intro _)

theorem keeps_doScanPass {a0 s : State} (h : Keeps a0 s) (n : Ch) :
    Keeps a0 (doScanPass n s) := by
  unfold doScanPass
  with_reducible (repeat' first | assumption | apply Keeps.ite | apply keeps_scanFrom | split | intro _)

theorem keeps_flushRun {a0 s : State} (h : Keeps a0 s) (n : Ch) (x0 : Nat) :
    Keeps a0 (State.flushRun s n x0) := by
  fun_induction State.flushRun s n x0 <;>
    with_reducible (repeat' first | assumption | apply Keeps.ite | apply keeps_ctxRead | apply keeps_spill | apply keeps_modTally | apply_assumption | split | intro _)

theorem keeps_tallyFlush {a0 s : State} (h : Keeps a0 s) (n : Ch) :
    Keeps a0 (State.tallyFlush s n) := by
  unfold State.tallyFlush
  with_reducible (repeat' first | assumption | apply Keeps.ite | apply keeps_irq | apply Keeps.set | apply keeps_modTally | apply keeps_flushRun | split | intro _)

theorem keeps_doFlushDone {a0 s : State} (h : Keeps a0 s) (n : Ch) :
    Keeps a0 (doFlushDone n s) := by
  unfold doFlushDone
  with_reducible (repeat' first | assumption | apply Keeps.ite | apply keeps_flushRun | apply Keeps.set | apply keeps_irq | apply keeps_levels | split | intro _)

theorem keeps_writeSpillRd {a0 s : State} (h : Keeps a0 s) (n : Ch) (rd : Nat) :
    Keeps a0 (State.writeSpillRd s n rd) := by
  unfold State.writeSpillRd
  with_reducible (repeat' first | assumption | apply Keeps.ite | apply keeps_irq | apply Keeps.set | apply keeps_spillStat | apply keeps_flushRun | split | intro _)

theorem keeps_tallySnap {a0 s : State} (h : Keeps a0 s) (n : Ch) :
    Keeps a0 (State.tallySnap s n) := by
  unfold State.tallySnap
  with_reducible (repeat' first | assumption | apply Keeps.ite | apply keeps_irq | apply keeps_ctxRead | apply Keeps.set | split | intro _)

theorem keeps_tallyQuery {a0 s : State} (h : Keeps a0 s) (n : Ch) :
    Keeps a0 (State.tallyQuery s n) := by
  unfold State.tallyQuery
  with_reducible (repeat' first | assumption | apply Keeps.ite | apply keeps_irq | apply keeps_sketchLook | apply Keeps.set | apply keeps_ctxSet | apply Keeps.draw | split | intro _)

theorem keeps_tallyInit {a0 s : State} (h : Keeps a0 s) (n : Ch) :
    Keeps a0 (State.tallyInit s n) := by
  unfold State.tallyInit
  with_reducible (repeat' first | assumption | apply Keeps.ite | apply keeps_tallyInitStart | apply keeps_levels | apply keeps_irq | split | intro _)

theorem keeps_writeTallyEn {a0 s : State} (h : Keeps a0 s) (n : Ch) (v : Nat) :
    Keeps a0 (State.writeTallyEn s n v) := by
  unfold State.writeTallyEn
  with_reducible (repeat' first | assumption | apply Keeps.ite | apply Keeps.set | apply keeps_tallyInitStart | apply keeps_levels | split | intro _)

theorem keeps_doInitDone {a0 s : State} (h : Keeps a0 s) (n : Ch) :
    Keeps a0 (doInitDone n s) := by
  unfold doInitDone
  with_reducible (repeat' first | assumption | apply Keeps.ite | apply keeps_tallyZero | apply Keeps.set | apply keeps_spillStat | apply keeps_modTally | apply keeps_irq | apply keeps_levels | split | intro _)

theorem keeps_tallyClear {a0 s : State} (h : Keeps a0 s) (n : Ch) :
    Keeps a0 (State.tallyClear s n) := by
  unfold State.tallyClear
  with_reducible (repeat' first | assumption | apply Keeps.ite | apply Keeps.mapRegs | split | intro _)

theorem keeps_tallyParity {a0 s : State} (h : Keeps a0 s) (n : Ch) :
    Keeps a0 (State.tallyParity s n) := by
  unfold State.tallyParity
  with_reducible (repeat' first | assumption | apply Keeps.ite | apply Keeps.set | split | intro _)

/-! ## Cnt -/

theorem keeps_wrapAny {a0 s : State} (h : Keeps a0 s) (x : Scope) :
    Keeps a0 (State.wrapAny s x) := by
  unfold State.wrapAny
  with_reducible (repeat' first | assumption | apply Keeps.ite | apply Keeps.set | split | intro _)

theorem keeps_selMended {a0 s : State} (h : Keeps a0 s) (x : Scope) (c : Nat) :
    Keeps a0 (State.selMended s x c) := by
  unfold State.selMended
  with_reducible (repeat' first | assumption | apply Keeps.ite | apply Keeps.modDev | exact fun d => ⟨rfl, rfl, rfl, rfl⟩ | split | intro _)

theorem keeps_writeSelector {a0 s : State} (h : Keeps a0 s) (x : Scope) (c : Nat) (range : Bool) (data : Word) :
    Keeps a0 (State.writeSelector s x c range data) := by
  unfold State.writeSelector
  with_reducible (repeat' first | assumption | apply Keeps.ite | apply Keeps.set | apply keeps_selMended | apply keeps_modHop | apply keeps_set64 | apply keeps_wrapAny | split | intro _)

theorem keeps_presetCounter {a0 s : State} (h : Keeps a0 s) (x : Scope) (c : Nat) (hi : Bool) (data : Word) :
    Keeps a0 (State.presetCounter s x c hi data) := by
  unfold State.presetCounter
  with_reducible (repeat' first | assumption | apply Keeps.ite | apply Keeps.set | split | intro _)

theorem keeps_selParity {a0 s : State} (h : Keeps a0 s) (x : Scope) (c : Nat) (note : FaultNote) :
    Keeps a0 (State.selParity s x c note) := by
  unfold State.selParity
  with_reducible (repeat' first | assumption | apply Keeps.ite | apply keeps_raise | apply Keeps.modDev | exact fun d => ⟨rfl, rfl, rfl, rfl⟩ | split | intro _)

theorem keeps_latchRead {a0 s : State} (h : Keeps a0 s) (req addr : Nat) (hi flags : Word) :
    Keeps a0 (State.latchRead s req addr hi flags) := by
  unfold State.latchRead
  with_reducible (repeat' first | assumption | apply Keeps.ite | apply Keeps.modDev | exact fun d => ⟨rfl, rfl, rfl, rfl⟩ | split | intro _)

theorem keeps_elapseCh {a0 s : State} (h : Keeps a0 s) (n : Ch) (k us ms : Nat) :
    Keeps a0 (State.elapseCh s n k us ms) := by
  unfold State.elapseCh
  with_reducible (repeat' first | assumption | apply Keeps.ite | apply keeps_count | apply keeps_modHop | apply keeps_incr | apply keeps_sat | split | intro _)

theorem keeps_elapseChs {a0 s : State} (h : Keeps a0 s) (k us ms : Nat) (x0 : List Ch) :
    Keeps a0 (State.elapseChs s k us ms x0) := by
  fun_induction State.elapseChs s k us ms x0 <;>
    with_reducible (repeat' first | assumption | apply Keeps.ite | apply keeps_elapseCh | apply_assumption | split | intro _)

theorem keeps_elapseAbove {a0 s : State} (h : Keeps a0 s) (ms : Nat) :
    Keeps a0 (State.elapseAbove s ms) := by
  unfold State.elapseAbove
  with_reducible (repeat' first | assumption | apply Keeps.ite | apply keeps_sat | apply Keeps.modDev | exact fun d => ⟨rfl, rfl, rfl, rfl⟩ | split | intro _)

theorem keeps_elapseBlock {a0 s : State} (h : Keeps a0 s) (k : Nat) :
    Keeps a0 (State.elapseBlock s k) := by
  unfold State.elapseBlock
  with_reducible (repeat' first | assumption | apply Keeps.ite | apply keeps_sat | apply Keeps.modDev | exact fun d => ⟨rfl, rfl, rfl, rfl⟩ | split | intro _)

theorem keeps_elapseWdog {a0 s : State} (h : Keeps a0 s) (k ms : Nat) :
    Keeps a0 (State.elapseWdog s k ms) := by
  unfold State.elapseWdog
  with_reducible (repeat' first | assumption | apply Keeps.ite | apply Keeps.draw | apply Keeps.modDev | exact fun d => ⟨rfl, rfl, rfl, rfl⟩ | split | intro _)

theorem keeps_elapse {a0 s0 : State} (h : Keeps a0 s0) (k : Nat) :
    Keeps a0 (State.elapse s0 k) := by
  unfold State.elapse
  with_reducible (repeat' first | assumption | apply Keeps.ite | apply keeps_elapseChs | apply keeps_dcount | apply keeps_elapseBlock | apply keeps_elapseWdog | apply Keeps.set | apply keeps_elapseAbove | apply Keeps.modDev | exact fun d => ⟨rfl, rfl, rfl, rfl⟩ | split | intro _)

theorem keeps_doSecondRollover {a0 s : State} (h : Keeps a0 s) :
    Keeps a0 (doSecondRollover s) := by
  unfold doSecondRollover
  with_reducible (repeat' first | assumption | apply Keeps.ite | apply keeps_elapse | split | intro _)

theorem keeps_doPpsOutPulseEnd {a0 s : State} (h : Keeps a0 s) :
    Keeps a0 (doPpsOutPulseEnd s) := by
  unfold doPpsOutPulseEnd
  with_reducible (repeat' first | assumption | apply Keeps.ite | apply Keeps.modDev | exact fun d => ⟨rfl, rfl, rfl, rfl⟩ | split | intro _)

theorem keeps_hopStepped {a0 s : State} (h : Keeps a0 s) (x0 : List Ch) :
    Keeps a0 (State.hopStepped s x0) := by
  fun_induction State.hopStepped s x0 <;>
    with_reducible (repeat' first | assumption | apply Keeps.ite | apply keeps_modHop | apply_assumption | split | intro _)

theorem keeps_timeStepped {a0 s : State} (h : Keeps a0 s) :
    Keeps a0 (State.timeStepped s) := by
  unfold State.timeStepped
  with_reducible (repeat' first | assumption | apply Keeps.ite | apply keeps_dirq | apply keeps_hopStepped | split | intro _)

theorem keeps_timeSet {a0 s : State} (h : Keeps a0 s) :
    Keeps a0 (State.timeSet s) := by
  unfold State.timeSet
  with_reducible (repeat' first | assumption | apply Keeps.ite | apply keeps_dset | apply keeps_timeStepped | apply Keeps.modDev | exact fun d => ⟨rfl, rfl, rfl, rfl⟩ | split | intro _)

theorem keeps_timeAdjust {a0 s : State} (h : Keeps a0 s) :
    Keeps a0 (State.timeAdjust s) := by
  have hs : ∀ t' : TimeVal, Keeps a0 ((s.modDev fun d => { d with time := t', timeAcc := 0 }).dset TIME.STATUS_VALID 0) :=
    fun t' => keeps_dset (Keeps.modDev h (fun d => { d with time := t', timeAcc := 0 }) fun _ => ⟨rfl, rfl, rfl, rfl⟩) ..
  unfold State.timeAdjust
  split
  · exact h
  · extract_lets t v top stop s1
    refine keeps_timeStepped (s := s1) ?_
    unfold s1
    with_reducible (repeat' first | exact hs _ | assumption | apply Keeps.ite | apply keeps_dset | apply keeps_timeStepped | apply Keeps.modDev | exact fun d => ⟨rfl, rfl, rfl, rfl⟩ | split | intro _)

theorem keeps_setTime {a0 s : State} (h : Keeps a0 s) (f : Field) (t : TimeVal) :
    Keeps a0 (State.setTime s f t) := by
  unfold State.setTime
  with_reducible (repeat' first | assumption | apply Keeps.ite | apply Keeps.set | split | intro _)

theorem keeps_ppsAlign {a0 s : State} (h : Keeps a0 s) (err : Int) :
    Keeps a0 (State.ppsAlign s err) := by
  unfold State.ppsAlign
  with_reducible (repeat' first | assumption | apply Keeps.ite | apply keeps_dset | apply Keeps.modDev | exact fun d => ⟨rfl, rfl, rfl, rfl⟩ | split | intro _)

theorem keeps_ppsWake {a0 s : State} (h : Keeps a0 s) (x0 : List Ch) :
    Keeps a0 (State.ppsWake s x0) := by
  fun_induction State.ppsWake s x0 <;>
    with_reducible (repeat' first | assumption | apply Keeps.ite | apply keeps_chWake | apply_assumption | split | intro _)

theorem keeps_doPpsEdge {a0 s : State} (h : Keeps a0 s) (after : Nat) :
    Keeps a0 (doPpsEdge after s) := by
  unfold doPpsEdge
  with_reducible (repeat' first | assumption | apply Keeps.ite | apply keeps_elapse | apply keeps_sat | apply keeps_dirq | apply keeps_draise | apply keeps_setTime | apply keeps_setI | apply keeps_incr | apply keeps_dset | apply keeps_ppsAlign | apply keeps_timeStepped | apply keeps_ppsWake | apply keeps_devWake | apply Keeps.modDev | exact fun d => ⟨rfl, rfl, rfl, rfl⟩ | split | intro _)

theorem keeps_doPpsLoss {a0 s : State} (h : Keeps a0 s) :
    Keeps a0 (doPpsLoss s) := by
  unfold doPpsLoss
  with_reducible (repeat' first | assumption | apply Keeps.ite | apply keeps_draise | apply keeps_dirq | apply keeps_sat | apply keeps_dset | apply Keeps.modDev | exact fun d => ⟨rfl, rfl, rfl, rfl⟩ | split | intro _)

theorem keeps_timeParity {a0 s : State} (h : Keeps a0 s) :
    Keeps a0 (State.timeParity s) := by
  unfold State.timeParity
  with_reducible (repeat' first | assumption | apply Keeps.ite | apply keeps_dset | split | intro _)

/-! ## Wright -/

theorem keeps_modWright {a0 s : State} (h : Keeps a0 s) (n : Ch) (f : WrightSt → WrightSt) :
    Keeps a0 (State.modWright s n f) := by
  unfold State.modWright
  with_reducible (repeat' first | assumption | apply Keeps.ite | apply Keeps.modCh | split | intro _)

theorem keeps_wrightStart {a0 s : State} (h : Keeps a0 s) (n : Ch) (cause : Nat) :
    Keeps a0 (State.wrightStart s n cause) := by
  unfold State.wrightStart
  with_reducible (repeat' first | assumption | apply Keeps.ite | apply Keeps.set | apply keeps_incr | apply keeps_irq | apply keeps_boxResets | apply keeps_modWright | split | intro _)

theorem keeps_wrightCut {a0 s : State} (h : Keeps a0 s) (n : Ch) :
    Keeps a0 (State.wrightCut s n) := by
  unfold State.wrightCut
  with_reducible (repeat' first | assumption | apply Keeps.ite | apply keeps_fwWrightLost | apply keeps_modPath | split | intro _)

theorem keeps_wrightRestart {a0 s : State} (h : Keeps a0 s) (n : Ch) (cause : Nat) :
    Keeps a0 (State.wrightRestart s n cause) := by
  unfold State.wrightRestart
  with_reducible (repeat' first | assumption | apply Keeps.ite | apply keeps_raise | apply keeps_sat | apply Keeps.set | apply keeps_modWright | apply keeps_wrightCut | split | intro _)

theorem keeps_doWrightWatchdog {a0 s : State} (h : Keeps a0 s) (n : Ch) (after : Nat) :
    Keeps a0 (doWrightWatchdog n after s) := by
  unfold doWrightWatchdog
  with_reducible (repeat' first | assumption | apply Keeps.ite | apply keeps_elapse | apply keeps_wrightRestart | split | intro _)

theorem keeps_doWrightTrap {a0 s : State} (h : Keeps a0 s) (n : Ch) (c : TrapCause) (after : Nat) :
    Keeps a0 (doWrightTrap n c after s) := by
  unfold doWrightTrap
  with_reducible (repeat' first | assumption | apply Keeps.ite | apply keeps_elapse | apply keeps_wrightRestart | split | intro _)

theorem keeps_doWrightRestart {a0 s : State} (h : Keeps a0 s) (n : Ch) :
    Keeps a0 (doWrightRestart n s) := by
  unfold doWrightRestart
  with_reducible (repeat' first | assumption | apply Keeps.ite | apply keeps_wrightStart | split | intro _)

theorem keeps_wrightLoad {a0 s : State} (h : Keeps a0 s) (n : Ch) (cause : Nat) :
    Keeps a0 (State.wrightLoad s n cause) := by
  unfold State.wrightLoad
  with_reducible (repeat' first | assumption | apply Keeps.ite | apply Keeps.set | apply keeps_modWright | apply keeps_wrightCut | split | intro _)

theorem keeps_millerWrites {a0 s : State} (h : Keeps a0 s) (m w : Nat) (x0 : List DWord) :
    Keeps a0 (State.millerWrites s m w x0) := by
  fun_induction State.millerWrites s m w x0 <;>
    with_reducible (repeat' first | assumption | apply Keeps.ite | apply keeps_busWrite | apply_assumption | split | intro _)

theorem keeps_wrightHold {a0 s : State} (h : Keeps a0 s) (n : Ch) :
    Keeps a0 (State.wrightHold s n) := by
  unfold State.wrightHold
  with_reducible (repeat' first | assumption | apply Keeps.ite | apply keeps_wrightCut | apply keeps_modWright | split | intro _)

theorem keeps_doWrightImageCopyDone {a0 s : State} (h : Keeps a0 s) (n : Ch) (image : List DWord) :
    Keeps a0 (doWrightImageCopyDone n image s) := by
  unfold doWrightImageCopyDone
  with_reducible (repeat' first | assumption | apply Keeps.ite | apply keeps_millerWrites | apply keeps_wrightStart | apply keeps_levels | split | intro _)

/-! ## Trial -/

theorem keeps_forgetPage {a0 s : State} (h : Keeps a0 s) (base : Nat) :
    Keeps a0 (State.forgetPage s base) := by
  unfold State.forgetPage
  with_reducible (repeat' first | assumption | apply Keeps.ite | apply Keeps.modDev | exact fun d => ⟨rfl, rfl, rfl, rfl⟩ | split | intro _)

theorem keeps_scanReset {a0 s : State} (h : Keeps a0 s) (n : Ch) (x0 : List Nat) :
    Keeps a0 (State.scanReset s n x0) := by
  induction x0 generalizing s with
  | nil => exact h
  | cons k ks ih =>
    refine ih (Keeps.modCh (Keeps.foldl (fun t p ht => ?_) _ h) ..)
    with_reducible (repeat' first | assumption | apply Keeps.ite | apply keeps_wakePage | apply keeps_forgetPage | apply Keeps.modCh | split | intro _)

theorem keeps_scramble {a0 s : State} (h : Keeps a0 s) (x0 : List Nat) :
    Keeps a0 (State.scramble s x0) := by
  fun_induction State.scramble s x0 <;>
    with_reducible (repeat' first | assumption | apply Keeps.ite | apply Keeps.setWord | apply Keeps.draw | apply_assumption | split | intro _)

theorem keeps_scanTorn {a0 s : State} (h : Keeps a0 s) (n : Ch) (x0 : List Nat) :
    Keeps a0 (State.scanTorn s n x0) := by
  induction x0 generalizing s with
  | nil => exact h
  | cons k ks ih =>
    refine ih (Keeps.modCh (Keeps.foldl (fun t p ht => ?_) _ h) ..)
    with_reducible (repeat' first | assumption | apply Keeps.ite | apply keeps_scramble | apply keeps_forgetPage | apply Keeps.modCh | split | intro _)

theorem keeps_modTrial {a0 s : State} (h : Keeps a0 s) (n : Ch) (f : TrialSt → TrialSt) :
    Keeps a0 (State.modTrial s n f) := by
  unfold State.modTrial
  with_reducible (repeat' first | assumption | apply Keeps.ite | apply Keeps.modCh | split | intro _)

theorem keeps_trialBegin {a0 s : State} (h : Keeps a0 s) (n : Ch) (mask count : Nat) :
    Keeps a0 (State.trialBegin s n mask count) := by
  unfold State.trialBegin
  with_reducible (repeat' first | assumption | apply Keeps.ite | apply keeps_modTrial | apply keeps_count | apply Keeps.set | apply keeps_safeUpdate | apply keeps_scrubAbort | apply keeps_marchStop | apply keeps_levels | split | intro _)

theorem keeps_trialGo {a0 s : State} (h : Keeps a0 s) (n : Ch) :
    Keeps a0 (State.trialGo s n) := by
  unfold State.trialGo
  with_reducible (repeat' first | assumption | apply Keeps.ite | apply keeps_trialBegin | apply Keeps.set | apply keeps_irq | split | intro _)

theorem keeps_trialRestore {a0 s : State} (h : Keeps a0 s) (n : Ch) :
    Keeps a0 (State.trialRestore s n) := by
  unfold State.trialRestore
  with_reducible (repeat' first | assumption | apply Keeps.ite | apply Keeps.set | apply keeps_wrightLoad | split | intro _)

theorem keeps_trialNext {a0 s : State} (h : Keeps a0 s) (n : Ch) :
    Keeps a0 (State.trialNext s n) := by
  unfold State.trialNext
  with_reducible (repeat' first | assumption | apply Keeps.ite | apply keeps_trialRestore | apply Keeps.set | apply keeps_modTrial | split | intro _)

theorem keeps_toStandby {a0 s : State} (h : Keeps a0 s) (n : Ch) :
    Keeps a0 (State.toStandby s n) := by
  unfold State.toStandby
  with_reducible (repeat' first | assumption | apply Keeps.ite | apply keeps_pathEnd | apply keeps_pwrReach | apply keeps_pwrLevels | split | intro _)

theorem keeps_allBegin {a0 s : State} (h : Keeps a0 s) (n : Ch) :
    Keeps a0 (State.allBegin s n) := by
  unfold State.allBegin
  with_reducible (repeat' first | assumption | apply Keeps.ite | apply keeps_pathStart | apply keeps_trialBegin | split | intro _)

theorem keeps_allBegins {a0 s : State} (h : Keeps a0 s) (x0 : List Ch) :
    Keeps a0 (State.allBegins s x0) := by
  fun_induction State.allBegins s x0 <;>
    with_reducible (repeat' first | assumption | apply Keeps.ite | apply keeps_allBegin | apply_assumption | split | intro _)

theorem keeps_doTrialSlicesStart {a0 s : State} (h : Keeps a0 s) (n : Ch) :
    Keeps a0 (doTrialSlicesStart n s) := by
  unfold doTrialSlicesStart
  with_reducible (repeat' first | assumption | apply Keeps.ite | apply keeps_allBegin | apply keeps_toStandby | apply Keeps.set | apply keeps_modWright | apply keeps_wrightCut | apply keeps_trialNext | split | intro _)

theorem keeps_marchClose {a0 s : State} (h : Keeps a0 s) (n : Ch) (fails : BitVec 7) :
    Keeps a0 (State.marchClose s n fails) := by
  unfold State.marchClose
  with_reducible (repeat' first | assumption | apply Keeps.ite | apply Keeps.set | apply keeps_poisonCh | apply Keeps.modCh | apply Keeps.modDev | exact fun d => ⟨rfl, rfl, rfl, rfl⟩ | split | intro _)

theorem keeps_sliceResult {a0 s : State} (h : Keeps a0 s) (n : Ch) (k r : Nat) :
    Keeps a0 (State.sliceResult s n k r) := by
  unfold State.sliceResult
  with_reducible (repeat' first | assumption | apply Keeps.ite | apply Keeps.set | apply keeps_modTrial | split | intro _)

theorem keeps_sliceEnd {a0 s : State} (h : Keeps a0 s) (n : Ch) (k : Nat) (early pass : Bool) (fails : BitVec 7) :
    Keeps a0 (State.sliceEnd s n k early pass fails) := by
  unfold State.sliceEnd
  with_reducible (repeat' first | assumption | apply Keeps.ite | apply keeps_marchClose | apply keeps_sliceResult | apply keeps_count | apply Keeps.set | split | intro _)

theorem keeps_trialForward {a0 s : State} (h : Keeps a0 s) (x0 : List LogRec) :
    Keeps a0 (State.trialForward s x0) := by
  fun_induction State.trialForward s x0 <;>
    with_reducible (repeat' first | assumption | apply Keeps.ite | apply keeps_forwardRec | apply_assumption | split | intro _)

theorem keeps_trialFinish {a0 s : State} (h : Keeps a0 s) (n : Ch) (us : Nat) {scan : State → State}
    (hs : ∀ t, Keeps a0 t → Keeps a0 (scan t)) : Keeps a0 (State.trialFinish s n us scan) := by
  unfold State.trialFinish
  extract_lets x s1 s2 s3 s4 s5 s6 s7
  have k1 : Keeps a0 s1 := keeps_dropCleared (hs s h)
  clear_value s1
  have k2 : Keeps a0 s2 := keeps_toStandby ((k1.set ..).set ..) ..
  clear_value s2
  have k3 : Keeps a0 s3 := ((k2.set ..).set ..).set ..
  clear_value s3
  have k5 : Keeps a0 s5 := keeps_irq (keeps_sat (k3.set ..) ..) ..
  clear_value s5
  have k6 : Keeps a0 s6 := Keeps.ite (keeps_raise k5 ..) k5
  clear_value s6
  exact keeps_levels (keeps_safeUpdate (keeps_modTrial (keeps_trialForward k6 ..) ..) ..) ..

theorem keeps_allNote {a0 s : State} (h : Keeps a0 s) (n : Ch) (mine : Bool) :
    Keeps a0 (State.allNote s n mine) := by
  unfold State.allNote
  with_reducible (repeat' first | assumption | apply Keeps.ite | apply keeps_dset | apply Keeps.modDev | exact fun d => ⟨rfl, rfl, rfl, rfl⟩ | split | intro _)

theorem keeps_doTrialRestoreEnd {a0 s : State} (h : Keeps a0 s) (n : Ch) (us : Nat) :
    Keeps a0 (doTrialRestoreEnd n us s) := by
  unfold doTrialRestoreEnd
  split
  · exact h
  · refine keeps_allNote (keeps_trialFinish h _ _ fun t ht => ?_) ..
    have hb : Keeps a0 (t.scanReset n (s.trialSt n).ran) := keeps_scanReset ht ..
    exact Keeps.ite (keeps_dressSeed hb ..) hb

theorem keeps_sliceCut {a0 s : State} (h : Keeps a0 s) (n : Ch) :
    Keeps a0 (State.sliceCut s n) := by
  unfold State.sliceCut
  with_reducible (repeat' first | assumption | apply Keeps.ite | apply keeps_sliceEnd | apply Keeps.draw | split | intro _)

theorem keeps_trialCut {a0 s : State} (h : Keeps a0 s) (n : Ch) :
    Keeps a0 (State.trialCut s n) := by
  unfold State.trialCut
  with_reducible (repeat' first | assumption | apply Keeps.ite | apply keeps_sliceCut | apply keeps_modTrial | apply keeps_trialRestore | split | intro _)

theorem keeps_trialCutAll {a0 s : State} (h : Keeps a0 s) (x0 : List Ch) :
    Keeps a0 (State.trialCutAll s x0) := by
  fun_induction State.trialCutAll s x0 <;>
    with_reducible (repeat' first | assumption | apply Keeps.ite | apply keeps_trialCut | apply_assumption | split | intro _)

theorem keeps_trialKill {a0 s : State} (h : Keeps a0 s) (n : Ch) {scan : State → State}
    (hs : ∀ t, Keeps a0 t → Keeps a0 (scan t)) : Keeps a0 (State.trialKill s n scan) := by
  unfold State.trialKill
  split
  · exact h
  · extract_lets s1 s2
    have k1 : Keeps a0 s1 := keeps_sliceCut h ..
    clear_value s1
    have k2 : Keeps a0 s2 := Keeps.ite k1 (keeps_modWright (k1.set ..) ..)
    clear_value s2
    exact keeps_allNote (keeps_trialFinish k2.draw _ _ hs) ..

theorem keeps_trialClockLost {a0 s : State} (h : Keeps a0 s) (n : Ch) : Keeps a0 (State.trialClockLost s n) :=
  keeps_trialKill h n fun _ ht => keeps_scanReset ht ..

theorem keeps_trialClockLostAll {a0 s : State} (h : Keeps a0 s) (x0 : List Ch) :
    Keeps a0 (State.trialClockLostAll s x0) := by
  fun_induction State.trialClockLostAll s x0 <;>
    with_reducible (repeat' first | assumption | apply Keeps.ite | apply keeps_trialClockLost | apply_assumption | split | intro _)

theorem keeps_trialParity {a0 s : State} (h : Keeps a0 s) (n : Ch) : Keeps a0 (State.trialParity s n) :=
  keeps_trialKill h n fun _ ht => keeps_scanTorn ht ..

theorem keeps_devTrialDone {a0 s : State} (h : Keeps a0 s) (ms : Nat) :
    Keeps a0 (State.devTrialDone s ms) := by
  unfold State.devTrialDone
  with_reducible (repeat' first | assumption | apply Keeps.ite | apply keeps_dset | apply keeps_dirq | split | intro _)

theorem keeps_devSliceEnd {a0 s : State} (h : Keeps a0 s) (pass early : Bool) (ms : Nat) :
    Keeps a0 (State.devSliceEnd s pass early ms) := by
  unfold State.devSliceEnd
  with_reducible (repeat' first | assumption | apply Keeps.ite | apply keeps_draise | apply keeps_dset | apply keeps_devTrialDone | apply Keeps.modDev | exact fun d => ⟨rfl, rfl, rfl, rfl⟩ | split | intro _)

theorem keeps_doTrialSliceEnd {a0 s : State} (h : Keeps a0 s) (x : Scope) (pass : Bool) (fails : BitVec 7) (ms : Nat) :
    Keeps a0 (doTrialSliceEnd x pass fails ms s) := by
  unfold doTrialSliceEnd
  with_reducible (repeat' first | assumption | apply Keeps.ite | apply keeps_sliceEnd | apply keeps_trialNext | apply keeps_devSliceEnd | split | intro _)

theorem keeps_doTrialBudgetExpiry {a0 s : State} (h : Keeps a0 s) (x : Scope) (fails : BitVec 7) (ms : Nat) :
    Keeps a0 (doTrialBudgetExpiry x fails ms s) := by
  unfold doTrialBudgetExpiry
  with_reducible (repeat' first | assumption | apply Keeps.ite | apply keeps_sliceEnd | apply keeps_trialNext | apply keeps_devSliceEnd | split | intro _)

theorem keeps_devTrialGo {a0 s : State} (h : Keeps a0 s) :
    Keeps a0 (State.devTrialGo s) := by
  unfold State.devTrialGo
  extract_lets l s1 s2
  clear_value l
  with_reducible (repeat' first | assumption | apply Keeps.ite | apply keeps_dirq | apply keeps_dset | apply keeps_devTrialDone | apply Keeps.modDev | exact fun d => ⟨rfl, rfl, rfl, rfl⟩ | split | intro _)

/-! ## Pat -/

theorem keeps_writePatCfg {a0 s : State} (h : Keeps a0 s) (n : Ch) (u : Nat) (data : Word) :
    Keeps a0 (State.writePatCfg s n u data) := by
  unfold State.writePatCfg
  with_reducible (repeat' first | assumption | apply Keeps.ite | apply keeps_patDraw | apply Keeps.set | apply keeps_patSet | apply keeps_levels | split | intro _)

theorem keeps_doCheckerLock {a0 s : State} (h : Keeps a0 s) (n : Ch) (c : Fin 3) :
    Keeps a0 (doCheckerLock n c s) := by
  unfold doCheckerLock
  with_reducible (repeat' first | assumption | apply Keeps.ite | apply keeps_patSet | apply keeps_irq | split | intro _)

theorem keeps_doCheckerLockLost {a0 s : State} (h : Keeps a0 s) (n : Ch) (c : Fin 3) (bits errs : Nat) :
    Keeps a0 (doCheckerLockLost n c bits errs s) := by
  unfold doCheckerLockLost
  with_reducible (repeat' first | assumption | apply Keeps.ite | apply keeps_patCount | apply keeps_patSet | apply keeps_irq | apply keeps_sat | split | intro _)

theorem keeps_gateGo {a0 s : State} (h : Keeps a0 s) (n : Ch) (c : Nat) :
    Keeps a0 (State.gateGo s n c) := by
  unfold State.gateGo
  with_reducible (repeat' first | assumption | apply Keeps.ite | apply keeps_set64 | apply Keeps.set | split | intro _)

theorem keeps_doGateOpen {a0 s : State} (h : Keeps a0 s) (n : Ch) (c : Fin 3) :
    Keeps a0 (doGateOpen n c s) := by
  unfold doGateOpen
  with_reducible (repeat' first | assumption | apply Keeps.ite | apply Keeps.set | split | intro _)

theorem keeps_gateClose {a0 s : State} (h : Keeps a0 s) (n : Ch) (c : Nat) :
    Keeps a0 (State.gateClose s n c) := by
  unfold State.gateClose
  with_reducible (repeat' first | assumption | apply Keeps.ite | apply Keeps.set | apply keeps_irq | split | intro _)

theorem keeps_doGateClose {a0 s : State} (h : Keeps a0 s) (n : Ch) (c : Fin 3) (bits errs : Nat) :
    Keeps a0 (doGateClose n c bits errs s) := by
  unfold doGateClose
  with_reducible (repeat' first | assumption | apply Keeps.ite | apply keeps_patCount | apply keeps_gateClose | split | intro _)

theorem keeps_gateStop {a0 s : State} (h : Keeps a0 s) (n : Ch) (c : Nat) :
    Keeps a0 (State.gateStop s n c) := by
  unfold State.gateStop
  with_reducible (repeat' first | assumption | apply Keeps.ite | apply keeps_patDraw | apply keeps_gateClose | split | intro _)

theorem keeps_patClear {a0 s : State} (h : Keeps a0 s) (n : Ch) (c : Nat) :
    Keeps a0 (State.patClear s n c) := by
  unfold State.patClear
  with_reducible (repeat' first | assumption | apply Keeps.ite | apply keeps_set64 | apply Keeps.set | split | intro _)

theorem keeps_errInj {a0 s : State} (h : Keeps a0 s) (n : Ch) (u : Nat) :
    Keeps a0 (State.errInj s n u) := by
  unfold State.errInj
  with_reducible (repeat' first | assumption | apply Keeps.ite | apply keeps_incr | split | intro _)

theorem keeps_patParity {a0 s : State} (h : Keeps a0 s) (n : Ch) :
    Keeps a0 (State.patParity s n) := by
  unfold State.patParity
  exact keeps_levels (Keeps.foldl (fun t u ht => ht.set ..) _ h) ..

theorem keeps_doJtagInstruction {a0 s : State} (h : Keeps a0 s) (i : BitVec 8) :
    Keeps a0 (doJtagInstruction i s) := by
  unfold doJtagInstruction
  with_reducible (repeat' first | assumption | apply Keeps.ite | apply keeps_dset | apply Keeps.modDev | exact fun d => ⟨rfl, rfl, rfl, rfl⟩ | split | intro _)

theorem keeps_doTrstNAssert {a0 s : State} (h : Keeps a0 s) :
    Keeps a0 (doTrstNAssert s) := by
  unfold doTrstNAssert
  with_reducible (repeat' first | assumption | apply Keeps.ite | apply keeps_doJtagInstruction | split | intro _)

/-! ## Sens -/

theorem keeps_takeTemps {a0 s : State} (h : Keeps a0 s) (x0 : List Ch) :
    Keeps a0 (State.takeTemps s x0) := by
  fun_induction State.takeTemps s x0 <;>
    with_reducible (repeat' first | assumption | apply Keeps.ite | apply keeps_dset | apply_assumption | split | intro _)

theorem keeps_tempMax {a0 s : State} (h : Keeps a0 s) (m : Option (Nat × Int)) :
    Keeps a0 (State.tempMax s m) := by
  unfold State.tempMax
  with_reducible (repeat' first | assumption | apply Keeps.ite | apply keeps_dset | apply Keeps.set | apply Keeps.modDev | exact fun d => ⟨rfl, rfl, rfl, rfl⟩ | split | intro _)

theorem keeps_doSensUpdate {a0 s : State} (h : Keeps a0 s) (complex : Option (BitVec 16)) :
    Keeps a0 (doSensUpdate complex s) := by
  unfold doSensUpdate
  with_reducible (repeat' first | assumption | apply Keeps.ite | apply keeps_takeTemps | apply keeps_dset | apply keeps_tempMax | apply keeps_draise | apply keeps_dirq | split | intro _)

theorem keeps_clrPeak {a0 s : State} (h : Keeps a0 s) :
    Keeps a0 (State.clrPeak s) := by
  unfold State.clrPeak
  with_reducible (repeat' first | assumption | apply Keeps.ite | apply keeps_dset | split | intro _)

/-! ## Hop -/

theorem keeps_hopTrigger {a0 s : State} (h : Keeps a0 s) (n : Ch) (bit : Nat) :
    Keeps a0 (State.hopTrigger s n bit) := by
  unfold State.hopTrigger
  with_reducible (repeat' first | assumption | apply Keeps.ite | apply keeps_modHop | split | intro _)

theorem keeps_doHopperBoundary {a0 s : State} (h : Keeps a0 s) (n : Ch) :
    Keeps a0 (doHopperBoundary n s) := by
  unfold doHopperBoundary
  with_reducible (repeat' first | assumption | apply Keeps.ite | apply keeps_sat | apply keeps_modHop | apply keeps_hopTrigger | split | intro _)

theorem keeps_doHopperLatch {a0 s : State} (h : Keeps a0 s) (n : Ch) :
    Keeps a0 (doHopperLatch n s) := by
  unfold doHopperLatch
  with_reducible (repeat' first | assumption | apply Keeps.ite | apply keeps_modHop | apply Keeps.set | apply keeps_busWrite | split | intro _)

theorem keeps_hopPuts {a0 s : State} (h : Keeps a0 s) (m w : Nat) (x0 : List Nat) :
    Keeps a0 (State.hopPuts s m w x0) := by
  fun_induction State.hopPuts s m w x0 <;>
    with_reducible (repeat' first | assumption | apply Keeps.ite | apply keeps_busWrite | apply_assumption | split | intro _)

theorem keeps_hopLevelIrq {a0 s : State} (h : Keeps a0 s) (n : Ch) (was : Nat) :
    Keeps a0 (State.hopLevelIrq s n was) := by
  unfold State.hopLevelIrq
  with_reducible (repeat' first | assumption | apply Keeps.ite | apply keeps_irq | split | intro _)

theorem keeps_doHopperWriteDone {a0 s : State} (h : Keeps a0 s) (n : Ch) :
    Keeps a0 (doHopperWriteDone n s) := by
  unfold doHopperWriteDone
  with_reducible (repeat' first | assumption | apply Keeps.ite | apply keeps_hopPuts | apply Keeps.set | apply keeps_irq | apply keeps_sat | apply keeps_hopLevelIrq | apply keeps_modHop | split | intro _)

theorem keeps_writeHopRd {a0 s : State} (h : Keeps a0 s) (n : Ch) (rd : Nat) :
    Keeps a0 (State.writeHopRd s n rd) := by
  unfold State.writeHopRd
  with_reducible (repeat' first | assumption | apply Keeps.ite | apply keeps_irq | apply Keeps.set | split | intro _)

theorem keeps_writeHopEn {a0 s : State} (h : Keeps a0 s) (n : Ch) (v : Nat) :
    Keeps a0 (State.writeHopEn s n v) := by
  unfold State.writeHopEn
  with_reducible (repeat' first | assumption | apply Keeps.ite | apply Keeps.set | apply keeps_modHop | split | intro _)

theorem keeps_hopParity {a0 s : State} (h : Keeps a0 s) (n : Ch) :
    Keeps a0 (State.hopParity s n) := by
  unfold State.hopParity
  with_reducible (repeat' first | assumption | apply Keeps.ite | apply Keeps.set | apply keeps_modHop | split | intro _)

/-! ## Sluice -/

theorem keeps_setStage {a0 s : State} (h : Keeps a0 s) (v : Nat) :
    Keeps a0 (State.setStage s v) := by
  unfold State.setStage
  with_reducible (repeat' first | assumption | apply Keeps.ite | apply keeps_dset | apply keeps_dirq | split | intro _)

theorem keeps_cmdResult {a0 s : State} (h : Keeps a0 s) (cmd result : Nat) :
    Keeps a0 (State.cmdResult s cmd result) := by
  unfold State.cmdResult
  with_reducible (repeat' first | assumption | apply Keeps.ite | apply keeps_dset | split | intro _)

theorem keeps_busyEnd {a0 s : State} (h : Keeps a0 s) :
    Keeps a0 (State.busyEnd s) := by
  unfold State.busyEnd
  with_reducible (repeat' first | assumption | apply Keeps.ite | apply keeps_dirq | apply Keeps.modDev | exact fun d => ⟨rfl, rfl, rfl, rfl⟩ | split | intro _)

theorem keeps_cmdEnd {a0 s : State} (h : Keeps a0 s) (cmd result : Nat) :
    Keeps a0 (State.cmdEnd s cmd result) := by
  unfold State.cmdEnd
  with_reducible (repeat' first | assumption | apply Keeps.ite | apply keeps_cmdResult | apply keeps_dirq | apply keeps_busyEnd | split | intro _)

theorem keeps_holdCause {a0 s : State} (h : Keeps a0 s) (cause source : Nat) :
    Keeps a0 (State.holdCause s cause source) := by
  unfold State.holdCause
  with_reducible (repeat' first | assumption | apply Keeps.ite | apply keeps_dset | split | intro _)

theorem keeps_enterHolding {a0 s : State} (h : Keeps a0 s) (cause source : Nat) :
    Keeps a0 (State.enterHolding s cause source) := by
  unfold State.enterHolding
  with_reducible (repeat' first | assumption | apply Keeps.ite | apply keeps_holdCause | apply keeps_dirq | apply keeps_setStage | apply keeps_dset | apply keeps_levelsAll | apply Keeps.modDev | exact fun d => ⟨rfl, rfl, rfl, rfl⟩ | split | intro _)

theorem keeps_millerStop {a0 s : State} (h : Keeps a0 s) :
    Keeps a0 (State.millerStop s) := by
  unfold State.millerStop
  with_reducible (repeat' first | assumption | apply Keeps.ite | apply keeps_dset | apply Keeps.modDev | exact fun d => ⟨rfl, rfl, rfl, rfl⟩ | split | intro _)

theorem keeps_allCut {a0 s : State} (h : Keeps a0 s) :
    Keeps a0 (State.allCut s) := by
  have k2 : ∀ (l : List Ch) (t : State), Keeps a0 t → Keeps a0
      (l.foldl (fun a n => (a.dset (DTRIAL.RESULT_CH_RUN.bit n.val) 1).dset (DTRIAL.RESULT_CH_PASS.bit n.val) 0) t) :=
    fun l t ht => Keeps.foldl (fun t n ht => keeps_dset (keeps_dset ht ..) ..) l ht
  unfold State.allCut
  extract_lets ran s1 s2 f s3 s4
  have k1 : Keeps a0 s1 := keeps_trialCutAll h ..
  clear_value s1
  have k2 : Keeps a0 s2 := k2 _ _ k1
  clear_value s2
  have k3 : Keeps a0 s3 := by unfold s3; with_reducible (repeat' first | assumption | apply Keeps.ite | apply keeps_trialCutAll | apply keeps_dset | apply Keeps.modDev | exact fun d => ⟨rfl, rfl, rfl, rfl⟩ | split | intro _)
  clear_value s3
  with_reducible (repeat' first | assumption | apply Keeps.ite | apply keeps_trialCutAll | apply keeps_dset | apply Keeps.modDev | exact fun d => ⟨rfl, rfl, rfl, rfl⟩ | split | intro _)

theorem keeps_pwrShutAll {a0 s : State} (h : Keeps a0 s) (x0 : List Ch) :
    Keeps a0 (State.pwrShutAll s x0) := by
  fun_induction State.pwrShutAll s x0 <;>
    with_reducible (repeat' first | assumption | apply Keeps.ite | apply keeps_pwrShut | apply_assumption | split | intro _)

theorem keeps_shutSluice {a0 s : State} (h : Keeps a0 s) (src : Nat) :
    Keeps a0 (State.shutSluice s src) := by
  unfold State.shutSluice
  with_reducible (repeat' first | assumption | apply Keeps.ite | apply keeps_dset | apply keeps_millerStop | apply keeps_holdCause | apply keeps_enterHolding | apply keeps_pwrShutAll | apply keeps_allCut | apply keeps_cmdEnd | apply keeps_trialCutAll | apply keeps_safeUpdateAll | apply keeps_sluiceSum | apply Keeps.modDev | exact fun d => ⟨rfl, rfl, rfl, rfl⟩ | split | intro _)

theorem keeps_logDrop {a0 s : State} (h : Keeps a0 s) :
    Keeps a0 (State.logDrop s) := by
  unfold State.logDrop
  with_reducible (repeat' first | assumption | apply Keeps.ite | apply keeps_sat | apply keeps_dirq | split | intro _)

theorem keeps_logPush {a0 s : State} (h : Keeps a0 s) (r : LogRec) :
    Keeps a0 (State.logPush s r) := by
  unfold State.logPush
  with_reducible (repeat' first | assumption | apply Keeps.ite | apply keeps_logDrop | apply Keeps.modDev | exact fun d => ⟨rfl, rfl, rfl, rfl⟩ | split | intro _)

theorem keeps_classReact {a0 s : State} (h : Keeps a0 s) (cls src : Nat) :
    Keeps a0 (State.classReact s cls src) := by
  unfold State.classReact
  with_reducible (repeat' first | assumption | apply Keeps.ite | apply keeps_dirq | apply keeps_sat | apply keeps_shutSluice | split | intro _)

theorem keeps_doFaultCollect {a0 s : State} (h : Keeps a0 s) :
    Keeps a0 (doFaultCollect s) := by
  unfold doFaultCollect
  with_reducible (repeat' first | assumption | apply Keeps.ite | apply keeps_logPush | apply keeps_classReact | apply Keeps.modDev | exact fun d => ⟨rfl, rfl, rfl, rfl⟩ | split | intro _)

theorem keeps_logStatus {a0 s : State} (h : Keeps a0 s) :
    Keeps a0 (State.logStatus s) := by
  unfold State.logStatus
  with_reducible (repeat' first | assumption | apply Keeps.ite | apply keeps_dset | split | intro _)

theorem keeps_logLevel {a0 s : State} (h : Keeps a0 s) (was : Nat) :
    Keeps a0 (State.logLevel s was) := by
  unfold State.logLevel
  with_reducible (repeat' first | assumption | apply Keeps.ite | apply keeps_dirq | split | intro _)

theorem keeps_doLogEntryWrite {a0 s : State} (h : Keeps a0 s) :
    Keeps a0 (doLogEntryWrite s) := by
  unfold doLogEntryWrite
  with_reducible (repeat' first | assumption | apply Keeps.ite | apply keeps_logDrop | apply keeps_memWrites | apply keeps_dset | apply keeps_dirq | apply keeps_sat | apply keeps_logLevel | apply keeps_logStatus | apply Keeps.modDev | exact fun d => ⟨rfl, rfl, rfl, rfl⟩ | split | intro _)

theorem keeps_writeLogRd {a0 s : State} (h : Keeps a0 s) (rd : Nat) :
    Keeps a0 (State.writeLogRd s rd) := by
  unfold State.writeLogRd
  with_reducible (repeat' first | assumption | apply Keeps.ite | apply keeps_dirq | apply keeps_dset | apply keeps_logStatus | split | intro _)

theorem keeps_selfFault {a0 s : State} (h : Keeps a0 s) (x : Scope) (reg : Nat) (note : FaultNote) :
    Keeps a0 (State.selfFault s x reg note) := by
  unfold State.selfFault
  with_reducible (repeat' first | assumption | apply Keeps.ite | apply keeps_dset | apply keeps_shutSluice | apply Keeps.modDev | exact fun d => ⟨rfl, rfl, rfl, rfl⟩ | split | intro _)

theorem keeps_doSelfFault {a0 s : State} (h : Keeps a0 s) (x : Scope) (reg : Nat) :
    Keeps a0 (doSelfFault x reg s) := by
  unfold doSelfFault
  with_reducible (repeat' first | assumption | apply Keeps.ite | apply keeps_selfFault | split | intro _)

theorem keeps_parityEffect {a0 s : State} (h : Keeps a0 s) (a : Nat) :
    Keeps a0 (State.parityEffect s a) := by
  unfold State.parityEffect
  with_reducible (repeat' first | assumption | apply Keeps.ite | apply keeps_timeParity | apply keeps_laneParity | apply keeps_hfecParity | apply keeps_ltxParity | apply keeps_lrxParity | apply keeps_timParity | apply keeps_eqParity | apply keeps_boltParity | apply keeps_dressParity | apply keeps_mrParity | apply keeps_gaugeParity | apply keeps_outParity | apply keeps_kilnParity | apply keeps_tallyParity | apply keeps_hopParity | apply keeps_patParity | apply keeps_pwrParity | split | intro _)

theorem keeps_regParity {a0 s : State} (h : Keeps a0 s) (a req : Nat) :
    Keeps a0 (State.regParity s a req) := by
  have km : ∀ t, Keeps a0 t → Keeps a0 (t.modDev fun d => { d with badRegs := a :: d.badRegs.filter fun b => b != a }) :=
    fun t ht => ht.modDev _ fun _ => ⟨rfl, rfl, rfl, rfl⟩
  unfold State.regParity
  extract_lets note mark pg
  have km : ∀ t, Keeps a0 t → Keeps a0 (mark t) := km
  clear_value mark
  split
  · exact keeps_selfFault h ..
  · split
    · exact km _ h
    · extract_lets n
      split
      · exact keeps_selParity h ..
      · split
        · exact keeps_raise (keeps_trialParity (km _ h) ..) ..
        · split
          · split
            · exact keeps_relayLose (keeps_parityEffect (keeps_raise (km _ h) ..) ..) ..
            · exact keeps_parityEffect (keeps_raise (km _ h) ..) ..
          · exact keeps_parityEffect (keeps_raise (km _ h) ..) ..

theorem keeps_afterClear {a0 s : State} (h : Keeps a0 s) (n : Ch) (f : Field) :
    Keeps a0 (State.afterClear s n f) := by
  unfold State.afterClear
  with_reducible (repeat' first | assumption | apply Keeps.ite | apply keeps_memResume | apply keeps_gainResume | apply keeps_levels | split | intro _)

theorem keeps_clearFault {a0 s : State} (h : Keeps a0 s) (n : Ch) (f : Field) (page : Nat) :
    Keeps a0 (State.clearFault s n f page) := by
  unfold State.clearFault
  extract_lets src s1
  with_reducible (repeat' first | assumption | apply Keeps.ite | apply Keeps.set | apply Keeps.modCh | apply keeps_raise | apply keeps_withdraw | apply keeps_afterClear | apply Keeps.modDev | exact fun d => ⟨rfl, rfl, rfl, rfl⟩ | split | intro _)

theorem keeps_clearFaults {a0 s : State} (h : Keeps a0 s) (a : Nat) (data : Word) (x0 : Nat) :
    Keeps a0 (State.clearFaults s a data x0) := by
  fun_induction State.clearFaults s a data x0 <;>
    with_reducible (repeat' first | assumption | apply Keeps.ite | apply keeps_clearFault | apply_assumption | split | intro _)

theorem keeps_writeFltRaw {a0 s : State} (h : Keeps a0 s) (a : Nat) (data : Word) :
    Keeps a0 (State.writeFltRaw s a data) := by
  unfold State.writeFltRaw
  with_reducible (repeat' first | assumption | apply Keeps.ite | apply keeps_clearFaults | split | intro _)

theorem keeps_enBit {a0 s : State} (h : Keeps a0 s) (a : Nat) (v : Bool) (b : Nat) :
    Keeps a0 (State.enBit s a v b) := by
  unfold State.enBit
  with_reducible (repeat' first | assumption | apply Keeps.ite | apply Keeps.set | apply keeps_forward | apply keeps_withdraw | split | intro _)

theorem keeps_enBits {a0 s : State} (h : Keeps a0 s) (a : Nat) (mask data : Word) (x0 : Nat) :
    Keeps a0 (State.enBits s a mask data x0) := by
  fun_induction State.enBits s a mask data x0 <;>
    with_reducible (repeat' first | assumption | apply Keeps.ite | apply keeps_enBit | apply_assumption | split | intro _)

theorem keeps_writeFltEn {a0 s : State} (h : Keeps a0 s) (a : Nat) (data : Word) :
    Keeps a0 (State.writeFltEn s a data) := by
  unfold State.writeFltEn
  with_reducible (repeat' first | assumption | apply Keeps.ite | apply keeps_enBits | split | intro _)

/-! ## Top -/

theorem keeps_modTop {a0 s : State} (h : Keeps a0 s) (n : Ch) (f : TopSt → TopSt) :
    Keeps a0 (State.modTop s n f) := by
  unfold State.modTop
  with_reducible (repeat' first | assumption | apply Keeps.ite | apply Keeps.modCh | split | intro _)

theorem keeps_modeGo {a0 s : State} (h : Keeps a0 s) (n : Ch) :
    Keeps a0 (State.modeGo s n) := by
  unfold State.modeGo
  with_reducible (repeat' first | assumption | apply Keeps.ite | apply Keeps.set | apply keeps_irq | apply keeps_swapEnd | apply keeps_capAbort | apply keeps_mrAbandon | apply keeps_mrCut | apply keeps_modTop | apply keeps_modLrx | apply keeps_levels | split | intro _)

theorem keeps_doModeDone {a0 s : State} (h : Keeps a0 s) (n : Ch) :
    Keeps a0 (doModeDone n s) := by
  unfold doModeDone
  with_reducible (repeat' first | assumption | apply Keeps.ite | apply keeps_trimLoad | apply Keeps.set | apply keeps_modTop | apply keeps_boltDrop | apply keeps_irq | apply keeps_levels | split | intro _)

theorem keeps_pllUnlock {a0 s : State} (h : Keeps a0 s) (n : Ch) :
    Keeps a0 (State.pllUnlock s n) := by
  unfold State.pllUnlock
  with_reducible (repeat' first | assumption | apply Keeps.ite | apply keeps_raise | apply keeps_modTop | split | intro _)

theorem keeps_doChPllLockTimeout {a0 s : State} (h : Keeps a0 s) (n : Ch) :
    Keeps a0 (doChPllLockTimeout n s) := by
  unfold doChPllLockTimeout
  with_reducible (repeat' first | assumption | apply Keeps.ite | apply keeps_pllUnlock | apply Keeps.set | apply keeps_levels | split | intro _)

theorem keeps_doChPllUnlock {a0 s : State} (h : Keeps a0 s) (n : Ch) :
    Keeps a0 (doChPllUnlock n s) := by
  unfold doChPllUnlock
  with_reducible (repeat' first | assumption | apply Keeps.ite | apply keeps_trialClockLost | apply keeps_pllUnlock | apply keeps_abruptStop | apply Keeps.set | apply keeps_levels | split | intro _)

theorem keeps_doHoldoverExit {a0 s : State} (h : Keeps a0 s) (n : Ch) :
    Keeps a0 (doHoldoverExit n s) := by
  unfold doHoldoverExit
  with_reducible (repeat' first | assumption | apply Keeps.ite | apply Keeps.set | apply keeps_irq | apply keeps_levels | split | intro _)

theorem keeps_doXingSlip {a0 s : State} (h : Keeps a0 s) (n : Ch) (x : Fin 5) (fill : Nat) :
    Keeps a0 (doXingSlip n x fill s) := by
  unfold doXingSlip
  with_reducible (repeat' first | assumption | apply Keeps.ite | apply keeps_raise | apply Keeps.set | apply keeps_irq | apply keeps_count | split | intro _)

theorem keeps_doCoreOffsetUpdate {a0 s : State} (h : Keeps a0 s) (n : Ch) (tx rx : Int) :
    Keeps a0 (doCoreOffsetUpdate n tx rx s) := by
  unfold doCoreOffsetUpdate
  with_reducible (repeat' first | assumption | apply Keeps.ite | apply keeps_setI | split | intro _)

end Sys2Proof.Machine
end

