-- ==== Sys2Proof/Laws/KeepsRows.lean ====
section
/-! SUPPORT. `Keeps` of start-up, register writes, firmware, the host port and every command: what each does to a state, it keeps the queue, the
canonical form, the identity and the programmed fuses. -/

namespace Sys2Proof.Machine

/-! ## Startup -/

theorem keeps_deviceReset {a0 s : State} (h : Keeps a0 s) (powerOn software : Bool) (cause : Field) :
    Keeps a0 (State.deviceReset s powerOn software cause) := by
  unfold State.deviceReset
  extract_lets d stop why s1 s2 s3
  have k1 : Keeps a0 s1 := h.trans
    ⟨rfl, fun _ => (State.canonical_iff _).mpr ⟨rfl, rfl⟩, rfl, rfl, fun _ hw => hw, fun _ _ hw => hw⟩
  clear_value s1
  have k2 : Keeps a0 s2 := (k1.setWord ..).setWord ..
  clear_value s2
  have k3 : Keeps a0 s3 := (keeps_dset k2 ..).set ..
  clear_value s3
  exact keeps_dset k3 ..

theorem otpBits_fuse_ne (s : State) {w x : Nat} (bits : Word) (hw : x ≠ w) : (s.fuse w bits).otpBits x = s.otpBits x := by
  have hf : ∀ l : List (Nat × Word), (l.filter fun e => e.1 != w).find? (fun e => e.1 == x) = l.find? fun e => e.1 == x := by
    intro l
    induction l with
    | nil => rfl
    | cons e l ih =>
      by_cases he : e.1 = w
      · have hx : (e.1 == x) = false := by simpa [he] using fun hh => hw hh.symm
        simp [he, ih, hw.symm]
      · by_cases hx : e.1 = x <;> simp_all
  have hc : (w == x) = false := by simpa using fun hh => hw hh.symm
  unfold State.otpBits State.fuse
  simp only [State.modDev_dev, List.find?_cons, hc, hf]

theorem keeps_fuse {a0 s : State} (h : Keeps a0 s) (w : Nat) (bits : Word) :
    Keeps a0 (State.fuse s w bits) := by
  refine h.trans ⟨rfl, id, rfl, rfl, fun _ hw => hw, fun x i hx => ?_⟩
  by_cases hw : x = w
  · subst hw
    have e : (s.fuse x bits).otpBits x = s.otpBits x ||| bits := by
      simp [State.fuse, State.otpBits]
    rw [e, BitVec.getLsbD_or, hx, Bool.true_or]
  · have e : (s.fuse w bits).otpBits x = s.otpBits x := otpBits_fuse_ne s bits hw
    rw [e]
    exact hx

theorem keeps_fuseSetValid {a0 s : State} (h : Keeps a0 s) (w : Nat) :
    Keeps a0 (State.fuseSetValid s w) := by
  refine h.trans ⟨rfl, id, rfl, rfl, fun x hx => ?_, fun _ _ hx => hx⟩
  unfold State.otpValid State.fuseSetValid at *
  rw [State.modDev_dev]
  exact (BitVec.getLsbD_or ..).trans (by rw [hx, Bool.true_or])

theorem keeps_fuseTorn {a0 s : State} (h : Keeps a0 s) (w : Nat) (bits : Word) :
    Keeps a0 (State.fuseTorn s w bits) := by
  unfold State.fuseTorn
  with_reducible (repeat' first | assumption | apply Keeps.ite | apply keeps_fuse | apply Keeps.draw | split | intro _)

theorem keeps_otpCut {a0 s : State} (h : Keeps a0 s) :
    Keeps a0 (State.otpCut s) := by
  unfold State.otpCut
  with_reducible (repeat' first | assumption | apply Keeps.ite | apply keeps_fuseTorn | apply keeps_fuse | apply keeps_fuseSetValid | apply Keeps.draw | split | intro _)

theorem keeps_setRail {a0 s : State} (h : Keeps a0 s) (b : Nat) (ok : Bool) :
    Keeps a0 (State.setRail s b ok) := by
  unfold State.setRail
  with_reducible (repeat' first | assumption | apply Keeps.ite | apply Keeps.modDev | exact fun d => ⟨rfl, rfl, rfl, rfl⟩ | split | intro _)

theorem keeps_doPowerOn {a0 s : State} (h : Keeps a0 s) (straps : BitVec 4) :
    Keeps a0 (doPowerOn straps s) := by
  unfold doPowerOn
  with_reducible (repeat' first | assumption | apply Keeps.ite | apply keeps_deviceReset | apply Keeps.modDev | exact fun d => ⟨rfl, rfl, rfl, rfl⟩ | split | intro _)

theorem keeps_doResetNAssert {a0 s : State} (h : Keeps a0 s) :
    Keeps a0 (doResetNAssert s) := by
  unfold doResetNAssert
  with_reducible (repeat' first | assumption | apply Keeps.ite | apply keeps_otpCut | apply keeps_deviceReset | apply Keeps.modDev | exact fun d => ⟨rfl, rfl, rfl, rfl⟩ | split | intro _)

theorem keeps_doResetNRelease {a0 s : State} (h : Keeps a0 s) (straps : BitVec 4) :
    Keeps a0 (doResetNRelease straps s) := by
  unfold doResetNRelease
  with_reducible (repeat' first | assumption | apply Keeps.ite | apply Keeps.modDev | exact fun d => ⟨rfl, rfl, rfl, rfl⟩ | split | intro _)

theorem keeps_doBrownout {a0 s : State} (h : Keeps a0 s) (vddio deep : Bool) :
    Keeps a0 (doBrownout vddio deep s) := by
  unfold doBrownout
  with_reducible (repeat' first | assumption | apply Keeps.ite | apply keeps_otpCut | apply keeps_setRail | apply keeps_deviceReset | apply Keeps.modDev | exact fun d => ⟨rfl, rfl, rfl, rfl⟩ | split | intro _)

theorem keeps_doRailFault {a0 s : State} (h : Keeps a0 s) (r : Rail) :
    Keeps a0 (doRailFault r s) := by
  unfold doRailFault
  with_reducible (repeat' first | assumption | apply Keeps.ite | apply keeps_setRail | apply keeps_draise | apply Keeps.modDev | exact fun d => ⟨rfl, rfl, rfl, rfl⟩ | split | intro _)

theorem keeps_doRailReturn {a0 s : State} (h : Keeps a0 s) (r : Rail) :
    Keeps a0 (doRailReturn r s) := by
  unfold doRailReturn
  with_reducible (repeat' first | assumption | apply Keeps.ite | apply keeps_setRail | split | intro _)

theorem keeps_writeSwreset {a0 s : State} (h : Keeps a0 s) (key : Word) :
    Keeps a0 (State.writeSwreset s key) := by
  unfold State.writeSwreset
  with_reducible (repeat' first | assumption | apply Keeps.ite | apply keeps_dirq | apply Keeps.modDev | exact fun d => ⟨rfl, rfl, rfl, rfl⟩ | split | intro _)

theorem keeps_doSoftwareReset {a0 s : State} (h : Keeps a0 s) :
    Keeps a0 (doSoftwareReset s) := by
  unfold doSoftwareReset
  with_reducible (repeat' first | assumption | apply Keeps.ite | apply keeps_deviceReset | split | intro _)

theorem keeps_clocksLost {a0 s : State} (h : Keeps a0 s) (x0 : List Ch) :
    Keeps a0 (State.clocksLost s x0) := by
  fun_induction State.clocksLost s x0 <;>
    with_reducible (repeat' first | assumption | apply Keeps.ite | apply keeps_trialClockLost | apply keeps_abruptStop | apply Keeps.set | apply_assumption | split | intro _)

theorem keeps_doRefclkLoss {a0 s : State} (h : Keeps a0 s) :
    Keeps a0 (doRefclkLoss s) := by
  unfold doRefclkLoss
  with_reducible (repeat' first | assumption | apply Keeps.ite | apply keeps_draise | apply keeps_sat | apply keeps_dset | apply keeps_clocksLost | apply keeps_levelsAll | apply Keeps.modDev | exact fun d => ⟨rfl, rfl, rfl, rfl⟩ | split | intro _)

theorem keeps_doRefclkReturn {a0 s : State} (h : Keeps a0 s) :
    Keeps a0 (doRefclkReturn s) := by
  unfold doRefclkReturn
  with_reducible (repeat' first | assumption | apply Keeps.ite | apply keeps_dirq | apply Keeps.modDev | exact fun d => ⟨rfl, rfl, rfl, rfl⟩ | split | intro _)

theorem keeps_doBootStart {a0 s : State} (h : Keeps a0 s) (ok : Bool) :
    Keeps a0 (doBootStart ok s) := by
  unfold doBootStart
  with_reducible (repeat' first | assumption | apply Keeps.ite | apply keeps_dset | apply keeps_draise | apply Keeps.modDev | exact fun d => ⟨rfl, rfl, rfl, rfl⟩ | split | intro _)

theorem keeps_blockStart {a0 s : State} (h : Keeps a0 s) (b : Blocking) :
    Keeps a0 (State.blockStart s b) := by
  unfold State.blockStart
  with_reducible (repeat' first | assumption | apply Keeps.ite | apply keeps_dset | apply keeps_dcount | apply Keeps.modDev | exact fun d => ⟨rfl, rfl, rfl, rfl⟩ | split | intro _)

theorem keeps_doDevPllLock {a0 s : State} (h : Keeps a0 s) (us : Nat) :
    Keeps a0 (doDevPllLock us s) := by
  unfold doDevPllLock
  with_reducible (repeat' first | assumption | apply Keeps.ite | apply keeps_dset | apply keeps_setSat | apply keeps_blockStart | apply keeps_sluiceSum | apply keeps_dirq | apply Keeps.modDev | exact fun d => ⟨rfl, rfl, rfl, rfl⟩ | split | intro _)

theorem keeps_doDevPllLockRetry {a0 s : State} (h : Keeps a0 s) :
    Keeps a0 (doDevPllLockRetry s) := by
  unfold doDevPllLockRetry
  with_reducible (repeat' first | assumption | apply Keeps.ite | apply keeps_dset | split | intro _)

theorem keeps_doDevPllUnlock {a0 s : State} (h : Keeps a0 s) :
    Keeps a0 (doDevPllUnlock s) := by
  unfold doDevPllUnlock
  with_reducible (repeat' first | assumption | apply Keeps.ite | apply keeps_draise | apply keeps_dset | split | intro _)

theorem keeps_ladder {a0 s : State} (h : Keeps a0 s) (v : Nat) :
    Keeps a0 (State.ladder s v) := by
  unfold State.ladder
  with_reducible (repeat' first | assumption | apply Keeps.ite | apply keeps_setStage | split | intro _)

theorem keeps_doRomCheckDone {a0 s : State} (h : Keeps a0 s) (romOk memOk : Bool) :
    Keeps a0 (doRomCheckDone romOk memOk s) := by
  unfold doRomCheckDone
  with_reducible (repeat' first | assumption | apply Keeps.ite | apply keeps_enterHolding | apply keeps_busyEnd | apply keeps_ladder | apply keeps_poison | split | intro _)

theorem keeps_readWords {a0 s : State} (h : Keeps a0 s) (m w : Nat) (x0 : Nat) :
    Keeps a0 (State.readWords s m w x0).2 := by
  fun_induction State.readWords s m w x0 <;>
    with_reducible (repeat' first | assumption | apply Keeps.ite | apply keeps_busRead | apply_assumption | split | intro _)

theorem keeps_authMessage {a0 s : State} (h : Keeps a0 s) :
    Keeps a0 (State.authMessage s).2 := by
  unfold State.authMessage
  extract_lets a b c
  with_reducible (repeat' first | assumption | apply Keeps.ite | apply keeps_readWords | split | intro _)

theorem keeps_doAuthComplete {a0 s : State} (h : Keeps a0 s) :
    Keeps a0 (doAuthComplete s) := by
  unfold doAuthComplete
  with_reducible (repeat' first | assumption | apply Keeps.ite | apply keeps_authMessage | apply keeps_sat | apply keeps_enterHolding | apply keeps_setStage | apply keeps_cmdEnd | apply keeps_dset | apply keeps_cmdResult | apply keeps_dirq | apply Keeps.modDev | exact fun d => ⟨rfl, rfl, rfl, rfl⟩ | split | intro _)

theorem keeps_trialAllStart {a0 s : State} (h : Keeps a0 s) :
    Keeps a0 (State.trialAllStart s) := by
  unfold State.trialAllStart
  with_reducible (repeat' first | assumption | apply Keeps.ite | apply keeps_ladder | apply keeps_trialCutAll | apply keeps_dset | apply keeps_allBegins | apply Keeps.modDev | exact fun d => ⟨rfl, rfl, rfl, rfl⟩ | split | intro _)

theorem keeps_doFirmwareTrialAll {a0 s : State} (h : Keeps a0 s) :
    Keeps a0 (doFirmwareTrialAll s) := by
  unfold doFirmwareTrialAll
  with_reducible (repeat' first | assumption | apply Keeps.ite | apply keeps_busyEnd | apply keeps_blockStart | apply keeps_trialAllStart | split | intro _)

theorem keeps_doTrialAllEnd {a0 s : State} (h : Keeps a0 s) :
    Keeps a0 (doTrialAllEnd s) := by
  unfold doTrialAllEnd
  with_reducible (repeat' first | assumption | apply Keeps.ite | apply keeps_dset | apply keeps_dirq | apply keeps_setStage | apply keeps_enterHolding | apply keeps_cmdEnd | apply Keeps.modDev | exact fun d => ⟨rfl, rfl, rfl, rfl⟩ | split | intro _)

theorem keeps_blockRefuse {a0 s : State} (h : Keeps a0 s) (code result : Nat) :
    Keeps a0 (State.blockRefuse s code result) := by
  unfold State.blockRefuse
  with_reducible (repeat' first | assumption | apply Keeps.ite | apply keeps_dset | apply keeps_dirq | split | intro _)

theorem keeps_blockGo {a0 s : State} (h : Keeps a0 s) (code : Nat) :
    Keeps a0 (State.blockGo s code) := by
  unfold State.blockGo
  with_reducible (repeat' first | assumption | apply Keeps.ite | apply keeps_blockStart | apply keeps_dset | apply keeps_setStage | apply keeps_trialAllStart | split | intro _)

theorem keeps_blockCmd {a0 s : State} (h : Keeps a0 s) (code : Nat) :
    Keeps a0 (State.blockCmd s code) := by
  unfold State.blockCmd
  with_reducible (repeat' first | assumption | apply Keeps.ite | apply keeps_blockGo | apply keeps_blockRefuse | split | intro _)

theorem keeps_program {a0 s : State} (h : Keeps a0 s) (w : Nat) (bits stuck : Word) :
    Keeps a0 (State.program s w bits stuck).2 := by
  unfold State.program
  extract_lets s1
  with_reducible (repeat' first | assumption | apply Keeps.ite | apply keeps_fuse | apply keeps_fuseSetValid | split | intro _)

theorem keeps_commit {a0 s : State} (h : Keeps a0 s) (stuck : BitVec 64) :
    Keeps a0 (State.commit s stuck).2 := by
  unfold State.commit
  extract_lets sec c a
  with_reducible (repeat' first | assumption | apply Keeps.ite | apply keeps_program | split | intro _)

theorem keeps_doBlockingEnd {a0 s : State} (h : Keeps a0 s) (stuck : BitVec 64) :
    Keeps a0 (doBlockingEnd stuck s) := by
  unfold doBlockingEnd
  with_reducible (repeat' first | assumption | apply Keeps.ite | apply keeps_commit | apply keeps_cmdEnd | apply keeps_program | split | intro _)

theorem keeps_doBlockOverrun {a0 s : State} (h : Keeps a0 s) :
    Keeps a0 (doBlockOverrun s) := by
  unfold doBlockOverrun
  with_reducible (repeat' first | assumption | apply Keeps.ite | apply keeps_otpCut | apply keeps_allCut | apply keeps_draise | apply keeps_cmdEnd | split | intro _)

theorem keeps_resetPages {a0 s : State} (h : Keeps a0 s) (n : Ch) (x0 : List Nat) :
    Keeps a0 (State.resetPages s n x0) := by
  fun_induction State.resetPages s n x0 <;>
    with_reducible (repeat' first | assumption | apply Keeps.ite | apply Keeps.resetPage | apply_assumption | split | intro _)

theorem keeps_putWords {a0 s : State} (h : Keeps a0 s) (x0 : List (Nat × Word)) :
    Keeps a0 (State.putWords s x0) := by
  fun_induction State.putWords s x0 <;>
    with_reducible (repeat' first | assumption | apply Keeps.ite | apply Keeps.setWord | apply_assumption | split | intro _)

theorem keeps_chScope {a0 s : State} (h : Keeps a0 s) (n : Ch) :
    Keeps a0 (State.chScope s n) := by
  unfold State.chScope
  with_reducible (repeat' first | assumption | apply Keeps.ite | apply keeps_resetPages | apply keeps_putWords | apply keeps_forgetPages | apply Keeps.modCh | apply keeps_dropCleared | apply keeps_safeUpdate | apply keeps_levels | split | intro _)

theorem keeps_abruptMark {a0 s : State} (h : Keeps a0 s) (n : Ch) (lit : Bool) :
    Keeps a0 (State.abruptMark s n lit) := by
  unfold State.abruptMark
  with_reducible (repeat' first | assumption | apply Keeps.ite | apply Keeps.set | apply keeps_irq | split | intro _)

theorem keeps_chReset {a0 s : State} (h : Keeps a0 s) (n : Ch) :
    Keeps a0 (State.chReset s n) := by
  unfold State.chReset
  with_reducible (repeat' first | assumption | apply Keeps.ite | apply keeps_dset | apply keeps_sliceCut | apply keeps_abruptStop | apply keeps_chScope | apply keeps_abruptMark | apply keeps_wrightHold | apply keeps_pathAbort | apply keeps_allNote | split | intro _)

theorem keeps_doChResetComplete {a0 s : State} (h : Keeps a0 s) (n : Ch) :
    Keeps a0 (doChResetComplete n s) := by
  unfold doChResetComplete
  with_reducible (repeat' first | assumption | apply Keeps.ite | apply keeps_chScope | apply keeps_abruptMark | apply Keeps.set | apply keeps_pathAbort | apply keeps_toStandby | apply keeps_irq | apply keeps_wrightStart | apply keeps_levels | split | intro _)

theorem keeps_millerRestart {a0 s : State} (h : Keeps a0 s) (cause : Nat) :
    Keeps a0 (State.millerRestart s cause) := by
  unfold State.millerRestart
  with_reducible (repeat' first | assumption | apply Keeps.ite | apply keeps_draise | apply keeps_sat | apply keeps_dset | apply keeps_modPath | apply Keeps.modDev | exact fun d => ⟨rfl, rfl, rfl, rfl⟩ | split | intro _)

theorem keeps_millerReset {a0 s : State} (h : Keeps a0 s) :
    Keeps a0 (State.millerReset s) := by
  unfold State.millerReset
  with_reducible (repeat' first | assumption | apply Keeps.ite | apply keeps_millerRestart | split | intro _)

theorem keeps_doMillerRestart {a0 s : State} (h : Keeps a0 s) :
    Keeps a0 (doMillerRestart s) := by
  unfold doMillerRestart
  with_reducible (repeat' first | assumption | apply Keeps.ite | apply keeps_incr | apply keeps_dset | apply keeps_dirq | apply keeps_boxResets | apply Keeps.modDev | exact fun d => ⟨rfl, rfl, rfl, rfl⟩ | split | intro _)

theorem keeps_doMillerWatchdog {a0 s : State} (h : Keeps a0 s) (after : Nat) :
    Keeps a0 (doMillerWatchdog after s) := by
  unfold doMillerWatchdog
  with_reducible (repeat' first | assumption | apply Keeps.ite | apply keeps_elapse | apply keeps_millerRestart | split | intro _)

theorem keeps_doMillerTrap {a0 s : State} (h : Keeps a0 s) (c : TrapCause) (after : Nat) :
    Keeps a0 (doMillerTrap c after s) := by
  unfold doMillerTrap
  with_reducible (repeat' first | assumption | apply Keeps.ite | apply keeps_elapse | apply keeps_millerRestart | split | intro _)

theorem keeps_fwRestarted {a0 s : State} (h : Keeps a0 s) (lost : Bool) (x0 : List FwCmd) :
    Keeps a0 (State.fwRestarted s lost x0) := by
  fun_induction State.fwRestarted s lost x0 <;>
    with_reducible (repeat' first | assumption | apply Keeps.ite | apply keeps_modFw | apply keeps_fwPost | apply_assumption | split | intro _)

theorem keeps_doFwReady {a0 s : State} (h : Keeps a0 s) (lost : Bool) :
    Keeps a0 (doFwReady lost s) := by
  unfold doFwReady
  with_reducible (repeat' first | assumption | apply Keeps.ite | apply keeps_fwRestarted | apply keeps_dset | apply keeps_dirq | apply Keeps.modDev | exact fun d => ⟨rfl, rfl, rfl, rfl⟩ | split | intro _)

/-! ## Write -/

theorem keeps_boxRefuse {a0 s : State} (h : Keeps a0 s) (b : Box) :
    Keeps a0 (State.boxRefuse s b).2 := by
  unfold State.boxRefuse
  with_reducible (repeat' first | assumption | apply Keeps.ite | apply keeps_dcount | split | intro _)

theorem keeps_boxPut {a0 s : State} (h : Keeps a0 s) (b : Box) (i : Nat) (data : Word) (req : Nat) :
    Keeps a0 (State.boxPut s b i data req).2 := by
  unfold State.boxPut
  with_reducible (repeat' first | assumption | apply Keeps.ite | apply keeps_boxRefuse | apply keeps_boxWords | split | intro _)

theorem keeps_boxBell {a0 s : State} (h : Keeps a0 s) (b : Box) (ring take : Bool) (req : Nat) :
    Keeps a0 (State.boxBell s b ring take req).2 := by
  unfold State.boxBell
  with_reducible (repeat' first | assumption | apply Keeps.ite | apply keeps_boxRefuse | apply keeps_boxRing | apply keeps_boxTake | split | intro _)

theorem keeps_hostEpoch {a0 s : State} (h : Keeps a0 s) (data : Word) :
    Keeps a0 (State.hostEpoch s data) := by
  unfold State.hostEpoch
  with_reducible (repeat' first | assumption | apply Keeps.ite | apply Keeps.setWord | apply keeps_boxResets | split | intro _)

theorem keeps_plainWrite {a0 s : State} (h : Keeps a0 s) (a : Nat) (data : Word) :
    Keeps a0 (State.plainWrite s a data) := by
  unfold State.plainWrite
  with_reducible (repeat' first | assumption | apply Keeps.ite | apply Keeps.setWord | split | intro _)

theorem keeps_wsAct {a0 s : State} (h : Keeps a0 s) (a b : Nat) :
    Keeps a0 (State.wsAct s a b) := by
  unfold State.wsAct
  with_reducible (repeat' first | assumption | apply Keeps.ite | apply keeps_chReset | apply keeps_millerReset | apply keeps_pwrClear | apply keeps_timeSet | apply keeps_timeAdjust | apply keeps_scrubGo | apply keeps_scrubStop | apply keeps_marchGo | apply keeps_devTrialGo | apply keeps_clrPeak | apply keeps_modeGo | apply keeps_retrain | apply keeps_slipGo | apply keeps_hfecClear | apply keeps_firApply | apply keeps_nlLoad | apply keeps_swapRequest | apply keeps_gainReacq | apply keeps_plausTest | apply keeps_lrxClear | apply keeps_capArm | apply keeps_capAbort | apply keeps_timReacq | apply keeps_timClear | apply keeps_pfApply | apply keeps_eyeStart | apply keeps_eyeAbort | apply keeps_eqRestart | apply keeps_eqClear | apply keeps_boltClear | apply keeps_dressPass | apply keeps_passAbort | apply keeps_mrFlush | apply keeps_mrPop | apply keeps_mrEcho | apply keeps_gaugeTrigger | apply keeps_gaugeDiag | apply keeps_gaugeClear | apply keeps_tallyInit | apply keeps_tallyFlush | apply keeps_tallySnap | apply keeps_tallyQuery | apply keeps_tallyClear | apply keeps_hopTrigger | apply keeps_trialGo | apply keeps_errInj | apply keeps_gateGo | apply keeps_gateStop | apply keeps_patClear | apply keeps_chWake | split | intro _)

theorem keeps_wsWrite {a0 s : State} (h : Keeps a0 s) (a b : Nat) :
    Keeps a0 (State.wsWrite s a b) := by
  unfold State.wsWrite
  with_reducible (repeat' first | assumption | apply Keeps.ite | apply Keeps.setWord | apply keeps_wsAct | apply Keeps.modDev | exact fun d => ⟨rfl, rfl, rfl, rfl⟩ | split | intro _)

theorem keeps_wsWrites {a0 s : State} (h : Keeps a0 s) (a : Nat) (data : Word) (x0 : Nat) :
    Keeps a0 (State.wsWrites s a data x0) := by
  fun_induction State.wsWrites s a data x0 <;>
    with_reducible (repeat' first | assumption | apply Keeps.ite | apply keeps_wsWrite | apply_assumption | split | intro _)

theorem keeps_afterWrite {a0 s : State} (h : Keeps a0 s) (a : Nat) :
    Keeps a0 (State.afterWrite s a) := by
  unfold State.afterWrite
  with_reducible (repeat' first | assumption | apply Keeps.ite | apply keeps_levels | split | intro _)

theorem keeps_codedWrite {a0 s : State} (h : Keeps a0 s) (a : Nat) (data : Word) :
    Keeps a0 (State.codedWrite s a data) := by
  unfold State.codedWrite
  with_reducible (repeat' first | assumption | apply Keeps.ite | apply keeps_plainWrite | apply keeps_wsWrites | apply keeps_afterWrite | split | intro _)

theorem keeps_doWsHeldAccept {a0 s : State} (h : Keeps a0 s) (page : Nat) :
    Keeps a0 (doWsHeldAccept page s) := by
  unfold doWsHeldAccept
  with_reducible (repeat' first | assumption | apply Keeps.ite | apply Keeps.setWord | apply keeps_wsAct | apply keeps_afterWrite | apply Keeps.modDev | exact fun d => ⟨rfl, rfl, rfl, rfl⟩ | split | intro _)

theorem keeps_writeInject {a0 s : State} (h : Keeps a0 s) (a : Nat) (data : Word) :
    Keeps a0 (State.writeInject s a data) := by
  unfold State.writeInject
  with_reducible (repeat' first | assumption | apply Keeps.ite | apply Keeps.setWord | split | intro _)

theorem keeps_writeTime {a0 s : State} (h : Keeps a0 s) (a : Nat) (data : Word) :
    Keeps a0 (State.writeTime s a data) := by
  unfold State.writeTime
  with_reducible (repeat' first | assumption | apply Keeps.ite | apply keeps_codedWrite | apply keeps_dset | apply Keeps.modDev | exact fun d => ⟨rfl, rfl, rfl, rfl⟩ | split | intro _)

theorem keeps_writeDev {a0 s : State} (h : Keeps a0 s) (a : Nat) (data : Word) (req : Nat) :
    Keeps a0 (State.writeDev s a data req).2 := by
  unfold State.writeDev
  extract_lets o ok
  have kok : ∀ t, Keeps a0 t → Keeps a0 (ok t).2 := fun _ ht => ht
  clear_value ok
  with_reducible (repeat' first | apply kok | assumption | apply Keeps.ite | apply keeps_blockCmd | apply keeps_writeSwreset | apply keeps_codedWrite | apply keeps_pwrRequest | apply keeps_hostEpoch | apply keeps_sluiceSum | apply keeps_writeLogRd | apply keeps_writeTime | apply keeps_writeMemCfg | apply Keeps.setWord | apply keeps_writeSelector | apply keeps_presetCounter | split | intro _)

theorem keeps_writeLink {a0 s : State} (h : Keeps a0 s) (n : Ch) (a : Nat) (data : Word) :
    Keeps a0 (State.writeLink s n a data) := by
  unfold State.writeLink
  with_reducible (repeat' first | assumption | apply Keeps.ite | apply keeps_writeTxFir | apply keeps_codedWrite | apply keeps_writeGainCfg | apply keeps_writeBankCfg | apply keeps_writeDfe | apply keeps_writeFfeTap | split | intro _)

theorem keeps_writeRest {a0 s : State} (h : Keeps a0 s) (n : Ch) (a : Nat) (data : Word) (req : Nat) :
    Keeps a0 (State.writeRest s n a data req).2 := by
  unfold State.writeRest
  extract_lets o ok back
  have kok : ∀ t, Keeps a0 t → Keeps a0 (ok t).2 := fun _ ht => ht
  have kback : ∀ r, Keeps a0 r.2 → Keeps a0 (back r).2 := fun _ ht => ht
  clear_value ok back
  with_reducible (repeat' first | apply kok | apply kback | assumption | apply Keeps.ite | apply keeps_writeRelayW0 | apply keeps_writeRelayW1 | apply keeps_codedWrite | apply keeps_writeDacCfg | apply keeps_pushDac | apply keeps_writeKilnEn | apply keeps_writeInteg | apply keeps_writeTallyEn | apply keeps_writeSpillRd | apply keeps_writeSelector | apply keeps_presetCounter | apply keeps_writeHopEn | apply keeps_writeHopRd | apply keeps_writeMemCfg | apply Keeps.setWord | apply keeps_writePatCfg | apply keeps_pwrRequest | apply Keeps.modDev | exact fun d => ⟨rfl, rfl, rfl, rfl⟩ | split | intro _)

theorem keeps_regStore {a0 s : State} (h : Keeps a0 s) (a : Nat) (data : Word) (req : Nat) :
    Keeps a0 (State.regStore s a data req).2 := by
  unfold State.regStore
  extract_lets o r
  with_reducible (repeat' first | assumption | apply Keeps.ite | apply keeps_boxPut | apply keeps_boxBell | apply keeps_plainWrite | apply keeps_writeFltRaw | apply keeps_writeFltEn | apply keeps_writeInject | apply keeps_writeDev | apply keeps_writeLink | apply keeps_writeRest | split | intro _)

theorem keeps_pageDisarm {a0 s : State} (h : Keeps a0 s) (a b : Nat) :
    Keeps a0 (State.pageDisarm s a b) := by
  unfold State.pageDisarm
  with_reducible (repeat' first | assumption | apply Keeps.ite | apply Keeps.setWord | split | intro _)

theorem keeps_busParity {a0 s : State} (h : Keeps a0 s) (a req : Nat) :
    Keeps a0 (State.busParity s a req) := by
  unfold State.busParity
  with_reducible (repeat' first | assumption | apply Keeps.ite | apply keeps_pageDisarm | apply keeps_draise | split | intro _)

theorem keeps_regPut {a0 s : State} (h : Keeps a0 s) (a : Nat) (data : Word) (req : Nat) :
    Keeps a0 (State.regPut s a data req).2 := by
  unfold State.regPut
  extract_lets hit s0 s1 r
  with_reducible (repeat' first | assumption | apply Keeps.ite | apply keeps_pageDisarm | apply keeps_regStore | apply keeps_regParity | apply Keeps.modDev | exact fun d => ⟨rfl, rfl, rfl, rfl⟩ | split | intro _)

theorem keeps_failCount {a0 s : State} (h : Keeps a0 s) (a req : Nat) :
    Keeps a0 (State.failCount s a req) := by
  unfold State.failCount
  with_reducible (repeat' first | assumption | apply Keeps.ite | apply keeps_countBus | split | intro _)

theorem keeps_countedPut {a0 s : State} (h : Keeps a0 s) (a : Nat) (data : Word) (req : Nat) :
    Keeps a0 (State.countedPut s a data req).2 := by
  unfold State.countedPut
  extract_lets c r
  with_reducible (repeat' first | assumption | apply Keeps.ite | apply keeps_countBus | apply keeps_regPut | apply Keeps.setWord | split | intro _)

theorem keeps_regWrite {a0 s : State} (h : Keeps a0 s) (a : Nat) (data : Word) (req : Nat) :
    Keeps a0 (State.regWrite s a data req).2 := by
  unfold State.regWrite
  extract_lets r q
  with_reducible (repeat' first | assumption | apply Keeps.ite | apply keeps_countedPut | apply keeps_busParity | apply keeps_failCount | apply keeps_regPut | split | intro _)

theorem keeps_flogWord {a0 s : State} (h : Keeps a0 s) (o req : Nat) :
    Keeps a0 (State.flogWord s o req).2 := by
  unfold State.flogWord
  extract_lets i r
  with_reducible (repeat' first | assumption | apply Keeps.ite | apply keeps_memRead | split | intro _)

theorem keeps_readEffect {a0 s : State} (h : Keeps a0 s) (a req : Nat) :
    Keeps a0 (State.readEffect s a req) := by
  unfold State.readEffect
  with_reducible (repeat' first | assumption | apply Keeps.ite | apply keeps_latchRead | apply keeps_resultRead | apply keeps_streamTake | apply keeps_draise | split | intro _)

theorem keeps_readReady {a0 s : State} (h : Keeps a0 s) (a : Nat) :
    Keeps a0 (State.readReady s a) := by
  unfold State.readReady
  with_reducible (repeat' first | assumption | apply Keeps.ite | apply keeps_patDraw | split | intro _)

theorem keeps_regFetch {a0 s : State} (h : Keeps a0 s) (a req : Nat) :
    Keeps a0 (State.regFetch s a req).2 := by
  unfold State.regFetch
  with_reducible (repeat' first | assumption | apply Keeps.ite | apply keeps_flogWord | apply keeps_draise | apply keeps_readReady | apply keeps_readEffect | split | intro _)

theorem keeps_regRead {a0 s : State} (h : Keeps a0 s) (a req : Nat) :
    Keeps a0 (State.regRead s a req).2 := by
  unfold State.regRead
  extract_lets r
  with_reducible (repeat' first | assumption | apply Keeps.ite | apply keeps_countBus | apply keeps_regFetch | apply keeps_busParity | apply keeps_failCount | split | intro _)

theorem keeps_busPut {a0 s : State} (h : Keeps a0 s) (a : Nat) (data : Word) (req : Nat) :
    Keeps a0 (State.busPut s a data req).2 := by
  unfold State.busPut
  extract_lets c
  with_reducible (repeat' first | assumption | apply Keeps.ite | apply keeps_failCount | apply keeps_regWrite | split | intro _)

theorem keeps_busGet {a0 s : State} (h : Keeps a0 s) (a req : Nat) :
    Keeps a0 (State.busGet s a req).2 := by
  unfold State.busGet
  extract_lets c
  with_reducible (repeat' first | assumption | apply Keeps.ite | apply keeps_failCount | apply keeps_regRead | split | intro _)

/-! ## Fw -/

theorem keeps_accessTrap {a0 s : State} (h : Keeps a0 s) (req : Nat) (c : Code) :
    Keeps a0 (State.accessTrap s req c) := by
  unfold State.accessTrap
  with_reducible (repeat' first | assumption | apply Keeps.ite | apply keeps_millerRestart | apply keeps_wrightRestart | split | intro _)

theorem keeps_actPut {a0 s : State} (h : Keeps a0 s) (a : Nat) (data : Word) (req : Nat) :
    Keeps a0 (State.actPut s a data req) := by
  unfold State.actPut
  with_reducible (repeat' first | assumption | apply Keeps.ite | apply keeps_busPut | apply keeps_accessTrap | split | intro _)

theorem keeps_doMbxPayloadWrite {a0 s : State} (h : Keeps a0 s) (b : Box) (i : Fin 16) (data : Word) (req : Nat) :
    Keeps a0 (doMbxPayloadWrite b i data req s) := by
  unfold doMbxPayloadWrite
  with_reducible (repeat' first | assumption | apply Keeps.ite | apply keeps_actPut | split | intro _)

theorem keeps_doMbxRing {a0 s : State} (h : Keeps a0 s) (b : Box) (req : Nat) :
    Keeps a0 (doMbxRing b req s) := by
  unfold doMbxRing
  with_reducible (repeat' first | assumption | apply Keeps.ite | apply keeps_actPut | split | intro _)

theorem keeps_doMbxAgeTick {a0 s : State} (h : Keeps a0 s) (b : Box) :
    Keeps a0 (doMbxAgeTick b s) := by
  unfold doMbxAgeTick
  with_reducible (repeat' first | assumption | apply Keeps.ite | apply keeps_bset | split | intro _)

theorem keeps_doHostEpochWrite {a0 s : State} (h : Keeps a0 s) (data : Word) :
    Keeps a0 (doHostEpochWrite data s) := by
  unfold doHostEpochWrite
  with_reducible (repeat' first | assumption | apply Keeps.ite | apply keeps_actPut | split | intro _)

theorem keeps_fwFail {a0 s : State} (h : Keeps a0 s) (k : Fin 4) (status : Nat) :
    Keeps a0 (State.fwFail s k status) := by
  unfold State.fwFail
  with_reducible (repeat' first | assumption | apply Keeps.ite | apply keeps_modFw | apply keeps_fwAnswer | split | intro _)

theorem keeps_fwTake {a0 s : State} (h : Keeps a0 s) (k : Fin 4) :
    Keeps a0 (State.fwTake s k) := by
  unfold State.fwTake
  with_reducible (repeat' first | assumption | apply Keeps.ite | apply keeps_boxTake | apply keeps_draise | apply keeps_millerRestart | apply keeps_fwFail | apply keeps_modFw | apply Keeps.modDev | exact fun d => ⟨rfl, rfl, rfl, rfl⟩ | split | intro _)

theorem keeps_doMbxTake {a0 s : State} (h : Keeps a0 s) (b : Box) (req : Nat) :
    Keeps a0 (doMbxTake b req s) := by
  unfold doMbxTake
  with_reducible (repeat' first | assumption | apply Keeps.ite | apply keeps_fwTake | apply keeps_actPut | split | intro _)

theorem keeps_doHeldCommandStart {a0 s : State} (h : Keeps a0 s) (k : Fin 4) :
    Keeps a0 (doHeldCommandStart k s) := by
  unfold doHeldCommandStart
  with_reducible (repeat' first | assumption | apply Keeps.ite | apply keeps_fwFail | apply keeps_modFw | split | intro _)

theorem keeps_doResponsePost {a0 s : State} (h : Keeps a0 s) (k : Fin 4) :
    Keeps a0 (doResponsePost k s) := by
  unfold doResponsePost
  with_reducible (repeat' first | assumption | apply Keeps.ite | apply keeps_fwPost | split | intro _)

theorem keeps_doM2wAgeTimeout {a0 s : State} (h : Keeps a0 s) (n : Ch) (j : Fin 2) :
    Keeps a0 (doM2wAgeTimeout n j s) := by
  unfold doM2wAgeTimeout
  with_reducible (repeat' first | assumption | apply Keeps.ite | apply keeps_wrightLoad | apply keeps_fwWrightLost | split | intro _)

theorem keeps_fwBegin {a0 s : State} (h : Keeps a0 s) (k : Fin 4) (exchange : Bool) :
    Keeps a0 (State.fwBegin s k exchange) := by
  unfold State.fwBegin
  with_reducible (repeat' first | assumption | apply Keeps.ite | apply keeps_modFw | split | intro _)

theorem keeps_doPing {a0 s : State} (h : Keeps a0 s) (k : Fin 4) :
    Keeps a0 (doPing k s) := by
  unfold doPing
  with_reducible (repeat' first | assumption | apply Keeps.ite | apply keeps_fwAnswer | split | intro _)

theorem keeps_doFwInfo {a0 s : State} (h : Keeps a0 s) (k : Fin 4) :
    Keeps a0 (doFwInfo k s) := by
  unfold doFwInfo
  with_reducible (repeat' first | assumption | apply Keeps.ite | apply keeps_fwAnswer | split | intro _)

theorem keeps_doChPower {a0 s : State} (h : Keeps a0 s) (k : Fin 4) (part : FwPart) :
    Keeps a0 (doChPower k part s) := by
  unfold doChPower
  with_reducible (repeat' first | assumption | apply Keeps.ite | apply keeps_modFw | apply keeps_fwBegin | apply keeps_pwrRequest | apply keeps_fwAnswer | split | intro _)

theorem keeps_doChBringup {a0 s : State} (h : Keeps a0 s) (k : Fin 4) (part : FwPart) :
    Keeps a0 (doChBringup k part s) := by
  unfold doChBringup
  with_reducible (repeat' first | assumption | apply Keeps.ite | apply keeps_fwBegin | apply keeps_fwAnswer | split | intro _)

theorem keeps_fwWs {a0 s : State} (h : Keeps a0 s) (f : Field) (n : Ch) :
    Keeps a0 (State.fwWs s f n) := by
  unfold State.fwWs
  with_reducible (repeat' first | assumption | apply Keeps.ite | apply keeps_wsWrite | apply keeps_afterWrite | split | intro _)

theorem keeps_doHostRetrain {a0 s : State} (h : Keeps a0 s) (k : Fin 4) (part : FwPart) :
    Keeps a0 (doHostRetrain k part s) := by
  unfold doHostRetrain
  with_reducible (repeat' first | assumption | apply Keeps.ite | apply keeps_fwBegin | apply keeps_fwWs | apply keeps_fwAnswer | split | intro _)

theorem keeps_doDressPass {a0 s : State} (h : Keeps a0 s) (k : Fin 4) (part : FwPart) :
    Keeps a0 (doDressPass k part s) := by
  unfold doDressPass
  with_reducible (repeat' first | assumption | apply Keeps.ite | apply keeps_fwBegin | apply Keeps.set | apply keeps_fwWs | apply keeps_fwAnswer | split | intro _)

theorem keeps_doTrialCh {a0 s : State} (h : Keeps a0 s) (k : Fin 4) (part : FwPart) :
    Keeps a0 (doTrialCh k part s) := by
  unfold doTrialCh
  with_reducible (repeat' first | assumption | apply Keeps.ite | apply Keeps.set | apply keeps_fwWs | apply keeps_fwBegin | apply keeps_fwAnswer | split | intro _)

theorem keeps_doTrialStatus {a0 s : State} (h : Keeps a0 s) (k : Fin 4) :
    Keeps a0 (doTrialStatus k s) := by
  unfold doTrialStatus
  with_reducible (repeat' first | assumption | apply Keeps.ite | apply keeps_fwAnswer | split | intro _)

theorem keeps_doMrSend {a0 s : State} (h : Keeps a0 s) (k : Fin 4) :
    Keeps a0 (doMrSend k s) := by
  unfold doMrSend
  split
  · exact h
  · extract_lets n len ttl send
    have ks : ∀ t b, Keeps a0 t → Keeps a0 (send t b) := by
      intro t b ht
      unfold send
      extract_lets r
      have kr : Keeps a0 r.2 := keeps_mrSend ht ..
      clear_value r
      with_reducible (repeat' first | assumption | apply Keeps.ite | apply keeps_mrSend | apply keeps_fwAnswer | apply keeps_readWords | apply keeps_millerRestart | split | intro _)
    clear_value send
    split
    · exact ks _ _ h
    · rename_i r _
      have kr : Keeps a0 r.2 := keeps_readWords h ..
      clear_value r
      split
      · exact keeps_millerRestart kr ..
      · exact ks _ _ kr

theorem keeps_doScrub {a0 s : State} (h : Keeps a0 s) (k : Fin 4) (part : FwPart) :
    Keeps a0 (doScrub k part s) := by
  unfold doScrub
  with_reducible (repeat' first | assumption | apply Keeps.ite | apply keeps_xset | apply keeps_fwWs | apply keeps_fwAnswer | apply keeps_fwBegin | split | intro _)

theorem keeps_doMemTest {a0 s : State} (h : Keeps a0 s) (k : Fin 4) (part : FwPart) :
    Keeps a0 (doMemTest k part s) := by
  unfold doMemTest
  with_reducible (repeat' first | assumption | apply Keeps.ite | apply keeps_fwAnswer | apply keeps_xset | apply keeps_fwWs | apply keeps_fwBegin | split | intro _)

theorem keeps_doRestartWright {a0 s : State} (h : Keeps a0 s) (k : Fin 4) (part : FwPart) :
    Keeps a0 (doRestartWright k part s) := by
  unfold doRestartWright
  with_reducible (repeat' first | assumption | apply Keeps.ite | apply keeps_fwBegin | apply keeps_wrightLoad | apply keeps_fwWrightLost | apply keeps_fwAnswer | split | intro _)

/-! ## Flags -/

theorem keeps_modPort {a0 s : State} (h : Keeps a0 s) (p : Port) (f : PortState → PortState) :
    Keeps a0 (State.modPort s p f) := by
  unfold State.modPort
  with_reducible (repeat' first | assumption | apply Keeps.ite | apply Keeps.modDev | exact fun d => ⟨rfl, rfl, rfl, rfl⟩ | split | intro _)

theorem keeps_noteFail {a0 s : State} (h : Keeps a0 s) (p : Port) (code detail addr : Nat) :
    Keeps a0 (State.noteFail s p code detail addr) := by
  unfold State.noteFail
  with_reducible (repeat' first | assumption | apply Keeps.ite | apply keeps_modPort | split | intro _)

theorem keeps_txnEnd {a0 s : State} (h : Keeps a0 s) (p : Port) :
    Keeps a0 (State.txnEnd s p) := by
  unfold State.txnEnd
  with_reducible (repeat' first | assumption | apply Keeps.ite | apply Keeps.set | apply keeps_incr | apply keeps_dirq | apply keeps_modPort | split | intro _)

theorem keeps_txnSettle {a0 s : State} (h : Keeps a0 s) (p : Port) :
    Keeps a0 (State.txnSettle s p) := by
  unfold State.txnSettle
  with_reducible (repeat' first | assumption | apply Keeps.ite | apply keeps_txnEnd | split | intro _)

/-! ## HostPort -/

theorem keeps_aperRead {a0 s : State} (h : Keeps a0 s) (m off req : Nat) :
    Keeps a0 (State.aperRead s m off req).2 := by
  unfold State.aperRead
  extract_lets w r
  with_reducible (repeat' first | assumption | apply Keeps.ite | apply keeps_countMem | apply keeps_memRead | split | intro _)

theorem keeps_aperWrite {a0 s : State} (h : Keeps a0 s) (m off : Nat) (data : Word) (pair : Option Word) (req : Nat) :
    Keeps a0 (State.aperWrite s m off data pair req).2 := by
  unfold State.aperWrite
  extract_lets w r
  with_reducible (repeat' first | assumption | apply Keeps.ite | apply keeps_countMem | apply keeps_memWrite | apply keeps_memMerge | split | intro _)

theorem keeps_portGet {a0 s : State} (h : Keeps a0 s) (p : Port) (obs : Bool) (a : Nat) :
    Keeps a0 (State.portGet s p obs a).2 := by
  unfold State.portGet
  extract_lets req
  split
  · split
    · exact h
    · extract_lets deny c
      with_reducible (repeat' first | assumption | apply Keeps.ite | apply keeps_countMem | apply keeps_aperRead | apply keeps_failCount | apply keeps_busGet | split | intro _)
  · with_reducible (repeat' first | assumption | apply Keeps.ite | apply keeps_countMem | apply keeps_aperRead | apply keeps_failCount | apply keeps_busGet | split | intro _)

theorem keeps_portPut {a0 s : State} (h : Keeps a0 s) (p : Port) (obs : Bool) (x : BufWord) :
    Keeps a0 (State.portPut s p obs x).2 := by
  unfold State.portPut
  extract_lets req a
  split
  · split
    · exact h
    · extract_lets deny c
      with_reducible (repeat' first | assumption | apply Keeps.ite | apply keeps_countMem | apply keeps_aperWrite | apply keeps_failCount | apply keeps_busPut | split | intro _)
  · with_reducible (repeat' first | assumption | apply Keeps.ite | apply keeps_countMem | apply keeps_aperWrite | apply keeps_failCount | apply keeps_busPut | split | intro _)

theorem keeps_drainWord {a0 s : State} (h : Keeps a0 s) (p : Port) (x : BufWord) :
    Keeps a0 (State.drainWord s p x) := by
  unfold State.drainWord
  with_reducible (repeat' first | assumption | apply Keeps.ite | apply keeps_portPut | apply keeps_noteFail | split | intro _)

theorem keeps_drain {a0 s : State} (h : Keeps a0 s) (p : Port) (x0 : Nat) :
    Keeps a0 (State.drain s p x0) := by
  fun_induction State.drain s p x0 <;>
    with_reducible (repeat' first | assumption | apply Keeps.ite | apply keeps_modPort | apply keeps_drainWord | apply_assumption | split | intro _)

theorem keeps_drainAll {a0 s : State} (h : Keeps a0 s) (p : Port) :
    Keeps a0 (State.drainAll s p) := by
  unfold State.drainAll
  with_reducible (repeat' first | assumption | apply Keeps.ite | apply keeps_drain | apply keeps_txnSettle | split | intro _)

theorem keeps_doWriteBufferDrain {a0 s : State} (h : Keeps a0 s) (p : Port) :
    Keeps a0 (doWriteBufferDrain p s) := by
  unfold doWriteBufferDrain
  with_reducible (repeat' first | assumption | apply Keeps.ite | apply keeps_drain | apply keeps_txnSettle | split | intro _)

theorem keeps_txnOpen {a0 s : State} (h : Keeps a0 s) (p : Port) (cmd : Nat) :
    Keeps a0 (State.txnOpen s p cmd) := by
  unfold State.txnOpen
  with_reducible (repeat' first | assumption | apply Keeps.ite | apply keeps_drainAll | apply keeps_modPort | split | intro _)

theorem keeps_txnBegin {a0 s : State} (h : Keeps a0 s) (p : Port) (cmd : Nat) :
    Keeps a0 (State.txnBegin s p cmd) := by
  unfold State.txnBegin
  with_reducible (repeat' first | assumption | apply Keeps.ite | apply keeps_modPort | apply keeps_devWake | apply keeps_txnOpen | split | intro _)

theorem keeps_txnDiscard {a0 s : State} (h : Keeps a0 s) (p : Port) (c : Code) (addr k : Nat) :
    Keeps a0 (State.txnDiscard s p c addr k) := by
  unfold State.txnDiscard
  with_reducible (repeat' first | assumption | apply Keeps.ite | apply keeps_modPort | apply keeps_txnEnd | split | intro _)

theorem keeps_partialWord {a0 s : State} (h : Keeps a0 s) (p : Port) (framing : Framing) (addr : Nat) :
    Keeps a0 (State.partialWord s p framing addr) := by
  unfold State.partialWord
  with_reducible (repeat' first | assumption | apply Keeps.ite | apply keeps_noteFail | split | intro _)

theorem keeps_readBurst {a0 s : State} (h : Keeps a0 s) (p : Port) (obs : Bool) (late : List Nat) (addr i : Nat) (x0 : Nat) :
    Keeps a0 (State.readBurst s p obs late addr i x0).2 := by
  fun_induction State.readBurst s p obs late addr i x0 <;>
    with_reducible (repeat' first | assumption | apply Keeps.ite | apply keeps_portGet | apply keeps_noteFail | apply_assumption | split | intro _)

theorem keeps_doHostRead {a0 s : State} (h : Keeps a0 s) (p : Port) (i2c : BitVec 7) (low : BitVec 6) (addr : BitVec 24) (count : Nat) (framing : Framing) (late : List Nat) :
    Keeps a0 (doHostRead p i2c low addr count framing late s) := by
  unfold doHostRead
  extract_lets b k s1 r
  with_reducible (repeat' first | assumption | apply Keeps.ite | apply keeps_count | apply keeps_txnBegin | apply keeps_txnDiscard | apply keeps_modPort | apply keeps_readBurst | apply keeps_partialWord | apply keeps_txnEnd | split | intro _)

theorem keeps_overflowWord {a0 s : State} (h : Keeps a0 s) (p : Port) (obs : Bool) (x : BufWord) :
    Keeps a0 (State.overflowWord s p obs x) := by
  unfold State.overflowWord
  with_reducible (repeat' first | assumption | apply Keeps.ite | apply keeps_portPut | apply keeps_noteFail | split | intro _)

theorem keeps_busyWords {a0 s : State} (h : Keeps a0 s) (p : Port) (a : Nat) (x0 : List Word) :
    Keeps a0 (State.busyWords s p a x0) := by
  fun_induction State.busyWords s p a x0 <;>
    with_reducible (repeat' first | assumption | apply Keeps.ite | apply keeps_noteFail | apply_assumption | split | intro _)

theorem keeps_writeWord {a0 s : State} (h : Keeps a0 s) (p : Port) (obs : Bool) (a : Nat) (w : Word) (hi : Option Word) (ds : List Nat) :
    Keeps a0 (State.writeWord s p obs a w hi ds).2 := by
  unfold State.writeWord
  extract_lets s1 x s2
  with_reducible (repeat' first | assumption | apply Keeps.ite | apply keeps_drain | apply keeps_overflowWord | apply keeps_modPort | split | intro _)

theorem keeps_writeBurst {a0 s : State} (h : Keeps a0 s) (p : Port) (obs : Bool) (a : Nat) (x0 : List Word) (x1 : List Nat) :
    Keeps a0 (State.writeBurst s p obs a x0 x1).2 := by
  fun_induction State.writeBurst s p obs a x0 x1 <;>
    with_reducible (repeat' first | assumption | apply Keeps.ite | apply keeps_writeWord | apply keeps_busyWords | apply_assumption | split | intro _)

theorem keeps_doHostWrite {a0 s : State} (h : Keeps a0 s) (p : Port) (i2c : BitVec 7) (low : BitVec 6) (addr : BitVec 24) (data : List Word) (framing : Framing) (drains : List Nat) :
    Keeps a0 (doHostWrite p i2c low addr data framing drains s) := by
  unfold doHostWrite
  extract_lets b ws s1 r s2
  with_reducible (repeat' first | assumption | apply Keeps.ite | apply keeps_txnBegin | apply keeps_txnDiscard | apply keeps_writeBurst | apply keeps_partialWord | apply keeps_txnSettle | apply keeps_drainWord | apply keeps_txnEnd | split | intro _)

theorem keeps_statusRefused {a0 s : State} (h : Keeps a0 s) (p : Port) (low : BitVec 6) (c : Code) :
    Keeps a0 (State.statusRefused s p low c) := by
  unfold State.statusRefused
  with_reducible (repeat' first | assumption | apply Keeps.ite | apply keeps_modPort | apply keeps_txnOpen | apply keeps_txnDiscard | split | intro _)

theorem keeps_doStatusCommand {a0 s : State} (h : Keeps a0 s) (p : Port) (i2c : BitVec 7) (low : BitVec 6) (framing : Framing) :
    Keeps a0 (doStatusCommand p i2c low framing s) := by
  unfold doStatusCommand
  with_reducible (repeat' first | assumption | apply Keeps.ite | apply keeps_statusRefused | apply keeps_modPort | split | intro _)

theorem keeps_idRefused {a0 s : State} (h : Keeps a0 s) (p : Port) (low : BitVec 6) (framing : Framing) (c : Code) :
    Keeps a0 (State.idRefused s p low framing c) := by
  unfold State.idRefused
  with_reducible (repeat' first | assumption | apply Keeps.ite | apply keeps_txnDiscard | apply keeps_modPort | split | intro _)

theorem keeps_doReadId {a0 s : State} (h : Keeps a0 s) (p : Port) (i2c : BitVec 7) (low : BitVec 6) (framing : Framing) :
    Keeps a0 (doReadId p i2c low framing s) := by
  unfold doReadId
  extract_lets s1 deny
  with_reducible (repeat' first | assumption | apply Keeps.ite | apply keeps_txnBegin | apply keeps_idRefused | apply keeps_partialWord | apply keeps_txnEnd | apply keeps_modPort | split | intro _)

/-! ## Rows -/

theorem keeps_actGet {a0 s : State} (h : Keeps a0 s) (a req : Nat) :
    Keeps a0 (State.actGet s a req) := by
  unfold State.actGet
  with_reducible (repeat' first | assumption | apply Keeps.ite | apply keeps_busGet | apply keeps_accessTrap | split | intro _)

theorem keeps_doRegisterWrite {a0 s : State} (h : Keeps a0 s) (a : Nat) (data : Word) (req : Nat) :
    Keeps a0 (doRegisterWrite a data req s) := by
  unfold doRegisterWrite
  with_reducible (repeat' first | assumption | apply Keeps.ite | apply keeps_actPut | split | intro _)

theorem keeps_doAuthenticate {a0 s : State} (h : Keeps a0 s) :
    Keeps a0 (doAuthenticate s) := by
  unfold doAuthenticate
  with_reducible (repeat' first | assumption | apply Keeps.ite | apply keeps_actPut | split | intro _)

theorem keeps_doTrialAll {a0 s : State} (h : Keeps a0 s) :
    Keeps a0 (doTrialAll s) := by
  unfold doTrialAll
  with_reducible (repeat' first | assumption | apply Keeps.ite | apply keeps_actPut | split | intro _)

theorem keeps_doCommit {a0 s : State} (h : Keeps a0 s) :
    Keeps a0 (doCommit s) := by
  unfold doCommit
  with_reducible (repeat' first | assumption | apply Keeps.ite | apply keeps_actPut | split | intro _)

theorem keeps_doOtpProgram {a0 s : State} (h : Keeps a0 s) :
    Keeps a0 (doOtpProgram s) := by
  unfold doOtpProgram
  with_reducible (repeat' first | assumption | apply Keeps.ite | apply keeps_actPut | split | intro _)

theorem keeps_doSwreset {a0 s : State} (h : Keeps a0 s) (key : Word) :
    Keeps a0 (doSwreset key s) := by
  unfold doSwreset
  with_reducible (repeat' first | assumption | apply Keeps.ite | apply keeps_actPut | split | intro _)

theorem keeps_doChReset {a0 s : State} (h : Keeps a0 s) (n : Ch) :
    Keeps a0 (doChReset n s) := by
  unfold doChReset
  with_reducible (repeat' first | assumption | apply Keeps.ite | apply keeps_actPut | split | intro _)

theorem keeps_doMillerReset {a0 s : State} (h : Keeps a0 s) :
    Keeps a0 (doMillerReset s) := by
  unfold doMillerReset
  with_reducible (repeat' first | assumption | apply Keeps.ite | apply keeps_actPut | split | intro _)

theorem keeps_doModeApplyGo {a0 s : State} (h : Keeps a0 s) (n : Ch) :
    Keeps a0 (doModeApplyGo n s) := by
  unfold doModeApplyGo
  with_reducible (repeat' first | assumption | apply Keeps.ite | apply keeps_actPut | split | intro _)

theorem keeps_doRetrain {a0 s : State} (h : Keeps a0 s) (n : Ch) (l : Fin 2) :
    Keeps a0 (doRetrain n l s) := by
  unfold doRetrain
  with_reducible (repeat' first | assumption | apply Keeps.ite | apply keeps_actPut | split | intro _)

theorem keeps_doTxFirWrite {a0 s : State} (h : Keeps a0 s) (n : Ch) (l : Fin 2) (hi : Bool) (data : Word) :
    Keeps a0 (doTxFirWrite n l hi data s) := by
  unfold doTxFirWrite
  with_reducible (repeat' first | assumption | apply Keeps.ite | apply keeps_actPut | split | intro _)

theorem keeps_doLaneFsmPar {a0 s : State} (h : Keeps a0 s) (n : Ch) (l : Fin 2) (k : Fin 3) :
    Keeps a0 (doLaneFsmPar n l k s) := by
  unfold doLaneFsmPar
  with_reducible (repeat' first | assumption | apply Keeps.ite | apply keeps_raiseFsm | apply keeps_laneParity | split | intro _)

theorem keeps_doSlipGo {a0 s : State} (h : Keeps a0 s) (n : Ch) (side : Fin 2) (bits : BitVec 4) :
    Keeps a0 (doSlipGo n side bits s) := by
  unfold doSlipGo
  with_reducible (repeat' first | assumption | apply Keeps.ite | apply keeps_actPut | split | intro _)

theorem keeps_doHfecClrCnt {a0 s : State} (h : Keeps a0 s) (n : Ch) :
    Keeps a0 (doHfecClrCnt n s) := by
  unfold doHfecClrCnt
  with_reducible (repeat' first | assumption | apply Keeps.ite | apply keeps_actPut | split | intro _)

theorem keeps_doHfecFsmPar {a0 s : State} (h : Keeps a0 s) (n : Ch) (k : Fin 4) :
    Keeps a0 (doHfecFsmPar n k s) := by
  unfold doHfecFsmPar
  with_reducible (repeat' first | assumption | apply Keeps.ite | apply keeps_raiseFsm | apply keeps_hfecParity | split | intro _)

theorem keeps_doFirApply {a0 s : State} (h : Keeps a0 s) (n : Ch) :
    Keeps a0 (doFirApply n s) := by
  unfold doFirApply
  with_reducible (repeat' first | assumption | apply Keeps.ite | apply keeps_actPut | split | intro _)

theorem keeps_doNlLoad {a0 s : State} (h : Keeps a0 s) (n : Ch) :
    Keeps a0 (doNlLoad n s) := by
  unfold doNlLoad
  with_reducible (repeat' first | assumption | apply Keeps.ite | apply keeps_actPut | split | intro _)

theorem keeps_doLtxFsmPar {a0 s : State} (h : Keeps a0 s) (n : Ch) :
    Keeps a0 (doLtxFsmPar n s) := by
  unfold doLtxFsmPar
  with_reducible (repeat' first | assumption | apply Keeps.ite | apply keeps_raiseFsm | apply keeps_ltxParity | split | intro _)

theorem keeps_doGainReacq {a0 s : State} (h : Keeps a0 s) (n : Ch) :
    Keeps a0 (doGainReacq n s) := by
  unfold doGainReacq
  with_reducible (repeat' first | assumption | apply Keeps.ite | apply keeps_actPut | split | intro _)

theorem keeps_doGainModeWrite {a0 s : State} (h : Keeps a0 s) (n : Ch) (data : Word) :
    Keeps a0 (doGainModeWrite n data s) := by
  unfold doGainModeWrite
  with_reducible (repeat' first | assumption | apply Keeps.ite | apply keeps_actPut | split | intro _)

theorem keeps_doPlausTest {a0 s : State} (h : Keeps a0 s) (n : Ch) :
    Keeps a0 (doPlausTest n s) := by
  unfold doPlausTest
  with_reducible (repeat' first | assumption | apply Keeps.ite | apply keeps_actPut | split | intro _)

theorem keeps_doSwap {a0 s : State} (h : Keeps a0 s) (n : Ch) :
    Keeps a0 (doSwap n s) := by
  unfold doSwap
  with_reducible (repeat' first | assumption | apply Keeps.ite | apply keeps_actPut | split | intro _)

theorem keeps_doShadowEnWrite {a0 s : State} (h : Keeps a0 s) (n : Ch) (on : Bool) :
    Keeps a0 (doShadowEnWrite n on s) := by
  unfold doShadowEnWrite
  with_reducible (repeat' first | assumption | apply Keeps.ite | apply keeps_actPut | split | intro _)

theorem keeps_doCapArm {a0 s : State} (h : Keeps a0 s) (n : Ch) :
    Keeps a0 (doCapArm n s) := by
  unfold doCapArm
  with_reducible (repeat' first | assumption | apply Keeps.ite | apply keeps_actPut | split | intro _)

theorem keeps_doCapAbort {a0 s : State} (h : Keeps a0 s) (n : Ch) :
    Keeps a0 (doCapAbort n s) := by
  unfold doCapAbort
  with_reducible (repeat' first | assumption | apply Keeps.ite | apply keeps_actPut | split | intro _)

theorem keeps_doLrxClrStats {a0 s : State} (h : Keeps a0 s) (n : Ch) :
    Keeps a0 (doLrxClrStats n s) := by
  unfold doLrxClrStats
  with_reducible (repeat' first | assumption | apply Keeps.ite | apply keeps_actPut | split | intro _)

theorem keeps_doLrxFsmPar {a0 s : State} (h : Keeps a0 s) (n : Ch) (k : Fin 3) :
    Keeps a0 (doLrxFsmPar n k s) := by
  unfold doLrxFsmPar
  with_reducible (repeat' first | assumption | apply Keeps.ite | apply keeps_raiseFsm | apply keeps_lrxParity | split | intro _)

theorem keeps_doPfApply {a0 s : State} (h : Keeps a0 s) (n : Ch) :
    Keeps a0 (doPfApply n s) := by
  unfold doPfApply
  with_reducible (repeat' first | assumption | apply Keeps.ite | apply keeps_actPut | split | intro _)

theorem keeps_doTimReacq {a0 s : State} (h : Keeps a0 s) (n : Ch) :
    Keeps a0 (doTimReacq n s) := by
  unfold doTimReacq
  with_reducible (repeat' first | assumption | apply Keeps.ite | apply keeps_actPut | split | intro _)

theorem keeps_doTimClrStats {a0 s : State} (h : Keeps a0 s) (n : Ch) :
    Keeps a0 (doTimClrStats n s) := by
  unfold doTimClrStats
  with_reducible (repeat' first | assumption | apply Keeps.ite | apply keeps_actPut | split | intro _)

theorem keeps_doTimFsmPar {a0 s : State} (h : Keeps a0 s) (n : Ch) (k : Fin 2) :
    Keeps a0 (doTimFsmPar n k s) := by
  unfold doTimFsmPar
  with_reducible (repeat' first | assumption | apply Keeps.ite | apply keeps_raiseFsm | apply keeps_timParity | split | intro _)

theorem keeps_doEqRestart {a0 s : State} (h : Keeps a0 s) (n : Ch) :
    Keeps a0 (doEqRestart n s) := by
  unfold doEqRestart
  with_reducible (repeat' first | assumption | apply Keeps.ite | apply keeps_actPut | split | intro _)

theorem keeps_doEyeStart {a0 s : State} (h : Keeps a0 s) (n : Ch) :
    Keeps a0 (doEyeStart n s) := by
  unfold doEyeStart
  with_reducible (repeat' first | assumption | apply Keeps.ite | apply keeps_actPut | split | intro _)

theorem keeps_doEyeAbort {a0 s : State} (h : Keeps a0 s) (n : Ch) :
    Keeps a0 (doEyeAbort n s) := by
  unfold doEyeAbort
  with_reducible (repeat' first | assumption | apply Keeps.ite | apply keeps_actPut | split | intro _)

theorem keeps_doEqClrStats {a0 s : State} (h : Keeps a0 s) (n : Ch) :
    Keeps a0 (doEqClrStats n s) := by
  unfold doEqClrStats
  with_reducible (repeat' first | assumption | apply Keeps.ite | apply keeps_actPut | split | intro _)

theorem keeps_doEqFsmPar {a0 s : State} (h : Keeps a0 s) (n : Ch) (k : Fin 3) :
    Keeps a0 (doEqFsmPar n k s) := by
  unfold doEqFsmPar
  with_reducible (repeat' first | assumption | apply Keeps.ite | apply keeps_raiseFsm | apply keeps_eqParity | split | intro _)

theorem keeps_doBoltClrCnt {a0 s : State} (h : Keeps a0 s) (n : Ch) :
    Keeps a0 (doBoltClrCnt n s) := by
  unfold doBoltClrCnt
  with_reducible (repeat' first | assumption | apply Keeps.ite | apply keeps_actPut | split | intro _)

theorem keeps_doBoltFsmPar {a0 s : State} (h : Keeps a0 s) (n : Ch) :
    Keeps a0 (doBoltFsmPar n s) := by
  unfold doBoltFsmPar
  with_reducible (repeat' first | assumption | apply Keeps.ite | apply keeps_raiseFsm | apply keeps_boltParity | split | intro _)

theorem keeps_doDressCmdPass {a0 s : State} (h : Keeps a0 s) (n : Ch) (req : Nat) :
    Keeps a0 (doDressCmdPass n req s) := by
  unfold doDressCmdPass
  with_reducible (repeat' first | assumption | apply Keeps.ite | apply keeps_actPut | split | intro _)

theorem keeps_doDressCmdAbort {a0 s : State} (h : Keeps a0 s) (n : Ch) (byEn : Bool) :
    Keeps a0 (doDressCmdAbort n byEn s) := by
  unfold doDressCmdAbort
  with_reducible (repeat' first | assumption | apply Keeps.ite | apply keeps_actPut | split | intro _)

theorem keeps_doDressFsmPar {a0 s : State} (h : Keeps a0 s) (n : Ch) :
    Keeps a0 (doDressFsmPar n s) := by
  unfold doDressFsmPar
  with_reducible (repeat' first | assumption | apply Keeps.ite | apply keeps_raiseFsm | apply keeps_dressParity | split | intro _)

theorem keeps_doTxFlush {a0 s : State} (h : Keeps a0 s) (n : Ch) :
    Keeps a0 (doTxFlush n s) := by
  unfold doTxFlush
  with_reducible (repeat' first | assumption | apply Keeps.ite | apply keeps_actPut | split | intro _)

theorem keeps_doEcho {a0 s : State} (h : Keeps a0 s) (n : Ch) :
    Keeps a0 (doEcho n s) := by
  unfold doEcho
  with_reducible (repeat' first | assumption | apply Keeps.ite | apply keeps_actPut | split | intro _)

theorem keeps_doRxPop {a0 s : State} (h : Keeps a0 s) (n : Ch) :
    Keeps a0 (doRxPop n s) := by
  unfold doRxPop
  with_reducible (repeat' first | assumption | apply Keeps.ite | apply keeps_actPut | split | intro _)

theorem keeps_doRelayEntryWrite {a0 s : State} (h : Keeps a0 s) (n : Ch) (e : Fin 64) (data : Word) :
    Keeps a0 (doRelayEntryWrite n e data s) := by
  unfold doRelayEntryWrite
  with_reducible (repeat' first | assumption | apply Keeps.ite | apply keeps_actPut | split | intro _)

theorem keeps_doMrFsmPar {a0 s : State} (h : Keeps a0 s) (n : Ch) (k : Fin 2) :
    Keeps a0 (doMrFsmPar n k s) := by
  unfold doMrFsmPar
  with_reducible (repeat' first | assumption | apply Keeps.ite | apply keeps_raiseFsm | apply keeps_mrParity | split | intro _)

theorem keeps_doMrMemPar {a0 s : State} (h : Keeps a0 s) (n : Ch) (w : MrWord) :
    Keeps a0 (doMrMemPar n w s) := by
  unfold doMrMemPar
  with_reducible (repeat' first | assumption | apply Keeps.ite | apply keeps_raise | apply keeps_mrDrop | split | intro _)

theorem keeps_doRelayPar {a0 s : State} (h : Keeps a0 s) (n : Ch) (w : RelayWord) :
    Keeps a0 (doRelayPar n w s) := by
  unfold doRelayPar
  with_reducible (repeat' first | assumption | apply Keeps.ite | apply keeps_raise | apply keeps_relayLose | split | intro _)

theorem keeps_doGaugeTrigger {a0 s : State} (h : Keeps a0 s) (n : Ch) :
    Keeps a0 (doGaugeTrigger n s) := by
  unfold doGaugeTrigger
  with_reducible (repeat' first | assumption | apply Keeps.ite | apply keeps_actPut | split | intro _)

theorem keeps_doGaugeDiag {a0 s : State} (h : Keeps a0 s) (n : Ch) :
    Keeps a0 (doGaugeDiag n s) := by
  unfold doGaugeDiag
  with_reducible (repeat' first | assumption | apply Keeps.ite | apply keeps_actPut | split | intro _)

theorem keeps_doGaugeClrStats {a0 s : State} (h : Keeps a0 s) (n : Ch) :
    Keeps a0 (doGaugeClrStats n s) := by
  unfold doGaugeClrStats
  with_reducible (repeat' first | assumption | apply Keeps.ite | apply keeps_actPut | split | intro _)

theorem keeps_doGaugeFsmPar {a0 s : State} (h : Keeps a0 s) (n : Ch) (k : Fin 2) :
    Keeps a0 (doGaugeFsmPar n k s) := by
  unfold doGaugeFsmPar
  with_reducible (repeat' first | assumption | apply Keeps.ite | apply keeps_raiseFsm | apply keeps_gaugeParity | split | intro _)

theorem keeps_doDacCfgWrite {a0 s : State} (h : Keeps a0 s) (n : Ch) (d : Fin 3) (data : Word) :
    Keeps a0 (doDacCfgWrite n d data s) := by
  unfold doDacCfgWrite
  with_reducible (repeat' first | assumption | apply Keeps.ite | apply keeps_actPut | split | intro _)

theorem keeps_doDacDataPush {a0 s : State} (h : Keeps a0 s) (n : Ch) (d : Fin 3) (code : BitVec 16) :
    Keeps a0 (doDacDataPush n d code s) := by
  unfold doDacDataPush
  with_reducible (repeat' first | assumption | apply Keeps.ite | apply keeps_actPut | split | intro _)

theorem keeps_doOutFsmPar {a0 s : State} (h : Keeps a0 s) (n : Ch) :
    Keeps a0 (doOutFsmPar n s) := by
  unfold doOutFsmPar
  with_reducible (repeat' first | assumption | apply Keeps.ite | apply keeps_raiseFsm | apply keeps_outParity | split | intro _)

theorem keeps_doKilnEnWrite {a0 s : State} (h : Keeps a0 s) (n : Ch) (on : Bool) :
    Keeps a0 (doKilnEnWrite n on s) := by
  unfold doKilnEnWrite
  with_reducible (repeat' first | assumption | apply Keeps.ite | apply keeps_actPut | split | intro _)

theorem keeps_doIntegWrite {a0 s : State} (h : Keeps a0 s) (n : Ch) (hi : Bool) (data : Word) :
    Keeps a0 (doIntegWrite n hi data s) := by
  unfold doIntegWrite
  with_reducible (repeat' first | assumption | apply Keeps.ite | apply keeps_actPut | split | intro _)

theorem keeps_doKilnFsmPar {a0 s : State} (h : Keeps a0 s) (n : Ch) :
    Keeps a0 (doKilnFsmPar n s) := by
  unfold doKilnFsmPar
  with_reducible (repeat' first | assumption | apply Keeps.ite | apply keeps_raiseFsm | apply keeps_kilnParity | split | intro _)

theorem keeps_doSpillRdWrite {a0 s : State} (h : Keeps a0 s) (n : Ch) (rd : BitVec 12) :
    Keeps a0 (doSpillRdWrite n rd s) := by
  unfold doSpillRdWrite
  with_reducible (repeat' first | assumption | apply Keeps.ite | apply keeps_actPut | split | intro _)

theorem keeps_doTallyFlush {a0 s : State} (h : Keeps a0 s) (n : Ch) :
    Keeps a0 (doTallyFlush n s) := by
  unfold doTallyFlush
  with_reducible (repeat' first | assumption | apply Keeps.ite | apply keeps_actPut | split | intro _)

theorem keeps_doTallySnap {a0 s : State} (h : Keeps a0 s) (n : Ch) :
    Keeps a0 (doTallySnap n s) := by
  unfold doTallySnap
  with_reducible (repeat' first | assumption | apply Keeps.ite | apply keeps_actPut | split | intro _)

theorem keeps_doTallyQuery {a0 s : State} (h : Keeps a0 s) (n : Ch) :
    Keeps a0 (doTallyQuery n s) := by
  unfold doTallyQuery
  with_reducible (repeat' first | assumption | apply Keeps.ite | apply keeps_actPut | split | intro _)

theorem keeps_doTallyInit {a0 s : State} (h : Keeps a0 s) (n : Ch) :
    Keeps a0 (doTallyInit n s) := by
  unfold doTallyInit
  with_reducible (repeat' first | assumption | apply Keeps.ite | apply keeps_actPut | split | intro _)

theorem keeps_doTallyClrCnt {a0 s : State} (h : Keeps a0 s) (n : Ch) :
    Keeps a0 (doTallyClrCnt n s) := by
  unfold doTallyClrCnt
  with_reducible (repeat' first | assumption | apply Keeps.ite | apply keeps_actPut | split | intro _)

theorem keeps_doTallyFsmPar {a0 s : State} (h : Keeps a0 s) (n : Ch) :
    Keeps a0 (doTallyFsmPar n s) := by
  unfold doTallyFsmPar
  with_reducible (repeat' first | assumption | apply Keeps.ite | apply keeps_raiseFsm | apply keeps_tallyParity | split | intro _)

theorem keeps_doSelectorWrite {a0 s : State} (h : Keeps a0 s) (x : Scope) (c : Fin 64) (range : Bool) (data : Word) (req : Nat) :
    Keeps a0 (doSelectorWrite x c range data req s) := by
  unfold doSelectorWrite
  with_reducible (repeat' first | assumption | apply Keeps.ite | apply keeps_actPut | split | intro _)

theorem keeps_doCounterPreset {a0 s : State} (h : Keeps a0 s) (x : Scope) (c : Fin 64) (hi : Bool) (data : Word) :
    Keeps a0 (doCounterPreset x c hi data s) := by
  unfold doCounterPreset
  with_reducible (repeat' first | assumption | apply Keeps.ite | apply keeps_actPut | split | intro _)

theorem keeps_doCounterLoRead {a0 s : State} (h : Keeps a0 s) (x : Scope) (c : Fin 64) (req : Nat) :
    Keeps a0 (doCounterLoRead x c req s) := by
  unfold doCounterLoRead
  with_reducible (repeat' first | assumption | apply Keeps.ite | apply keeps_actGet | split | intro _)

theorem keeps_doTimeNowRead {a0 s : State} (h : Keeps a0 s) (req : Nat) :
    Keeps a0 (doTimeNowRead req s) := by
  unfold doTimeNowRead
  with_reducible (repeat' first | assumption | apply Keeps.ite | apply keeps_actGet | split | intro _)

theorem keeps_doTimeSet {a0 s : State} (h : Keeps a0 s) :
    Keeps a0 (doTimeSet s) := by
  unfold doTimeSet
  with_reducible (repeat' first | assumption | apply Keeps.ite | apply keeps_actPut | split | intro _)

theorem keeps_doTimeAdjust {a0 s : State} (h : Keeps a0 s) :
    Keeps a0 (doTimeAdjust s) := by
  unfold doTimeAdjust
  with_reducible (repeat' first | assumption | apply Keeps.ite | apply keeps_actPut | split | intro _)

theorem keeps_doHopperDump {a0 s : State} (h : Keeps a0 s) (n : Ch) :
    Keeps a0 (doHopperDump n s) := by
  unfold doHopperDump
  with_reducible (repeat' first | assumption | apply Keeps.ite | apply keeps_actPut | split | intro _)

theorem keeps_doHopRdIdxWrite {a0 s : State} (h : Keeps a0 s) (n : Ch) (idx : Byte) :
    Keeps a0 (doHopRdIdxWrite n idx s) := by
  unfold doHopRdIdxWrite
  with_reducible (repeat' first | assumption | apply Keeps.ite | apply keeps_actPut | split | intro _)

theorem keeps_doHopFsmPar {a0 s : State} (h : Keeps a0 s) (n : Ch) :
    Keeps a0 (doHopFsmPar n s) := by
  unfold doHopFsmPar
  with_reducible (repeat' first | assumption | apply Keeps.ite | apply keeps_raiseFsm | apply keeps_hopParity | split | intro _)

theorem keeps_doCntSelPar {a0 s : State} (h : Keeps a0 s) (x : Scope) (c : Fin 64) :
    Keeps a0 (doCntSelPar x c s) := by
  unfold doCntSelPar
  with_reducible (repeat' first | assumption | apply Keeps.ite | apply keeps_selParity | split | intro _)

theorem keeps_doTimePar {a0 s : State} (h : Keeps a0 s) :
    Keeps a0 (doTimePar s) := by
  unfold doTimePar
  with_reducible (repeat' first | assumption | apply Keeps.ite | apply keeps_raiseFsm | apply keeps_timeParity | split | intro _)

theorem keeps_doScrubGo {a0 s : State} (h : Keeps a0 s) (x : Scope) :
    Keeps a0 (doScrubGo x s) := by
  unfold doScrubGo
  with_reducible (repeat' first | assumption | apply Keeps.ite | apply keeps_actPut | split | intro _)

theorem keeps_doScrubStop {a0 s : State} (h : Keeps a0 s) (x : Scope) :
    Keeps a0 (doScrubStop x s) := by
  unfold doScrubStop
  with_reducible (repeat' first | assumption | apply Keeps.ite | apply keeps_actPut | split | intro _)

theorem keeps_doMarchGo {a0 s : State} (h : Keeps a0 s) (x : Scope) :
    Keeps a0 (doMarchGo x s) := by
  unfold doMarchGo
  with_reducible (repeat' first | assumption | apply Keeps.ite | apply keeps_actPut | split | intro _)

theorem keeps_doMemCtrlPar {a0 s : State} (h : Keeps a0 s) (x : Scope) (e : MemEngine) :
    Keeps a0 (doMemCtrlPar x e s) := by
  unfold doMemCtrlPar
  with_reducible (repeat' first | assumption | apply Keeps.ite | apply keeps_raiseFsm | apply keeps_memParity | split | intro _)

theorem keeps_doFaultClear {a0 s : State} (h : Keeps a0 s) (page : Nat) (data : Word) :
    Keeps a0 (doFaultClear page data s) := by
  unfold doFaultClear
  with_reducible (repeat' first | assumption | apply Keeps.ite | apply keeps_actPut | split | intro _)

theorem keeps_doFltEnWrite {a0 s : State} (h : Keeps a0 s) (page : Nat) (data : Word) :
    Keeps a0 (doFltEnWrite page data s) := by
  unfold doFltEnWrite
  with_reducible (repeat' first | assumption | apply Keeps.ite | apply keeps_actPut | split | intro _)

theorem keeps_doFlogRdIdxWrite {a0 s : State} (h : Keeps a0 s) (idx : Byte) :
    Keeps a0 (doFlogRdIdxWrite idx s) := by
  unfold doFlogRdIdxWrite
  with_reducible (repeat' first | assumption | apply Keeps.ite | apply keeps_actPut | split | intro _)

theorem keeps_doTrialGo {a0 s : State} (h : Keeps a0 s) (n : Ch) :
    Keeps a0 (doTrialGo n s) := by
  unfold doTrialGo
  with_reducible (repeat' first | assumption | apply Keeps.ite | apply keeps_actPut | split | intro _)

theorem keeps_doDevTrialGo {a0 s : State} (h : Keeps a0 s) (mask : BitVec 3) :
    Keeps a0 (doDevTrialGo mask s) := by
  unfold doDevTrialGo
  with_reducible (repeat' first | assumption | apply Keeps.ite | apply keeps_actPut | split | intro _)

theorem keeps_doTrialFsmPar {a0 s : State} (h : Keeps a0 s) (n : Ch) :
    Keeps a0 (doTrialFsmPar n s) := by
  unfold doTrialFsmPar
  with_reducible (repeat' first | assumption | apply Keeps.ite | apply keeps_trialParity | apply keeps_raiseFsm | split | intro _)

theorem keeps_doPatCfgWrite {a0 s : State} (h : Keeps a0 s) (n : Ch) (u : Fin 6) (data : Word) :
    Keeps a0 (doPatCfgWrite n u data s) := by
  unfold doPatCfgWrite
  with_reducible (repeat' first | assumption | apply Keeps.ite | apply keeps_actPut | split | intro _)

theorem keeps_doGateGo {a0 s : State} (h : Keeps a0 s) (n : Ch) (c : Fin 3) :
    Keeps a0 (doGateGo n c s) := by
  unfold doGateGo
  with_reducible (repeat' first | assumption | apply Keeps.ite | apply keeps_actPut | split | intro _)

theorem keeps_doGateStop {a0 s : State} (h : Keeps a0 s) (n : Ch) (c : Fin 3) :
    Keeps a0 (doGateStop n c s) := by
  unfold doGateStop
  with_reducible (repeat' first | assumption | apply Keeps.ite | apply keeps_actPut | split | intro _)

theorem keeps_doPatClr {a0 s : State} (h : Keeps a0 s) (n : Ch) (c : Fin 3) :
    Keeps a0 (doPatClr n c s) := by
  unfold doPatClr
  with_reducible (repeat' first | assumption | apply Keeps.ite | apply keeps_actPut | split | intro _)

theorem keeps_doErrInj {a0 s : State} (h : Keeps a0 s) (n : Ch) (u : Fin 3) :
    Keeps a0 (doErrInj n u s) := by
  unfold doErrInj
  with_reducible (repeat' first | assumption | apply Keeps.ite | apply keeps_actPut | split | intro _)

theorem keeps_doPatFsmPar {a0 s : State} (h : Keeps a0 s) (n : Ch) :
    Keeps a0 (doPatFsmPar n s) := by
  unfold doPatFsmPar
  with_reducible (repeat' first | assumption | apply Keeps.ite | apply keeps_raiseFsm | apply keeps_patParity | split | intro _)

theorem keeps_doChPwrTarget {a0 s : State} (h : Keeps a0 s) (n : Ch) (target : BitVec 3) (req : Nat) :
    Keeps a0 (doChPwrTarget n target req s) := by
  unfold doChPwrTarget
  with_reducible (repeat' first | assumption | apply Keeps.ite | apply keeps_actPut | split | intro _)

theorem keeps_doDevPwrTarget {a0 s : State} (h : Keeps a0 s) (target : BitVec 4) (req : Nat) :
    Keeps a0 (doDevPwrTarget target req s) := by
  unfold doDevPwrTarget
  with_reducible (repeat' first | assumption | apply Keeps.ite | apply keeps_actPut | split | intro _)

theorem keeps_doChWakeCmd {a0 s : State} (h : Keeps a0 s) (n : Ch) :
    Keeps a0 (doChWakeCmd n s) := by
  unfold doChWakeCmd
  with_reducible (repeat' first | assumption | apply Keeps.ite | apply keeps_actPut | split | intro _)

theorem keeps_doPwrClrStats {a0 s : State} (h : Keeps a0 s) (x : Scope) :
    Keeps a0 (doPwrClrStats x s) := by
  unfold doPwrClrStats
  with_reducible (repeat' first | assumption | apply Keeps.ite | apply keeps_actPut | split | intro _)

theorem keeps_doPwrFsmPar {a0 s : State} (h : Keeps a0 s) (n : Ch) :
    Keeps a0 (doPwrFsmPar n s) := by
  unfold doPwrFsmPar
  with_reducible (repeat' first | assumption | apply Keeps.ite | apply keeps_raiseFsm | apply keeps_pwrParity | split | intro _)

theorem keeps_doPwrSeqPar {a0 s : State} (h : Keeps a0 s) :
    Keeps a0 (doPwrSeqPar s) := by
  unfold doPwrSeqPar
  with_reducible (repeat' first | assumption | apply Keeps.ite | apply keeps_raiseFsm | split | intro _)

theorem keeps_doClrPeak {a0 s : State} (h : Keeps a0 s) :
    Keeps a0 (doClrPeak s) := by
  unfold doClrPeak
  with_reducible (repeat' first | assumption | apply Keeps.ite | apply keeps_actPut | split | intro _)

end Sys2Proof.Machine
end

