-- ==== Sys2Proof/WellFormed.lean ====
section
/-! DEFINITION. Which commands are well formed: requester IDs of four bits (R70), register addresses of whole words inside
the 24-bit map (R60), pages that exist, and event operands of the shape the spec gives what they report.  The machine gives
an effect to every command; well-formedness says which of them a sender can issue. -/

namespace Sys2Proof

/-- A requester ID of R70. -/
def reqOk (req : Nat) : Bool := decide (req < 16)

/-- The address of a register: a whole word of a device or channel page (R60). -/
def regAddrOk (a : Nat) : Bool :=
  decide (a % 4 = 0) && (decide (a < 0x10000) || (decide (0x100000 ≤ a) && decide (a < 0x200000) && decide (a % 0x20000 < 0x18000)))

/-- The base address of a page (R60). -/
def pageOk (a : Nat) : Bool := decide (a % 0x1000 = 0) && regAddrOk a

/-- The positions of a list are below `k`. -/
def below (k : Nat) (l : List Nat) : Bool := l.all fun i => decide (i < k)

/-- The shape of an equaliser window (R243, R248): four levels. -/
def EqWindow.wf (w : EqWindow) : Bool :=
  w.occ.length == 4 && w.vars.length == 4 && w.means.length == 4

/-- The shape of a block (R255): 64 symbols. -/
def SoftBlock.wf (b : SoftBlock) : Bool := b.gray.length == 64 && b.values.length == 64

/-- The well-formed commands. -/
def Instr.wf : Instr → Bool
  | .hostRead _ _ _ count _ late => below count late
  | .hostWrite _ _ _ data _ drains => drains.length == data.length
  | .registerWrite a _ req => regAddrOk a && reqOk req
  | .wsHeldAccept page => pageOk page
  | .mbxPayloadWrite _ _ _ req => reqOk req
  | .mbxRing _ req => reqOk req
  | .mbxTake _ req => reqOk req
  | .wrightImageCopyDone _ image => decide (image.length ≤ 8192)
  | .hostGuardWindow _ _ occ _ _ signs dress =>
    occ.length == 4 && signs.length == dress.length && signs.all fun u => u.length == 25
  | .trainMeasurement _ _ _ _ taps _ => taps.length == 24
  | .codewordDecode _ _ msg parity code => msg.length == 514 && symbolsOk (msg ++ parity) && symbolsOk code
  | .lmsUpdate _ ffe dfe levels => ffe.length == 41 && dfe.length == 2 && levels.length == 4
  | .guardWindowEnd _ w => w.wf
  | .acqWindowEnd _ counts => counts.length == 64
  | .blockDecode _ b => b.block.wf && decide (b.pos < 5440)
  | .dressCmdPass _ req => reqOk req
  | .headerDecoded _ h => h.length == 34
  | .payloadDecoded _ p => decide (p.bytes.length ≤ 260)
  | .tallyFrame _ f => below f.bytes.length (f.errors.getD [])
  | .selectorWrite _ _ _ _ req => reqOk req
  | .counterLoRead _ _ req => reqOk req
  | .timeNowRead req => reqOk req
  | .faultClear page _ => pageOk page
  | .fltEnWrite page _ => pageOk page
  | .selfFault _ reg => decide (reg < 256)
  | .chPwrTarget _ _ req => reqOk req
  | .devPwrTarget _ req => reqOk req
  | _ => true

end Sys2Proof
end

