-- ==== Sys2Proof/Laws/PerInstr.lean ====
section
/-! SUPPORT. Facts about every command as syntax, one lemma per constructor: a well-formed command names a requester of R70. -/

namespace Sys2Proof

/-- The requester ID that a command names, for the commands that any requester may send (R70). -/
def Instr.requester : Instr → Option Nat
  | .registerWrite _ _ req => some req
  | .mbxPayloadWrite _ _ _ req => some req
  | .mbxRing _ req => some req
  | .mbxTake _ req => some req
  | .dressCmdPass _ req => some req
  | .selectorWrite _ _ _ _ req => some req
  | .counterLoRead _ _ req => some req
  | .timeNowRead req => some req
  | .chPwrTarget _ _ req => some req
  | .devPwrTarget _ req => some req
  | _ => none

namespace Laws.RequesterIds

/-- A well-formed command names no requester ID beyond four bits. -/
def Statement (i : Instr) : Prop := i.wf = true → ∀ r, i.requester = some r → r < 16

/-- The requester of a well-formed command that names one passes `reqOk`. -/
theorem of_reqOk {i : Instr} {q : Nat} (hq : i.requester = some q) (hw : i.wf = true → reqOk q = true) : Statement i := by
  intro h r hr
  rw [hq] at hr
  cases hr
  exact of_decide_eq_true (hw h)

/-- A command that names none. -/
theorem of_none {i : Instr} (h : i.requester = none) : Statement i := by
  intro _ r hr
  rw [h] at hr
  cases hr

theorem hostRead (call : PortCall) (low : BitVec 6) (addr : BitVec 24) (count : Nat) (framing : Framing) (late : List Nat) :
    Statement (.hostRead call low addr count framing late) :=
  of_none rfl
theorem hostWrite (call : PortCall) (low : BitVec 6) (addr : BitVec 24) (data : List Word) (framing : Framing) (drains : List Nat) :
    Statement (.hostWrite call low addr data framing drains) :=
  of_none rfl
theorem statusCommand (call : PortCall) (low : BitVec 6) (framing : Framing) : Statement (.statusCommand call low framing) :=
  of_none rfl
theorem readId (call : PortCall) (low : BitVec 6) (framing : Framing) : Statement (.readId call low framing) := of_none rfl
theorem writeBufferDrain (port : Port) : Statement (.writeBufferDrain port) := of_none rfl
theorem registerWrite (a : Nat) (data : Word) (req : Nat) : Statement (.registerWrite a data req) :=
  of_reqOk rfl fun h => by simp_all [Instr.wf]
theorem wsHeldAccept (page : Nat) : Statement (.wsHeldAccept page) := of_none rfl
theorem powerOn (straps : BitVec 4) : Statement (.powerOn straps) := of_none rfl
theorem resetNAssert : Statement (.resetNAssert) := of_none rfl
theorem resetNRelease (straps : BitVec 4) : Statement (.resetNRelease straps) := of_none rfl
theorem brownout (vddio : Bool) (deep : Bool) : Statement (.brownout vddio deep) := of_none rfl
theorem railFault (r : Rail) : Statement (.railFault r) := of_none rfl
theorem refclkLoss : Statement (.refclkLoss) := of_none rfl
theorem refclkReturn : Statement (.refclkReturn) := of_none rfl
theorem bootStart (ok : Bool) : Statement (.bootStart ok) := of_none rfl
theorem devPllLock (us : Nat) : Statement (.devPllLock us) := of_none rfl
theorem devPllLockRetry : Statement (.devPllLockRetry) := of_none rfl
theorem devPllUnlock : Statement (.devPllUnlock) := of_none rfl
theorem romCheckDone (romOk : Bool) (memOk : Bool) : Statement (.romCheckDone romOk memOk) := of_none rfl
theorem authenticate : Statement (.authenticate) := of_none rfl
theorem authComplete : Statement (.authComplete) := of_none rfl
theorem firmwareTrialAll : Statement (.firmwareTrialAll) := of_none rfl
theorem trialAll : Statement (.trialAll) := of_none rfl
theorem trialAllEnd : Statement (.trialAllEnd) := of_none rfl
theorem commit : Statement (.commit) := of_none rfl
theorem otpProgram : Statement (.otpProgram) := of_none rfl
theorem blockingEnd (stuck : BitVec 64) : Statement (.blockingEnd stuck) := of_none rfl
theorem blockOverrun : Statement (.blockOverrun) := of_none rfl
theorem swreset (key : Word) : Statement (.swreset key) := of_none rfl
theorem softwareReset : Statement (.softwareReset) := of_none rfl
theorem chReset (n : Ch) : Statement (.chReset n) := of_none rfl
theorem chResetComplete (n : Ch) : Statement (.chResetComplete n) := of_none rfl
theorem millerReset : Statement (.millerReset) := of_none rfl
theorem millerRestart : Statement (.millerRestart) := of_none rfl
theorem millerWatchdogExpiry (after : Nat) : Statement (.millerWatchdogExpiry after) := of_none rfl
theorem millerTrap (c : TrapCause) (after : Nat) : Statement (.millerTrap c after) := of_none rfl
theorem fwReady (lost : Bool) : Statement (.fwReady lost) := of_none rfl
theorem wrightWatchdogExpiry (n : Ch) (after : Nat) : Statement (.wrightWatchdogExpiry n after) := of_none rfl
theorem wrightTrap (n : Ch) (c : TrapCause) (after : Nat) : Statement (.wrightTrap n c after) := of_none rfl
theorem wrightRestart (n : Ch) : Statement (.wrightRestart n) := of_none rfl
theorem wrightImageCopyDone (n : Ch) (image : List DWord) : Statement (.wrightImageCopyDone n image) := of_none rfl
theorem mbxPayloadWrite (b : Box) (i : Fin 16) (data : Word) (req : Nat) : Statement (.mbxPayloadWrite b i data req) :=
  of_reqOk rfl fun h => h
theorem mbxRing (b : Box) (req : Nat) : Statement (.mbxRing b req) := of_reqOk rfl fun h => h
theorem mbxTake (b : Box) (req : Nat) : Statement (.mbxTake b req) := of_reqOk rfl fun h => h
theorem mbxAgeTick (b : Box) : Statement (.mbxAgeTick b) := of_none rfl
theorem hostEpochWrite (data : Word) : Statement (.hostEpochWrite data) := of_none rfl
theorem responsePost (k : Fin 4) : Statement (.responsePost k) := of_none rfl
theorem heldCommandStart (k : Fin 4) : Statement (.heldCommandStart k) := of_none rfl
theorem m2wAgeTimeout (n : Ch) (j : Fin 2) : Statement (.m2wAgeTimeout n j) := of_none rfl
theorem ping (k : Fin 4) : Statement (.ping k) := of_none rfl
theorem fwInfo (k : Fin 4) : Statement (.fwInfo k) := of_none rfl
theorem chPower (k : Fin 4) (part : FwPart) : Statement (.chPower k part) := of_none rfl
theorem chBringup (k : Fin 4) (part : FwPart) : Statement (.chBringup k part) := of_none rfl
theorem hostRetrain (k : Fin 4) (part : FwPart) : Statement (.hostRetrain k part) := of_none rfl
theorem dressPass (k : Fin 4) (part : FwPart) : Statement (.dressPass k part) := of_none rfl
theorem trialCh (k : Fin 4) (part : FwPart) : Statement (.trialCh k part) := of_none rfl
theorem trialStatus (k : Fin 4) : Statement (.trialStatus k) := of_none rfl
theorem mrSend (k : Fin 4) : Statement (.mrSend k) := of_none rfl
theorem scrub (k : Fin 4) (part : FwPart) : Statement (.scrub k part) := of_none rfl
theorem memTest (k : Fin 4) (part : FwPart) : Statement (.memTest k part) := of_none rfl
theorem restartWright (k : Fin 4) (part : FwPart) : Statement (.restartWright k part) := of_none rfl
theorem modeApplyGo (n : Ch) : Statement (.modeApplyGo n) := of_none rfl
theorem modeDone (n : Ch) : Statement (.modeDone n) := of_none rfl
theorem chPllLockTimeout (n : Ch) : Statement (.chPllLockTimeout n) := of_none rfl
theorem chPllUnlock (n : Ch) : Statement (.chPllUnlock n) := of_none rfl
theorem holdoverExit (n : Ch) : Statement (.holdoverExit n) := of_none rfl
theorem xingSlip (n : Ch) (x : Fin 5) (fill : Nat) : Statement (.xingSlip n x fill) := of_none rfl
theorem hostSigDetect (n : Ch) (l : Fin 2) : Statement (.hostSigDetect n l) := of_none rfl
theorem hostSigFall (n : Ch) (fall : SigFall) : Statement (.hostSigFall n fall) := of_none rfl
theorem cdrLock (n : Ch) (l : Fin 2) (ppm : Int) : Statement (.cdrLock n l ppm) := of_none rfl
theorem frameLock (n : Ch) (l : Fin 2) (inverted : Bool) (farAdv : Bool) : Statement (.frameLock n l inverted farAdv) :=
  of_none rfl
theorem trainRequestReceived (n : Ch) (l : Fin 2) (frame : TrainFrame) : Statement (.trainRequestReceived n l frame) :=
  of_none rfl
theorem trainMeasurement (n : Ch) (l : Fin 2) (snr : Nat) (clipped : Nat) (taps : List Int) (dfe : Int) :
    Statement (.trainMeasurement n l snr clipped taps dfe) :=
  of_none rfl
theorem trainNoresp (n : Ch) (l : Fin 2) : Statement (.trainNoresp n l) := of_none rfl
theorem trainDone (n : Ch) (l : Fin 2) (ms : Nat) : Statement (.trainDone n l ms) := of_none rfl
theorem trainTimeout (n : Ch) (l : Fin 2) : Statement (.trainTimeout n l) := of_none rfl
theorem autoRetrainRetry (n : Ch) (l : Fin 2) : Statement (.autoRetrainRetry n l) := of_none rfl
theorem lockLost (n : Ch) (l : Fin 2) (cause : LockCause) : Statement (.lockLost n l cause) := of_none rfl
theorem retrain (n : Ch) (l : Fin 2) : Statement (.retrain n l) := of_none rfl
theorem txFirWrite (n : Ch) (l : Fin 2) (hi : Bool) (data : Word) : Statement (.txFirWrite n l hi data) := of_none rfl
theorem hostGuardWindow (n : Ch) (l : Fin 2) (occ : List Nat) (snr : Nat) (clipped : Nat) (signs : List (List Int)) (dress : List (Option Int)) :
    Statement (.hostGuardWindow n l occ snr clipped signs dress) :=
  of_none rfl
theorem laneFsmPar (n : Ch) (c : LaneChecker) : Statement (.laneFsmPar n c) := of_none rfl
theorem markerPeriod (n : Ch) (h : Fin 3) (m : Marker) : Statement (.markerPeriod n h m) := of_none rfl
theorem slipGo (n : Ch) (side : Fin 2) (bits : BitVec 4) : Statement (.slipGo n side bits) := of_none rfl
theorem slipApply (n : Ch) : Statement (.slipApply n) := of_none rfl
theorem manualSwitch (n : Ch) : Statement (.manualSwitch n) := of_none rfl
theorem codewordDecode (n : Ch) (d : Fin 2) (msg : List Nat) (parity : List Nat) (code : List Nat) :
    Statement (.codewordDecode n d msg parity code) :=
  of_none rfl
theorem serWindowEnd (n : Ch) (d : Fin 2) : Statement (.serWindowEnd n d) := of_none rfl
theorem hfecClrCnt (n : Ch) : Statement (.hfecClrCnt n) := of_none rfl
theorem hfecFsmPar (c : Checker 4) : Statement (.hfecFsmPar c) := of_none rfl
theorem leadEnd (n : Ch) : Statement (.leadEnd n) := of_none rfl
theorem rampUpEnd (n : Ch) : Statement (.rampUpEnd n) := of_none rfl
theorem rampDownEnd (n : Ch) : Statement (.rampDownEnd n) := of_none rfl
theorem lagEnd (n : Ch) : Statement (.lagEnd n) := of_none rfl
theorem firApply (n : Ch) : Statement (.firApply n) := of_none rfl
theorem nlLoad (n : Ch) : Statement (.nlLoad n) := of_none rfl
theorem nlBankSwitch (n : Ch) : Statement (.nlBankSwitch n) := of_none rfl
theorem nlParity (n : Ch) (path : Fin 256) (i : Fin 64) : Statement (.nlParity n path i) := of_none rfl
theorem dacSatWindow (n : Ch) (clipped : Nat) : Statement (.dacSatWindow n clipped) := of_none rfl
theorem txdisMismatch (n : Ch) (high : Bool) : Statement (.txdisMismatch n high) := of_none rfl
theorem ltxFsmPar (n : Ch) : Statement (.ltxFsmPar n) := of_none rfl
theorem sdRawRise (x : LineLevel) : Statement (.sdRawRise x) := of_none rfl
theorem sdRawFall (x : LineLoss) : Statement (.sdRawFall x) := of_none rfl
theorem gainMeasurement (n : Ch) (rms : Nat) (t : Nat) : Statement (.gainMeasurement n rms t) := of_none rfl
theorem gainAcqTimeout (n : Ch) : Statement (.gainAcqTimeout n) := of_none rfl
theorem gainReacq (n : Ch) : Statement (.gainReacq n) := of_none rfl
theorem reacqStep (n : Ch) (rms : Nat) (t : Nat) : Statement (.reacqStep n rms t) := of_none rfl
theorem rmsWindow (n : Ch) (rms : Nat) : Statement (.rmsWindow n rms) := of_none rfl
theorem gainModeWrite (n : Ch) (data : Word) : Statement (.gainModeWrite n data) := of_none rfl
theorem tandemWindow (n : Ch) (spur : Nat) (skew : Int) : Statement (.tandemWindow n spur skew) := of_none rfl
theorem plausWindow (n : Ch) (d : Nat) : Statement (.plausWindow n d) := of_none rfl
theorem plausTest (n : Ch) : Statement (.plausTest n) := of_none rfl
theorem plausTestEnd (n : Ch) : Statement (.plausTestEnd n) := of_none rfl
theorem swap (n : Ch) : Statement (.swap n) := of_none rfl
theorem waitGuardTimeout (n : Ch) : Statement (.waitGuardTimeout n) := of_none rfl
theorem bankSwapSwitch (n : Ch) : Statement (.bankSwapSwitch n) := of_none rfl
theorem shadowEnWrite (n : Ch) (on : Bool) : Statement (.shadowEnWrite n on) := of_none rfl
theorem capArm (n : Ch) : Statement (.capArm n) := of_none rfl
theorem capTrigger (n : Ch) (stored : Nat) : Statement (.capTrigger n stored) := of_none rfl
theorem capDone (n : Ch) (r : CapRecord) : Statement (.capDone n r) := of_none rfl
theorem capAbort (n : Ch) : Statement (.capAbort n) := of_none rfl
theorem clipWindow (n : Ch) (clipped : Nat) : Statement (.clipWindow n clipped) := of_none rfl
theorem lrxClrStats (n : Ch) : Statement (.lrxClrStats n) := of_none rfl
theorem lrxFsmPar (c : Checker 3) : Statement (.lrxFsmPar c) := of_none rfl
theorem pfApply (n : Ch) : Statement (.pfApply n) := of_none rfl
theorem phaseErrWindow (n : Ch) (err : PhaseErr) (sat : BitVec 4) (lineIn : Nat) : Statement (.phaseErrWindow n err sat lineIn) :=
  of_none rfl
theorem timRange (n : Ch) : Statement (.timRange n) := of_none rfl
theorem timReacq (n : Ch) : Statement (.timReacq n) := of_none rfl
theorem quickEqRefresh (n : Ch) : Statement (.quickEqRefresh n) := of_none rfl
theorem freqUpdate (n : Ch) (ppm : Int) (frac : BitVec 32) : Statement (.freqUpdate n ppm frac) := of_none rfl
theorem deskewCoarseApply (n : Ch) : Statement (.deskewCoarseApply n) := of_none rfl
theorem fineSlewStep (n : Ch) : Statement (.fineSlewStep n) := of_none rfl
theorem timClrStats (n : Ch) : Statement (.timClrStats n) := of_none rfl
theorem timFsmPar (c : Checker 2) : Statement (.timFsmPar c) := of_none rfl
theorem lmsUpdate (n : Ch) (ffe : List Int) (dfe : List Int) (levels : List Int) : Statement (.lmsUpdate n ffe dfe levels) :=
  of_none rfl
theorem dressNotice (n : Ch) : Statement (.dressNotice n) := of_none rfl
theorem noticeEnd (n : Ch) : Statement (.noticeEnd n) := of_none rfl
theorem guardWindowEnd (n : Ch) (w : EqWindow) : Statement (.guardWindowEnd n w) := of_none rfl
theorem guardLong (n : Ch) : Statement (.guardLong n) := of_none rfl
theorem eqRestart (n : Ch) : Statement (.eqRestart n) := of_none rfl
theorem eyeStart (n : Ch) : Statement (.eyeStart n) := of_none rfl
theorem eyePhaseEnd (n : Ch) (hits : List (Fin 256 × Nat)) : Statement (.eyePhaseEnd n hits) := of_none rfl
theorem eyeAbort (n : Ch) : Statement (.eyeAbort n) := of_none rfl
theorem eqClrStats (n : Ch) : Statement (.eqClrStats n) := of_none rfl
theorem eqFsmPar (c : Checker 3) : Statement (.eqFsmPar c) := of_none rfl
theorem acqWindowEnd (n : Ch) (counts : List Nat) : Statement (.acqWindowEnd n counts) := of_none rfl
theorem lockWindowEnd (n : Ch) (zeros : Nat) : Statement (.lockWindowEnd n zeros) := of_none rfl
theorem blockDecode (n : Ch) (b : PlacedBlock) : Statement (.blockDecode n b) := of_none rfl
theorem berWindowEnd (n : Ch) : Statement (.berWindowEnd n) := of_none rfl
theorem boltClrCnt (n : Ch) : Statement (.boltClrCnt n) := of_none rfl
theorem boltFsmPar (n : Ch) : Statement (.boltFsmPar n) := of_none rfl
theorem dressCmdPass (n : Ch) (req : Nat) : Statement (.dressCmdPass n req) := of_reqOk rfl fun h => h
theorem dressCmdAbort (n : Ch) (byEn : Bool) : Statement (.dressCmdAbort n byEn) := of_none rfl
theorem firstPassTrigger (n : Ch) : Statement (.firstPassTrigger n) := of_none rfl
theorem measureWindowEnd (n : Ch) (est : List TrimError) (wait : Nat) : Statement (.measureWindowEnd n est wait) := of_none rfl
theorem trimStep (n : Ch) (part : StepPart) (wait : Nat) : Statement (.trimStep n part wait) := of_none rfl
theorem deferTimeout (n : Ch) : Statement (.deferTimeout n) := of_none rfl
theorem dressFsmPar (n : Ch) : Statement (.dressFsmPar n) := of_none rfl
theorem mrFrameStart (n : Ch) : Statement (.mrFrameStart n) := of_none rfl
theorem mrFrameEnd (n : Ch) : Statement (.mrFrameEnd n) := of_none rfl
theorem mrTxAbort (n : Ch) : Statement (.mrTxAbort n) := of_none rfl
theorem txFlush (n : Ch) : Statement (.txFlush n) := of_none rfl
theorem beaconDue (n : Ch) : Statement (.beaconDue n) := of_none rfl
theorem echo (n : Ch) : Statement (.echo n) := of_none rfl
theorem preambleDetect (n : Ch) : Statement (.preambleDetect n) := of_none rfl
theorem syncDetect (n : Ch) (gain : BitVec 7) : Statement (.syncDetect n gain) := of_none rfl
theorem rxNosync (n : Ch) : Statement (.rxNosync n) := of_none rfl
theorem headerDecoded (n : Ch) (h : List Byte) : Statement (.headerDecoded n h) := of_none rfl
theorem payloadDecoded (n : Ch) (p : MrPayload) : Statement (.payloadDecoded n p) := of_none rfl
theorem farLost (n : Ch) : Statement (.farLost n) := of_none rfl
theorem rxPop (n : Ch) : Statement (.rxPop n) := of_none rfl
theorem dupExpire (k : Nat) : Statement (.dupExpire k) := of_none rfl
theorem relayEntryWrite (n : Ch) (e : Fin 64) (data : Word) : Statement (.relayEntryWrite n e data) := of_none rfl
theorem mrFsmPar (c : Checker 2) : Statement (.mrFsmPar c) := of_none rfl
theorem mrMemPar (n : Ch) (w : MrWord) : Statement (.mrMemPar n w) := of_none rfl
theorem relayPar (n : Ch) (w : RelayWord) : Statement (.relayPar n w) := of_none rfl
theorem gaugeTrigger (n : Ch) : Statement (.gaugeTrigger n) := of_none rfl
theorem gaugeTimerTrigger (n : Ch) (second : Bool) : Statement (.gaugeTimerTrigger n second) := of_none rfl
theorem entryComplete (n : Ch) (va : BitVec 16) (vb : BitVec 16) : Statement (.entryComplete n va vb) := of_none rfl
theorem streamDue (n : Ch) (k : Fin 2) : Statement (.streamDue n k) := of_none rfl
theorem streamResult (n : Ch) (k : Fin 2) (v : BitVec 16) : Statement (.streamResult n k v) := of_none rfl
theorem dieTempDue (n : Ch) : Statement (.dieTempDue n) := of_none rfl
theorem dieTempResult (n : Ch) (code : BitVec 14) : Statement (.dieTempResult n code) := of_none rfl
theorem readbackDue (n : Ch) (d : Fin 3) : Statement (.readbackDue n d) := of_none rfl
theorem readbackResult (n : Ch) (d : Fin 3) (v : BitVec 16) (moved : Bool) : Statement (.readbackResult n d v moved) :=
  of_none rfl
theorem gaugeDiag (n : Ch) : Statement (.gaugeDiag n) := of_none rfl
theorem diagDone (n : Ch) (v : BitVec 16) : Statement (.diagDone n v) := of_none rfl
theorem gaugeClrStats (n : Ch) : Statement (.gaugeClrStats n) := of_none rfl
theorem gaugeFsmPar (c : Checker 2) : Statement (.gaugeFsmPar c) := of_none rfl
theorem dacCfgWrite (n : Ch) (d : Fin 3) (data : Word) : Statement (.dacCfgWrite n d data) := of_none rfl
theorem dacDataPush (n : Ch) (d : Fin 3) (code : BitVec 16) : Statement (.dacDataPush n d code) := of_none rfl
theorem dacTick (n : Ch) (d : Fin 3) : Statement (.dacTick n d) := of_none rfl
theorem clampPeriodEnd (n : Ch) (d : Fin 3) : Statement (.clampPeriodEnd n d) := of_none rfl
theorem voutnLost : Statement (.voutnLost) := of_none rfl
theorem outFsmPar (n : Ch) : Statement (.outFsmPar n) := of_none rfl
theorem kilnEnWrite (n : Ch) (on : Bool) : Statement (.kilnEnWrite n on) := of_none rfl
theorem kilnTick (n : Ch) : Statement (.kilnTick n) := of_none rfl
theorem kilnSat (n : Ch) : Statement (.kilnSat n) := of_none rfl
theorem integWrite (n : Ch) (hi : Bool) (data : Word) : Statement (.integWrite n hi data) := of_none rfl
theorem kilnFsmPar (n : Ch) : Statement (.kilnFsmPar n) := of_none rfl
theorem tallyFrame (n : Ch) (f : TallyFrame) : Statement (.tallyFrame n f) := of_none rfl
theorem epochBoundary (n : Ch) : Statement (.epochBoundary n) := of_none rfl
theorem sweepDone (n : Ch) : Statement (.sweepDone n) := of_none rfl
theorem scanPass (n : Ch) : Statement (.scanPass n) := of_none rfl
theorem spillRdWrite (n : Ch) (rd : BitVec 12) : Statement (.spillRdWrite n rd) := of_none rfl
theorem tallyFlush (n : Ch) : Statement (.tallyFlush n) := of_none rfl
theorem flushDone (n : Ch) : Statement (.flushDone n) := of_none rfl
theorem tallySnap (n : Ch) : Statement (.tallySnap n) := of_none rfl
theorem tallyQuery (n : Ch) : Statement (.tallyQuery n) := of_none rfl
theorem tallyInit (n : Ch) : Statement (.tallyInit n) := of_none rfl
theorem initDone (n : Ch) : Statement (.initDone n) := of_none rfl
theorem tallyClrCnt (n : Ch) : Statement (.tallyClrCnt n) := of_none rfl
theorem tallyFsmPar (n : Ch) : Statement (.tallyFsmPar n) := of_none rfl
theorem selectorWrite (x : Scope) (c : Fin 64) (range : Bool) (data : Word) (req : Nat) :
    Statement (.selectorWrite x c range data req) :=
  of_reqOk rfl fun h => h
theorem counterPreset (x : Scope) (c : Fin 64) (hi : Bool) (data : Word) : Statement (.counterPreset x c hi data) := of_none rfl
theorem counterLoRead (x : Scope) (c : Fin 64) (req : Nat) : Statement (.counterLoRead x c req) := of_reqOk rfl fun h => h
theorem timeNowRead (req : Nat) : Statement (.timeNowRead req) := of_reqOk rfl fun h => h
theorem timeSet : Statement (.timeSet) := of_none rfl
theorem timeAdjust : Statement (.timeAdjust) := of_none rfl
theorem ppsEdge (after : Nat) : Statement (.ppsEdge after) := of_none rfl
theorem ppsLoss : Statement (.ppsLoss) := of_none rfl
theorem secondRollover : Statement (.secondRollover) := of_none rfl
theorem ppsOutPulseEnd : Statement (.ppsOutPulseEnd) := of_none rfl
theorem hopperBoundary (n : Ch) : Statement (.hopperBoundary n) := of_none rfl
theorem hopperDump (n : Ch) : Statement (.hopperDump n) := of_none rfl
theorem hopperLatch (n : Ch) : Statement (.hopperLatch n) := of_none rfl
theorem hopperWriteDone (n : Ch) : Statement (.hopperWriteDone n) := of_none rfl
theorem hopRdIdxWrite (n : Ch) (idx : Byte) : Statement (.hopRdIdxWrite n idx) := of_none rfl
theorem hopFsmPar (n : Ch) : Statement (.hopFsmPar n) := of_none rfl
theorem cntSelPar (x : Scope) (c : Fin 64) : Statement (.cntSelPar x c) := of_none rfl
theorem timePar : Statement (.timePar) := of_none rfl
theorem scrubGo (x : Scope) : Statement (.scrubGo x) := of_none rfl
theorem scrubStop (x : Scope) : Statement (.scrubStop x) := of_none rfl
theorem scrubPassEnd (x : Scope) (us : Nat) : Statement (.scrubPassEnd x us) := of_none rfl
theorem eccWriteback (x : Scope) (k : Nat) : Statement (.eccWriteback x k) := of_none rfl
theorem leakTick (x : Scope) (i : Fin 7) : Statement (.leakTick x i) := of_none rfl
theorem marchGo (x : Scope) : Statement (.marchGo x) := of_none rfl
theorem marchSliceEnd (x : Scope) (fails : List MarchFail) : Statement (.marchSliceEnd x fails) := of_none rfl
theorem marchBudgetEnd (x : Scope) : Statement (.marchBudgetEnd x) := of_none rfl
theorem memCtrlPar (x : Scope) (e : MemEngine) : Statement (.memCtrlPar x e) := of_none rfl
theorem faultCollect : Statement (.faultCollect) := of_none rfl
theorem logEntryWrite : Statement (.logEntryWrite) := of_none rfl
theorem faultClear (page : Nat) (data : Word) : Statement (.faultClear page data) := of_none rfl
theorem fltEnWrite (page : Nat) (data : Word) : Statement (.fltEnWrite page data) := of_none rfl
theorem selfFault (x : Scope) (reg : Nat) : Statement (.selfFault x reg) := of_none rfl
theorem flogRdIdxWrite (idx : Byte) : Statement (.flogRdIdxWrite idx) := of_none rfl
theorem trialGo (n : Ch) : Statement (.trialGo n) := of_none rfl
theorem trialSlicesStart (n : Ch) : Statement (.trialSlicesStart n) := of_none rfl
theorem trialSliceEnd (x : Scope) (pass : Bool) (fails : BitVec 7) (ms : Nat) : Statement (.trialSliceEnd x pass fails ms) :=
  of_none rfl
theorem trialBudgetExpiry (x : Scope) (fails : BitVec 7) (ms : Nat) : Statement (.trialBudgetExpiry x fails ms) := of_none rfl
theorem trialRestoreEnd (n : Ch) (us : Nat) : Statement (.trialRestoreEnd n us) := of_none rfl
theorem devTrialGo (mask : BitVec 3) : Statement (.devTrialGo mask) := of_none rfl
theorem trialFsmPar (n : Ch) : Statement (.trialFsmPar n) := of_none rfl
theorem patCfgWrite (n : Ch) (u : Fin 6) (data : Word) : Statement (.patCfgWrite n u data) := of_none rfl
theorem checkerLock (n : Ch) (c : Fin 3) : Statement (.checkerLock n c) := of_none rfl
theorem checkerLockLost (n : Ch) (c : Fin 3) (bits : Nat) (errs : Nat) : Statement (.checkerLockLost n c bits errs) := of_none rfl
theorem gateGo (n : Ch) (c : Fin 3) : Statement (.gateGo n c) := of_none rfl
theorem gateOpen (n : Ch) (c : Fin 3) : Statement (.gateOpen n c) := of_none rfl
theorem gateClose (n : Ch) (c : Fin 3) (bits : Nat) (errs : Nat) : Statement (.gateClose n c bits errs) := of_none rfl
theorem gateStop (n : Ch) (c : Fin 3) : Statement (.gateStop n c) := of_none rfl
theorem patClr (n : Ch) (c : Fin 3) : Statement (.patClr n c) := of_none rfl
theorem errInj (n : Ch) (u : Fin 3) : Statement (.errInj n u) := of_none rfl
theorem patFsmPar (n : Ch) : Statement (.patFsmPar n) := of_none rfl
theorem jtagInstruction (i : BitVec 8) : Statement (.jtagInstruction i) := of_none rfl
theorem trstNAssert : Statement (.trstNAssert) := of_none rfl
theorem chPwrTarget (n : Ch) (target : BitVec 3) (req : Nat) : Statement (.chPwrTarget n target req) := of_reqOk rfl fun h => h
theorem devPwrTarget (target : BitVec 4) (req : Nat) : Statement (.devPwrTarget target req) := of_reqOk rfl fun h => h
theorem controllerWait (x : Scope) : Statement (.controllerWait x) := of_none rfl
theorem waitTimeout (x : Scope) : Statement (.waitTimeout x) := of_none rfl
theorem legComplete (x : Scope) (us : Nat) (waitUs : Nat) : Statement (.legComplete x us waitUs) := of_none rfl
theorem chWakeCmd (n : Ch) : Statement (.chWakeCmd n) := of_none rfl
theorem wakeTimerExpiry (x : Scope) : Statement (.wakeTimerExpiry x) := of_none rfl
theorem wakeReplay (x : Scope) : Statement (.wakeReplay x) := of_none rfl
theorem watchSampleStart (n : Ch) : Statement (.watchSampleStart n) := of_none rfl
theorem watchSampleResult (n : Ch) (v : BitVec 16) : Statement (.watchSampleResult n v) := of_none rfl
theorem watchSampleEnd (n : Ch) : Statement (.watchSampleEnd n) := of_none rfl
theorem pwrClrStats (x : Scope) : Statement (.pwrClrStats x) := of_none rfl
theorem pwrFsmPar (n : Ch) : Statement (.pwrFsmPar n) := of_none rfl
theorem pwrSeqPar : Statement (.pwrSeqPar) := of_none rfl
theorem sensUpdate (complex : Option (BitVec 16)) : Statement (.sensUpdate complex) := of_none rfl
theorem clrPeak : Statement (.clrPeak) := of_none rfl
theorem capPreFilled (n : Ch) : Statement (.capPreFilled n) := of_none rfl
theorem coreOffsetUpdate (n : Ch) (tx : Int) (rx : Int) : Statement (.coreOffsetUpdate n tx rx) := of_none rfl
theorem cdrPpmUpdate (n : Ch) (l : Fin 2) (ppm : Int) : Statement (.cdrPpmUpdate n l ppm) := of_none rfl
theorem chPllRelock (n : Ch) : Statement (.chPllRelock n) := of_none rfl
theorem voutnReturn : Statement (.voutnReturn) := of_none rfl
theorem railReturn (r : Rail) : Statement (.railReturn r) := of_none rfl

end Laws.RequesterIds

end Sys2Proof
end

