-- ==== Sys2Proof/Laws/Writes.lean ====
section
/-! SUPPORT. A register write that reaches its target, cut into what the bus counts and what the target does: the laws that
the statements about register commands cite, so that none of them unfolds the bus. -/

namespace Sys2Proof.Machine

/-- The offsets of a counter page that counting writes: STATUS, IRQ_RAW, the counters and their WRAP bits (R394). -/
def cntWritten (o : Nat) : Prop := o = 8 ∨ o = 0xC ∨ (0x400 ≤ o ∧ o < 0x808)

theorem word_bump (s : State) (n : Ch) (pg c k : Nat) {x : Nat} (hc : c < 64)
    (hx : ∀ o, cntWritten o → pg + n.val * 0x20000 + o ≠ x) : (s.bump n pg c k).word x = s.word x := by
  have h64 : ∀ (t : State) (v : Nat), (t.set64 n ((CNT.CNT_LO c).inPage pg) v).word x = t.word x := fun t v => by
    unfold State.set64
    rw [State.word_set_ne, State.word_set_ne]
    · exact hx (0x400 + 16 * c) (by unfold cntWritten; omega)
    · exact hx (0x400 + 16 * c + 4) (by unfold cntWritten; omega)
  unfold State.bump
  extract_lets lo s1
  have h1 : s1.word x = s.word x := h64 s _
  split
  · exact h1
  · unfold State.irq
    rw [State.word_set_ne, State.word_set_ne, State.word_set_ne, h1]
    · exact hx (0x800 + 4 * (c / 32)) (by unfold cntWritten; omega)
    · exact hx 8 (by unfold cntWritten; omega)
    · exact hx 0xC (by unfold cntWritten; omega)

theorem word_countBelow (s : State) (n : Ch) (pg : Nat) (e : CntEvent) (k : Nat) {x : Nat} (hk : k ≤ 64)
    (hx : ∀ o, cntWritten o → pg + n.val * 0x20000 + o ≠ x) : (s.countBelow n pg e k).word x = s.word x := by
  induction k with
  | zero => rfl
  | succ k ih =>
    unfold State.countBelow
    extract_lets s1
    have h1 : s1.word x = s.word x := ih (by omega)
    split
    · exact (word_bump s1 n pg k e.amount (by omega) hx).trans h1
    · exact h1

/-- A counted access writes nothing but counter pages: those of `DEV.CNT` and of the channel. -/
theorem word_countBus (s : State) (m : Option Ch) (cls req loc k : Nat) {x : Nat}
    (hd : ∀ o, cntWritten o → 0xC000 + o ≠ x) (hx : ∀ n : Ch, m = some n → ∀ o, cntWritten o → 0x110000 + n.val * 0x20000 + o ≠ x) :
    (s.countBus m cls req loc k).word x = s.word x := by
  unfold State.countBus
  extract_lets e s1
  have h1 : s1.word x = s.word x := by
    unfold s1
    split
    · split
      · exact word_countBelow s _ cntPage e 64 (by omega) (hx _ rfl)
      · rfl
    · rfl
  split
  · exact h1
  · exact (word_countBelow s1 0 dcntPage e 16 (by omega) fun o ho => by simpa [dcntPage] using hd o ho).trans h1

/-- What a write seen by the bus leaves alone: every register outside the counters. -/
theorem word_seen (s : State) (a req : Nat) {x : Nat} (hd : ∀ o, cntWritten o → 0xC000 + o ≠ x)
    (hx : ∀ n : Ch, ∀ o, cntWritten o → 0x110000 + n.val * 0x20000 + o ≠ x) : (s.seen a req).word x = s.word x := by
  unfold State.seen
  extract_lets s1
  have h1 : s1.word x = s.word x := word_countBus s _ _ _ _ _ hd fun n _ => hx n
  split
  · exact h1
  · exact h1

theorem word_seen_low (s : State) (a req : Nat) {x : Nat} (h : x % 0x1000 = 0x20 ∨ x % 0x1000 = 0x24) :
    (s.seen a req).word x = s.word x := by
  refine word_seen s a req (fun o ho => ?_) (fun n o ho => ?_) <;> unfold cntWritten at ho <;> omega

/-! ## A write that is open -/

theorem decoded_inPage {a : Nat} (h : decoded a = true) : inPage a = true := by
  unfold decoded at h
  unfold inPage
  simp only [Bool.and_eq_true, Bool.or_eq_true, decide_eq_true_eq, bne_iff_ne, ne_eq] at h ⊢
  obtain ⟨⟨h1, h2⟩, -⟩ := h
  unfold pageCode at *
  by_cases ha : a < 0x10000
  · simp only [ha, if_true]
    omega
  · by_cases hb : 0x100000 ≤ a ∧ a < 0x200000
    · simp only [ha, hb, if_false, and_self, if_true, false_or] at h2 ⊢
      omega
    · simp only [ha, hb, if_false, not_true_eq_false] at h1

theorem regReach_inPage {s : State} {a : Nat} (h : s.regReach a = codeOk) : inPage a = true := by
  refine decoded_inPage ?_
  unfold State.regReach at h
  by_cases hd : decoded a = true
  · exact hd
  · simp [hd, codeOk] at h

theorem pageArmed_countBus (s : State) (m : Option Ch) (cls req loc k a b : Nat) :
    (s.countBus m cls req loc k).pageArmed a b = s.pageArmed a b := by
  unfold State.pageArmed
  rw [word_countBus]
  · intro o ho
    unfold cntWritten at ho
    unfold injectOf
    omega
  · intro n _ o ho
    unfold cntWritten at ho
    unfold injectOf
    omega

/-- A register that has no w1c bits, or none that counting writes, takes none from the count of its own write. -/
theorem newBits_zero (s : State) {a req : Nat} (h : w1cMask a = 0 ∨ ¬ cntWritten (a % 0x1000)) :
    s.newBits (s.countBus (addrCh? a) 0x11 req (regLoc a)) a = 0 := by
  unfold State.newBits
  rcases h with h | h
  · rw [h]
    exact BitVec.and_zero
  · rw [word_countBus]
    · rw [BitVec.and_not_self]
      exact BitVec.zero_and
    · intro o ho e
      exact h (by rw [show a % 0x1000 = o by unfold cntWritten at ho; omega]; exact ho)
    · intro n _ o ho e
      exact h (by rw [show a % 0x1000 = o by unfold cntWritten at ho; omega]; exact ho)

/-- An open write whose target takes it does what the target does, but for the w1c bits that its own count sets (R11). -/
theorem actPut_full {s : State} {a req : Nat} {data : Word} {t : State} (h : s.writeOpen a req = true)
    (hok : (s.seen a req).regStore a data req = (codeOk, t)) :
    s.actPut a data req = t.keepNew s a req := by
  unfold State.writeOpen at h
  simp only [Bool.and_eq_true, Bool.not_eq_true', beq_iff_eq, Bool.and_eq_false_iff, beq_eq_false_iff_ne, ne_eq] at h
  obtain ⟨⟨⟨h1, h2⟩, h3⟩, h4⟩ := h
  unfold State.actPut
  rw [if_neg (by rcases h1 with h1 | h1 <;> simp [h1])]
  unfold State.busPut
  simp only [regReach_inPage h2, h2, Bool.not_true, Bool.false_eq_true, if_false, ne_eq, not_true_eq_false]
  have hput : (s.countBus (addrCh? a) 0x11 req (regLoc a)).regPut a data req = (codeOk, t) := by
    unfold State.regPut
    simp only [pageArmed_countBus, h3, Bool.false_and, Bool.false_eq_true, if_false]
    unfold State.seen at hok
    dsimp only at hok
    simp only [hok, ne_eq, not_true_eq_false, if_false]
  unfold State.regWrite State.countedPut State.keepNew State.accessTrap
  simp only [hput, h4, Bool.false_eq_true, if_false]
  split <;> simp only [ne_eq, not_true_eq_false, if_false, if_true]

/-- An open write of a register that its own count leaves alone does what the target does, and nothing else. -/
theorem actPut_open {s : State} {a req : Nat} {data : Word} {t : State} (h : s.writeOpen a req = true)
    (hw : w1cMask a = 0 ∨ ¬ cntWritten (a % 0x1000)) (hok : (s.seen a req).regStore a data req = (codeOk, t)) : s.actPut a data req = t := by
  rw [actPut_full h hok]
  unfold State.keepNew
  simp only [newBits_zero s hw, if_true]

/-- A write whose data name the one ws bit `b`. -/
theorem wsWrites_one (t : State) (a b : Nat) (data : Word) (k : Nat) (hk : k ≤ 32)
    (h : ∀ i, i < 32 → (data &&& wsMask a).getLsbD i = decide (i = b)) :
    t.wsWrites a data k = if b < k then t.wsWrite a b else t := by
  induction k with
  | zero => rfl
  | succ k ih =>
    unfold State.wsWrites
    simp only [h k (by omega), ih (by omega)]
    by_cases hb : b < k
    · simp [hb, Nat.lt_succ_of_lt hb, (Nat.ne_of_gt hb)]
    · by_cases hk' : k = b
      · subst hk'
        simp
      · simp [hb, hk', show ¬ b < k + 1 by omega]

theorem longOp_plainWrite (t : State) (a : Nat) (data : Word) (h : a % 0x1000 ≠ 0x24) :
    (t.plainWrite a data).longOp a = t.longOp a := by
  unfold State.longOp State.plainWrite
  rw [State.word_setWord_ne _ _ (by omega)]

theorem held_bump (s : State) (n : Ch) (pg c k : Nat) : (s.bump n pg c k).dev.held = s.dev.held := by
  unfold State.bump
  extract_lets lo s1
  split <;> rfl

theorem held_countBelow (s : State) (n : Ch) (pg : Nat) (e : CntEvent) (k : Nat) :
    (s.countBelow n pg e k).dev.held = s.dev.held := by
  induction k with
  | zero => rfl
  | succ k ih =>
    unfold State.countBelow
    extract_lets s1
    split
    · exact (held_bump ..).trans ih
    · exact ih

theorem pageHeld_seen (s : State) (a req b : Nat) : (s.seen a req).pageHeld b = s.pageHeld b := by
  have hc : (s.countBus (addrCh? a) 0x11 req (regLoc a)).dev.held = s.dev.held := by
    unfold State.countBus
    extract_lets e s1
    have h1 : s1.dev.held = s.dev.held := by
      unfold s1
      split
      · split
        · exact held_countBelow ..
        · rfl
      · rfl
    split
    · exact h1
    · exact (held_countBelow ..).trans h1
  unfold State.pageHeld State.seen
  extract_lets s1
  split
  · exact congrArg (fun h => List.any h _) hc
  · exact congrArg (fun h => List.any h _) hc

theorem longOp_seen (s : State) (a req b : Nat) : (s.seen a req).longOp b = s.longOp b := by
  unfold State.longOp
  rw [word_seen_low _ _ _ (by omega)]

/-! ## Where a channel register lies -/

theorem chField_addr {f : Field} (h : chField f = true) (n : Ch) :
    pageCode (f.addr n) = pageCode (f.addr 0) ∧ f.addr n % 0x1000 = f.addr 0 % 0x1000 ∧ addrCh (f.addr n) = n := by
  have hn := n.isLt
  obtain ⟨h1, h2, h3, h4⟩ := of_decide_eq_true h
  unfold Field.addr
  refine ⟨?_, by simp only [Fin.val_zero]; omega, ?_⟩
  · unfold pageCode
    simp only [Fin.val_zero]
    rw [if_neg (by omega), if_pos (by omega), if_neg (by omega), if_pos (by omega)]
    omega
  · unfold addrCh chOf
    rw [if_neg (by omega)]
    apply Fin.ext
    show _ % 8 = n.val
    omega

theorem regStore_coded (t : State) {a : Nat} (data : Word) (req : Nat) (h : codedReg a = true) :
    t.regStore a data req = (codeOk, t.codedWrite a data) := by
  unfold codedReg at h
  extract_lets o at h
  simp only [Bool.and_eq_true, Option.isNone_iff_eq_none, bne_iff_ne, ne_eq] at h
  obtain ⟨⟨⟨⟨hb, h1⟩, h2⟩, h3⟩, h⟩ := h
  unfold State.regStore
  simp only [hb]
  rw [if_neg h1, if_neg h2, if_neg h3]
  split
  · have hp : a < 0x10000 → pageCode a = a / 0x1000 := fun ha => by simp only [pageCode, ha, if_true]
    unfold State.writeDev
    extract_lets ok
    have hok : ∀ t, ok t = (codeOk, t) := fun _ => rfl
    split <;> rename_i heq <;> try
      (rw [hp (by omega), heq] at h
       simp only [Bool.and_eq_true, bne_iff_ne, ne_eq, Option.isNone_iff_eq_none, Bool.not_eq_true', decide_eq_false_iff_not,
         decide_eq_true_eq, Bool.false_eq_true] at h)
    all_goals first
      | exact hok _
      | (rw [if_neg (by omega), if_neg (by omega), if_neg (by omega), hok])
      | simp only [h, hok, if_false, false_and, and_false]
  · split
    · unfold State.writeLink
      simp only
      congr 1
      split <;> rename_i heq <;> try
        (rw [heq] at h
         simp only [Bool.and_eq_true, bne_iff_ne, ne_eq, Option.isNone_iff_eq_none] at h)
      all_goals first
        | rfl
        | (rw [if_neg (by omega), if_neg (by omega)]; done)
        | (rw [if_neg h.1]; simp only [show idxAt 41 EQ.FFE_TAP_COEF (a % 4096) = none from h.2]; done)
        | (rw [if_neg (by omega)]; done)
    · unfold State.writeRest
      extract_lets ok back
      have hok : ∀ t, ok t = (codeOk, t) := fun _ => rfl
      split <;> rename_i heq <;> try
        (rw [heq] at h
         simp only [Bool.and_eq_true, bne_iff_ne, ne_eq, Option.isNone_iff_eq_none, Bool.not_eq_true', decide_eq_false_iff_not,
           decide_eq_true_eq] at h)
      all_goals first
        | exact hok _
        | (rw [if_neg (by omega), if_neg (by omega), if_neg (by omega), hok])
        | (rw [if_neg (by omega), if_neg (by omega), hok])
        | simp only [h, hok, if_false, and_false]

theorem boxAt_isNone {a b : Nat} (hp : pageCode a = pageCode b) (ho : a % 0x1000 = b % 0x1000) :
    (boxAt a).isNone = (boxAt b).isNone := by
  unfold boxAt
  simp only [hp, ho, apply_ite Option.isNone, Option.isNone_some, Option.isNone_none]

theorem codedReg_addr {f : Field} (h : chField f = true) (n : Ch) : codedReg (f.addr n) = codedReg (f.addr 0) := by
  obtain ⟨hp, ho, -⟩ := chField_addr h n
  unfold codedReg
  simp only [boxAt_isNone hp ho, hp, ho]

theorem regDef_addr {f : Field} (h : chField f = true) (n : Ch) : regDef (f.addr n) = regDef (f.addr 0) := by
  obtain ⟨hp, ho, -⟩ := chField_addr h n
  unfold regDef
  rw [hp, ho]

theorem wsMask_addr {f : Field} (h : chField f = true) (n : Ch) : wsMask (f.addr n) = wsMask (f.addr 0) := by
  unfold wsMask
  rw [regDef_addr h]

theorem w1cMask_addr {f : Field} (h : chField f = true) (n : Ch) : w1cMask (f.addr n) = w1cMask (f.addr 0) := by
  unfold w1cMask
  rw [regDef_addr h]

/-- What makes a one-bit field of a channel page a plain ws field (R9, R12). -/
def wsField (f : Field) : Bool :=
  chField f && codedReg (f.addr 0) && f.off != 0x24 && decide (f.lo < 32) && (oneBit f &&& wsMask (f.addr 0) == oneBit f) &&
    pageCode (f.addr 0) < 0x36 && w1cMask (f.addr 0) == 0

/-- The host's write of one ws field of a channel page, taken at once: what the field requests, on the state that has seen
the write, and the channel's blocks then see it. -/
theorem actPut_ws {s : State} {n : Ch} {f : Field} (h : s.wsOpen n f = true) (hf : wsField f = true) :
    s.actPut (f.addr n) (oneBit f) reqHost = ((s.wsSeen n f).wsAct (f.addr n) f.lo).levels n := by
  unfold wsField at hf
  simp only [Bool.and_eq_true, bne_iff_ne, ne_eq, decide_eq_true_eq, beq_iff_eq] at hf
  obtain ⟨⟨⟨⟨⟨⟨hf, hc⟩, ho⟩, hb⟩, hm⟩, hp⟩, hw⟩ := hf
  obtain ⟨hp', ho', hn⟩ := chField_addr hf n
  obtain ⟨f1, f2, f3, f4⟩ := of_decide_eq_true hf
  unfold State.wsOpen at h
  simp only [Bool.and_eq_true, Bool.or_eq_true, Bool.not_eq_true', Bool.or_eq_false_iff] at h
  refine actPut_open h.1 (.inl ((w1cMask_addr hf n).trans hw)) ((regStore_coded _ _ _ ((codedReg_addr hf n).trans hc)).trans ?_)
  have hd : wsData (f.addr n) (oneBit f) = oneBit f := by
    unfold wsData
    rw [if_neg]
    unfold Field.addr
    omega
  have hlow : 0x20 ≤ pageCode (f.addr 0) := by
    unfold pageCode Field.addr
    simp only [Fin.val_zero]
    rw [if_neg (by omega), if_pos (by omega)]
    omega
  unfold State.codedWrite State.wsSeen State.afterWrite
  rw [hd, wsWrites_one _ _ f.lo _ 32 (by omega), if_pos hb, hp', if_neg (by omega), hn]
  · unfold State.wsWrite
    rw [longOp_plainWrite, longOp_seen, show (State.plainWrite _ _ _).pageHeld _ = s.pageHeld _ from pageHeld_seen .., if_neg]
    · rcases h.2 with h2 | ⟨h2, h3⟩ <;> simp [*]
    · rw [ho']
      unfold Field.addr
      simp only [Fin.val_zero]
      omega
  · intro i hi
    rw [wsMask_addr hf, hm]
    unfold oneBit
    rw [BitVec.getLsbD_ofNat, Nat.testBit_two_pow]
    by_cases e : f.lo = i
    · simp [e, hi]
    · simp [e, Ne.symm e]

/-- A register of a channel page that is no mailbox, FLT_RAW, FLT_EN or INJECT. -/
def plainAt (f : Field) : Bool :=
  chField f && (boxAt (f.addr 0)).isNone && f.off != 0x18 && f.off != 0x1C && f.off != 0x20

theorem off_addr {f : Field} (h : chField f = true) (n : Ch) : f.addr n % 0x1000 = f.off := by
  obtain ⟨h1, h2, h3, h4⟩ := of_decide_eq_true h
  unfold Field.addr
  omega

theorem regStore_chan (t : State) {f : Field} (h : plainAt f = true) (n : Ch) (data : Word) (req : Nat) :
    t.regStore (f.addr n) data req =
      if pageCode (f.addr n) ≤ 0x28 then (codeOk, t.writeLink n (f.addr n) data) else t.writeRest n (f.addr n) data req := by
  unfold plainAt at h
  simp only [Bool.and_eq_true, bne_iff_ne, ne_eq] at h
  obtain ⟨⟨⟨⟨hf, hb⟩, h1⟩, h2⟩, h3⟩ := h
  obtain ⟨hp, ho, hn⟩ := chField_addr hf n
  have hb' := Option.isNone_iff_eq_none.mp ((boxAt_isNone hp ho).trans hb)
  unfold State.regStore
  simp only [hb', off_addr hf n, hn]
  rw [if_neg h1, if_neg h2, if_neg h3, if_neg]
  obtain ⟨g1, -⟩ := of_decide_eq_true hf
  unfold Field.addr
  omega

/-- A write whose data name the one ws bit `b`, taken at once. -/
theorem codedWrite_one (t : State) {a b : Nat} {data : Word} (hb : b < 32)
    (hd : ∀ i, i < 32 → (wsData a data &&& wsMask a).getLsbD i = decide (i = b))
    (hf : wsFree a b = true ∨ ((t.plainWrite a data).longOp a || t.pageHeld a) = false) :
    t.codedWrite a data = ((t.plainWrite a data).wsAct a b).afterWrite a := by
  unfold State.codedWrite
  rw [wsWrites_one _ _ b _ 32 (by omega) hd, if_pos hb]
  unfold State.wsWrite
  rw [show (t.plainWrite a data).pageHeld a = t.pageHeld a from rfl, if_neg]
  rcases hf with h | h <;> simp [h]

end Sys2Proof.Machine
end

