-- ==== Sys2Proof/Machine/Periods.lean ====
section
/-! DEFINITION. The times that registers and slices set (R149, R190, R241, R244, R250, R312, R314, R320, R333, R337, R344, R348,
R352, R354, R370, R404, R405, R425, R465 to R469, R499, R502).  An event command says that its time has come (log entry 9), so
no step counts these; each is what the sender of the command has waited. -/

namespace Sys2Proof.Machine

/-! ## Host lanes, line transmitter, equaliser -/

/-- The bound of a training in ms (R149). -/
def State.trainLimitMs (s : State) (n : Ch) (l : Fin 2) : Nat := 10 * (s.get n (HL.TRAIN_CFG_TIMEOUT l) + 1)

/-- LEAD, ramp and LAG in µs (R190). -/
def State.leadUs (s : State) (n : Ch) : Nat := s.get n LTX.RAMP_TXDIS_LEAD
def State.rampUs (s : State) (n : Ch) : Nat := s.get n LTX.RAMP_TX_RAMP + 1
def State.lagUs (s : State) (n : Ch) : Nat := s.get n LTX.LAG_TXDIS_LAG

/-- The core words of a notice's freeze (R241), and the ms of a long hold (R244). -/
def State.noticeWords (s : State) (n : Ch) : Nat := max 4 (s.get n EQ.NOTICE_CFG_HOLD)
def State.longHoldMs (s : State) (n : Ch) : Nat := max 1 (s.get n EQ.GUARD_CFG_LONG_MS)

/-- The sampled symbols of one phase of an eye scan (R250). -/
def State.eyeDwell (s : State) (n : Ch) : Nat := 2 ^ clampN 8 20 (s.get n EQ.EYE_CFG_DWELL)

/-! ## Millrace -/

/-- Beacon period, far-end timeout and duplicate window in ms; no beacons at a period of 0 (R312, R314, R320). -/
def State.beaconMs (s : State) (n : Ch) : Nat := 10 * s.get n MRACE.BEACON_CFG_PERIOD
def State.farMs (s : State) (n : Ch) : Nat := 10 * max 1 (s.get n MRACE.FAR_CFG_TIMEOUT)
def State.dupMs (s : State) (n : Ch) : Nat := max 1 (s.get n MRLY.DUP_CFG_DUP_MS)

/-! ## Gauge, outputs, Kiln -/

/-- The sequence timer in µs (R333), a stream's period in µs (R337). -/
def State.sequenceUs (s : State) (n : Ch) : Nat := 10 * max 1 (s.get n GAUGE.SEQ_PERIOD_P10US)
def State.streamUs (s : State) (n : Ch) (k : Fin 2) : Nat := max 10 (s.get n (streamF k GAUGE.STREAM0_CFG_PERIOD))

/-- A DAC's sample clock and its readback slot in µs (R348, R352). -/
def State.dacUs (s : State) (n : Ch) (d : Fin 3) : Nat := clampN 1 1000 (s.get n (OUT.D_PERIOD_US d))
def State.readbackUs (s : State) (n : Ch) (d : Fin 3) : Nat := 100 * max 1 (s.get n (OUT.D_SUPV_CFG_PERIOD d))

/-- The voltage of a code in nV in the DAC's span, rounded down: unsigned in 0x1 and 0x2, two's complement in 0x3 and 0x4,
clamped to ground otherwise (R344, R346). -/
def State.dacNv (s : State) (n : Ch) (d : Fin 3) (code : Nat) : Int :=
  match s.dacSpan n d with
  | 1 => 1250000000 * (code : Int) / 65536
  | 2 => 2500000000 * (code : Int) / 65536
  | 3 => 1250000000 * toSigned 16 code / 32768
  | 4 => 2500000000 * toSigned 16 code / 32768
  | _ => 0

/-! ## Tally, counters, time, memories -/

/-- Epochs in ms (R370), dumps in ms with none at 0 (R405), the PPS pulse in µs (R404). -/
def State.epochMs (s : State) (n : Ch) : Nat := max 10 (s.get n TALLY.EPOCH_CFG_MS)
def State.dumpMs (s : State) (n : Ch) : Nat := s.get n HOP.CFG_PERIOD_MS
def State.ppsUs (s : State) : Nat := max 1 (s.dget TIME.PPS_CFG_WIDTH_US)

/-- Whether device time `ms` is an epoch boundary (R370). -/
def State.epochAt (s : State) (n : Ch) (ms : Nat) : Bool := ms % s.epochMs n == 0

/-- The leak clock of memory `i` of a channel's page in µs (R425). -/
def State.leakUs (s : State) (n : Ch) (i : Nat) : Nat := clampN 1 1000000 (s.get n (MEM.B_CFG_LEAK_US i))

/-! ## Trial -/

/-- The time of one pattern of channel slice `k` and of device slice `k` in ns (R465, R467): 4 ns for each place of the longest
chain and 4 more. -/
def slicePatternNs (k : Nat) : Nat := 4 * ([108, 140, 284, 172, 140, 76].getD k 0 + 4)
def devSlicePatternNs (k : Nat) : Nat := 4 * ([252, 76, 28].getD k 0 + 4)

/-- A scan slice at 2^c patterns, with its fixed 40 µs, in ns (R465). -/
def scanNs (patternNs c : Nat) : Nat := patternNs * 2 ^ c + 40000

/-- The march slice: ten operations on 131,072 words at 221.35 MHz, the closing pass of one and 40 µs, in ns (R466, R389). -/
def marchNs : Nat := 11 * 131072 * 100000 / 22135 + 40000

/-- The budget of a time: 1.125 times it, rounded up to 100 µs, in 100 µs units (R469). -/
def autoBudget (ns : Nat) : Nat := (9 * ns + 799999) / 800000

/-- The budget of channel slice `k` at 2^c patterns: BUDGETk, or the automatic one (R469). -/
def State.sliceBudget (s : State) (n : Ch) (k c : Nat) : Nat :=
  let b := s.get n (TRIAL.BUDGET_UNITS k)
  if b = 0 then autoBudget (if k = 6 then marchNs else scanNs (slicePatternNs k) c) else b

/-! ## Power paths -/

/-- The wake timer in ms, disabled at 0 (R499), the Watch period in ms and its sample in µs (R502). -/
def State.wakeMs (s : State) (n : Ch) : Nat := s.get n PWR.WAKE_TIMER_MS
def State.devWakeMs (s : State) : Nat := s.dget DPWR.WAKE_TIMER_MS
def State.watchMs (s : State) (n : Ch) : Nat := clampN 1 10000 (s.get n PWR.WATCH_CFG_PERIOD)
def State.watchUs (s : State) (n : Ch) : Nat := clampN 25 1000 (s.get n PWR.WATCH_CFG_SAMPLE)

end Sys2Proof.Machine
end

