-- ==== Sys2Proof/Tests/Slice0.lean ====
section
/-! SUPPORT. The model's own tests: an ill-formed command for each check of `Instr.wf`, for each statement states and operands that
meet the hypotheses of its clauses, and steps whose outcome the spec gives. -/

namespace Sys2Proof.Tests

open Machine

set_option Elab.async false

/-! ## Small states -/

/-- A part in service: booted, RUN, channel 0 in RUN with an active mode, its registers reachable, no command waiting. -/
def up : State :=
  ((State.reset.modDev fun d => { d with state := .run, booted := true, blocking := none, timeRunning := true }).set 0
    PWR.STATUS_STATE 4).set 0 TOP.STATUS_MODE_ACTIVE 1

/-- That part with some fields of channel 0 or of the device written. -/
def put (l : List (Field × Nat)) : State := l.foldl (fun s p => s.set 0 p.1 p.2) up

/-- That part with some hidden state of the device, or of channel 0, changed. -/
def upDev (f : Dev → Dev) : State := up.modDev f
def upCh (f : Chan → Chan) : State := up.modCh 0 f

/-- A host write of the ws field `f` of channel 0 is taken at once in `s`, and what it finds has `may`. -/
def asks (s : State) (f : Field) (may : State → Bool) : Bool := s.wsOpen 0 f && may (s.wsSeen 0 f)

/-- A write of register `a` by `req` is open in `s`, and what it finds has `may`. -/
def puts (s : State) (a req : Nat) (may : State → Bool) : Bool := s.writeOpen a req && may (s.seen a req)

/-- A marker without bit errors, and one that cannot be valid. -/
def mk (offset lanes : Nat) : Marker := { offset, badBits := 0, lanes, skew := 0 }

/-! ## Ill-formed commands are refused -/

/-- One ill-formed command for each check of `Instr.wf`. -/
theorem test_ill_formed_refused : (([
  .hostRead ⟨.primary, 0⟩ 0 0 2 .whole [2], .hostWrite ⟨.primary, 0⟩ 0 0 [1, 2] .whole [0],
  .registerWrite 0x3041 0 0, .registerWrite 0x10000 0 0, .registerWrite 0x118000 0 0, .registerWrite 0x3040 0 16,
  .wsHeldAccept 0x3040, .wsHeldAccept 0x10000, .mbxPayloadWrite (.h2m 0) 0 0 16, .mbxRing (.h2m 0) 16, .mbxTake (.h2m 0) 16,
  .wrightImageCopyDone 0 (List.replicate 8193 0),
  .hostGuardWindow 0 0 [1, 2, 3] 0 0 [] [], .hostGuardWindow 0 0 [1, 2, 3, 4] 0 0 [] [none],
  .hostGuardWindow 0 0 [1, 2, 3, 4] 0 0 [List.replicate 24 0] [none],
  .trainMeasurement 0 0 0 0 [0] 0, .codewordDecode 0 0 (List.replicate 513 0) (List.replicate 30 0) (List.replicate 544 0),
  .codewordDecode 0 0 (List.replicate 513 0) (List.replicate 31 0) (List.replicate 544 0),
  .codewordDecode 0 0 (List.replicate 514 0) (List.replicate 30 0) (List.replicate 544 1024),
  .lmsUpdate 0 [0] [0, 0] [0, 0, 0, 0], .lmsUpdate 0 (List.replicate 41 0) [0] [0, 0, 0, 0],
  .lmsUpdate 0 (List.replicate 41 0) [0, 0] [0], .guardWindowEnd 0 ⟨[1], 0, [1, 1, 1, 1], [0, 0, 0, 0], 0⟩,
  .guardWindowEnd 0 ⟨[1, 1, 1, 1], 0, [1], [0, 0, 0, 0], 0⟩, .guardWindowEnd 0 ⟨[1, 1, 1, 1], 0, [1, 1, 1, 1], [0], 0⟩,
  .acqWindowEnd 0 [0], .blockDecode 0 ⟨⟨0, [0], List.replicate 64 0⟩, 0⟩, .blockDecode 0 ⟨⟨0, List.replicate 64 0, [0]⟩, 0⟩,
  .blockDecode 0 ⟨⟨0, List.replicate 64 0, List.replicate 64 0⟩, 5440⟩,
  .dressCmdPass 0 16, .headerDecoded 0 [0], .payloadDecoded 0 ⟨List.replicate 261 0, 0, 0, 0⟩, .tallyFrame 0 ⟨[0], false, some [1], 0⟩,
  .selectorWrite .dev 0 false 0 16, .counterLoRead .dev 0 16, .timeNowRead 16, .faultClear 0x3018 0, .fltEnWrite 0x18000 0,
  .selfFault .dev 256, .chPwrTarget 0 0 16, .devPwrTarget 0 16] : List Instr).all fun i => !i.wf) = true := by decide +kernel

/-- Their neighbours at the ends of the same ranges are well formed. -/
theorem test_well_formed_accepted : [Instr.hostRead ⟨.primary, 0⟩ 0 0 2 .whole [1], .hostWrite ⟨.primary, 0⟩ 0 0 [1, 2] .whole [0, 3],
    .registerWrite 0xFFFC 0 15, .registerWrite 0x100000 0 0, .wsHeldAccept 0x117000, .wrightImageCopyDone 0 (List.replicate 8192 0),
    .codewordDecode 0 0 (List.replicate 514 1023) (List.replicate 30 0) (List.replicate 544 0), .tallyFrame 0 ⟨[0], false, some [0], 0⟩,
    .blockDecode 0 ⟨⟨0, List.replicate 64 0, List.replicate 64 0⟩, 5439⟩, .selfFault .dev 255].all Instr.wf = true := by
  decide +kernel

/-! ## The statements' hypotheses are met: one clause here for each clause of a statement that has any -/

theorem witness_AnEmptyQueueLetsOneTickPass :
    (let s := up
     s.pending = []) ∧
    (let s := upDev fun d => { d with timeRunning := false }
     s.pending = [] ∧ s.dev.timeRunning = false) := by
  decide +kernel

theorem witness_ResetLeavesTheResetValues :
    0x3044 ≠ BOOT.RESET_CAUSE.addr 0 ∧ (regDef 0x3044).isSome = true ∧ (regDef (LTX.NL_ENTRY_CORR 63 |>.addr 7)).isSome = true := by
  decide +kernel

/-- The outcome is a next state. -/
def completes (o : Host.Outcome State Fault Refusal) : Bool :=
  match o with
  | .next _ => true
  | _ => false

theorem witness_EveryStepKeepsTheCanonicalForm :
    up.canonical = true ∧ completes (step up) := by
  decide +kernel

theorem witness_FusesOnlyEverGoFromZeroToOne :
    completes (step { up with pending := [.refclkLoss] }) ∧ up.otpValid 0 = true ∧
      ((upDev fun d => { d with fuseWords := [(9, 2)] }).otpBits 9).getLsbD 1 = true := by
  decide +kernel

theorem witness_FieldsAndCountersChangeAsTheirRulesSay :
    ((PWR.STATUS_STATE : Field).lo + (PWR.STATUS_STATE : Field).w ≤ 32) ∧
    (BOLT.BLOCKS_LO.lo = 0 ∧ BOLT.BLOCKS_LO.w = 32 ∧ BOOT.CMD.addr 0 ≠ PWR.STATUS_STATE.addr 0) := by
  decide +kernel

theorem witness_ARegisterWriteObeysTheAccessCodes :
    (let s := up
     s.writeOpen (TIM.LOCK_CFG.addr 0) reqHost = true ∧ codedReg (TIM.LOCK_CFG.addr 0) = true ∧
       wsMask (TIM.LOCK_CFG.addr 0) = 0) := by
  decide +kernel

theorem witness_AWriteThatMayNotActIsOnlyCountedOrDiscarded :
    (let s := up
     s.busyPin = false ∧ s.regReach 0x3FFC ≠ codeOk) ∧
    (0 ≠ reqMiller ∧ reqWright? 0 = none) ∧
    (let s := put [(MILLER.STATUS_CORE, 1)]
     (7, 0x60) ≠ codeOk ∧ s.dget MILLER.STATUS_CORE = 1) ∧
    ((7, 0x60) ≠ codeOk ∧ (reqWright 0) ≠ reqMiller ∧ reqWright? (reqWright 0) = some 0) ∧
    (decoded 0x80000 = false) ∧
    (let s := up
     chField TIM.LOCK_CFG = true ∧ decoded ((TIM.LOCK_CFG : Field).addr 1) = true ∧ s.inTrial 1 = false ∧
       s.pageOn 1 (pageCode ((TIM.LOCK_CFG : Field).addr 1) - 0x20) = false) ∧
    (let s := State.reset
     s.busyPin = true) := by
  decide +kernel

/-- A channel that an eye measurement keeps busy, with a second request of its page held. -/
def eyeBusy : State := (put [(EQ.BUSY_LONG_OP, 1)]).modDev fun d => { d with held := [(EQ.CMD.addr 0, 0)] }

theorem witness_AHeldRequestWaitsForTheLongOperation :
    (let s := eyeBusy
     (s.longOp (EQ.EYE_CTRL.addr 0) || s.pageHeld (EQ.EYE_CTRL.addr 0)) = true ∧ wsFree (EQ.EYE_CTRL.addr 0) 0 = false ∧
       (EQ.EYE_CTRL.addr 0, 0) ∉ s.dev.held) ∧
    (let s := eyeBusy
     (s.longOp (EQ.CMD.addr 0) || s.pageHeld (EQ.CMD.addr 0)) = true ∧ wsFree (EQ.CMD.addr 0) 0 = false ∧
       (EQ.CMD.addr 0, 0) ∈ s.dev.held) ∧
    (let s := eyeBusy.set 0 EQ.BUSY_LONG_OP 0
     s.dev.held.find? (fun h => h.1 / 0x1000 == (EQ.CMD.addr 0) / 0x1000) = some (EQ.CMD.addr 0, 0) ∧
       s.longOp (EQ.CMD.addr 0) = false) ∧
    (let s := up
     (∀ h ∈ s.dev.held, h.1 / 0x1000 = 0 / 0x1000 → s.longOp h.1 = true)) := by
  decide +kernel

theorem witness_AHostReadRespondsWithTheWordsOfItsBurst :
    (let s := up
     s.answers .primary 0 = true) ∧
    (let s := up
     s.answers .primary 0 = true ∧ burstOf 0 = 0 ∧ (s.txnBegin .primary (cmdByte 0 0)).busyPin = false ∧
       ((s.txnBegin .primary (cmdByte 0 0)).portGet .primary (isObs 0) 0x3044).1.1 = codeOk) ∧
    (let s := up
     s.answers .secondary 0 = false) := by
  decide +kernel

theorem witness_AHostWriteBuffersTheWordsOfItsBurst :
    (let s := up
     s.answers .primary 0 = true) ∧
    (let s := up
     s.answers .secondary 0 = false) ∧
    (((upDev fun d => { d with primary := { buf := [⟨0x8048, 1, 0, none⟩] } }).port .primary).buf = ⟨0x8048, 1, 0, none⟩ :: []) ∧
    (let s := up
     (s.port .primary).buf = [] ∧ (s.port .primary).txn = none) := by
  decide +kernel

theorem witness_TheStatusAndIdCommandsOnlyReport :
    (let s := up
     s.answers .primary 0 = true ∧ burstOf 0 = 0) ∧
    (let s := up
     s.answers .primary 0 = true ∧ burstOf 9 ≠ 0) ∧
    (let s := up
     s.answers .primary 0 = true ∧ burstOf 0 = 0 ∧ (s.txnBegin .primary (cmdByte 3 0)).busyPin = false ∧
       (s.txnBegin .primary (cmdByte 3 0)).levelDeny .primary (isObs 0) 0x40 none false = 0) ∧
    (let s := State.reset
     s.answers .primary 0 = true ∧ burstOf 0 = 0 ∧
       ((s.txnBegin .primary (cmdByte 3 0)).busyPin = true ∨
       (s.txnBegin .primary (cmdByte 3 0)).levelDeny .primary (isObs 0) 0x40 none false ≠ 0)) := by
  decide +kernel

theorem witness_ADiscardedTransactionRecordsItsReason :
    up.answers .primary 0 = true ∧
     (let s := State.reset.txnBegin .primary (cmdByte 0 0)
      s.busyPin = true ∧ s.txnRefusal .whole 0x3000 false = some (1, 0x01)) ∧
     (let s := up.txnBegin .primary (cmdByte 0 0)
      s.busyPin = false ∧ s.txnRefusal .inAddress 0x3000 false = some (4, 0x33) ∧
       s.txnRefusal .whole 0x3002 false = some (7, 0x61) ∧ s.txnRefusal .whole 0x3000 true = some (7, 0x62)) := by
  decide +kernel

theorem witness_ADeviceResetPutsTheWholeDeviceBack :
    BOOT.RESET_CAUSE_PIN ∈ [BOOT.RESET_CAUSE_POWER_ON, BOOT.RESET_CAUSE_BROWNOUT, BOOT.RESET_CAUSE_PIN,
      BOOT.RESET_CAUSE_SOFTWARE] := by
  decide +kernel

theorem witness_SuppliesAndResetsActAsTheTableSays :
    (let s := upDev fun d => { d with monitor := false, state := .off }
     s.dev.monitor = false ∧ s.dev.state = .off) ∧
    (let s := upDev fun d => { d with monitor := false, state := .run }
     s.dev.monitor = false ∧ s.dev.state ≠ .off) ∧
    (let s := upDev fun d => { d with state := .run }
     s.dev.state ≠ .off) ∧
    (let s := upDev fun d => { d with released := false }
     s.dev.released = false) ∧
    (let s := upDev fun d => { d with monitor := true }
     s.powered = true ∧ s.dev.monitor = true) ∧
    (let s := upDev fun d => { d with state := .reset, booted := false, monitor := true }
     s.dev.state = .reset ∧ s.dev.booted = false ∧ s.dev.monitor = true) ∧
    (up.writeOpen 0x3050 reqHost = true) ∧
    (0 ≠ 0xD1CE0001 ∧ up.writeOpen 0x3050 reqHost = true) ∧
    (let s := upDev fun d => { d with swresetArmed := true, blocking := none }
     s.dev.swresetArmed = true ∧ s.dev.blocking = none) := by
  decide +kernel

theorem witness_ClocksCarryThePartIntoBoot :
    (let s := upDev fun d => { d with refclk := true }
     s.dev.refclk = true ∧ s.powered = true) ∧
    (let s := upDev fun d => { d with refclk := false }
     s.dev.refclk = false ∧ s.powered = true) ∧
    (let s := upDev fun d => { d with state := .reset, booted := false, monitor := true, released := true, refclk := true }
     s.dev.state = .reset ∧ s.dev.booted = false ∧ s.dev.monitor = true ∧ s.dev.released = true ∧ s.dev.refclk = true ∧
       s.testMode = false) ∧
    (let s := (put [(CLK.STATUS_DEV_PLL_LOCK, 0)]).modDev fun d => { d with booted := true, refclk := true }
     s.dev.booted = true ∧ s.dev.refclk = true ∧ s.is 0 CLK.STATUS_DEV_PLL_LOCK = false) ∧
    (let s := upDev fun d => { d with state := .reset, booted := true }
     s.dev.state = .reset ∧ s.dev.booted = true) ∧
    (let s := (put [(CLK.STATUS_DEV_PLL_LOCK, 1)]).modDev fun d => { d with refclk := true }
     s.is 0 CLK.STATUS_DEV_PLL_LOCK = true ∧ s.dev.refclk = true) := by
  decide +kernel

/-- The part waiting for its image, at stage 2 of the boot ladder. -/
def waiting : State := (upDev fun d => { d with state := .boot }).set 0 BOOT.STATUS_STAGE 2

theorem witness_BlockingCommandsStartProgramOrAreRefused :
    ((puts waiting 0x3040 reqHost fun s => s.busyPin = false ∧ s.blockRefusal 1 = 0 ∧ s.blockRefusal 4 = 0) ∧
     (puts (put [(BOOT.STATUS_AUTHENTICATED, 1)]) 0x3040 reqHost fun s => s.busyPin = false ∧ s.blockRefusal 3 = 0) ∧
     (puts (upDev fun d => { d with state := .ready }) 0x3040 reqHost fun s => s.busyPin = false ∧ s.blockRefusal 2 = 0)) ∧
    (puts up 0x3040 reqHost (fun s => s.busyPin = false ∧ s.blockRefusal ((0 : Word).toNat % 16) ≠ 0)) ∧
    (let s := (put [(BOOT.STATUS_STAGE, 2)]).modDev fun d => { d with state := .boot }
     s.dev.state = .boot ∧ s.dget BOOT.STATUS_STAGE = 2) ∧
    (let s := upDev fun d => { d with state := .run }
     s.dev.state = .run) ∧
    (0 = 0 ∨ 4 < 0) ∧
    (8 ≤ 8 ∧ 8 < 64) ∧
    (0 < 8 ∨ 0 = 25 ∨ 0 = 26) ∧
    (let s := upDev fun d => { d with fuseValid := 1 <<< 40 ||| 0xFF }
     8 ≤ 40 ∧ 40 ≠ 24 ∧ 40 ≠ 25 ∧ 40 ≠ 26 ∧ s.otpValid 40 = true) ∧
    (let s := upDev fun d => { d with fuseValid := 1 <<< 40 ||| 0xFF, blocking := some ⟨4, 40, 1⟩ }
     ((⟨4, 40, 1⟩ : Blocking) : Blocking).code = 4 ∧ s.dev.blocking = some (⟨4, 40, 1⟩ : Blocking) ∧
       s.otpRefusal ((⟨4, 40, 1⟩ : Blocking) : Blocking).word ((⟨4, 40, 1⟩ : Blocking) : Blocking).data ≠ 0) := by
  decide +kernel

theorem witness_BlockingPeriodsEndWithTheirResult :
    (let s := upDev fun d => { d with blocking := some ⟨0xF, 0, 0⟩ }
     s.blockCode = 0xF ∧ s.powered = true) ∧
    (let s := (put [(BOOT.STATUS_AUTHENTICATED, 0)]).modDev fun d => { d with blocking := some ⟨1, 0, 0⟩ }
     s.blockCode = 1 ∧ s.is 0 BOOT.STATUS_AUTHENTICATED = false ∧ s.authHeader ≠ 0) ∧
    (let s := (upDev fun d => { d with state := .boot, blocking := some ⟨1, 0, 0⟩ }).set 0 BOOT.STATUS_AUTHENTICATED 1
     s.blockCode = 1 ∧ s.is 0 BOOT.STATUS_AUTHENTICATED = true ∧ s.dev.shut = false) ∧
    (let s := (put [(DTRIAL.RESULT_CH_RUN, 0xFF), (DTRIAL.RESULT_CH_PASS, 0xFF),
      (DTRIAL.RESULT_SLICES, 5)]).modDev fun d => { d with state := .boot, trialAllRunning := true }
     s.trialAll = true ∧ s.dget DTRIAL.RESULT_CH_RUN = 0xFF ∧ s.dev.trialSlices = [] ∧ s.dget DTRIAL.RESULT_CH_PASS = 0xFF ∧
       s.dget { DTRIAL.RESULT_SLICES with w := 4 } = 5 ∧ s.dev.state ≠ .holding) ∧
    ((upDev fun d => { d with blocking := some ⟨3, 0, 0⟩ }).dev.blocking = some ⟨3, 0, 0⟩) ∧
    (let s := upDev fun d => { d with blocking := some ⟨4, 40, 1⟩ }
     ((⟨4, 40, 1⟩ : Blocking) : Blocking).code = 4 ∧ s.dev.blocking = some (⟨4, 40, 1⟩ : Blocking) ∧
       s.otpRefusal ((⟨4, 40, 1⟩ : Blocking) : Blocking).word ((⟨4, 40, 1⟩ : Blocking) : Blocking).data = 0) ∧
    (let s := upDev fun d => { d with blocking := some ⟨4, 40, 1⟩ }
     s.dev.blocking.isSome = true ∧ s.powered = true) := by
  decide +kernel

/-- A part whose firmware serves, with a command of H2M0 taken: its opcode, channel field, argument words, and where it stands. -/
def served (op ch : Nat) (args : List Word) (phase : FwPhase := .taken) (held : Bool := false) : State :=
  (put [(MILLER.STATUS_CORE, 1), (MILLER.FW_STATE_STATE, 2), (BOOT.STATUS_AUTHENTICATED, 1), (BOOT.STATUS_MILLER_RUN, 1)]).modDev fun d =>
    { d with fw := [{ box := 0, words := BitVec.ofNat 32 (op * 2 ^ 24 + ch * 2 ^ 12 + args.length) :: args, phase, held }] }

theorem witness_TheMillerRestartsUnderItsLimit :
    (let s := (put [(MILLER.STATUS_CORE, 1)]).modDev fun d => { d with millerHold := false }
     s.dget MILLER.STATUS_CORE ≠ 0 ∧ s.dget MILLER.STATUS_CORE ≠ 3 ∧ s.dev.millerHold = false) ∧
    (puts (put [(BOOT.STATUS_AUTHENTICATED, 1),
      (BOOT.STATUS_MILLER_RUN, 1)]) 0x3058 reqHost (fun s => s.is 0 BOOT.STATUS_AUTHENTICATED = true ∧
      s.is 0 BOOT.STATUS_MILLER_RUN = true)) ∧
    (puts ((put [(BOOT.STATUS_AUTHENTICATED,
      0)]).modDev fun d => { d with state := .boot }) 0x3058 reqHost (fun s => s.dev.state = .boot ∧
      s.is 0 BOOT.STATUS_AUTHENTICATED = false)) ∧
    (let s := served 1 15 []
     (s.elapse 3).dget MILLER.STATUS_CORE = 1) ∧
    (let s := upDev fun d => { d with millerHold := true }
     s.dev.millerHold = true) ∧
    (let s := (put [(MILLER.STATUS_CORE, 1), (MILLER.FW_STATE_STATE, 1)]).modDev fun d => { d with fwFirst := false }
     s.dget MILLER.STATUS_CORE = 1 ∧ s.dget MILLER.FW_STATE_STATE = 1 ∧ (s.dev.fwFirst = false ∨ s.dev.blocking = none)) := by
  decide +kernel

theorem witness_AWrightRestartsUnderItsLimit :
    (let s := put [(MBXW.WRIGHT_STATUS_STATE, 2)]
     s.wrightState 0 = 2 ∧ (s.wright 0).holding = false ∧ (s.wright 0).inReset = false) ∧
    (let s := served 1 15 []
     (s.elapse 3).dget MILLER.STATUS_CORE ≠ 0 ∧ (s.elapse 3).dget MILLER.STATUS_CORE ≠ 3) ∧
    (let s := upCh fun c => { c with wright := { holding := true } }
     (s.wright 0).holding = true ∧ (s.wright 0).inReset = false) ∧
    (let s := put [(MBXW.WRIGHT_STATUS_STATE, 1), (MILLER.STATUS_CORE, 1)]
     s.wrightState 0 = 1 ∧ s.dget MILLER.STATUS_CORE = 1 ∧ (s.wright 0).inReset = false) ∧
    (let s := ((served 1 15 []).bset (.m2w 0 0) BOX.STATE_FULL 1).bset (.m2w 0 0) BOX.STATE_AGE 1000
     s.fwServes = true ∧ s.boxFull (.m2w 0 0) = true ∧ 1000 ≤ s.bget (.m2w 0 0) BOX.STATE_AGE) := by
  decide +kernel

theorem witness_AChannelResetReturnsTheChannelInStandby :
    (puts (put [(PWR.STATUS_STATE,
      1)]) 0x3054 reqHost (fun s => (s.plainWrite 0x3054 (BitVec.ofNat 32 (2 ^ 0))).resetIdle 0 = false ∧ s.chState 0 ≠ 0)) ∧
    (puts up 0x3054 reqHost (fun s => (s.plainWrite 0x3054 (BitVec.ofNat 32 (2 ^ (1 : Ch).val))).resetIdle 1 = true)) ∧
    (let s := put [(BOOT.CH_RESET_CH.bit 0, 1), (PWR.STATUS_STATE, 1)]
     s.is 0 (BOOT.CH_RESET_CH.bit 0) = true ∧ s.chState 0 ≠ 0) := by
  decide +kernel

theorem witness_AMailboxHasOneSenderOneReceiverAndAnAge :
    (puts up (boxAddr (.h2m 0) + 4 * 0) (boxSender (.h2m 0)) (fun s => s.boxFull (.h2m 0) = false)) ∧
    (let s := up.bset (.h2m 0) BOX.STATE_FULL 1
     s.writeOpen (boxAddr (.h2m 0) + 4 * 0) (boxSender (.h2m 0)) = true ∧ s.boxFull (.h2m 0) = true) ∧
    (reqMiller ≠ boxSender (.h2m 0) ∧ up.writeOpen (boxAddr (.h2m 0) + 4 * 0) reqMiller = true) ∧
    (puts up (boxAddr (.h2m 0) + 0x40) (boxSender (.h2m 0)) (fun s => s.boxFull (.h2m 0) = false)) ∧
    (let s := up.bset (.h2m 0) BOX.STATE_FULL 1
     s.writeOpen (boxAddr (.h2m 0) + 0x40) (boxSender (.h2m 0)) = true ∧ s.boxFull (.h2m 0) = true) ∧
    (reqMiller ≠ boxSender (.h2m 0) ∧ up.writeOpen (boxAddr (.h2m 0) + 0x40) reqMiller = true) ∧
    ((∀ k, Box.m2h 0 ≠ .h2m k) ∧ up.writeOpen (boxAddr (.m2h 0) + 0x40) (boxReceiver (.m2h 0)) = true ∧
      up.writeOpen (boxAddr (.w2m 0 1) + 0x40) (boxReceiver (.w2m 0 1)) = true) ∧
    (0 ≠ boxReceiver (.h2m 0) ∧ up.writeOpen (boxAddr (.h2m 0) + 0x40) 0 = true) ∧
    (let s := up.bset (.h2m 0) BOX.STATE_FULL 1
     s.boxFull (.h2m 0) = true) ∧
    (let s := up
     s.boxFull (.h2m 0) = false) ∧
    (puts up (MBX.HOST_EPOCH.addr 0) reqHost (fun s => s.word (MBX.HOST_EPOCH.addr 0) ≠ 1)) ∧
    (let s := up.bset (.m2h 0) BOX.STATE_FULL 1
     s.boxFull (.m2h 0) = true) ∧
    (let s := up
     s.boxFull (.m2h 0) = false) ∧
    (puts up (MBX.HOST_EPOCH.addr 0) reqHost (fun s => s.word (MBX.HOST_EPOCH.addr 0) = 0)) := by
  decide +kernel

/-- That command. -/
def cmdOf (s : State) : FwCmd := s.dev.fw.headD { box := 1, words := [] }

theorem witness_FirmwareTakesChecksAndAnswers :
    (let s := ((served 1 15 []).modDev fun d => { d with fw := [] }).bset (.h2m 0) BOX.STATE_FULL 1
     s.fwServes = true ∧ s.fwCmd 0 = none ∧ s.boxFull (.h2m 0) = true ∧ s.dev.badRegs = []) ∧
    (let s := (((served 1 15 []).modDev fun d => { d with fw := [] }).bset (.h2m 0) BOX.STATE_FULL 1).modDev fun d => { d with
      badRegs := [boxAddr (.h2m 0)] }
     s.fwServes = true ∧ s.fwCmd 0 = none ∧ s.boxFull (.h2m 0) = true ∧ boxAddr (.h2m 0) ∈ s.dev.badRegs) ∧
    (let s := served 0x10 0 [1] .taken true
     s.fwCmd 0 = some (cmdOf s) ∧ (cmdOf s).held = true ∧ s.fwServes = true ∧ fwBehind 0 [] s.dev.fw = false) ∧
    (let s := served 1 15 [] (.answered [0])
     s.fwCmd 0 = some (cmdOf s) ∧ (cmdOf s).phase = .answered [0] ∧ s.fwServes = true ∧ s.boxFull (.m2h 0) = false) ∧
    (fwTable (fwOp (cmdOf (served 3 15 []))) = none) ∧
    (fwOp (cmdOf (served 1 15 [])) = 0x01 ∧ fwChan (cmdOf (served 1 15 [])) = 15 ∧ fwAlen (cmdOf (served 1 15 [])) ≤ 15 ∧
      getBits (((cmdOf (served 1 15 [])) : FwCmd).words.headD 0) 6 6 = 0) := by
  decide +kernel

theorem witness_FirmwareCommandsDoTheirWork :
    (let s := served 1 15 [1, 2]
     s.fwTaken 0 0x01 = some (cmdOf s)) ∧
    (let s := served 2 15 []
     s.fwTaken 0 0x02 = some (cmdOf s)) ∧
    (let s := served 0x31 0 []
     s.fwTaken 0 0x31 = some (cmdOf s)) ∧
    (let s := served 0x40 0 [0x40001, 0xFFFFFFFF, 7]
     fwArg (cmdOf s) 2 = 0xFFFFFFFF ∧ s.fwTaken 0 0x40 = some (cmdOf s)) ∧
    (let s := served 0x10 0 [1]
     s.fwTaken 0 0x10 = some (cmdOf s)) ∧
    (let s := served 0x11 0 []
     s.fwTaken 0 0x11 = some (cmdOf s)) ∧
    (let s := (served 0x40 0 [0x80001, 64]).memPut (devMem 2) 8 5
     fwArg (cmdOf s) 2 ≠ 0xFFFFFFFF ∧ s.fwTaken 0 0x40 = some (cmdOf s) ∧
      (s.readWords (devMem 2) ((fwArg (cmdOf s) 2).toNat / 8) (((fwArg (cmdOf s) 1).toNat / 65536 + 7) / 8)).1 = some [5]) ∧
    (let s := served 0x40 0 [0x80001, 64]
     fwArg (cmdOf s) 2 ≠ 0xFFFFFFFF ∧ s.fwTaken 0 0x40 = some (cmdOf s) ∧
      (s.readWords (devMem 2) ((fwArg (cmdOf s) 2).toNat / 8) (((fwArg (cmdOf s) 1).toNat / 65536 + 7) / 8)).1 = none) ∧
    (let s := served 0x12 0 [3]
     s.fwTaken 0 0x12 = some (cmdOf s)) ∧
    (let s := served 0x20 0 [1]
     s.fwTaken 0 0x20 = some (cmdOf s)) ∧
    (let s := served 0x30 0 [3, 4]
     s.fwTaken 0 0x30 = some (cmdOf s)) ∧
    (let s := served 0x50 15 [0, 0, 64, 0]
     s.fwTaken 0 0x50 = some (cmdOf s)) ∧
    (let s := (served 0x51 0 [0, 0, 64]).set 0 (MEM.PIN_LEN_BYTES 0) 8
     s.fwTaken 0 0x51 = some (cmdOf s) ∧
       s.pinned (fwScope (cmdOf s)) (fwArg (cmdOf s) 2).toNat (fwArg (cmdOf s) 3).toNat = true) ∧
    (let s := served 0x51 0 [0, 0, 64]
     s.fwTaken 0 0x51 = some (cmdOf s) ∧
       s.pinned (fwScope (cmdOf s)) (fwArg (cmdOf s) 2).toNat (fwArg (cmdOf s) 3).toNat = false) ∧
    (let s := served 0x70 0 []
     s.fwTaken 0 0x70 = some (cmdOf s)) := by
  decide +kernel

theorem witness_FirmwareAnswersWhenTheWorkHasEnded :
    (let s := (served 0x10 0 [1] (.begun false)).modFw 0 fun c => { c with note := 2 }
     s.fwBegun 0 0x10 = some (cmdOf s) ∧ (cmdOf s).note ≠ 0) ∧
    (let s := served 0x10 0 [1] (.begun false)
     s.fwBegun 0 0x10 = some (cmdOf s) ∧ (cmdOf s).note = 0 ∧ s.chPhase (fwCh (cmdOf s)) = 0 ∧
       (s.chan (fwCh (cmdOf s))).pwr.latched = 0) ∧
    (let s := served 0x11 0 [] (.begun false)
     s.fwBegun 0 0x11 = some (cmdOf s)) ∧
    (let s := served 0x12 0 [3] (.begun false)
     s.fwBegun 0 0x12 = some (cmdOf s)) ∧
    (let s := served 0x20 0 [1] (.begun false)
     s.fwBegun 0 0x20 = some (cmdOf s) ∧ s.is (fwCh (cmdOf s)) DRESS.BUSY_LONG_OP = false ∧ s.passHeld (fwCh (cmdOf s)) = false) ∧
    (let s := served 0x30 0 [3, 4] (.begun false)
     s.fwBegun 0 0x30 = some (cmdOf s) ∧ s.inTrial (fwCh (cmdOf s)) = false) ∧
    (let s := served 0x50 15 [0, 0, 64, 0] (.begun false)
     s.fwBegun 0 0x50 = some (cmdOf s) ∧ (s.scrubSt (fwScope (cmdOf s))).active = false ∧
       ((scopeF (fwScope (cmdOf s)) MEM.SCRUB_CMD_GO).addr (scopeCh (fwScope (cmdOf s))), 0) ∉ s.dev.held) ∧
    (let s := served 0x51 0 [0, 0, 64] (.begun false)
     s.fwBegun 0 0x51 = some (cmdOf s) ∧ (s.marchSt (fwScope (cmdOf s))).active = false ∧
       ((scopeF (fwScope (cmdOf s)) MEM.MARCH_CMD_GO).addr (scopeCh (fwScope (cmdOf s))), 0) ∉ s.dev.held ∧
       s.xget (fwScope (cmdOf s)) MEM.MARCH_RESULT_RESULT ≠ 6 ∧ s.xget (fwScope (cmdOf s)) MEM.MARCH_RESULT_RESULT ≠ 4) ∧
    (let s := (served 0x51 0 [0, 0, 64] (.begun false)).set 0 MEM.MARCH_RESULT_RESULT 6
     s.fwBegun 0 0x51 = some (cmdOf s) ∧ (s.marchSt (fwScope (cmdOf s))).active = false ∧
       ((scopeF (fwScope (cmdOf s)) MEM.MARCH_CMD_GO).addr (scopeCh (fwScope (cmdOf s))), 0) ∉ s.dev.held ∧
       (s.xget (fwScope (cmdOf s)) MEM.MARCH_RESULT_RESULT = 6 ∨ s.xget (fwScope (cmdOf s)) MEM.MARCH_RESULT_RESULT = 4)) ∧
    (let s := (served 0x70 0 [] (.begun false)).set 0 MBXW.WRIGHT_STATUS_STATE 2
     s.fwBegun 0 0x70 = some (cmdOf s) ∧ s.wrightState (fwCh (cmdOf s)) = 2) := by
  decide +kernel

theorem witness_AModeGoIsRefusedOrRunsItsSequence :
    (asks up TOP.MODE_APPLY_GO (fun s => s.modeRefusal 0 ≠ 0)) ∧
    (asks (put [(PWR.STATUS_STATE, 1), (TOP.MODE_CFG_MODE, 2)]) TOP.MODE_APPLY_GO (fun s => s.modeRefusal 0 = 0)) ∧
    (let s := (put [(TOP.BUSY_LONG_OP, 1)]).modDev fun d => { d with refclk := true }
     s.is 0 TOP.BUSY_LONG_OP = true ∧ s.inTrial 0 = false ∧ s.dev.refclk = true) ∧
    (let s := put [(TOP.BUSY_LONG_OP, 0)]
     s.is 0 TOP.BUSY_LONG_OP = false) := by
  decide +kernel

theorem witness_ChannelClocksFollowTheirLocks :
    (let s := put [(TOP.BUSY_LONG_OP, 1)]
     s.is 0 TOP.BUSY_LONG_OP = true ∧ s.inTrial 0 = false) ∧
    (let s := (put [(TOP.CLK_STATUS_CH_PLL_LOCK, 1)]).modDev fun d => { d with refclk := true }
     s.is 0 TOP.CLK_STATUS_CH_PLL_LOCK = true ∧ s.dev.refclk = true) ∧
    (let s := ((put [(TOP.STATUS_MODE_ACTIVE, 1),
      (PWR.STATUS_STATE, 1)]).modDev fun d => { d with refclk := true }).modCh 0 fun c => { c with pwr := { relock := true } }
     (s.chan 0).pwr.relock = true ∧ s.modeActive 0 = true ∧ (s.chState 0 = 1 ∨ s.chState 0 = 4) ∧ s.dev.refclk = true) ∧
    (let s := put [(TOP.STATUS_HOLDOVER, 1), (TOP.STATUS_ACTIVE_HOST_OPT, 0), (HL.STATUS_STATE 0, 4),
      (TOP.CLK_STATUS_CH_PLL_LOCK, 1)]
     s.is 0 TOP.STATUS_HOLDOVER = true ∧ s.hostLaneOk 0 0 = true ∧
       (s.is 0 TOP.STATUS_ACTIVE_HOST_OPT = false ∨ s.hostLaneOk 0 1 = true)) ∧
    (let s := put [(TOP.CTRL_EN, 1)]
     (7 < 1 ∨ 6 < 7) ∧ s.crossingOn 0 2 = true) ∧
    (1 ≤ 1 ∧ 1 ≤ 6) ∧
    (let s := put [(TOP.CLK_STATUS_CH_PLL_LOCK, 1)]
     s.is 0 TOP.CLK_STATUS_CH_PLL_LOCK = true) := by
  decide +kernel

theorem witness_ALaneMovesFromSignalToData :
    (let s := put [(HL.STATUS_STATE 0, 1), (HL.STATUS_SIG_DET 0, 0)]
     s.laneState 0 0 = 1 ∧ s.is 0 (HL.STATUS_SIG_DET 0) = false) ∧
    (let s := put [(HL.STATUS_SIG_DET 0, 0), (HL.STATUS_STATE 0, 2)]
     1 < s.laneState 0 0 ∧ s.is 0 (HL.STATUS_SIG_DET 0) = false) ∧
    (let s := put [(HL.STATUS_STATE 0, 2)]
     s.laneState 0 0 = 2 ∨ s.laneState 0 0 = 3) ∧
    (let s := put [(HL.STATUS_STATE 0, 4)]
     s.laneState 0 0 = 4) ∧
    (let s := put [(HL.STATUS_STATE 0, 1)]
     s.laneState 0 0 ≠ 0) ∧
    (let s := (put [(HL.STATUS_STATE 0, 2)]).modLane 0 0 fun x => { x with trainEn := true }
     (-4800 ≤ 4800 ∧ 4800 ≤ 4800 ∧ s.laneState 0 0 = 2 ∧ (s.lane 0 0).trainEn = true)) ∧
    (let s := put [(HL.STATUS_STATE 0, 2)]
     (-4800 ≤ (-4800) ∧ (-4800) ≤ 4800 ∧ s.laneState 0 0 = 2 ∧ (s.lane 0 0).trainEn = false)) ∧
    (6401 < -4800 ∨ 4800 < 6401) ∧
    (-6400 ≤ 6400 ∧ 6400 ≤ 6400) ∧
    (6401 < -6400 ∨ 6400 < 6401) ∧
    (let s := put [(HL.STATUS_STATE 0, 3), (HL.STATUS_FRAME_LOCK 0, 0), (HL.CFG_RX_POL_AUTO 0, 1)]
     s.laneState 0 0 = 3 ∧ s.is 0 (HL.STATUS_FRAME_LOCK 0) = false ∧
       (true = s.is 0 (HL.CFG_RX_POL 0) ∨ s.is 0 (HL.CFG_RX_POL_AUTO 0) = true)) ∧
    (let s := put [(HL.STATUS_STATE 0, 3), (HL.STATUS_FRAME_LOCK 0, 0), (HL.CFG_RX_POL_AUTO 0, 0)]
     s.laneState 0 0 = 3 ∧ s.is 0 (HL.STATUS_FRAME_LOCK 0) = false ∧ true ≠ s.is 0 (HL.CFG_RX_POL 0) ∧
       s.is 0 (HL.CFG_RX_POL_AUTO 0) = false) ∧
    (let s := up.modLane 0 0 fun x => { x with extDecided := true }
     (s.lane 0 0).extDecided = true) ∧
    (let s := up
     (s.lane 0 0).extDecided = false) ∧
    (let s := put [(HL.STATUS_STATE 0, 3), (HL.STATUS_LOCAL_READY 0, 1)]
     s.laneState 0 0 = 3 ∧ s.is 0 (HL.STATUS_LOCAL_READY 0) = true) := by
  decide +kernel

theorem witness_ALaneRetriesAndAdaptsByItsMeasurements :
    (let s := put [(HL.STATUS_STATE 0, 4)]
     LockCause.cdr ≠ .signal ∧ s.laneState 0 0 = 4) ∧
    (let s := put [(HL.STATUS_STATE 0, 0)]
     s.laneState 0 0 ≠ 4) ∧
    (asks (put [(HL.STATUS_STATE 0, 4)]) (HL.CMD_RETRAIN 0) (fun s => s.laneState 0 0 = 4 ∨ s.laneState 0 0 = 5)) ∧
    (asks (put [(HL.STATUS_STATE 0, 0)]) (HL.CMD_RETRAIN 0) (fun s => s.laneState 0 0 = 0 ∨ s.laneState 0 0 = 6)) ∧
    (let s := (put [(HL.STATUS_STATE 0, 3)]).modLane 0 0 fun x => { x with trainEn := true }
     1 ≤ s.laneState 0 0 ∧ s.laneState 0 0 ≤ 3 ∧ (s.lane 0 0).trainEn = true) ∧
    (let s := put [(HL.STATUS_STATE 0, 0)]
     s.laneState 0 0 = 0 ∨ 4 ≤ s.laneState 0 0) ∧
    (let s := put [(HL.STATUS_STATE 0, 5), (HL.CFG_AUTO_RETRAIN 0, 1)]
     s.laneState 0 0 = 5 ∧ s.is 0 (HL.CFG_AUTO_RETRAIN 0) = true) ∧
    (let s := put [(HL.STATUS_STATE 0, 3), ((HL.FLT_LANE_FSM_PAR 0).enOf, 0)]
     (s.raiseFsm 0 (HL.FLT_LANE_FSM_PAR 0) 0).laneState 0 0 ≠ 0) ∧
    (let s := (put [(HL.STATUS_STATE 0, 3), (HL.STATUS_FRAME_LOCK 0, 1)]).modLane 0 0 fun x => { x with step := .sweep 2 11 }
     s.laneState 0 0 = 3 ∧ s.is 0 (HL.STATUS_FRAME_LOCK 0) = true) ∧
    (let s := (put [(HL.STATUS_STATE 0, 3)]).modLane 0 0 fun x => { x with step := .tap 0 true false, waiting := true }
     s.laneState 0 0 = 3 ∧ (s.lane 0 0).step = .tap 0 true false ∧ (s.lane 0 0).waiting = true) ∧
    (let s := put [(HL.STATUS_STATE 0, 4), (HL.STATUS_GUARD_HOLD 0, 0), (HL.FFE_CFG_ADAPT_EN 0, 0)]
     ([0, 0, 0, 1048576] : List Nat).all occOk = false ∧ s.laneState 0 0 = 4 ∧ s.is 0 (HL.STATUS_GUARD_HOLD 0) = false ∧
       s.is 0 (HL.FFE_CFG_ADAPT_EN 0) = false) ∧
    (let s := put [(HL.STATUS_STATE 0, 4), (HL.STATUS_GUARD_HOLD 0, 1)]
     ([262144, 262144, 262144, 262144] : List Nat).all occOk = true ∧ s.laneState 0 0 = 4 ∧
       s.is 0 (HL.STATUS_GUARD_HOLD 0) = true) ∧
    (let s := put [(HL.STATUS_STATE 0, 4), (HL.STATUS_GUARD_HOLD 0, 0), (HL.FFE_CFG_ADAPT_EN 0, 1), (HL.STATUS_SIG_DET 0, 1)]
     ([262144, 262144, 262144, 262144] : List Nat).all occOk = true ∧ s.laneState 0 0 = 4 ∧
       s.is 0 (HL.STATUS_GUARD_HOLD 0) = false ∧ s.is 0 (HL.FFE_CFG_ADAPT_EN 0) = true ∧ s.is 0 (HL.STATUS_SIG_DET 0) = true) := by
  decide +kernel

theorem witness_ATrainingRequestObeysTheRanges :
    (let s := put [(HL.STATUS_STATE 0, 3), (HL.STATUS_FRAME_LOCK 0, 1)]
     s.laneState 0 0 = 3 ∧ s.is 0 (HL.STATUS_FRAME_LOCK 0) = true) ∧
    (let s := put [(HL.STATUS_STATE 0, 3), (HL.STATUS_FRAME_LOCK 0, 1)]
     s.laneState 0 0 = 3 ∧ s.is 0 (HL.STATUS_FRAME_LOCK 0) = true ∧ (s.lane 0 0).last = none) ∧
    (let s := (put [(HL.STATUS_STATE 0, 3),
      (HL.STATUS_FRAME_LOCK 0, 1)]).modLane 0 0 fun x => { x with last := some (TrainReq.step (.std 3) true) }
     (TrainReq.step (.std 3) true) ≠ .hold ∧ s.laneState 0 0 = 3 ∧ s.is 0 (HL.STATUS_FRAME_LOCK 0) = true ∧
       (s.lane 0 0).last = some (TrainReq.step (.std 3) true)) ∧
    (let s := (put [(HL.STATUS_STATE 0, 3),
      (HL.STATUS_FRAME_LOCK 0, 1)]).modLane 0 0 fun x => { x with last := some (.preset 1) }
     (TrainReq.step (.std 3) true) ≠ .hold ∧ (TrainReq.step (.std 3) true) ≠ (TrainReq.preset 1) ∧ s.laneState 0 0 = 3 ∧
       s.is 0 (HL.STATUS_FRAME_LOCK 0) = true ∧ (s.lane 0 0).last = some (TrainReq.preset 1)) ∧
    (puts (put [(HL.STATUS_STATE 1,
      1)]) ((if True then HL.TX_FIR1 1 else HL.TX_FIR0 1).addr 0) reqHost (fun s => (s.lane 0 1).trainEn = false ∧
      s.laneState 0 1 ≠ 0)) := by
  decide +kernel

theorem witness_AHunterLocksOnTwoMarkersAndLosesOnFiveMisses :
    ((({ state := 1, start := 128 } : Hunter) : Hunter).state = 1 ∧
      ((mk 130 1).offset + 480 - (({ state := 1, start := 128 } : Hunter) : Hunter).start) % 480 < 128) ∧
    ((({ state := 4, pos := 130 } : Hunter) : Hunter).state = 4 ∧ (({ state := 4, pos := 130 } : Hunter) : Hunter).bad = 0 ∧
      ((List.replicate 4 (mk 0 0)) : List Marker).length ≤ 4) ∧
    ((({ state := 4, pos := 130 } : Hunter) : Hunter).state = 4 ∧ (({ state := 4, pos := 130 } : Hunter) : Hunter).bad = 0 ∧
      ((List.replicate 5 (mk 0 0)) : List Marker).length = 5) ∧
    ((({ state := 4, pos := 130 } : Hunter) : Hunter).state = 4 ∧
      (mk 130 1).offset = (({ state := 4, pos := 130 } : Hunter) : Hunter).pos) ∧
    ((({ state := 4, pos := 130 } : Hunter) : Hunter).state = 4 ∧ (({ state := 4, pos := 130 } : Hunter) : Hunter).bad < 4) := by
  decide +kernel

/-- A channel whose line hunter stands in `state`, its outer decoder on. -/
def lined (state : Nat) : State :=
  (put [(HFEC.CTRL_EN, 1), (FLT.STATUS_SAFE, 1)]).modHfec 0 fun x => { x with line := { state, pos := 5, bad := 2, lanes := 0 } }

theorem witness_ACodewordCountsOnlyInLock :
    (rsDecode 15 0 0 = some (15, 0)) ∧
    (let s := put [(HFEC.CTRL_EN, 0)]
     s.sideLocked 0 0 = false ∨ s.is 0 TOP.STATUS_ACTIVE_OUTER = false ∧ s.is 0 HFEC.CTRL_EN = false) ∧
    (let s := lined 4
     s.sideLocked 0 1 = true ∧ (s.is 0 TOP.STATUS_ACTIVE_OUTER = true ∨ s.is 0 HFEC.CTRL_EN = true) ∧
       (s.is 0 TOP.STATUS_ACTIVE_OUTER = false ∨ 1 = 0 ∨ s.is 0 HFEC.CFG_ERASURE_EN = false)) := by
  decide +kernel

theorem witness_TheHfecBlockActsOnWindowsSlipsAndMarkers :
    (let s := (lined 4).modHfec 0 fun y => { y with cwLine := 2 ^ 24 }
     s.sideLocked 0 1 = true ∧ s.serWindow 0 ≤ (if 1 = 0 then (s.chan 0).hfec.cwHost else (s.chan 0).hfec.cwLine)) ∧
    (let s := up
     s.sideLocked 0 0 = false ∨ (if 0 = 0 then (s.chan 0).hfec.cwHost else (s.chan 0).hfec.cwLine) < s.serWindow 0) ∧
    (up.wsOpen 0 HFEC.CMD_CLR_CNT = true) ∧
    (let s := up.modHfec 0 fun x => { x with slip := some (1, 10, true) }
     (s.chan 0).hfec.slip = some (1, 10, true)) ∧
    (let s := up.modHfec 0 fun x => { x with slip := some (1, 10, false) }
     (s.chan 0).hfec.slip = some (1, 10, false)) ∧
    (let s := up
     (s.chan 0).hfec.slip = none) ∧
    (let s := put [(HFEC.CFG_MANUAL_HOST, 1)]
     (s.chan 0).hfec.manHost ≠ s.is 0 HFEC.CFG_MANUAL_HOST ∧ (s.chan 0).hfec.manLine = s.is 0 HFEC.CFG_MANUAL_LINE) ∧
    (let s := put [(HFEC.CFG_MANUAL_LINE, 1)]
     (s.chan 0).hfec.manHost = s.is 0 HFEC.CFG_MANUAL_HOST ∧ (s.chan 0).hfec.manLine ≠ s.is 0 HFEC.CFG_MANUAL_LINE) ∧
    (let s := up
     ((s.chan 0).hfec.hunter 0).state = 0) ∧
    (let s := lined 3
     (s.chan 0).hfec.line.state ≠ 0 ∧ (s.chan 0).hfec.line.state ≠ 4) ∧
    (let s := up.modHfec 0 fun x => { x with h0 := { state := 3, pos := 5 } }
     (s.chan 0).hfec.h0.state ≠ 0 ∧ (s.chan 0).hfec.h0.state ≠ 4 ∧ s.optP 0 = false) ∧
    (let s := lined 4
     (s.chan 0).hfec.line.state = 4 ∧ (mk 5 1).offset = (s.chan 0).hfec.line.pos ∧ s.markerGood 0 2 (mk 5 1) = true) := by
  decide +kernel

theorem witness_TheTransmitterRampsAndTakesOnlyWhatFits :
    (let s := put [(LTX.STATUS_STATE, 1)]
     s.ltxState 0 = 1) ∧
    (let s := put [(LTX.STATUS_STATE, 2)]
     s.ltxState 0 = 2) ∧
    (let s := put [(LTX.STATUS_STATE, 4)]
     s.ltxState 0 = 4) ∧
    (let s := put [(LTX.STATUS_STATE, 5)]
     s.ltxState 0 = 5) ∧
    (([1, 2, 4, 5].all fun k => up.ltxState 0 != k) = true) ∧
    (let s := put [(PWR.STATUS_STATE, 1)]
     s.chState 0 ≠ 0) ∧
    (let s := put [(PWR.STATUS_STATE, 0)]
     s.chState 0 = 0) ∧
    (let s := put [(LTX.STATUS_STATE, 3)]
     true ≠ s.txdisLevel 0) ∧
    (let s := up
     true = s.txdisLevel 0) ∧
    (let s := put [(LTX.STATUS_STATE, 3), (LTX.FLT_LTX_FSM_PAR.enOf, 0)]
     (s.raiseFsm 0 LTX.FLT_LTX_FSM_PAR).ltxState 0 ≠ 0) ∧
    (asks up LTX.FIR_APPLY_GO (fun s => s.firStageSum 0 ≤ 256 ∧ s.get 0 LTX.FIR_CFG_MAIN ≤ 8)) ∧
    (asks (put [(LTX.FIR_CFG_MAIN, 9)]) LTX.FIR_APPLY_GO (fun s => 256 < s.firStageSum 0 ∨ 8 < s.get 0 LTX.FIR_CFG_MAIN)) ∧
    (0 < 9) ∧
    (asks up LTX.NL_LOAD_GO (fun s => s.armed 0 LTX.STATUS 0 = false ∨ s.get 0 LTX.INJECT_TARGET ≠ 1)) ∧
    (asks (((put [(LTX.INJECT_TARGET,
      1)]).setWord (LTX.INJECT_TARGET.addr 0) 0x101)) LTX.NL_LOAD_GO (fun s => s.armed 0 LTX.STATUS 0 = true ∧
      s.get 0 LTX.INJECT_TARGET = 1)) ∧
    (let s := put [(LTX.BUSY_LONG_OP, 1)]
     s.is 0 LTX.BUSY_LONG_OP = true) ∧
    (let s := put [(LTX.BUSY_LONG_OP, 0)]
     s.is 0 LTX.BUSY_LONG_OP = false) ∧
    (let s := up
     (s.chan 0).ltx.badNow = false ∨ 0 ≠ 0 ∨ 0 ≠ 0) := by
  refine ⟨?_, ?_, ?_, ?_, ?_, ?_, ?_, ?_, ?_, ?_, ?_, ?_, ?_, ?_, ?_, ?_, ?_, ?_⟩ <;> decide +kernel

theorem witness_TheGainIsAcquiredFrozenAndMovedByCommandOnly :
    (let s := put [(LRX.STATUS_GAIN_STATE, 1)]
     s.gainState 0 ≠ 0 ∧ 10 * max 2 (s.get 0 LRX.SD_CFG_SD_ON) < 2551) ∧
    (let s := put [(LRX.STATUS_GAIN_STATE, 1)]
     s.gainState 0 ≠ 0 ∧ 9 < 5 * max 2 (s.get 0 LRX.SD_CFG_SD_ON) ∧ max 1 (s.get 0 LRX.SD_CFG_LOS_HOLD) ≤ 255) ∧
    (let s := put [(LRX.STATUS_GAIN_STATE, 2)]
     s.gainState 0 = 2 ∧ s.gainHeld 0 = false) ∧
    (asks (put [(LRX.STATUS_GAIN_STATE, 3)]) LRX.CMD_GAIN_REACQ (fun s => s.gainState 0 = 3 ∧ s.gainHeld 0 = false)) ∧
    (asks (put [(LRX.STATUS_GAIN_STATE, 0)]) LRX.CMD_GAIN_REACQ (fun s => s.gainState 0 ≠ 3)) ∧
    (let s := put [(LRX.STATUS_GAIN_STATE, 4)]
     s.gainState 0 = 4 ∧ s.gainHeld 0 = false) ∧
    (let s := put [(LRX.STATUS_GAIN_STATE, 1)]
     s.gainState 0 ≠ 0 ∧ s.gainState 0 ≠ 3) ∧
    (let s := put [(LRX.STATUS_GAIN_STATE, 3)]
     s.gainState 0 = 3) ∧
    (puts (put [(LRX.STATUS_GAIN_STATE, 0)]) (LRX.GAIN_CFG.addr 0) reqHost (fun s => s.gainState 0 = 0 ∨ s.gainHeld 0 = true)) ∧
    ((1 : Word).toNat % 4 = 1 ∧ up.writeOpen (LRX.GAIN_CFG.addr 0) reqHost = true) ∧
    (let s := put [(LRX.STATUS_GAIN_STATE, 1)]
     s.gainState 0 ≠ 0) := by
  decide +kernel

theorem witness_TheBanksAreJudgedAndSwapped :
    (let s := put [(LRX.STATUS_BANK_MODE, 1)]
     s.get 0 LRX.STATUS_BANK_MODE = 1 ∧ s.lrxRun 0 = true) ∧
    (let s := put [(LRX.STATUS_SHADOW_PWR, 1), (LRX.STATUS_SWAP_STATE, 5)]
     s.is 0 LRX.STATUS_SHADOW_PWR = true ∧ s.swapState 0 = 5) ∧
    (let s := put [(LRX.STATUS_SHADOW_PWR, 1), (LRX.STATUS_SWAP_STATE, 1)]
     s.is 0 LRX.STATUS_SHADOW_PWR = true ∧ s.swapState 0 ≠ 5 ∧
       (s.swapState 0 = 1 ∨ s.swapState 0 = 4 ∨ (s.chan 0).lrx.skip = true)) ∧
    (let s := put [(LRX.STATUS_SHADOW_PWR, 1), (LRX.STATUS_SWAP_STATE, 0)]
     s.is 0 LRX.STATUS_SHADOW_PWR = true ∧ (s.chan 0).lrx.skip = false ∧
       (s.swapState 0 = 0 ∨ s.swapState 0 = 2 ∨ s.swapState 0 = 3)) ∧
    (asks (put [(LRX.STATUS_BANK_MODE, 0)]) LRX.CMD_PLAUS_TEST (fun s => s.get 0 LRX.STATUS_BANK_MODE ≠ 2 ∨
      s.is 0 LRX.BANK_CFG_SHADOW_EN = false ∨ s.swapState 0 ≠ 0 ∨ s.is 0 LRX.STATUS_SHADOW_PWR = false)) ∧
    (asks (put [(LRX.STATUS_BANK_MODE, 2), (LRX.BANK_CFG_SHADOW_EN, 1), (LRX.STATUS_SWAP_STATE, 0),
      (LRX.STATUS_SHADOW_PWR, 1)]) LRX.CMD_PLAUS_TEST (fun s => s.get 0 LRX.STATUS_BANK_MODE = 2 ∧
      s.is 0 LRX.BANK_CFG_SHADOW_EN = true ∧ s.swapState 0 = 0 ∧ s.is 0 LRX.STATUS_SHADOW_PWR = true)) ∧
    (let s := up.modLrx 0 fun x => { x with testing := true }
     (s.chan 0).lrx.testing = true ∧ (s.chan 0).lrx.testLeft = 0) ∧
    (asks (put [(LRX.STATUS_BANK_MODE, 0)]) LRX.CMD_SWAP (fun s => s.get 0 LRX.STATUS_BANK_MODE ≠ 2)) ∧
    (asks (put [(LRX.STATUS_BANK_MODE, 2),
      (LRX.BANK_CFG_SHADOW_EN, 0)]) LRX.CMD_SWAP (fun s => s.get 0 LRX.STATUS_BANK_MODE = 2 ∧
      s.is 0 LRX.BANK_CFG_SHADOW_EN = false)) ∧
    (asks (put [(LRX.STATUS_BANK_MODE, 2), (LRX.BANK_CFG_SHADOW_EN, 1),
      (LRX.STATUS_SWAP_STATE, 0)]) LRX.CMD_SWAP (fun s => s.get 0 LRX.STATUS_BANK_MODE = 2 ∧
      s.is 0 LRX.BANK_CFG_SHADOW_EN = true ∧ s.swapState 0 ≠ 1)) ∧
    (let s := put [(LRX.STATUS_SWAP_STATE, 3)]
     s.swapState 0 = 3) ∧
    (let s := put [(LRX.STATUS_SWAP_STATE, 4)]
     s.swapState 0 = 4) ∧
    (let s := up
     s.writeOpen (LRX.BANK_CFG.addr 0) reqHost = true) ∧
    (up.wsOpen 0 LRX.CMD_CLR_STATS = true) := by
  decide +kernel

theorem witness_ACaptureRunsFromArmToItsRecord :
    (asks (put [(PWR.STATUS_STATE, 4)]) LRX.CAP_CTRL_ARM (fun s => s.capturing 0 = false ∧ s.chState 0 ≠ 2)) ∧
    (asks (put [(LRX.CAP_STATUS_STATE, 1)]) LRX.CAP_CTRL_ARM (fun s => s.capturing 0 = true ∨ s.chState 0 = 2)) ∧
    (let s := put [(LRX.CAP_STATUS_STATE, 1)]
     s.capState 0 = 1) ∧
    (let s := put [(LRX.CAP_STATUS_STATE, 0)]
     s.capState 0 ≠ 1) ∧
    (let s := (put [(LRX.CAP_STATUS_STATE, 1)]).modLrx 0 fun x => { x with trig := true }
     (s.capState 0 = 1 ∨ s.capState 0 = 2) ∧ (s.chan 0).lrx.trig = true) ∧
    (let s := put [(LRX.CAP_STATUS_STATE, 3)]
     s.capState 0 = 3 ∧ (s.chan 0).lrx.dropped = false) ∧
    (let s := (put [(LRX.CAP_STATUS_STATE, 0)]).modLrx 0 fun x => { x with due := true }
     s.capState 0 ≠ 3 ∧ (s.chan 0).lrx.due = true ∧ (s.chan 0).lrx.dropped = false) ∧
    (asks (put [(LRX.CAP_STATUS_STATE, 1)]) LRX.CAP_CTRL_ABORT (fun s => s.capturing 0 = true)) ∧
    (asks up LRX.CAP_CTRL_ABORT (fun s => s.capturing 0 = false)) := by
  decide +kernel

theorem witness_TheTimingLoopLocksLosesAndDelays :
    (let s := put [(TIM.STATUS_LOOP_STATE, 0)]
     s.loopState 0 = 0 ∨ s.loopState 0 = 4) ∧
    (let s := put [(TIM.STATUS_LOOP_STATE, 1)]
     s.loopState 0 = 1) ∧
    (let s := put [(TIM.STATUS_LOOP_STATE, 2)]
     s.loopState 0 = 2 ∨ s.loopState 0 = 3) ∧
    (let s := put [(TIM.STATUS_LOOP_STATE, 1)]
     s.loopState 0 ≠ 0 ∧ s.loopState 0 ≠ 4) ∧
    (let s := put [(TIM.STATUS_LOOP_STATE, 1)]
     s.loopState 0 ≠ 0) ∧
    (let s := (put [(TIM.STATUS_LOOP_STATE, 1), (EQ.STATUS_NOTICE_ACTIVE, 0),
      (EQ.STATUS_GUARD_HOLD, 0)]).modTim 0 fun x => { x with acqSeen := true }
     s.loopState 0 ≠ 0 ∧ (s.chan 0).tim.acqSeen = true ∧ s.is 0 EQ.STATUS_NOTICE_ACTIVE = false ∧
       s.is 0 EQ.STATUS_GUARD_HOLD = false) ∧
    (let s := put [(TIM.STATUS_LOOP_STATE, 0)]
     s.loopState 0 = 0 ∨ (s.chan 0).tim.acqSeen = false ∨ s.is 0 EQ.STATUS_NOTICE_ACTIVE = true ∨
       s.is 0 EQ.STATUS_GUARD_HOLD = true) ∧
    (let s := put [(TOP.STATUS_MODE_ACTIVE, 1), (TIM.FLT_TIM_FSM_PAR, 0), (TIM.DESKEW_COARSE, 1)]
     s.modeActive 0 = true ∧ s.is 0 TIM.FLT_TIM_FSM_PAR = false ∧ s.get 0 TIM.DESKEW_COARSE ≠ s.get 0 TIM.DESKEW_ACTIVE_COARSE) ∧
    (let s := put [(TOP.STATUS_MODE_ACTIVE, 1), (TIM.FLT_TIM_FSM_PAR, 0), (TIM.DESKEW_FINE, 1)]
     s.modeActive 0 = true ∧ s.is 0 TIM.FLT_TIM_FSM_PAR = false ∧ s.get 0 TIM.DESKEW_FINE ≠ s.get 0 TIM.DESKEW_ACTIVE_FINE) ∧
    (up.wsOpen 0 TIM.CMD_PF_APPLY = true) ∧
    (0 < 8) ∧
    (asks (put [(TIM.STATUS_LOOP_STATE, 2)]) TIM.CMD_REACQ (fun s => s.loopState 0 = 2 ∨ s.loopState 0 = 3)) ∧
    (asks (put [(TIM.STATUS_LOOP_STATE, 0)]) TIM.CMD_REACQ (fun s => s.loopState 0 = 0 ∨ s.loopState 0 = 1 ∨ s.loopState 0 = 4)) ∧
    (up.wsOpen 0 TIM.CMD_CLR_STATS = true) := by
  decide +kernel

/-- A window of the equaliser whose four level variances are `v`. -/
def eqWin (v : Nat) : EqWindow := ⟨[262144, 262144, 262144, 262144], 786432, [v, v, v, v], [-48, -16, 16, 48], 0⟩

theorem witness_TheEqualiserAdaptsUnderItsGuard :
    (let s := put [(EQ.STATUS_ADAPT_FROZEN, 1)]
     s.is 0 EQ.STATUS_ADAPT_FROZEN = true) ∧
    (let s := put [(EQ.STATUS_ADAPT_FROZEN, 0)]
     s.is 0 EQ.STATUS_ADAPT_FROZEN = false) ∧
    (0 ≤ 0) ∧
    (let s := upCh fun c => { c with notices := [2] }
     (s.chan 0).notices = 2 :: []) ∧
    (let s := upCh fun c => { c with eq := { frozen := 1 } }
     (s.chan 0).eq.frozen ≠ 0) ∧
    (let s := put [(EQ.STATUS_EQ_STATE, 2)]
     s.eqState 0 = 2) ∧
    (let s := put [(EQ.STATUS_EQ_STATE, 3)]
     s.eqState 0 = 3 ∧ s.get 0 EQ.SNR_CFG_FLOOR ≤ overallSnr (eqWin 1000000)) ∧
    (let s := put [(EQ.STATUS_EQ_STATE, 3), (EQ.STATUS_GUARD_HOLD, 1), (EQ.SNR_CFG_FLOOR, 200)]
     s.eqState 0 = 3 ∧ overallSnr (eqWin 4294967296) < s.get 0 EQ.SNR_CFG_FLOOR ∧
       (s.is 0 EQ.STATUS_GUARD_HOLD = true ∨ (s.chan 0).eq.lowRun < 3)) ∧
    (let s := (put [(EQ.STATUS_EQ_STATE, 3), (EQ.STATUS_GUARD_HOLD, 0),
      (EQ.SNR_CFG_FLOOR, 200)]).modEq 0 fun x => { x with lowRun := 3 }
     s.eqState 0 = 3 ∧ overallSnr (eqWin 4294967296) < s.get 0 EQ.SNR_CFG_FLOOR ∧ s.is 0 EQ.STATUS_GUARD_HOLD = false ∧
       3 ≤ (s.chan 0).eq.lowRun) ∧
    (let s := put [(EQ.STATUS_GUARD_HOLD, 1)]
     s.is 0 EQ.STATUS_GUARD_HOLD = true ∧ (s.chan 0).eq.longSeen = false) ∧
    (asks (put [(EQ.STATUS_EQ_STATE, 1)]) EQ.CMD_RESTART (fun s => s.eqState 0 ≠ 0)) ∧
    (asks (put [(EQ.STATUS_EQ_STATE, 0)]) EQ.CMD_RESTART (fun s => s.eqState 0 = 0)) ∧
    (asks (put [(EQ.STATUS_EQ_STATE, 3), (EQ.BUSY_LONG_OP, 0)]) EQ.EYE_CTRL_START (fun s => s.eqState 0 = 3 ∧
      s.is 0 EQ.BUSY_LONG_OP = false)) ∧
    (let s := put [(EQ.EYE_STATUS_STATE, 2), (EQ.BUSY_LONG_OP, 1)]
     s.get 0 EQ.EYE_STATUS_STATE = 2 ∧ s.is 0 EQ.BUSY_LONG_OP = true) ∧
    (asks (put [(EQ.BUSY_LONG_OP, 1)]) EQ.EYE_CTRL_ABORT (fun s => s.is 0 EQ.BUSY_LONG_OP = true)) ∧
    (asks (put [(EQ.BUSY_LONG_OP, 0)]) EQ.EYE_CTRL_ABORT (fun s => s.is 0 EQ.BUSY_LONG_OP = false)) ∧
    (up.wsOpen 0 EQ.CMD_CLR_STATS = true) := by
  refine ⟨?_, ?_, ?_, ?_, ?_, ?_, ?_, ?_, ?_, ?_, ?_, ?_, ?_, ?_, ?_, ?_, ?_⟩ <;> decide +kernel

/-- A channel with the equaliser in TRACK and the Bolter in `state`. -/
def bolted (state : Nat) : State := put [(EQ.STATUS_EQ_STATE, 3), (BOLT.STATUS_STATE, state), (BOLT.STATUS_OFFSET, 5)]

theorem witness_TheBolterLocksDecodesAndReports :
    (let s := put [(EQ.STATUS_EQ_STATE, 0)]
     s.eqState 0 ≠ 2 ∧ s.eqState 0 ≠ 3) ∧
    (let s := bolted 1
     (s.eqState 0 = 2 ∨ s.eqState 0 = 3) ∧ s.boltState 0 = 1 ∧
       huntWinner ((List.replicate 64 0).set 7 1024) (s.acqFrac 0 * 4) (s.chan 0).bolt.group 16 = some 7) ∧
    (let s := bolted 1
     (s.eqState 0 = 2 ∨ s.eqState 0 = 3) ∧ s.boltState 0 = 1 ∧
       huntWinner (List.replicate 64 0) (s.acqFrac 0 * 4) (s.chan 0).bolt.group 16 = none) ∧
    (let s := bolted 2
     (s.eqState 0 = 2 ∨ s.eqState 0 = 3) ∧ s.boltState 0 = 2 ∧
       s.acqFrac 0 * 4 ≤ ([0, 0, 0, 0, 0, 1024] : List Nat).getD (s.get 0 BOLT.STATUS_OFFSET) 0) ∧
    (let s := bolted 2
     (s.eqState 0 = 2 ∨ s.eqState 0 = 3) ∧ s.boltState 0 = 2 ∧
       (List.replicate 64 0).getD (s.get 0 BOLT.STATUS_OFFSET) 0 < s.acqFrac 0 * 4) ∧
    (let s := put [(BOLT.STATUS_STATE, 3)]
     s.boltState 0 = 3) ∧
    (let s := put [(TOP.STATUS_MODE_ACTIVE, 0)]
     s.modeActive 0 = false) ∧
    (let s := put [(TOP.STATUS_MODE_ACTIVE, 1), (BOLT.STATUS_STATE, 0)]
     s.modeActive 0 = true ∧ s.boltState 0 ≠ 3) ∧
    (let s := put [(TOP.STATUS_MODE_ACTIVE, 1), (BOLT.STATUS_STATE, 3)]
     s.modeActive 0 = true ∧ s.boltState 0 = 3 ∧ (s.armed 0 BOLT.STATUS 0 = false ∨ s.get 0 BOLT.INJECT_TARGET ≠ 1)) ∧
    (let s := ((bolted 3).set 0 BOLT.INJECT_TARGET 1).setWord (BOLT.INJECT_TARGET.addr 0) 0x101
     s.modeActive 0 = true ∧ s.boltState 0 = 3 ∧ s.armed 0 BOLT.STATUS 0 = true ∧ s.get 0 BOLT.INJECT_TARGET = 1) ∧
    (let s := (put [(BOLT.STATUS_STATE, 3)]).modBolt 0 fun x => { x with blocks := 16777216 }
     s.boltState 0 = 3 ∧ 16777216 ≤ (s.chan 0).bolt.blocks) ∧
    (let s := put [(BOLT.STATUS_STATE, 0)]
     s.boltState 0 ≠ 3 ∨ (s.chan 0).bolt.blocks < 16777216) ∧
    (up.wsOpen 0 BOLT.CMD_CLR_CNT = true) := by
  decide +kernel

/-- A channel whose Dresser stands in `state` of a host-lane scope, its lanes in DATA. -/
def dressed (state : Nat) (f : DressSt → DressSt := id) : State :=
  (put [(DRESS.STATUS_STATE, state), (HL.STATUS_STATE 0, 4), (HL.STATUS_STATE 1, 4)]).modDress 0 fun x =>
    f { x with scopes := [1] }

theorem witness_ADresserPassStartsStepsAndEnds :
    (asks (put [(DRESS.CTRL_EN, 1),
      (DRESS.SCOPE_CMD_SCOPE, 3)]) DRESS.CMD_PASS (fun s => s.passMay 0 (s.get 0 DRESS.SCOPE_CMD_SCOPE) = true)) ∧
    (asks (put [(DRESS.CTRL_EN, 0)]) DRESS.CMD_PASS (fun s => s.passMay 0 (s.get 0 DRESS.SCOPE_CMD_SCOPE) = false)) ∧
    (asks (dressed 3) DRESS.CMD_ABORT (fun s => s.dressing 0 = true)) ∧
    (asks up DRESS.CMD_ABORT (fun s => s.dressing 0 = false)) ∧
    (let s := up
     s.writeOpen (DRESS.CTRL.addr 0) reqHost = true) ∧
    (let s := dressed 3
     (s.chan 0).dress.flight = none ∧ s.dressState 0 = 3 ∧ s.deferCause 0 = 0) ∧
    (let s := up.modDress 0 fun x => { x with flight := some (8192, true) }
     (s.chan 0).dress.flight.isSome = true) ∧
    (let s := (dressed 3).set 0 (HL.STATUS_STATE 0) 2
     (s.chan 0).dress.flight = none ∧ s.dressState 0 = 3 ∧ s.deferCause 0 ≠ 0) ∧
    (let s := put [(DRESS.STATUS_STATE, 5)]
     s.dressState 0 = 5) ∧
    (let s := put [(DRESS.STATUS_STATE, 2)]
     s.dressState 0 = 2 ∧ ¬ ((s.chan 0).dress.scopes.head? = some 0 ∧ s.shadowMode 0 = true)) ∧
    (let s := put [(DRESS.CTRL_EN, 1), (DRESS.CTRL_AUTO_EN, 1), (DRESS.SCOPE_AUTO_SCOPE, 4)]
     s.firstTrigger 0 = true) ∧
    (let s := up
     s.firstTrigger 0 = false) ∧
    (let s := put [(DRESS.STATUS_STATE, 0)]
     s.dressing 0 = false ∨ (s.chan 0).dress.waited = false ∧ s.dressState 0 ≠ 4) ∧
    (let s := dressed 4
     s.dressing 0 = true ∧ ((s.chan 0).dress.waited = true ∨ s.dressState 0 = 4)) := by
  decide +kernel

/-- A channel whose Millrace may send. -/
def racing (f : MrSt → MrSt := id) : State :=
  (put [(MRACE.CTRL_EN, 1), (MRACE.CTRL_TX_EN, 1), (LTX.STATUS_STATE, 3), (LTX.CFG_DITHER_EN, 1),
    (MRACE.BEACON_CFG_PERIOD, 10)]).modMr 0 f

/-- A frame to send, originated here. -/
def frameOut : MrOut := { frame := ⟨0, 0, 1, 1, 0, 7, {}, 0, false, []⟩, own := true }

theorem witness_TheMillraceSendsInItsOrder :
    (let s := put [(MRACE.BEACON_CFG_PERIOD, 1), (PWR.STATUS_STATE, 1)]
     s.get 0 MRACE.BEACON_CFG_PERIOD ≠ 0 ∧ s.chState 0 ≠ 0) ∧
    (let s := racing fun x => { x with rsp := some ⟨7, {}, 2, {}⟩ }
     s.mrTxMay 0 = true ∧ (s.chan 0).mr.air = none ∧ (s.chan 0).mr.gapEnd ≤ s.dev.time.units ∧
       (s.chan 0).mr.rsp = some (⟨7, {}, 2, {}⟩ : MrEcho)) ∧
    (let s := racing fun x => { x with beacon := true }
     s.mrTxMay 0 = true ∧ (s.chan 0).mr.air = none ∧ (s.chan 0).mr.gapEnd ≤ s.dev.time.units ∧ (s.chan 0).mr.rsp = none ∧
       (s.chan 0).mr.beacon = true) ∧
    (let s := racing fun x => { x with echo := true }
     s.mrTxMay 0 = true ∧ (s.chan 0).mr.air = none ∧ (s.chan 0).mr.gapEnd ≤ s.dev.time.units ∧ (s.chan 0).mr.rsp = none ∧
       (s.chan 0).mr.beacon = false ∧ (s.chan 0).mr.echo = true) ∧
    (let s := racing
     s.mrTxMay 0 = true ∧ (s.chan 0).mr.air = none ∧ (s.chan 0).mr.gapEnd ≤ s.dev.time.units ∧ (s.chan 0).mr.rsp = none ∧
       (s.chan 0).mr.beacon = false ∧ (s.chan 0).mr.echo = false) ∧
    (let s := up
     s.mrTxMay 0 = false ∨ (s.chan 0).mr.air.isSome = true ∨ s.dev.time.units < (s.chan 0).mr.gapEnd) ∧
    (let s := racing fun x => { x with air := some frameOut }
     (s.chan 0).mr.air = some frameOut ∧ (s.chan 0).mr.cut = false) ∧
    (let s := racing fun x => { x with air := some frameOut, cut := true }
     (s.chan 0).mr.air = some frameOut ∧ (s.chan 0).mr.cut = true) ∧
    (up.wsOpen 0 MRACE.CMD_TX_FLUSH = true) ∧
    (up.wsOpen 0 MRACE.CMD_ECHO = true) := by
  decide +kernel

theorem witness_TheMillraceReceivesAndRelays :
    (let s := put [(MRACE.STATUS_RX_STATE, 1)]
     s.mrRx 0 = 1) ∧
    (let s := put [(MRACE.STATUS_RX_STATE, 0)]
     s.mrRx 0 ≠ 1) ∧
    (let s := put [(MRACE.STATUS_RX_STATE, 2)]
     s.mrRx 0 = 2) ∧
    (let s := put [(MRACE.STATUS_RX_STATE, 3)]
     s.mrRx 0 = 3) ∧
    (let s := put [(MRACE.STATUS_RX_STATE, 4)]
     s.mrRx 0 = 4) ∧
    (let s := put [(MRACE.STATUS_FAR_VALID, 1)]
     s.is 0 MRACE.STATUS_FAR_VALID = true) ∧
    (up.wsOpen 0 MRACE.CMD_RX_POP = true) ∧
    (up.writeOpen ((MRLY.ENTRY_W0 0).addr 0) reqHost = true) ∧
    (let s := racing fun x => { x with fifo := [⟨frameOut.frame, {}, 0, false⟩] }
     0 < ((s.raise 0 MRACE.FLT_MR_MEM_PAR).chan 0).mr.fifo.length) ∧
    (let s := racing fun x => { x with queue := [frameOut] }
     0 < ((s.raise 0 MRACE.FLT_MR_MEM_PAR).chan 0).mr.queue.length) ∧
    (let s := racing fun x => { x with beacon := true }
     ((s.raise 0 MRACE.FLT_MR_MEM_PAR).chan 0).mr.beacon = true) := by
  decide +kernel

/-- A channel whose Gauge runs the first of two entries. -/
def gauging : State :=
  (put [(GAUGE.CTRL_EN, 1), (GAUGE.STATUS_SEQ_BUSY, 1), (GAUGE.SEQ_CFG_TRIG_SRC, 3)]).modGauge 0 fun x =>
    { x with entries := [0x80000000, 1], len := 1, die := true }

theorem witness_TheGaugeRunsItsSequencesStreamsAndTests :
    (asks (put [(GAUGE.STATUS_SEQ_BUSY, 0), (GAUGE.BUSY_LONG_OP, 0)]) GAUGE.CMD_TRIGGER (fun s => s.gaugeMay 0 = true ∧
      s.is 0 GAUGE.STATUS_SEQ_BUSY = false ∧ s.is 0 GAUGE.BUSY_LONG_OP = false)) ∧
    (asks (put [(GAUGE.CTRL_EN, 1), (GAUGE.STATUS_SEQ_BUSY, 1)]) GAUGE.CMD_TRIGGER (fun s => s.is 0 GAUGE.CTRL_EN = true ∧
      s.inTrial 0 = false ∧ (s.gaugeMay 0 = false ∨ s.is 0 GAUGE.STATUS_SEQ_BUSY = true ∨ s.is 0 GAUGE.BUSY_LONG_OP = true))) ∧
    (asks (put [(GAUGE.CTRL_EN, 0)]) GAUGE.CMD_TRIGGER (fun s => s.is 0 GAUGE.CTRL_EN = false ∨ s.inTrial 0 = true)) ∧
    (let s := gauging
     s.dev.refclk = true ∧ bitOf (s.get 0 GAUGE.SEQ_CFG_TRIG_SRC) (if True then 1 else 0) = true ∧
       s.is 0 GAUGE.CTRL_EN = true ∧ s.inTrial 0 = false ∧ s.is 0 GAUGE.STATUS_SEQ_BUSY = true) ∧
    (let s := gauging.set 0 GAUGE.STATUS_SEQ_BUSY 0
     s.dev.refclk = true ∧ bitOf (s.get 0 GAUGE.SEQ_CFG_TRIG_SRC) (if True then 1 else 0) = true ∧ s.gaugeMay 0 = true ∧
       s.is 0 GAUGE.STATUS_SEQ_BUSY = false ∧ s.is 0 GAUGE.BUSY_LONG_OP = false) ∧
    (let s := upDev fun d => { d with refclk := false }
     s.dev.refclk = false ∨ bitOf (s.get 0 GAUGE.SEQ_CFG_TRIG_SRC) (if True then 1 else 0) = false) ∧
    (let s := (put [(GAUGE.STATUS_SEQ_BUSY, 1), (GAUGE.FLT_GAUGE_FSM_PAR, 0),
      (GAUGE.INJECT_TARGET, 0)]).modDev fun d => { d with refclk := true }
     s.dev.refclk = true ∧ s.is 0 GAUGE.STATUS_SEQ_BUSY = true ∧ s.is 0 GAUGE.FLT_GAUGE_FSM_PAR = false ∧
       s.get 0 GAUGE.INJECT_TARGET ≠ 2 ∧
       (entConv ((s.chan 0).gauge.entries.getD (s.get 0 GAUGE.STATUS_CUR_ENTRY) 0) ≠ 2 ∨
       (0 - 0) + (0 - 0) ≤ s.get 0 GAUGE.CHECK_WINDOW_Q)) ∧
    (let s := gauging.modGauge 0 fun x => { x with entries := [0x02000000], len := 1 }
     s.dev.refclk = true ∧ s.is 0 GAUGE.STATUS_SEQ_BUSY = true ∧ s.is 0 GAUGE.FLT_GAUGE_FSM_PAR = false ∧
       s.get 0 GAUGE.INJECT_TARGET ≠ 2 ∧ entConv ((s.chan 0).gauge.entries.getD (s.get 0 GAUGE.STATUS_CUR_ENTRY) 0) = 2 ∧
       s.get 0 GAUGE.CHECK_WINDOW_Q < (30000 - 0) + (0 - 30000)) ∧
    (let s := up
     (s.chan 0).gauge.len ≤ 0) ∧
    (let s := gauging
     0 < (s.chan 0).gauge.len) ∧
    (let s := (put [(streamActive 0, 1), (PWR.STATUS_STATE, 0)]).modDev fun d => { d with refclk := true }
     s.dev.refclk = true ∧ s.is 0 (streamActive 0) = true ∧ s.chState 0 ≠ 3) ∧
    (let s := upDev fun d => { d with refclk := false }
     s.dev.refclk = false ∨ s.is 0 (streamActive 0) = false ∨ s.chState 0 = 3) ∧
    (let s := ((put [(GAUGE.FLT_GAUGE_FSM_PAR, 0)]).modDev fun d => { d with refclk := true }).setStreamDue 0 0 true
     s.dev.refclk = true ∧ s.streamDue 0 0 = true ∧ s.is 0 GAUGE.FLT_GAUGE_FSM_PAR = false) ∧
    (let s := upDev fun d => { d with refclk := true }
     s.dev.refclk = true ∧ s.analogOn 0 = true) ∧
    (let s := upDev fun d => { d with refclk := false }
     s.dev.refclk = false ∨ s.analogOn 0 = false) ∧
    (let s := gauging
     s.dev.refclk = true ∧ (s.chan 0).gauge.die = true ∧ s.is 0 GAUGE.FLT_GAUGE_FSM_PAR = false ∧ (0 = 0 ∨ 0 = 16383)) ∧
    (let s := gauging
     (8192 : BitVec 14) ≠ 0 ∧ ((8192 : BitVec 14) : BitVec 14).toNat ≠ 16383 ∧ s.dev.refclk = true ∧
       (s.chan 0).gauge.die = true ∧ s.is 0 GAUGE.FLT_GAUGE_FSM_PAR = false) ∧
    (asks (put [(GAUGE.STATUS_STREAM0_ACTIVE, 1),
      (GAUGE.STATUS_STREAM1_ACTIVE, 1)]) GAUGE.CMD_DIAG (fun s => 7 < s.get 0 GAUGE.DIAG_CFG_PATH ∨
      s.is 0 GAUGE.CTRL_EN = false ∨ s.get 0 GAUGE.DIAG_CFG_PATH = 4 ∧
      s.is 0 GAUGE.STATUS_STREAM0_ACTIVE = true ∨ s.get 0 GAUGE.DIAG_CFG_PATH = 0 ∧ s.is 0 GAUGE.STATUS_STREAM1_ACTIVE = true)) ∧
    (asks (put [(GAUGE.CTRL_EN, 1), (GAUGE.DIAG_CFG_PATH, 0)]) GAUGE.CMD_DIAG (fun s => s.get 0 GAUGE.DIAG_CFG_PATH ≤ 7 ∧
      s.is 0 GAUGE.CTRL_EN = true ∧ (s.get 0 GAUGE.DIAG_CFG_PATH ≠ 4 ∨ s.is 0 GAUGE.STATUS_STREAM0_ACTIVE = false) ∧
      (s.get 0 GAUGE.DIAG_CFG_PATH ≠ 0 ∨ s.is 0 GAUGE.STATUS_STREAM1_ACTIVE = false))) ∧
    (let s := (put [(GAUGE.STATUS_DIAG_BUSY, 1), (GAUGE.FLT_GAUGE_FSM_PAR, 0)]).modDev fun d => { d with refclk := true }
     s.dev.refclk = true ∧ s.is 0 GAUGE.STATUS_DIAG_BUSY = true ∧ s.is 0 GAUGE.FLT_GAUGE_FSM_PAR = false) ∧
    (up.wsOpen 0 GAUGE.CMD_CLR_STATS = true) := by
  refine ⟨?_, ?_, ?_, ?_, ?_, ?_, ?_, ?_, ?_, ?_, ?_, ?_, ?_, ?_, ?_, ?_, ?_, ?_, ?_, ?_, ?_⟩ <;> decide +kernel

/-- A channel whose DAC 0 stands in `state` with a queue. -/
def dacAt (state mode : Nat) (queue : List Nat) : State :=
  (put [(dacField 0, state), (OUT.D_CFG_EN 0, 1), (OUT.D_CFG_SPAN 0, 3), (OUT.D_CFG_MODE 0, mode)]).modDac 0 0 fun x =>
    { x with queue }

theorem witness_TheDacsTakeQueueAndClampTheirCodes :
    (puts up ((OUT.D_CFG 0).addr 0) reqHost (fun s => s.kilnOwns 0 0 = false ∧
      (s.voutn = true ∨ getBits 0 8 3 < 3 ∨ 4 < getBits 0 8 3))) ∧
    (getBits 0x300 8 3 = 3 ∧
      puts (upDev fun d => { d with rails := 0x1F }) ((OUT.D_CFG 0).addr 0) reqHost (fun s => s.kilnOwns 0 0 = false ∧
      s.voutn = false)) ∧
    (let s := put [(dacField 0, 1)]
     s.dacState 0 0 ≠ 0) ∧
    (puts (put [(dacField 0, 1), (OUT.D_CFG_MODE 0, 0)]) ((OUT.D_DATA 0).addr 0) reqHost (fun s => s.kilnOwns 0 0 = false ∧
      s.dacState 0 0 ≠ 0 ∧ s.dacState 0 0 ≠ 5 ∧ s.get 0 (OUT.D_CFG_MODE 0) = 0)) ∧
    (puts (put [(dacField 0, 1), (OUT.D_CFG_MODE 0, 1)]) ((OUT.D_DATA 0).addr 0) reqHost (fun s => s.kilnOwns 0 0 = false ∧
      s.dacState 0 0 ≠ 0 ∧ s.dacState 0 0 ≠ 5 ∧ s.get 0 (OUT.D_CFG_MODE 0) = 1 ∧ (s.dac 0 0).queue.length < 64)) ∧
    (let s := dacAt 2 1 (List.replicate 64 5)
     s.kilnOwns 0 0 = false ∧ s.dacState 0 0 ≠ 0 ∧ s.dacState 0 0 ≠ 5 ∧ s.get 0 (OUT.D_CFG_MODE 0) ≠ 0 ∧
       64 ≤ (s.dac 0 0).queue.length) ∧
    (let s := upDev fun d => { d with refclk := false }
     s.dev.refclk = false ∨ s.chState 0 = 3) ∧
    (let s := (dacAt 1 1 [5]).modDac 0 0 fun x => { x with released := true }
     s.dev.refclk = true ∧ s.chState 0 ≠ 3 ∧ s.dacState 0 0 = 1 ∧ (s.dac 0 0).queue = 5 :: [] ∧ (s.dac 0 0).released = true ∧
       s.dacSpan 0 0 ≠ 0) ∧
    (let s := put [(dacField 0, 1)]
     s.dacState 0 0 = 1 ∧ ((s.dac 0 0).released = false ∨ s.dacSpan 0 0 = 0)) ∧
    (let s := dacAt 2 1 [5]
     s.dev.refclk = true ∧ s.chState 0 ≠ 3 ∧ (s.dacState 0 0 = 2 ∨ s.dacState 0 0 = 3) ∧ (s.dac 0 0).queue = 5 :: []) ∧
    (let s := (put [(PWR.STATUS_STATE, 0), (dacField 0, 2), (OUT.D_CFG_MODE 0, 1)]).modDev fun d => { d with refclk := true }
     s.dev.refclk = true ∧ s.chState 0 ≠ 3 ∧ s.dacState 0 0 = 2 ∧ (s.dac 0 0).queue = [] ∧ s.get 0 (OUT.D_CFG_MODE 0) ≠ 0 ∧
       s.kilnOwns 0 0 = false ∧ (s.dac 0 0).parked = false) ∧
    (let s := (put [(dacField 0, 1)]).modDev fun d => { d with refclk := true }
     s.dev.refclk = true ∧ s.dacState 0 0 = 1) ∧
    (let s := upDev fun d => { d with refclk := false }
     s.dev.refclk = false ∨ s.dacState 0 0 ≠ 1) ∧
    (let s := dacAt 2 0 []
     s.losesVoutn 0 0 = true) ∧
    (let s := (dacAt 2 0 []).set 0 (OUT.D_SUPV_CFG_EN 0) 1
     s.dev.refclk = true ∧ s.is 0 (OUT.D_SUPV_CFG_EN 0) = true ∧ s.dacSpan 0 0 ≠ 0 ∧ s.analogOn 0 = true ∧
       (s.chan 0).gauge.readback.contains 0 = false) ∧
    (let s := upDev fun d => { d with refclk := false }
     s.dev.refclk = false ∨ s.is 0 (OUT.D_SUPV_CFG_EN 0) = false ∨ s.dacSpan 0 0 = 0 ∨ s.analogOn 0 = false ∨
       (s.chan 0).gauge.readback.contains 0 = true) ∧
    (let s := upDev fun d => { d with refclk := false }
     s.dev.refclk = false ∨ (s.chan 0).gauge.readback.contains 0 = false ∨ s.is 0 GAUGE.FLT_GAUGE_FSM_PAR = true) ∧
    (let s := (dacAt 2 0 []).modGauge 0 fun x => { x with readback := [0] }
     s.dev.refclk = true ∧ (s.chan 0).gauge.readback.contains 0 = true ∧ s.is 0 GAUGE.FLT_GAUGE_FSM_PAR = false) := by
  refine ⟨?_, ?_, ?_, ?_, ?_, ?_, ?_, ?_, ?_, ?_, ?_, ?_, ?_, ?_, ?_, ?_, ?_, ?_⟩ <;> decide +kernel

/-- A channel whose Kiln stands in `state`, its newest sample `new`. -/
def heating (state new : Nat) : State :=
  put [(KILN.STATUS_STATE, state), (KILN.CTRL_EN, 1), (GAUGE.STREAM0_DATA_NEW, new), (KILN.SENSOR_LO, 0), (KILN.SENSOR_HI, 1000),
    (GAUGE.STREAM0_DATA_VALUE, 1000), (KILN.SENSOR_CFG_MISS_MAX, 2), (KILN.SAT_CFG_MS, 5), (KILN.STATUS_AT_MAX, 1)]

theorem witness_TheKilnTakesOneSampleATick :
    (puts (put [(KILN.STATUS_STATE, 0)]) (KILN.CTRL.addr 0) reqHost (fun s => s.kilnState 0 ≠ 4)) ∧
    (puts (put [(KILN.STATUS_STATE, 4), (KILN.CTRL_EN, 0)]) (KILN.CTRL.addr 0) reqHost (fun s => s.kilnState 0 = 4 ∧
      s.is 0 KILN.CTRL_EN = false)) ∧
    (puts (put [(KILN.STATUS_STATE, 0)]) (KILN.INTEG_LO.addr 0) reqHost (fun s => s.kilnState 0 = 0)) ∧
    (puts (put [(KILN.STATUS_STATE, 0)]) (KILN.INTEG_HI_I.addr 0) reqHost (fun s => s.kilnState 0 = 0)) ∧
    (puts (put [(KILN.STATUS_STATE, 1)]) (KILN.INTEG_LO.addr 0) reqHost (fun s => s.kilnState 0 ≠ 0)) ∧
    (puts (put [(KILN.STATUS_STATE, 1)]) (KILN.INTEG_HI_I.addr 0) reqHost (fun s => s.kilnState 0 ≠ 0)) ∧
    (let s := heating 2 1
     s.dev.refclk = true ∧ (s.kilnState 0 = 1 ∨ s.kilnState 0 = 2) ∧ s.is 0 KILN.CTRL_EN = true ∧
       s.is 0 GAUGE.STREAM0_DATA_NEW = true ∧ s.get 0 KILN.SENSOR_LO ≤ s.get 0 GAUGE.STREAM0_DATA_VALUE ∧
       s.get 0 GAUGE.STREAM0_DATA_VALUE ≤ s.get 0 KILN.SENSOR_HI) ∧
    (let s := (put [(KILN.STATUS_STATE, 1), (KILN.CTRL_EN, 1),
      (GAUGE.STREAM0_DATA_NEW, 0)]).modDev fun d => { d with refclk := true }
     s.dev.refclk = true ∧ (s.kilnState 0 = 1 ∨ s.kilnState 0 = 2) ∧ s.is 0 KILN.CTRL_EN = true ∧
       s.is 0 GAUGE.STREAM0_DATA_NEW = false ∧ (s.chan 0).kiln.miss + 1 < max 1 (s.get 0 KILN.SENSOR_CFG_MISS_MAX)) ∧
    (let s := (put [(KILN.STATUS_STATE, 1), (KILN.CTRL_EN, 1),
      (GAUGE.STREAM0_DATA_NEW, 1)]).modDev fun d => { d with refclk := true }
     s.dev.refclk = true ∧ (s.kilnState 0 = 1 ∨ s.kilnState 0 = 2) ∧ s.is 0 KILN.CTRL_EN = true ∧
       s.is 0 GAUGE.STREAM0_DATA_NEW = true ∧
       (s.get 0 GAUGE.STREAM0_DATA_VALUE < s.get 0 KILN.SENSOR_LO ∨
       s.get 0 KILN.SENSOR_HI < s.get 0 GAUGE.STREAM0_DATA_VALUE) ∧
       (s.chan 0).kiln.bad + 1 < max 1 (s.get 0 KILN.SENSOR_CFG_COUNT)) ∧
    (let s := up
     (s.raise 0 PWR.STATUS_STATE).chState 0 ≠ 0 ∧ (s.raise 0 PWR.STATUS_STATE).outputsShut = false) ∧
    (let s := (heating 2 1).set 0 KILN.CTRL_EN 0
     s.dev.refclk = true ∧ (s.kilnState 0 = 1 ∨ s.kilnState 0 = 2) ∧ s.is 0 KILN.CTRL_EN = false ∧
       s.is 0 GAUGE.STREAM0_DATA_NEW = true ∧ s.get 0 KILN.SENSOR_LO ≤ s.get 0 GAUGE.STREAM0_DATA_VALUE ∧
       s.get 0 GAUGE.STREAM0_DATA_VALUE ≤ s.get 0 KILN.SENSOR_HI) ∧
    (let s := upDev fun d => { d with refclk := false }
     s.dev.refclk = false) ∧
    (let s := put [(KILN.STATUS_STATE, 0)]
     s.kilnState 0 ≠ 1 ∧ s.kilnState 0 ≠ 2) ∧
    (let s := (put [(KILN.STATUS_STATE, 1), (KILN.SAT_CFG_MS, 1),
      (KILN.STATUS_AT_MAX, 1)]).modDev fun d => { d with refclk := true }
     s.dev.refclk = true ∧ (s.kilnState 0 = 1 ∨ s.kilnState 0 = 2) ∧ s.get 0 KILN.SAT_CFG_MS ≠ 0 ∧
       (s.chan 0).kiln.satDone = false ∧ (s.is 0 KILN.STATUS_AT_MAX = true ∨ s.is 0 KILN.STATUS_AT_MIN = true)) ∧
    (let s := upDev fun d => { d with refclk := false }
     s.dev.refclk = false ∨ (s.kilnState 0 ≠ 1 ∧
       s.kilnState 0 ≠ 2) ∨ s.get 0 KILN.SAT_CFG_MS = 0 ∨ (s.chan 0).kiln.satDone = true ∨
       (s.is 0 KILN.STATUS_AT_MAX = false ∧ s.is 0 KILN.STATUS_AT_MIN = false)) ∧
    (let s := up
     (s.raiseFsm 0 KILN.FLT_KILN_FSM_PAR).kilnState 0 ≠ 4) ∧
    (let s := put [(KILN.STATUS_STATE, 4)]
     (s.raiseFsm 0 KILN.FLT_KILN_FSM_PAR).kilnState 0 = 4) := by
  refine ⟨?_, ?_, ?_, ?_, ?_, ?_, ?_, ?_, ?_, ?_, ?_, ?_, ?_, ?_, ?_, ?_, ?_⟩ <;> decide +kernel

/-- A channel whose Tally stands in `state`, initialised. -/
def tallied (state : Nat) : State := put [(TALLY.STATUS_STATE, state), (TALLY.STATUS_INIT_DONE, 1)]

/-- A frame of `len` zero bytes for Tally. -/
def frameIn (len : Nat) (errors : Option (List Nat)) (truncated : Bool := false) : TallyFrame :=
  ⟨List.replicate len 0, truncated, errors, 0⟩

theorem witness_TallyCountsSweepsSpillsAndAnswers :
    (let s := put [(TALLY.STATUS_STATE, 0)]
     s.tallyState 0 ≠ 3 ∨ s.tallyInput 0 = false ∧ (frameIn 64 none).truncated = false) ∧
    (let s := put [(TALLY.STATUS_STATE, 3)]
     s.tallyState 0 = 3 ∧ (frameIn 64 none true).truncated = true) ∧
    (let s := ((lined 4).set 0 TALLY.STATUS_STATE 3)
     (frameIn 63 none).truncated = false ∧ ((frameIn 63 none).bytes.length < 64 ∨ 16383 < (frameIn 63 none).bytes.length) ∧
       s.tallyState 0 = 3 ∧ s.tallyInput 0 = true) ∧
    (let s := ((lined 4).set 0 TALLY.STATUS_STATE 3)
     ((frameIn 64 (some [3])) : TallyFrame).truncated = false ∧ 64 ≤ ((frameIn 64 (some [3])) : TallyFrame).bytes.length ∧
       ((frameIn 64 (some [3])) : TallyFrame).bytes.length ≤ 16383 ∧
       ((frameIn 64 (some [3])) : TallyFrame).errors = some ([3]) ∧ s.tallyState 0 = 3 ∧ s.tallyInput 0 = true) ∧
    (let s := ((lined 4).set 0 TALLY.STATUS_STATE 3)
     (frameIn 16383 none).truncated = false ∧ 64 ≤ (frameIn 16383 none).bytes.length ∧
       (frameIn 16383 none).bytes.length ≤ 16383 ∧ (frameIn 16383 none).errors = none ∧ s.tallyState 0 = 3 ∧
       s.tallyInput 0 = true) ∧
    (let s := put [(TALLY.STATUS_STATE, 3)]
     s.tallyState 0 = 3) ∧
    (let s := put [(TALLY.STATUS_SWEEPING, 1), (TALLY.STATUS_STATE, 0)]
     s.is 0 TALLY.STATUS_SWEEPING = true ∧ s.tallyState 0 ≠ 4) ∧
    (let s := put [(TALLY.STATUS_STATE, 0)]
     s.tallyState 0 ≠ 3) ∧
    (let s := put [(TALLY.STATUS_SWEEPING, 0)]
     s.is 0 TALLY.STATUS_SWEEPING = false ∨ s.tallyState 0 = 4) ∧
    (up.writeOpen (TALLY.SPILL_RD.addr 0) reqHost = true) ∧
    (asks (tallied 2) TALLY.CMD_FLUSH (fun s => s.tallyMay 0 = true)) ∧
    (let s := ((tallied 2).set 0 TALLY.STATUS_FLUSHING 1).modTally 0 fun x => { x with flushIdx := 131072 }
     s.is 0 TALLY.STATUS_FLUSHING = true ∧ 131072 ≤ ((s.flushRun 0 131072).chan 0).tally.flushIdx) ∧
    (let s := put [(TALLY.STATUS_FLUSHING, 1), (TALLY.STATUS_SPILL_FULL, 1)]
     s.is 0 TALLY.STATUS_FLUSHING = true ∧ ((s.flushRun 0 131072).chan 0).tally.flushIdx < 131072) ∧
    (let s := put [(TALLY.STATUS_FLUSHING, 0)]
     s.is 0 TALLY.STATUS_FLUSHING = false) ∧
    (asks up TALLY.CMD_FLUSH (fun s => s.tallyMay 0 = false)) ∧
    (asks (tallied 2) TALLY.CMD_SNAP (fun s => s.tallyMay 0 = true)) ∧
    (asks up TALLY.CMD_SNAP (fun s => s.tallyMay 0 = false)) ∧
    (asks (tallied 2) TALLY.CMD_QUERY (fun s => s.tallyMay 0 = true)) ∧
    (asks up TALLY.CMD_QUERY (fun s => s.tallyMay 0 = false)) ∧
    (asks up TALLY.CMD_INIT (fun s => s.tallyMayInit 0 = true)) ∧
    (asks (tallied 4) TALLY.CMD_INIT (fun s => s.tallyMayInit 0 = false)) ∧
    (let s := put [(TALLY.STATUS_STATE, 0)]
     s.tallyState 0 ≠ 1) ∧
    (let s := put [(TALLY.STATUS_STATE, 1)]
     s.tallyState 0 = 1) ∧
    (up.wsOpen 0 TALLY.CMD_CLR_CNT = true) := by
  refine ⟨?_, ?_, ?_, ?_, ?_, ?_, ?_, ?_, ?_, ?_, ?_, ?_, ?_, ?_, ?_, ?_, ?_, ?_, ?_, ?_, ?_, ?_, ?_, ?_⟩ <;> decide +kernel

theorem witness_SelectorsPresetsAndReadsOfCountersObeyTheirRules :
    (up.writeOpen ((if true = true then CNT.RANGE 0 else CNT.SEL 0).addr 0) 8 = true) ∧
    (up.writeOpen (0xC100 + 4 * 0) 0 = true) ∧
    (up.writeOpen (0xC200 + 4 * 0) 0 = true) ∧
    (up.writeOpen ((if true = true then CNT.CNT_HI 0 else CNT.CNT_LO 0).addr 0) reqHost = true) ∧
    (up.writeOpen (0xC400 + 16 * 0) reqHost = true) ∧
    (up.writeOpen (0xC404 + 16 * 0) reqHost = true) ∧
    (let s := up
     (8 == reqHost && s.busyPin) = false ∧ s.regReach ((CNT.CNT_LO 0).addr 0) = codeOk ∧
       s.pageArmed ((CNT.CNT_LO 0).addr 0) 4 = false) := by
  decide +kernel

theorem witness_DeviceTimeIsSetAdjustedAndAligned :
    (let s := up
     (8 == reqHost && s.busyPin) = false ∧ s.pageArmed 0x9040 4 = false) ∧
    (let s := upDev fun d => { d with timeRunning := false }
     s.dev.timeRunning = false) ∧
    (let s := upDev fun d => { d with timeRunning := true }
     s.dev.timeRunning = true) ∧
    (puts up 0x905C reqHost (fun s => s.longOp 0x905C = false ∧ s.pageHeld 0x905C = false)) ∧
    (let s := upDev fun d => { d with timeRunning := true }
     s.dev.timeRunning = true ∧ 0 ≤ ((s.dev.time.sec * 1000000000 + s.dev.time.ns : Nat) : Int) + s.getI 0 TIME.ADJ ∧
       ((s.dev.time.sec * 1000000000 + s.dev.time.ns : Nat) : Int) + s.getI 0 TIME.ADJ < 2 ^ 48 * 1000000000) ∧
    (let s := (upDev fun d => { d with timeRunning := true }).setI 0 TIME.ADJ (-1)
     s.dev.timeRunning = true ∧ ((s.dev.time.sec * 1000000000 + s.dev.time.ns : Nat) : Int) + s.getI 0 TIME.ADJ < 0) ∧
    (let s := (upDev fun d => { d with timeRunning := true, time := ⟨2 ^ 48 - 1, 999999999, 0⟩ }).setI 0 TIME.ADJ 1
     s.dev.timeRunning = true ∧
       2 ^ 48 * 1000000000 ≤ ((s.dev.time.sec * 1000000000 + s.dev.time.ns : Nat) : Int) + s.getI 0 TIME.ADJ) ∧
    (let s := upDev fun d => { d with timeRunning := false }
     (s.elapse 3).dev.timeRunning = false) ∧
    (let s := upDev fun d => { d with ppsSeen := true }
     (s.elapse 5).dev.timeRunning = true ∧ (s.elapse 5).dev.ppsSeen = true ∧ (s.elapse 5).dev.ppsTicks < 312500000) ∧
    (let s := up
     (s.elapse 5).dev.timeRunning = true ∧ ((s.elapse 5).dev.ppsSeen = false ∨ 312500000 ≤ (s.elapse 5).dev.ppsTicks)) ∧
    (let s := put [(TIME.NEXT_SEC_HI_ARM, 0)]
     s.is 0 TIME.NEXT_SEC_HI_ARM = false) ∧
    (let s := put [(TIME.NEXT_SEC_HI_ARM, 1)]
     s.is 0 TIME.NEXT_SEC_HI_ARM = true) ∧
    (let s := put [(TIME.STATUS_PPS_STATE, 1)]
     s.dget TIME.STATUS_PPS_STATE = 1) ∧
    (let s := put [(TIME.STATUS_PPS_STATE, 0)]
     s.dget TIME.STATUS_PPS_STATE ≠ 1) := by
  decide +kernel

/-- A channel whose Hopper dumps each 10 ms. -/
def hopping (f : HopSt → HopSt := id) : State := (put [(HOP.CTRL_EN, 1), (HOP.CFG_PERIOD_MS, 10)]).modHop 0 f

theorem witness_TheHopperDumpsItsRecords :
    (let s := put [(PWR.STATUS_STATE, 0)]
     s.chState 0 = 0 ∨ s.is 0 HOP.CTRL_EN = false ∨ s.get 0 HOP.CFG_PERIOD_MS = 0) ∧
    (let s := put [(PWR.STATUS_STATE, 1), (HOP.CTRL_EN, 1), (HOP.CFG_PERIOD_MS, 1), (HOP.STATUS_SUSPENDED, 1)]
     s.chState 0 ≠ 0 ∧ s.is 0 HOP.CTRL_EN = true ∧ s.get 0 HOP.CFG_PERIOD_MS ≠ 0 ∧
       (s.is 0 HOP.STATUS_SUSPENDED = true ∨ (s.chan 0).hop.stopped = true)) ∧
    (let s := put [(PWR.STATUS_STATE, 1), (HOP.CTRL_EN, 1), (HOP.CFG_PERIOD_MS, 1), (HOP.STATUS_SUSPENDED, 0)]
     s.chState 0 ≠ 0 ∧ s.is 0 HOP.CTRL_EN = true ∧ s.get 0 HOP.CFG_PERIOD_MS ≠ 0 ∧ s.is 0 HOP.STATUS_SUSPENDED = false ∧
       (s.chan 0).hop.stopped = false) ∧
    (asks (put [(HOP.STATUS_SUSPENDED, 0)]) HOP.CMD_DUMP (fun s => s.is 0 HOP.STATUS_SUSPENDED = false ∧
      (s.chan 0).hop.stopped = false)) ∧
    (asks (put [(HOP.STATUS_SUSPENDED, 1)]) HOP.CMD_DUMP (fun s => s.is 0 HOP.STATUS_SUSPENDED = true ∨
      (s.chan 0).hop.stopped = true)) ∧
    (let s := hopping fun x => { x with trig := 2 }
     (s.chan 0).hop.trig ≠ 0 ∧ (s.chan 0).hop.stopped = false ∧ s.is 0 HOP.STATUS_WRITING = false ∧
       s.is 0 HOP.STATUS_SUSPENDED = false ∧ s.chState 0 ≠ 0) ∧
    (let s := up
     (s.chan 0).hop.trig = 0 ∨ (s.chan 0).hop.stopped = true ∨ s.is 0 HOP.STATUS_WRITING = true ∨
       s.is 0 HOP.STATUS_SUSPENDED = true ∨ s.chState 0 = 0) ∧
    (let s := put [(HOP.STATUS_WRITING, 1)]
     s.is 0 HOP.STATUS_WRITING = true ∧ s.memOn 0 = true) ∧
    (let s := put [(HOP.STATUS_WRITING, 0)]
     s.is 0 HOP.STATUS_WRITING = false ∨ s.memOn 0 = false) ∧
    (up.writeOpen (HOP.RD_IDX.addr 0) reqHost = true) := by
  decide +kernel

/-- A part with a range set for scrub and march of the Miller's memories and of channel 0. -/
def ranged : State :=
  (put [(MEM.SCRUB_CFG_MEM, 8), (MEM.SCRUB_START_OFFSET, 16), (MEM.SCRUB_LEN_BYTES, 65520), (MEM.MARCH_START_OFFSET, 0),
    (MEM.MARCH_LEN_BYTES, 65536)]).xset .dev MEM.SCRUB_CFG_MEM 0x11

theorem witness_MemoriesAreScrubbedAndWrittenBack :
    (up.wsOpen 0 MEM.SCRUB_CMD_GO = true) ∧
    (puts up 0xA04C reqHost (fun s => s.longOp 0xA04C = false ∧ s.pageHeld 0xA04C = false)) ∧
    (let s := ranged
     scrubMem (.ch 0) (s.xget (.ch 0) MEM.SCRUB_CFG_MEM) = some (chMem 0 6) ∧ (s.scrubSt (.ch 0)).active = false ∧
       s.xget (.ch 0) MEM.SCRUB_START_OFFSET % 8 = 0 ∧ s.xget (.ch 0) MEM.SCRUB_LEN_BYTES % 8 = 0 ∧
       s.xget (.ch 0) MEM.SCRUB_LEN_BYTES ≠ 0 ∧
       s.xget (.ch 0) MEM.SCRUB_START_OFFSET + s.xget (.ch 0) MEM.SCRUB_LEN_BYTES ≤ 8 * memWords (chMem 0 6) ∧
       s.xget (.ch 0) MEM.STATUS_SCRUB_STOPPED ≠ 1) ∧
    (let s := up
     (scrubMem (.ch 0) (s.xget (.ch 0) MEM.SCRUB_CFG_MEM) = none ∨ (s.scrubSt (.ch 0)).active = true ∨
       s.xget (.ch 0) MEM.SCRUB_START_OFFSET % 8 ≠ 0 ∨ s.xget (.ch 0) MEM.SCRUB_LEN_BYTES % 8 ≠ 0 ∨
       s.xget (.ch 0) MEM.SCRUB_LEN_BYTES = 0 ∨ s.xget (.ch 0) MEM.STATUS_SCRUB_STOPPED = 1)) ∧
    (let s := ranged.set 0 MEM.SCRUB_LEN_BYTES 65528
     scrubMem (.ch 0) (s.xget (.ch 0) MEM.SCRUB_CFG_MEM) = some (chMem 0 6) ∧
       8 * memWords (chMem 0 6) < s.xget (.ch 0) MEM.SCRUB_START_OFFSET + s.xget (.ch 0) MEM.SCRUB_LEN_BYTES) ∧
    (asks ((put [(MEM.STATUS_SCRUB_CONT,
      1)]).modScrub (.ch 0) fun y => { y with active := true }) MEM.SCRUB_CMD_STOP (fun s => (s.scrubSt (.ch 0)).active = true
      ∧ s.get 0 MEM.STATUS_SCRUB_CONT = 1)) ∧
    (asks up MEM.SCRUB_CMD_STOP (fun s => (s.scrubSt (.ch 0)).active = false ∨ s.get 0 MEM.STATUS_SCRUB_CONT ≠ 1)) ∧
    (let s := up.modScrub .dev fun y => { y with active := true }
     (s.scrubSt .dev).active = true) ∧
    (let s := up
     (s.scrubSt .dev).active = false) ∧
    (let s := upCh fun c => { c with wb := [⟨chMem 0 6, 3⟩] }
     (s.wbList (scopePad (Scope.ch 0)))[0]? = some (⟨chMem 0 6, 3⟩ : WbEntry) ∧
       s.xget (Scope.ch 0) MEM.STATUS_WB_STOPPED ≠ 1 ∧
       ∀ f ∈ (s.wbList (scopePad (Scope.ch 0))).take 0, f.mem ≠ (⟨chMem 0 6, 3⟩ : WbEntry).mem ∨
       memBank f.mem f.word ≠ memBank (⟨chMem 0 6, 3⟩ : WbEntry).mem (⟨chMem 0 6, 3⟩ : WbEntry).word) ∧
    (let s := upCh fun c => { c with wb := [⟨chMem 0 6, 3⟩] }
     (s.wbList (scopePad (Scope.ch 0))).length ≤ 1) ∧
    (let s := upCh fun c => { c with wb := [⟨chMem 0 6, 5⟩, ⟨chMem 0 6, 3⟩] }
     (s.wbList (scopePad (Scope.ch 0)))[1]? = some (⟨chMem 0 6, 3⟩ : WbEntry) ∧
       (⟨chMem 0 6, 5⟩ : WbEntry) ∈ (s.wbList (scopePad (Scope.ch 0))).take 1 ∧
       (⟨chMem 0 6, 5⟩ : WbEntry).mem = (⟨chMem 0 6, 3⟩ : WbEntry).mem ∧
       memBank (⟨chMem 0 6, 5⟩ : WbEntry).mem (⟨chMem 0 6, 5⟩ : WbEntry).word = memBank (⟨chMem 0 6,
       3⟩ : WbEntry).mem (⟨chMem 0 6, 3⟩ : WbEntry).word) ∧
    (let s := put [(MEM.STATUS_WB_STOPPED, 1)]
     s.xget (Scope.ch 0) MEM.STATUS_WB_STOPPED = 1) := by
  decide +kernel

theorem witness_AMarchTestsWhatIsNotPinned :
    (up.wsOpen 0 MEM.MARCH_CMD_GO = true) ∧
    (puts up 0xA078 reqHost (fun s => s.longOp 0xA078 = false ∧ s.pageHeld 0xA078 = false)) ∧
    (let s := up
     (s.xget (.ch 0) MEM.MARCH_START_OFFSET % 8 ≠ 0 ∨ s.xget (.ch 0) MEM.MARCH_LEN_BYTES % 8 ≠ 0 ∨
       s.xget (.ch 0) MEM.MARCH_LEN_BYTES = 0 ∨
       8 * memWords (scopePad (.ch 0)) < s.xget (.ch 0) MEM.MARCH_START_OFFSET + s.xget (.ch 0) MEM.MARCH_LEN_BYTES)) ∧
    (let s := ranged
     s.xget (.ch 0) MEM.MARCH_START_OFFSET % 8 = 0 ∧ s.xget (.ch 0) MEM.MARCH_LEN_BYTES % 8 = 0 ∧
       s.xget (.ch 0) MEM.MARCH_LEN_BYTES ≠ 0 ∧
       s.xget (.ch 0) MEM.MARCH_START_OFFSET + s.xget (.ch 0) MEM.MARCH_LEN_BYTES ≤ 8 * memWords (scopePad (.ch 0))) ∧
    (let s := up.modMarch .dev fun y => { y with active := true }
     (s.marchSt .dev).active = true) ∧
    (let s := up
     (s.marchSt .dev).active = false) := by
  decide +kernel

/-- A fault record, and a part with it in the log queue. -/
def rec0 : LogRec := { src := 5, bit := 1, cls := 2 }
def logging : State := upDev fun d => { d with logQueue := [rec0] }

theorem witness_FaultsAreCollectedLoggedClearedAndMasked :
    (let s := upDev fun d => { d with collect := [rec0] }
     s.dev.collect = rec0 :: [] ∧ s.dev.state ≠ .reset ∧ s.dev.state ≠ .off) ∧
    (let s := upDev fun d => { d with collect := [] }
     s.dev.collect = []) ∧
    (let s := upDev fun d => { d with state := .reset }
     s.dev.state = .reset ∨ s.dev.state = .off) ∧
    (up.writeOpen (0x3000 / 0x1000 * 0x1000 + 0x18) reqHost = true) ∧
    (let s := put [(TIM.FLT_TIM_FSM_PAR, 0)]
     s.is 0 TIM.FLT_TIM_FSM_PAR = false) ∧
    (let s := put [(TIM.FLT_TIM_FSM_PAR, 1)]
     s.is 0 TIM.FLT_TIM_FSM_PAR = true) ∧
    ((regDef 0x301C).isSome = true ∧ up.writeOpen 0x301C reqHost = true) ∧
    (let s := upDev fun d => { d with logQueue := [] }
     s.dev.logQueue = []) ∧
    (let s := (logging.dset FLOG.FILL_COUNT 256).memPut (devMem 3) 2 (3 * 2 ^ 10)
     s.dev.logQueue = rec0 :: [] ∧ s.logProtected = true) ∧
    (let s := (logging.dset FLOG.FILL_COUNT 256).memPut (devMem 3) 2 0
     s.dev.logQueue = rec0 :: [] ∧ s.logProtected = false ∧ s.dget FLOG.FILL_COUNT = 256) ∧
    (let s := logging
     s.dev.logQueue = rec0 :: [] ∧ s.dget FLOG.FILL_COUNT ≠ 256) ∧
    (up.writeOpen 0x8048 reqHost = true) := by
  decide +kernel

/-- A channel in Trial with the rest of its slices. -/
def trying (state : Nat) (slices : List Nat) : State :=
  (put [(TRIAL.STATUS_STATE, state), (MBXW.WRIGHT_STATUS_STATE, 4)]).modCh 0 fun c =>
    { c with trial := { active := true, slices, count := 12 } }

theorem witness_TrialRunsItsSlicesUnderTheirBudgets :
    (asks (put [(TRIAL.CFG_MASK, 3), (TRIAL.CFG_COUNT_LOG2, 12)]) TRIAL.CMD_GO (fun s => s.trialRefusal 0 = 0)) ∧
    (asks up TRIAL.CMD_GO (fun s => s.trialRefusal 0 ≠ 0)) ∧
    (let s := trying 1 [0]
     (s.allBegin 0).inTrial 0 = true ∧ (s.allBegin 0).trialState 0 = 1 ∧ (s.allBegin 0).ltxState 0 = 0 ∧
       ((s.allBegin 0).trialAll = false ∨ (s.allBegin 0).groupTurn 0 = true)) ∧
    (let s := up
     (s.allBegin 0).inTrial 0 = false ∨ (s.allBegin 0).trialState 0 ≠ 1 ∨ (s.allBegin 0).ltxState 0 ≠ 0 ∨
       ((s.allBegin 0).trialAll = true ∧ (s.allBegin 0).groupTurn 0 = false)) ∧
    (let s := up
     s.inTrial 0 = false ∨ s.trialState 0 ≠ 4 ∨ s.wrightState 0 = 1) ∧
    (let s := trying 4 []
     s.inTrial 0 = true ∧ s.trialState 0 = 4 ∧ s.wrightState 0 ≠ 1) ∧
    (puts up 0xB044 reqHost (fun s => s.longOp 0xB044 = false ∧ s.pageHeld 0xB044 = false)) ∧
    (let s := upDev fun d => { d with state := .run }
     s.dev.state ≠ .holding ∨ s.trialAll = true) ∧
    (let s := upDev fun d => { d with trialSlices := [] }
     s.dev.trialSlices = []) ∧
    (let s := upDev fun d => { d with trialSlices := [5] }
     s.dev.trialSlices = 5 :: []) ∧
    (let s := (put [(DTRIAL.CMD_MASK, 5)]).modDev fun d => { d with state := .holding }
     s.dev.state = .holding ∧ s.trialAll = false ∧ (List.range 3).filter (s.dget DTRIAL.CMD_MASK).testBit = 0 :: ([2])) := by
  decide +kernel

theorem witness_CheckersLockAndGatesCount :
    (let s := put [(PAT.C_STATE_LOCK_STATE 0, 1), (PAT.C_STATE_UNSUPPORTED 0, 0)]
     s.patLock 0 0 = 1 ∧ s.is 0 (PAT.C_STATE_UNSUPPORTED 0) = false) ∧
    (let s := put [(PAT.C_STATE_LOCK_STATE 0, 0)]
     s.patLock 0 0 ≠ 1 ∨ s.is 0 (PAT.C_STATE_UNSUPPORTED 0) = true) ∧
    (let s := put [(PAT.C_STATE_LOCK_STATE 0, 2)]
     s.patLock 0 0 = 2) ∧
    (let s := put [(PAT.C_STATE_LOCK_STATE 0, 0)]
     s.patLock 0 0 ≠ 2) ∧
    (let s := put [(PAT.C_STATE_GATE 0, 2), (PAT.C_STATE_LOCK_STATE 0, 2)]
     s.patGate 0 0 = 2 ∧ s.patLock 0 0 = 2) ∧
    (let s := put [(PAT.C_STATE_GATE 0, 0)]
     s.patGate 0 0 ≠ 2 ∨ s.patLock 0 0 ≠ 2) ∧
    (let s := put [(PAT.C_STATE_GATE 0, 0)]
     s.patGate 0 0 ≠ 1 ∨ s.patLock 0 0 ≠ 2) ∧
    (let s := put [(PAT.C_STATE_GATE 0, 0)]
     s.patGate 0 0 ≠ 2 ∨ s.get 0 (PAT.C_GATE_US 0) = 0) ∧
    (let s := put [(PAT.C_STATE_GATE 0, 1), (PAT.C_STATE_LOCK_STATE 0, 2)]
     s.patGate 0 0 = 1 ∧ s.patLock 0 0 = 2) ∧
    (let s := put [(PAT.C_STATE_GATE 0, 2), (PAT.C_GATE_US 0, 1)]
     s.patGate 0 0 = 2 ∧ s.get 0 (PAT.C_GATE_US 0) ≠ 0) ∧
    (up.wsOpen 0 (PAT.C_CMD_GATE_GO 0) = true) ∧
    (up.wsOpen 0 (PAT.C_CMD_GATE_STOP 0) = true) ∧
    (let s := put [(PAT.C_STATE_GATE 0, 1)]
     s.patGate 0 0 = 1) ∧
    (let s := put [(PAT.C_STATE_GATE 0, 2)]
     s.patGate 0 0 = 2) ∧
    (let s := put [(PAT.C_STATE_GATE 0, 0)]
     s.patGate 0 0 ≠ 1 ∧ s.patGate 0 0 ≠ 2) ∧
    (up.wsOpen 0 (PAT.C_CMD_CLR 0) = true) ∧
    (up.wsOpen 0 (PAT.G_CMD_ERR_INJ 0) = true) ∧
    (up.writeOpen ((PAT.U_CFG 0).addr 0) reqHost = true) ∧
    (up.writeOpen ((PAT.U_CFG (0 + 3)).addr 0) reqHost = true) := by
  refine ⟨?_, ?_, ?_, ?_, ?_, ?_, ?_, ?_, ?_, ?_, ?_, ?_, ?_, ?_, ?_, ?_, ?_, ?_, ?_⟩ <;> decide +kernel

/-- A channel or device on a power path: its phase and the legs still to run. -/
def leg (x : Scope) (phase : Nat) (p : PwrPath) : State := (up.pset x PWR.STATUS_PHASE phase).modPath x fun _ => p

theorem witness_PowerStatesAreReachedLegByLeg :
    (targetReq (some 0) 0 = true ∧ up.writeOpen (PWR.TARGET.addr 0) 0 = true) ∧
    (targetReq (some 0) reqHopper = false ∧ up.writeOpen (PWR.TARGET.addr 0) reqHopper = true) ∧
    (targetReq none reqMiller = true ∧ up.writeOpen 0x4040 reqMiller = true) ∧
    (targetReq none reqHopper = false ∧ up.writeOpen 0x4040 reqHopper = true) ∧
    (let s := up
     s.refusers (Scope.ch 0) 7 = 0xC :: []) ∧
    (let s := up
     s.refusers (.ch 0) 0 = []) ∧
    (let s := allCh.foldl (fun s n => s.set n PWR.STATUS_STATE 3) up
     s.refusers .dev 6 = []) ∧
    (let s := ((leg (.ch 0) 2 { legs := [2], target := 2 }).set 0 MBXW.WRIGHT_STATUS_STATE 2)
     s.phase (.ch 0) = 2 ∧ (s.path (.ch 0)).deaf = false ∧ s.get 0 MBXW.WRIGHT_STATUS_STATE = 2 ∧
       (s.chan 0).wright.holding = false ∧ (s.chan 0).wright.inReset = false ∧ s.entryRefusers (.ch 0) = []) ∧
    (let s := ((leg (.ch 0) 2 { legs := [2], target := 2 }).set 0 MBXW.WRIGHT_STATUS_STATE 2).set 0 HOP.STATUS_WRITING 1
     s.phase (.ch 0) = 2 ∧ (s.path (.ch 0)).deaf = false ∧ s.get 0 MBXW.WRIGHT_STATUS_STATE = 2 ∧
       (s.chan 0).wright.holding = false ∧ (s.chan 0).wright.inReset = false ∧ s.entryRefusers (.ch 0) = 4 :: []) ∧
    (let s := (leg .dev 2 { legs := [6], target := 6 }).dset MILLER.STATUS_CORE 1 |>.set 0 PWR.STATUS_STATE 3
     s.phase .dev = 2 ∧ (s.path .dev).deaf = false ∧ s.dget MILLER.STATUS_CORE = 1 ∧ s.millerBoxFull = false ∧
       s.channelActive 6 = false) ∧
    (let s := (leg .dev 2 { legs := [6], target := 6 }).dset MILLER.STATUS_CORE 1
     s.phase .dev = 2 ∧ (s.path .dev).deaf = false ∧ s.dget MILLER.STATUS_CORE = 1 ∧ s.millerBoxFull = false ∧
       s.channelActive 6 = true) ∧
    (let s := up
     s.phase (Scope.ch 0) ≠ 2 ∨ (s.path (Scope.ch 0)).deaf = true) ∧
    (let s := put [(MBXW.WRIGHT_STATUS_STATE, 0)]
     s.get 0 MBXW.WRIGHT_STATUS_STATE ≠ 2 ∨ (s.chan 0).wright.holding = true ∨ (s.chan 0).wright.inReset = true) ∧
    (let s := put [(MILLER.STATUS_CORE, 0)]
     s.dget MILLER.STATUS_CORE ≠ 1) ∧
    (let s := leg .dev 2 {}
     s.phase .dev = 2) ∧
    (let s := up
     s.phase .dev ≠ 2) ∧
    (let s := leg (.ch 0) 4 { legs := [1], target := 1 }
     (s.path (Scope.ch 0)).legs = [1] ∧ s.phase (Scope.ch 0) ≠ 0 ∧ s.phase (Scope.ch 0) ≠ 2 ∧ s.legMay (Scope.ch 0) 1 = true) ∧
    (let s := leg (.ch 0) 4 { legs := [1, 4], target := 4 }
     (s.path (Scope.ch 0)).legs = 1 :: 4 :: [] ∧ s.phase (Scope.ch 0) ≠ 0 ∧ s.phase (Scope.ch 0) ≠ 2 ∧
       s.phase (Scope.ch 0) ≠ 3 ∧ s.legMay (Scope.ch 0) 1 = true ∧
       (isEntry (Scope.ch 0) 4 = false ∨
       ((s.pwrReach (Scope.ch 0) 1).modPath (Scope.ch 0) fun p => { p with legs := 4 :: [] }).entryRefusers (Scope.ch 0) = [])
       ∧ ((s.pwrReach (Scope.ch 0) 1).modPath (Scope.ch 0) fun p => { p with legs := 4 :: [] }).dev.shut = false) ∧
    (let s := (leg (.ch 0) 4 { legs := [1, 4], target := 4 }).modDev fun d => { d with shut := true }
     (s.path (Scope.ch 0)).legs = 1 :: 4 :: [] ∧ s.phase (Scope.ch 0) ≠ 0 ∧ s.phase (Scope.ch 0) ≠ 2 ∧
       s.phase (Scope.ch 0) ≠ 3 ∧ s.legMay (Scope.ch 0) 1 = true ∧
       ((s.pwrReach (Scope.ch 0) 1).modPath (Scope.ch 0) fun p => { p with legs := 4 :: [] }).dev.shut = true) ∧
    (let s := ((leg (.ch 0) 4 { legs := [1, 2], target := 2 }).set 0 HOP.STATUS_WRITING 1)
     (s.path (Scope.ch 0)).legs = 1 :: 2 :: [] ∧ s.phase (Scope.ch 0) ≠ 0 ∧ s.phase (Scope.ch 0) ≠ 2 ∧
       s.phase (Scope.ch 0) ≠ 3 ∧ s.legMay (Scope.ch 0) 1 = true ∧ isEntry (Scope.ch 0) 2 = true ∧
       ((s.pwrReach (Scope.ch 0) 1).modPath (Scope.ch 0) fun p => { p with legs := 2 :: [] }).entryRefusers (Scope.ch 0) = 4
       :: [] ∧ ((s.pwrReach (Scope.ch 0) 1).modPath (Scope.ch 0) fun p => { p with legs := 2 :: [] }).dev.shut = false) ∧
    (let s := (leg (.ch 0) 4 { legs := [4], target := 4 }).set 0 TOP.CLK_STATUS_CH_PLL_LOCK 0
     (s.path (.ch 0)).legs.head? = some 4 ∧ s.legMay (.ch 0) 4 = false) ∧
    (let s := (leg (.ch 0) 4 {}).set 0 PWR.FLT_PWR_FSM_PAR.enOf 0
     (s.raiseFsm 0 PWR.FLT_PWR_FSM_PAR).phase (.ch 0) ≠ 0) ∧
    (let s := up
     (s.raiseFsm 0 PWR.FLT_PWR_FSM_PAR).phase (.ch 0) = 0 ∧ ((s.raiseFsm 0 PWR.FLT_PWR_FSM_PAR).path (.ch 0)).latched = 0) ∧
    (up.writeOpen 0x4044 reqHost = true) ∧
    (up.writeOpen (PWR.CMD.addr 0) reqHost = true) := by
  refine ⟨?_, ?_, ?_, ?_, ?_, ?_, ?_, ?_, ?_, ?_, ?_, ?_, ?_, ?_, ?_, ?_, ?_, ?_, ?_, ?_, ?_, ?_, ?_, ?_, ?_⟩ <;> decide +kernel

theorem witness_WakesEndTheSleepThatTheyMeet :
    (up.writeOpen (PWR.CMD_WAKE.addr 0) reqHost = true) ∧
    (let s := put [(PWR.WAKE_EN, 0x1F)]
     bitOf (s.pget (.ch 0) PWR.WAKE_EN) 1 = true ∧ s.dev.shut = false ∧ s.phase (.ch 0) = 0 ∧ (s.path (.ch 0)).latched = 0 ∧
       s.phase .dev = 0 ∧ (s.path .dev).latched = 0) ∧
    (let s := upDev fun d => { d with shut := true }
     s.dev.shut = true) ∧
    (bitOf (up.pget (.ch 0) PWR.WAKE_EN) 5 = false ∧ bitOf (up.pget .dev PWR.WAKE_EN) 7 = false) ∧
    (let s := ((leg (.ch 0) 3 { legs := [2], target := 2, byWake := true }).set 0 PWR.WAKE_EN 0x1F)
     bitOf (s.pget (Scope.ch 0) PWR.WAKE_EN) 1 = true ∧ s.dev.shut = false ∧ s.phase (Scope.ch 0) ≠ 0 ∧
       (s.path (Scope.ch 0)).byWake = true) ∧
    (let s := ((leg (.ch 0) 3 { legs := [2], target := 2 }).set 0 PWR.WAKE_EN 0x1F)
     bitOf (s.pget (Scope.ch 0) PWR.WAKE_EN) 1 = true ∧ s.dev.shut = false ∧ s.phase (Scope.ch 0) ≠ 0 ∧
       (s.path (Scope.ch 0)).byWake = false ∧ isEntry (Scope.ch 0) (s.path (Scope.ch 0)).target = true ∧
       wakeActs (Scope.ch 0) 1 (s.path (Scope.ch 0)).target = true) ∧
    (let s := put [(PWR.WAKE_TIMER_MS, 1)]
     s.get 0 PWR.WAKE_TIMER_MS ≠ 0) ∧
    (let s := up.pset .dev PWR.WAKE_TIMER_MS 5
     s.pget .dev PWR.WAKE_TIMER_MS ≠ 0) ∧
    (let s := up
     s.pget (Scope.ch 0) PWR.WAKE_TIMER_MS = 0) ∧
    (let s := leg .dev 0 { latched := 2 }
     s.phase .dev = 0 ∧ (s.path .dev).latched ≠ 0 ∧ s.dev.shut = false) ∧
    (let s := leg (.ch 0) 0 { latched := 2 }
     s.phase (.ch 0) = 0 ∧ (s.path (.ch 0)).latched ≠ 0 ∧ s.dev.shut = false) ∧
    (let s := up
     s.phase (Scope.ch 0) ≠ 0 ∨ (s.path (Scope.ch 0)).latched = 0 ∨ s.dev.shut = true) ∧
    (let s := (put [(PWR.STATUS_STATE, 3), (PWR.STATUS_PHASE, 0),
      (PWR.STATUS_SAMPLING, 0)]).modDev fun d => { d with refclk := true }
     s.dev.refclk = true ∧ s.chState 0 = 3 ∧ s.chPhase 0 = 0 ∧ s.is 0 PWR.STATUS_SAMPLING = false) ∧
    (let s := upDev fun d => { d with refclk := false }
     s.dev.refclk = false ∨ s.chState 0 ≠ 3 ∨ s.chPhase 0 ≠ 0 ∨ s.is 0 PWR.STATUS_SAMPLING = true) ∧
    (let s := upDev fun d => { d with refclk := false }
     s.dev.refclk = false ∨ s.is 0 PWR.STATUS_SAMPLING = false ∨ s.streamDue 0 1 = false ∨
       s.is 0 GAUGE.FLT_GAUGE_FSM_PAR = true) ∧
    (let s := ((put [(PWR.STATUS_SAMPLING, 1),
      (GAUGE.FLT_GAUGE_FSM_PAR, 0)]).modDev fun d => { d with refclk := true }).setStreamDue 0 1 true
     s.dev.refclk = true ∧ s.is 0 PWR.STATUS_SAMPLING = true ∧ s.streamDue 0 1 = true ∧ s.is 0 GAUGE.FLT_GAUGE_FSM_PAR = false) ∧
    (let s := put [(PWR.STATUS_SAMPLING, 1)]
     s.is 0 PWR.STATUS_SAMPLING = true) ∧
    (let s := put [(PWR.STATUS_SAMPLING, 0)]
     s.is 0 PWR.STATUS_SAMPLING = false) := by
  refine ⟨?_, ?_, ?_, ?_, ?_, ?_, ?_, ?_, ?_, ?_, ?_, ?_, ?_, ?_, ?_, ?_, ?_, ?_⟩ <;> decide +kernel

theorem witness_TheSensorsJudgeTheHottestReading :
    puts up 0xE054 reqHost (fun s => s.longOp 0xE054 = false ∧ s.pageHeld 0xE054 = false) := by
  decide +kernel


/-- A part waiting for its image, with one of 0x108 code bytes and no data in the Miller's memory and key slot 0 programmed. -/
def imaged : State :=
  (List.range 33).foldl
    (fun s w => s.memPut (devMem 0) w (if w = 0 then 0x0000000143503834 else if w = 1 then 0x108 else if w = 2 then 0x100 else 0))
    (upDev fun d => { d with state := .boot, blocking := some ⟨1, 0, 0⟩, fuseWords := [(24, 1)], fuseValid := 0x100FFFF })

/-- Its header passes where SHA-256, which the model leaves open (log entry 5), gives the hash of the slot. -/
theorem imaged_header (hh : Config.sha256 (List.replicate 64 0) = List.replicate 32 0) : imaged.authHeader = 0 := by
  have hk : imaged.headerBytes 0x20 64 = List.replicate 64 0 := by decide +kernel
  have hs : imaged.slotHash 0 = List.replicate 32 0 := by decide +kernel
  have hu : (List.range 2).filter imaged.slotUsable = [0] := by decide +kernel
  unfold State.authHeader
  simp only [hu, hk, hh, hs, List.all_cons, List.all_nil]
  decide +kernel

/-- The message whose signature is checked. -/
def imagedMessage : List Byte := wordBytes [0x0000000143503834, 0x108, 0x100, 0, 0, 0, 0, 0, 0, 0, 0, 0, 0]

/-- What is left of it is decided by ECDSA, which the model leaves open (log entry 5). -/
theorem imaged_message (v : Bool) (hv : Config.ecdsaVerifies (List.replicate 64 0) (List.replicate 64 0) imagedMessage = v) :
    imaged.authMessage.1 = (if v then 0 else 0x15) ∧ imaged.authMessage.2.dev.shut = false := by
  have hk : imaged.headerBytes 0x20 64 = List.replicate 64 0 := by decide +kernel
  have hg : imaged.headerBytes 0x60 64 = List.replicate 64 0 := by decide +kernel
  have hx : (imaged.readWords (devMem 0) 0 12).1 = some [0x0000000143503834, 0x108, 0x100, 0, 0, 0, 0, 0, 0, 0, 0, 0] := by
    decide +kernel
  have hl : imaged.header 8 4 / 8 - 32 = 1 := by decide +kernel
  have hd : imaged.header 0xC 4 / 8 = 0 := by decide +kernel
  have hr : imaged.headerReads 12 8 = true := by decide +kernel
  have hy : ((imaged.readWords (devMem 0) 0 12).2.readWords (devMem 0) 32 1).1 = some [0] := by decide +kernel
  have hz : (((imaged.readWords (devMem 0) 0 12).2.readWords (devMem 0) 32 1).2.readWords (devMem 1) 0 0).1 = some [] := by
    decide +kernel
  have hu : (((imaged.readWords (devMem 0) 0 12).2.readWords (devMem 0) 32 1).2.readWords (devMem 1) 0 0).2.dev.shut = false := by
    decide +kernel
  unfold imagedMessage at hv
  simp only [State.authMessage, hl, hd, hx, hy, hz, hk, hg, hr, List.cons_append, List.nil_append, List.append_nil, hv]
  cases v <;> simp [hu]

/-- The authentication of that image passes where both say so. -/
theorem witness_authenticated (hh : Config.sha256 (List.replicate 64 0) = List.replicate 32 0)
    (hv : Config.ecdsaVerifies (List.replicate 64 0) (List.replicate 64 0) imagedMessage = true) :
    imaged.blockCode = 1 ∧ imaged.is 0 BOOT.STATUS_AUTHENTICATED = false ∧ imaged.authHeader = 0 ∧ imaged.authMessage.1 = 0 ∧
      imaged.authMessage.2.dev.shut = false :=
  ⟨by decide +kernel, by decide +kernel, imaged_header hh, (imaged_message true hv).1, (imaged_message true hv).2⟩

/-- And it fails at the signature where ECDSA says no. -/
theorem witness_notAuthenticated (hh : Config.sha256 (List.replicate 64 0) = List.replicate 32 0)
    (hv : Config.ecdsaVerifies (List.replicate 64 0) (List.replicate 64 0) imagedMessage = false) :
    imaged.blockCode = 1 ∧ imaged.is 0 BOOT.STATUS_AUTHENTICATED = false ∧ imaged.authHeader = 0 ∧ imaged.authMessage.1 ≠ 0 :=
  ⟨by decide +kernel, by decide +kernel, imaged_header hh, by rw [(imaged_message false hv).1]; decide⟩

/-- Two words of one memory at the two ends of the range of words. -/
theorem witness_AFullMemoryWriteReadsBackClean : (0xFFFFF : Nat) < 0x100000 ∧ (0 : Nat) < 0x100000 ∧ ((3, 0) : Nat × Nat) ≠ (3, 0xFFFFF) := by
  decide

/-! ## Steps and packings that the spec works out -/

/-- What a command makes of a state; the state itself where it does not complete. -/
def after (i : Instr) (s : State) : State :=
  match exec i s with
  | .next t => t
  | _ => s

/-- A power-on reset of the part after reset is the part after reset (R83). -/
theorem test_reset_again : State.reset.deviceReset true false BOOT.RESET_CAUSE_POWER_ON = State.reset := by decide +kernel

/-- Chapter 05, worked example: +80 ppm reads 0x0500, and the pre-tap of -14 reads 0xF2. -/
theorem test_signed_fields : (up.setI 0 (HL.CDR_STATUS_PPM 0) (80 * 16)).get 0 (HL.CDR_STATUS_PPM 0) = 0x0500 ∧
    (let s := up.setFirActive 0 0 [-3, 5, -14, 39, -2, 1]
     s.word ((HL.TX_FIR_ACTIVE0 0).addr 0) = 0x00FD05F2 ∧ s.word ((HL.TX_FIR_ACTIVE1 0).addr 0) = 0x0001FE27) := by decide +kernel

/-- Chapter 10, worked example: S = 6,231,862 is code 41, which is above THRESH 40. -/
theorem test_ber_code : berCode (6227702 + 4 * 1040) = 41 := by decide +kernel

/-- Chapter 13, worked example: the check pair of entry 2 reads VALUE 24,817 at THERM, and B's 24,792 beside the run number. -/
theorem test_gauge_result :
    (let s := (put [(GAUGE.CTRL_EN, 1), (GAUGE.STATUS_SEQ_BUSY, 1), (GAUGE.STATUS_CUR_ENTRY, 2), (GAUGE.RUNS, 0x1A40)]).modGauge 0
       fun x => { x with entries := [0x00210300, 0x01100201, 0x02300204, 0x0120000E], len := 3 }
     let t := after (.entryComplete 0 24817 24792) s
     t.word 0x10C110 = 0x884060F1 ∧ t.word 0x10C114 = 0x60D81A40 ∧ t.get 0 GAUGE.STATUS_CUR_ENTRY = 3) := by decide +kernel

/-- Chapter 12, worked example: the frame from Y to Z carries AGE 14. -/
theorem test_relay_age :
    relayAge 0 (TimeVal.ofUnits (13722000 * 65536)) (TimeVal.ofUnits (233920 * 65536)) = 14 := by decide +kernel

/-- Chapter 15, worked example: the record of a flow of 119,001 frames, its words of 64 bits. -/
theorem test_spill_record :
    (let v := ctxAdd (natPut (natPut (ctxNew 4 0xC63364CB0071 1518 12749) 112 48 (119000 * 1518)) 161 40 119000) 1518 72249
     (up.set 0 TALLY.EPOCH 97).spillEntry 0 41973 v 1 = [0x0000C63364CB0071, 0x66BEC00000000000, 0x0003A1B200000AC4,
       0x000468E400C73400, 0, 0, 0x000000610010A3F5, 0]) := by decide +kernel

/-- Chapter 16, worked example: the header of record 37 of channel 0 instead of 3. -/
theorem test_hopper_header :
    (let s := ((upDev fun d => { d with time := ⟨1003, 800000003, 0x6354⟩ }).set 0 HOP.SEQ_NEXT 37).modHop 0 fun x => { x with trig := 1 }
     (s.hopHeader 0).take 3 = [0x0001000152504F48, 0x0803635400000025, 0x0000000003EB2FAF]) := by decide +kernel

/-- Channel 4 in RUN with LTX ON and REG_PAR armed, as chapter 18's worked example begins. -/
def injected : State :=
  (((up.set 4 PWR.STATUS_STATE 4).set 4 TOP.STATUS_MODE_ACTIVE 1).set 4 LTX.STATUS_STATE 3).setWord 0x184020 4

/-- Chapter 18, worked example: the LAG write stores bad parity, stops the light at once and collects the record of entry 0x2C. -/
theorem test_injected_parity_stops_the_light :
    (let t := after (.registerWrite 0x184048 0x14 reqHost) injected
     t.word 0x184048 = 0x14 ∧ t.ltxState 4 = 0 ∧ t.is 4 LTX.STATUS_ABRUPT = true ∧
      t.dev.collect.map (fun r => (r.words 300).drop 2) = [[0x0018404802093904, 0x05040030]]) := by decide +kernel

/-- Its first collection makes the channel safe, with FIRST_STOP 0x8104_0003, SAFE_COUNT 1 and FAULT_N low. -/
theorem test_the_stop_is_noted :
    (let t := after .faultCollect (after (.registerWrite 0x184048 0x14 reqHost) injected)
     t.word (FLT.FIRST_STOP.addr 4) = 0x81040003 ∧ t.get 4 FLT.SAFE_COUNT_COUNT = 1 ∧ t.is 4 FLT.STATUS_SAFE = true ∧
      t.faultPin = true) := by decide +kernel

/-- R159: a valid marker at the locked place of a LOCKED hunter clears its run of misses, counts a period and changes nothing else
but what the channel's levels then are. -/
theorem test_good_marker_keeps_the_lock :
    after (.markerPeriod 0 2 (mk 5 1)) (lined 4) =
      (((lined 4).modHfec 0 fun y => { y with line := { y.line with bad := 0, lanes := 1 } }).sat 0 HFEC.ALIGN_POS_LINE_PERIODS).levels 0 := by
  decide +kernel

/-- R402: the first edge of the PPS is captured with its error and found. -/
theorem test_pps_found :
    (let t := after (.ppsEdge 5) (put [(TIME.CTRL_ALIGN_EN, 0)])
     t.dget TIME.STATUS_PPS_STATE = 1 ∧ t.is 0 TIME.IRQ_PPS_FOUND = true ∧ t.getI 0 TIME.PPS_ERR = 8 ∧ t.dev.ppsSeen = true) := by
  decide +kernel

/-- R12, R95: a command of a busy part: AUTHENTICATE in RUN is refused with RESULT 1 and leaves no blocking period. -/
theorem test_authenticate_in_run_is_refused :
    (let t := after .authenticate up
     t.dget BOOT.CMD_RESULT_RESULT = 1 ∧ t.dget BOOT.CMD_RESULT_CMD = 1 ∧ t.dev.blocking = none) := by decide +kernel

/-- R35: the secondary port's address is 0x3A + ADDRSEL, and on another address nothing is acknowledged. -/
theorem test_i2c_address :
    (let s := (upDev fun d => { d with straps := 2 }).set 0 HOST.CFG_OBS_PORT 1
     s.answers .secondary 0x3C = true ∧ s.answers .secondary 0x3A = false ∧
      (after (.readId ⟨.secondary, 0x3A⟩ 0 .whole) s).dev.secondary.resp = [] ∧
      (after (.readId ⟨.secondary, 0x3C⟩ 0 .whole) s).dev.secondary.resp ≠ []) := by decide +kernel

/-- R156: the lane coefficients in force read preset 3 from reset. -/
theorem test_lane_taps_at_reset :
    State.reset.word ((HL.TX_FIR_ACTIVE0 0).addr 0) = 0x00FE04F2 ∧ State.reset.word ((HL.TX_FIR_ACTIVE1 1).addr 7) = 0x0000FE2A := by
  decide +kernel

/-- Chapter 07, worked example: 250 µs and 500 µs into a raised cosine of 1,000 µs ENVELOPE reads 0x257D and 0x8000. -/
theorem test_ramp_envelope :
    (let s := (put [(LTX.STATUS_STATE, 2)]).modLtx 0 fun x => { x with rampLen := 625000, rampCos := true }
     (s.modDev fun d => { d with ticks := 156250 }).envelope 0 = 0x257D ∧
      (s.modDev fun d => { d with ticks := 312500 }).envelope 0 = 0x8000) := by decide +kernel

/-- Chapter 07, worked example: +3 between −3 and +3 with the dither at +2.5 LSB is code 84 in ON and 12 at g = 0x257D. -/
theorem test_line_sample :
    (let s := ((((put [(LTX.STATUS_STATE, 3), (LTX.CFG_OUTER_CODE, 96), (LTX.FIR_MAIN_ACTIVE_MAIN, 2), (LTX.CFG_DITHER_EN, 1)]).setI 0
        (LTX.FIR_ACTIVE_COEF 1) (-24)).setI 0 (LTX.FIR_ACTIVE_COEF 2) 200).setI 0 (LTX.FIR_ACTIVE_COEF 3) (-32)).setI 0
        (LTX.NL_ACTIVE_CORR 15) 3
     let y := s.firOut 0 [0, 3, 3] 1 9
     y = 624 ∧ nlIndex 0 3 3 = 15 ∧ s.outCode 0 (keep4 (s.sumExact 0 y (s.nlCorr 0 0 15) 40)) 65536 = 84 ∧
      s.outCode 0 (keep4 (s.sumExact 0 y (s.nlCorr 0 0 15) 40)) 0x257D = 12) := by decide +kernel

/-- Chapter 05, worked example: SNR 21.4 dB reads 342. -/
theorem test_lane_snr :
    (let s := put [(HL.STATUS_STATE 0, 3), (HL.STATUS_FRAME_LOCK 0, 1)]
     (after (.trainMeasurement 0 0 21400 0 (List.replicate 24 0) 0) s).get 0 (HL.SNR_DB16 0) = 342) := by decide +kernel

end Sys2Proof.Tests
end

section
/-! PROOFS. The statements of 00_scope.md about reset (R13, R420), fields and counts (R8), the access codes of a register
(R9, R11, R15) and held ws requests (R12), each after the laws that it rests on. -/

namespace Sys2Proof.Machine

/-! ## Commands whose outcome is one operation -/

theorem exec_registerWrite (a : Nat) (data : Word) (req : Nat) (s : State) :
    exec (.registerWrite a data req) s = .next (s.actPut a data req) := rfl

theorem exec_wsHeldAccept (page : Nat) (s : State) : exec (.wsHeldAccept page) s = .next (doWsHeldAccept page s) := rfl

/-! ## Fields and counts (R8) -/

/-- A field write leaves every bit outside the field alone, those of its own register among them. -/
theorem State.word_set_getLsbD (s : State) {n : Ch} {f : Field} (v : Nat) {a i : Nat} (hi : i < 32)
    (h : a ≠ f.addr n ∨ i < f.lo ∨ f.lo + f.w ≤ i) : ((s.set n f v).word a).getLsbD i = (s.word a).getLsbD i := by
  by_cases ha : f.addr n = a
  · have hout : ¬ (f.lo ≤ i ∧ i < f.lo + f.w) := by omega
    subst ha
    unfold State.set
    rw [State.word_setWord_same, setBits_getLsbD _ _ _ _ _ hi, if_neg hout]
  · rw [State.word_set_ne s v ha]

/-- The two registers of a 64-bit count lie apart. -/
theorem Field.addr_next_ne (n : Ch) (f : Field) : f.next.addr n ≠ f.addr n := by
  unfold Field.next Field.addr
  dsimp only
  omega

/-- A 64-bit count reads as the low 64 bits of what was last written to it. -/
theorem State.get64_set64 (s : State) (n : Ch) {f : Field} (v : Nat) (hlo : f.lo = 0) (hw : f.w = 32) :
    (s.set64 n f v).get64 n f = v % 2 ^ 64 := by
  have low : (s.set64 n f v).get n f = v % 2 ^ 32 := by
    unfold State.set64
    rw [State.get_set_addr _ _ (Field.addr_next_ne n f), State.get_set_same _ _ _ _ (by omega), hw]
  have high : (s.set64 n f v).get n f.next = v / 2 ^ 32 % 2 ^ 32 := by
    have hfit : f.next.lo + f.next.w ≤ 32 := by
      unfold Field.next
      dsimp only
      omega
    unfold State.set64
    rw [State.get_set_same _ _ _ _ hfit, show f.next.w = 32 from hw]
  unfold State.get64
  rw [low, high]
  omega

theorem State.get64_add64 (s : State) (n : Ch) {f : Field} (k : Nat) (hlo : f.lo = 0) (hw : f.w = 32) :
    (s.add64 n f k).get64 n f = (s.get64 n f + k) % 2 ^ 64 :=
  State.get64_set64 s n _ hlo hw

theorem State.get64_sat64 (s : State) (n : Ch) {f : Field} (k : Nat) (hlo : f.lo = 0) (hw : f.w = 32) :
    (s.sat64 n f k).get64 n f = min (s.get64 n f + k) (2 ^ 64 - 1) :=
  (State.get64_set64 s n _ hlo hw).trans (Nat.mod_eq_of_lt (by omega))

theorem State.get_sat (s : State) (n : Ch) {f : Field} (k : Nat) (h : f.lo + f.w ≤ 32) :
    (s.sat n f k).get n f = min (s.get n f + k) (2 ^ f.w - 1) := by
  have hpos : 0 < 2 ^ f.w := Nat.two_pow_pos f.w
  exact (State.get_set_same s n f _ h).trans (Nat.mod_eq_of_lt (by omega))

theorem State.get_incr (s : State) (n : Ch) {f : Field} (k : Nat) (h : f.lo + f.w ≤ 32) :
    (s.incr n f k).get n f = (s.get n f + k) % 2 ^ f.w :=
  State.get_set_same s n f _ h

/-- Settles O7, from the laws of one field write: a count's operations each write its field, or its two registers. -/
theorem fieldsAndCountersChangeAsTheirRulesSay : Obligations.FieldsAndCountersChangeAsTheirRulesSay := by
  unfold Obligations.FieldsAndCountersChangeAsTheirRulesSay
  refine ⟨fun s n f v h => ⟨State.get_set_same s n f v h, fun a i hi hout => State.word_set_getLsbD s v hi hout,
    State.set_cell s n f v, State.set_dev s n f v, State.set_ch s n f v⟩, fun s n f k => ⟨?_, ?_, ?_, ?_⟩⟩
  · exact State.get64_add64 s n k
  · exact State.get64_sat64 s n k
  · exact State.get_sat s n k
  · exact State.get_incr s n k

/-! ## A register write by the access codes alone (R9, R11, R15) -/

/-- Data that name no ws bit request nothing. -/
theorem State.wsWrites_of_wsMask_zero (t : State) {a : Nat} (data : Word) (h : wsMask a = 0) (k : Nat) :
    t.wsWrites a data k = t := by
  induction k with
  | zero => rfl
  | succ k ih =>
    unfold State.wsWrites
    simp [h, ih]

theorem State.codedWrite_of_wsMask_zero (t : State) {a : Nat} (data : Word) (h : wsMask a = 0) :
    t.codedWrite a data = (t.plainWrite a data).afterWrite a := by
  unfold State.codedWrite
  rw [State.wsWrites_of_wsMask_zero _ _ h]

/-- Settles O9: such a write is stored by the access codes (`regStore_coded`), requests nothing, and `actPut_full` says what an
open write does beside. -/
theorem aRegisterWriteObeysTheAccessCodes : Obligations.ARegisterWriteObeysTheAccessCodes := by
  unfold Obligations.ARegisterWriteObeysTheAccessCodes
  intro s a data req hopen hcoded hws
  have hstore : (s.seen a req).regStore a data req = (codeOk, ((s.seen a req).plainWrite a data).afterWrite a) := by
    rw [regStore_coded _ data req hcoded, State.codedWrite_of_wsMask_zero _ _ hws]
  rw [exec_registerWrite, actPut_full hopen hstore]
  rfl

/-! ## Held ws requests (R12) -/

section
variable {s : State} {a b : Nat} (hbusy : (s.longOp a || s.pageHeld a) = true) (hfree : wsFree a b = false)

include hbusy hfree

/-- A request that must wait is held behind the older ones, and its bit reads 1. -/
theorem State.wsWrite_hold (hnew : (a, b) ∉ s.dev.held) :
    s.wsWrite a b = (s.setWord a (setBits (s.word a) b 1 1)).modDev fun d => { d with held := d.held ++ [(a, b)] } := by
  unfold State.wsWrite
  simp [hbusy, hfree, hnew]

/-- A request that is held already has no further effect. -/
theorem State.wsWrite_held_again (hold : (a, b) ∈ s.dev.held) : s.wsWrite a b = s := by
  unfold State.wsWrite
  simp [hbusy, hfree, hold]

end

/-- The page's oldest held request is accepted once the long operation has ended. -/
theorem doWsHeldAccept_accept {s : State} {page : Nat} {h : Nat × Nat}
    (hfind : s.dev.held.find? (fun g => g.1 / 0x1000 == page / 0x1000) = some h) (hend : s.longOp h.1 = false) :
    doWsHeldAccept page s =
      let t := s.modDev fun d => { d with held := d.held.filter fun g => g != h }
      ((t.setWord h.1 (setBits (t.word h.1) h.2 1 0)).wsAct h.1 h.2).afterWrite h.1 := by
  unfold doWsHeldAccept
  simp [hfind, hend]

/-- Nothing is accepted while every held request of the page meets a long operation. -/
theorem doWsHeldAccept_wait {s : State} {page : Nat}
    (hwait : ∀ h ∈ s.dev.held, h.1 / 0x1000 = page / 0x1000 → s.longOp h.1 = true) : doWsHeldAccept page s = s := by
  unfold doWsHeldAccept
  split
  · rfl
  next g hfind =>
    have hpage : g.1 / 0x1000 = page / 0x1000 := by simpa using List.find?_some hfind
    rw [if_pos (hwait g (List.mem_of_find?_eq_some hfind) hpage)]

/-- Settles O11: the two outcomes of a ws bit written while its page is busy, and the two of WS_HELD_ACCEPT. -/
theorem aHeldRequestWaitsForTheLongOperation : Obligations.AHeldRequestWaitsForTheLongOperation := by
  unfold Obligations.AHeldRequestWaitsForTheLongOperation
  refine ⟨fun s a b hbusy hfree hnew => ?_, fun s a b => State.wsWrite_held_again, fun s page a b hfind hend => ?_,
    fun s page hwait => ?_⟩
  · rw [State.wsWrite_hold hbusy hfree hnew]
    refine ⟨rfl, fun hb => ?_⟩
    rw [State.modDev_word, State.word_setWord_same, setBits_getLsbD _ _ _ _ _ hb, if_pos (by omega), Nat.sub_self]
    rfl
  · rw [exec_wsHeldAccept, doWsHeldAccept_accept hfind hend]
  · rw [exec_wsHeldAccept, doWsHeldAccept_wait hwait]

/-! ## Reset (R13, R420) -/

/-- After reset only RESET_CAUSE holds another word than its Reset value. -/
theorem State.reset_word {a : Nat} (h : a ≠ BOOT.RESET_CAUSE.addr 0) : State.reset.word a = resetWord a :=
  if_neg (Ne.symm h)

theorem State.reset_cell (a : Nat) : State.reset.cell a = memDefault a := rfl

theorem State.reset_canonical : State.reset.canonical = true :=
  (State.canonical_iff _).mpr ⟨(Store.wf_cons _).mpr ⟨by simp, by decide, rfl⟩, rfl⟩

/-- A word of memory begins at a multiple of 16, eight data bytes before its syndrome. -/
theorem memAddr_mod (m w : Nat) : memAddr m w % 16 = 0 := Nat.mul_mod_left _ 16

/-- Bytes that meet no syndrome read 0 after reset. -/
theorem State.reset_bytesLE (k : Nat) {a : Nat} (h : a % 16 + k ≤ 8) : State.reset.bytesLE a k = 0 := by
  induction k generalizing a with
  | zero => rfl
  | succ k ih =>
    have hbyte : State.reset.cell a = 0 := if_neg (by omega)
    unfold State.bytesLE
    rw [ih (by omega), hbyte]
    rfl

theorem State.reset_memData (m w : Nat) : State.reset.memData m w = 0 :=
  State.reset_bytesLE 8 (by rw [memAddr_mod])

theorem State.reset_ecc (m w : Nat) : State.reset.ecc m w = .poison := by
  have hsyn : State.reset.cell (memAddr m w + 8) = 0x81 := if_pos (by rw [Nat.add_mod, memAddr_mod])
  unfold State.ecc State.memSyn
  rw [hsyn]
  decide

/-- Settles O3: the one register off its Reset value is RESET_CAUSE, and an unlisted memory word reads as poisoned. -/
theorem resetLeavesTheResetValues : Obligations.ResetLeavesTheResetValues := by
  unfold Obligations.ResetLeavesTheResetValues
  refine ⟨rfl, State.reset_canonical, by decide, fun a d ha hrow => ?_,
    fun m w => ⟨State.reset_ecc m w, State.reset_memData m w⟩⟩
  rw [State.reset_word ha]
  unfold resetWord
  rw [hrow]

end Sys2Proof.Machine
end

section
/-! PROOFS. The statements of 01_channel_architecture.md: REFCLK and the device PLL (R22, R80, R81, R103), the mode sequence (R30,
R31), and the channel's PLL, holdover, crossings and offsets (R20 to R24, R32, R230). -/

namespace Sys2Proof.Machine

/-! ## A command's statement from the operation that performs it -/

theorem When.of_exec {c : Instr} {may : State → Prop} {f op : State → State} (hexec : ∀ s, exec c s = .next (f s))
    (h : ∀ s, may s → f s = op s) : When c may op :=
  fun s hs => (hexec s).trans (congrArg _ (h s hs))

theorem Event.of_exec {c : Ch → Instr} {may : State → Ch → Prop} {f : Ch → State → State} {op : State → Ch → State}
    (hexec : ∀ s n, exec (c n) s = .next (f n s)) (h : ∀ s n, may s n → f n s = op s n) : Event c may op :=
  fun s n hs => (hexec s n).trans (congrArg _ (h s n hs))

/-- The host's write of one plain ws field does what the field requests (`actPut_ws`). -/
theorem RequestWhen.of_wsAct {c : Ch → Instr} {f : Field} {may : State → Ch → Prop} {op : State → Ch → State}
    (hexec : ∀ s n, exec (c n) s = .next (s.actPut (f.addr n) (oneBit f) reqHost)) (hf : wsField f = true)
    (h : ∀ t n, may t n → t.wsAct (f.addr n) f.lo = op t n) : RequestWhen c f may op := by
  intro s n hopen hmay
  rw [hexec, actPut_ws hopen hf, h _ n hmay]

/-! ## REFCLK and the device PLL (R22, R80, R81, R103) -/

/-- Settles O18: in each clause the guard of the event is open, and what it guards is the clause's state. -/
theorem clocksCarryThePartIntoBoot : Obligations.ClocksCarryThePartIntoBoot := by
  unfold Obligations.ClocksCarryThePartIntoBoot
  refine ⟨When.of_exec (fun _ => rfl) fun s ⟨hclk, hpow⟩ => ?loss, When.of_exec (fun _ => rfl) fun s ⟨hclk, hpow⟩ => ?back,
    fun ok => When.of_exec (fun _ => rfl) fun s ⟨hstate, hboot, hmon, hrel, hclk, htest⟩ => ?boot,
    fun us => When.of_exec (fun _ => rfl) fun s ⟨hboot, hclk, hlock⟩ => ?lock,
    When.of_exec (fun _ => rfl) fun s hs => ?retry, When.of_exec (fun _ => rfl) fun s ⟨hlock, hclk⟩ => ?unlock⟩
  case loss =>
    unfold doRefclkLoss
    rw [if_neg (by simp [hclk]), if_neg (by simp [hpow])]
  case back =>
    have hpow' : (s.modDev fun d => { d with refclk := true }).powered = true := hpow
    unfold doRefclkReturn
    rw [if_neg (by simp [hclk])]
    exact if_pos hpow'
  case boot =>
    unfold doBootStart
    rw [if_neg (by simp [hstate, hboot, hmon, hrel, hclk, htest])]
  case lock =>
    unfold doDevPllLock
    rw [if_neg (by simp [hboot, hclk, hlock])]
  case retry => exact if_pos hs
  case unlock =>
    unfold doDevPllUnlock
    rw [if_neg (by simp [hlock, hclk])]

/-! ## The mode sequence (R30, R31) -/

theorem State.wsAct_modeApplyGo (t : State) (n : Ch) :
    t.wsAct (TOP.MODE_APPLY_GO.addr n) TOP.MODE_APPLY_GO.lo = t.modeGo n := by
  obtain ⟨hpage, hoff, hch⟩ := chField_addr (f := TOP.MODE_APPLY_GO) (by decide) n
  have hpage0 : pageCode (TOP.MODE_APPLY_GO.addr 0) = 0x20 := by decide
  have hoff0 : TOP.MODE_APPLY_GO.addr 0 % 0x1000 = 0x44 := by decide
  unfold State.wsAct
  simp only [hpage, hoff, hch, hpage0, hoff0]

/-- Where a mode GO is granted (R2, R6, R30). -/
theorem State.modeRefusal_eq_zero_iff (s : State) (n : Ch) :
    s.modeRefusal n = 0 ↔
      s.chState n = 1 ∧ s.chPhase n = 0 ∧ s.is n TOP.CTRL_EN = false ∧ s.get n TOP.MODE_CFG_MODE ≠ 0 ∧
      ¬ (s.get n TOP.MODE_CFG_MODE = 3 ∧ s.caps % 8 = 3) ∧
      ¬ (s.get n TOP.MODE_CFG_MODE = 1 ∧ s.is n TOP.MODE_CFG_HOST_OPT = true) := by
  unfold State.modeRefusal
  extract_lets m
  split_ifs with hrest hen hmode hpart hopt
  · refine iff_of_false (by decide) fun ⟨hstate, hphase, _⟩ => ?_
    exact hrest.elim (absurd hstate) (absurd hphase)
  · simp [hen]
  · simp [m, hmode]
  · simp [m, hpart]
  · simp [m, hopt]
  · obtain ⟨hstate, hphase⟩ := not_or.mp hrest
    exact iff_of_true rfl
      ⟨not_not.mp hstate, not_not.mp hphase, Bool.eq_false_of_not_eq_true hen, hmode, hpart, hopt⟩

/-- Settles O28: the two branches of GO, the guard of MODE_DONE, and `State.modeRefusal_eq_zero_iff`. -/
theorem aModeGoIsRefusedOrRunsItsSequence : Obligations.AModeGoIsRefusedOrRunsItsSequence := by
  unfold Obligations.AModeGoIsRefusedOrRunsItsSequence
  have hfield : wsField TOP.MODE_APPLY_GO = true := by decide +kernel
  refine ⟨RequestWhen.of_wsAct (fun _ _ => rfl) hfield fun t n hr => ?refused,
    RequestWhen.of_wsAct (fun _ _ => rfl) hfield fun t n hr => ?granted,
    Event.of_exec (fun _ _ => rfl) fun s n ⟨hbusy, htrial, hclk⟩ => ?done,
    Event.of_exec (fun _ _ => rfl) fun s n hidle => ?idle, State.modeRefusal_eq_zero_iff⟩
  case refused =>
    rw [State.wsAct_modeApplyGo]
    exact if_pos hr
  case granted =>
    rw [State.wsAct_modeApplyGo]
    exact if_neg (not_not.mpr hr)
  case done =>
    unfold doModeDone
    rw [if_neg (by simp [hbusy, htrial, hclk])]
  case idle => exact if_pos (.inl hidle)

/-! ## The channel's clocks (R20 to R24, R31, R32, R230) -/

theorem clampI_bounds {lo hi : Int} (h : lo ≤ hi) (v : Int) : lo ≤ clampI lo hi v ∧ clampI lo hi v ≤ hi := by
  unfold clampI
  split_ifs <;> omega

/-- HOST_IN is phase-locked to every lane that carries traffic once its locks are written so (R20). -/
theorem State.hostInLocked_set_locks (s : State) (n : Ch) (p : Bool)
    (hp : s.is n TOP.STATUS_ACTIVE_HOST_OPT = false ∨ p = true) :
    ((s.set n TOP.STATUS_HOST_LOCK 1).set n TOP.STATUS_HOST_LOCK_P (if p then 1 else 0)).hostInLocked n = true := by
  unfold State.hostInLocked State.is at *
  have hlock : TOP.STATUS_HOST_LOCK_P.apart TOP.STATUS_HOST_LOCK = true := by decide
  have hopt : TOP.STATUS_HOST_LOCK_P.apart TOP.STATUS_ACTIVE_HOST_OPT = true := by decide
  have hopt' : TOP.STATUS_HOST_LOCK.apart TOP.STATUS_ACTIVE_HOST_OPT = true := by decide
  rw [State.get_set_apart _ _ hlock, State.get_set_apart _ _ hopt, State.get_set_apart _ _ hopt',
    State.get_set_same _ _ TOP.STATUS_HOST_LOCK _ (by decide), State.get_set_same _ _ TOP.STATUS_HOST_LOCK_P _ (by decide)]
  rcases hp with hp | hp
  · simp [hp, TOP.STATUS_HOST_LOCK]
  · simp [hp, TOP.STATUS_HOST_LOCK, TOP.STATUS_HOST_LOCK_P]

/-- Outside holdover CORE_TX is steered within 250 ppm (R20). -/
theorem State.coreTxOffset_bounds {s : State} {n : Ch} (h : s.is n TOP.STATUS_HOLDOVER = false) (tx : Int) :
    -4000 ≤ s.coreTxOffset n tx ∧ s.coreTxOffset n tx ≤ 4000 := by
  unfold State.coreTxOffset
  rw [if_pos h]
  exact clampI_bounds (by decide) tx

section
variable {s : State} {n : Ch} (h : s.is n TOP.STATUS_HOLDOVER = true)
include h

/-- In holdover CORE_TX stays at nominal while the host lane is away (R20). -/
theorem State.coreTxOffset_holdover (hlane : s.hostLaneOk n 0 = false) (tx : Int) : s.coreTxOffset n tx = 0 := by
  unfold State.coreTxOffset
  rw [if_neg (by simp [h]), if_neg (by simp [hlane])]

/-- With the host lane back CORE_TX slews between nominal and the host's offset (R21). -/
theorem State.coreTxOffset_slew (hlane : s.hostLaneOk n 0 = true) (tx : Int) :
    min 0 (s.getI n (HL.CDR_STATUS_PPM 0)) ≤ s.coreTxOffset n tx ∧
      s.coreTxOffset n tx ≤ max 0 (s.getI n (HL.CDR_STATUS_PPM 0)) := by
  unfold State.coreTxOffset
  rw [if_neg (by simp [h]), if_pos hlane]
  exact clampI_bounds ((min_le_left _ _).trans (le_max_left _ _)) tx

end

/-- With the timing loop locked CORE_RX stays within 1 ppm of it (R230). -/
theorem State.coreRxOffset_bounds {s : State} {n : Ch} (h : s.is n TIM.STATUS_TIM_LOCK = true) (rx : Int) :
    (s.coreRxOffset n rx - s.getI n TIM.FREQ_PPM).natAbs ≤ 16 := by
  unfold State.coreRxOffset
  extract_lets f
  rw [if_pos h]
  have hclamp := clampI_bounds (show f - 16 ≤ f + 16 by omega) rx
  omega

/-- Settles O29: the guard of each event, the locks that HOLDOVER_EXIT writes (`State.hostInLocked_set_locks`) and the bounds of
the two offsets. -/
theorem channelClocksFollowTheirLocks : Obligations.ChannelClocksFollowTheirLocks := by
  unfold Obligations.ChannelClocksFollowTheirLocks
  refine ⟨Event.of_exec (fun _ _ => rfl) fun s n ⟨hbusy, htrial⟩ => ?timeout,
    Event.of_exec (fun _ _ => rfl) fun s n ⟨hlock, hclk⟩ => ?unlock,
    Event.of_exec (fun _ _ => rfl) fun s n ⟨hwait, hmode, hstate, hclk⟩ => ?relock,
    Event.of_exec (fun _ _ => rfl) fun s n ⟨hhold, hlane, hopt⟩ => ?holdover,
    fun x fill hfill => Event.of_exec (fun _ _ => rfl) fun s n hon => ?slips,
    fun x fill hlo hhi => Event.of_exec (fun _ _ => rfl) fun s n _ => ?within,
    fun tx rx => Event.of_exec (fun _ _ => rfl) fun s n hlock => ?offsets,
    fun s n tx rx => ⟨fun h => State.coreTxOffset_bounds h tx, fun h hlane => State.coreTxOffset_holdover h hlane tx,
      fun h hlane => State.coreTxOffset_slew h hlane tx, fun h => State.coreRxOffset_bounds h rx⟩⟩
  case timeout => exact if_neg (by simp [hbusy, htrial])
  case unlock => exact if_neg (by simp [hlock, hclk])
  case relock =>
    unfold doChPllRelock
    exact if_pos (by simpa [hwait, hmode, hclk] using hstate)
  case holdover =>
    unfold doHoldoverExit
    rw [if_neg (by simp [hhold, hlane])]
    simp only [State.hostInLocked_set_locks s n (s.hostLaneOk n 1) hopt, if_true]
  case slips => exact if_neg (not_or.mpr ⟨by simp [hon], by omega⟩)
  case within => exact if_pos (.inr ⟨hlo, hhi⟩)
  case offsets => exact if_neg (by simp [hlock])

end Sys2Proof.Machine
end

section
/-! PROOFS. The statements of 02_register_model.md about every step and the register bus: no step unmakes a fuse (R73, R101), and
a write that may not act (R45, R58, R62, R112). -/

namespace Sys2Proof.Machine

/-! ## No command unmakes a fuse (R73, R101) -/

/-- The outcome is a next state, and it keeps what every operation keeps. -/
def KeepsNext (s : State) : Host.Outcome State Fault Refusal → Prop
  | .next t => Keeps s t
  | _ => False

/-- Every command answers a next state that keeps the queue, the canonical form, the identity and the programmed fuses: one
operation's law for each command. -/
theorem exec_keepsNext (s : State) : (i : Instr) → KeepsNext s (exec i s)
  | .hostRead .. => keeps_doHostRead (.refl s) ..
  | .hostWrite .. => keeps_doHostWrite (.refl s) ..
  | .statusCommand .. => keeps_doStatusCommand (.refl s) ..
  | .readId .. => keeps_doReadId (.refl s) ..
  | .writeBufferDrain .. => keeps_doWriteBufferDrain (.refl s) ..
  | .registerWrite .. => keeps_doRegisterWrite (.refl s) ..
  | .wsHeldAccept .. => keeps_doWsHeldAccept (.refl s) ..
  | .powerOn .. => keeps_doPowerOn (.refl s) ..
  | .resetNAssert => keeps_doResetNAssert (.refl s)
  | .resetNRelease .. => keeps_doResetNRelease (.refl s) ..
  | .brownout .. => keeps_doBrownout (.refl s) ..
  | .railFault .. => keeps_doRailFault (.refl s) ..
  | .refclkLoss => keeps_doRefclkLoss (.refl s)
  | .refclkReturn => keeps_doRefclkReturn (.refl s)
  | .bootStart .. => keeps_doBootStart (.refl s) ..
  | .devPllLock .. => keeps_doDevPllLock (.refl s) ..
  | .devPllLockRetry => keeps_doDevPllLockRetry (.refl s)
  | .devPllUnlock => keeps_doDevPllUnlock (.refl s)
  | .romCheckDone .. => keeps_doRomCheckDone (.refl s) ..
  | .authenticate => keeps_doAuthenticate (.refl s)
  | .authComplete => keeps_doAuthComplete (.refl s)
  | .firmwareTrialAll => keeps_doFirmwareTrialAll (.refl s)
  | .trialAll => keeps_doTrialAll (.refl s)
  | .trialAllEnd => keeps_doTrialAllEnd (.refl s)
  | .commit => keeps_doCommit (.refl s)
  | .otpProgram => keeps_doOtpProgram (.refl s)
  | .blockingEnd .. => keeps_doBlockingEnd (.refl s) ..
  | .blockOverrun => keeps_doBlockOverrun (.refl s)
  | .swreset .. => keeps_doSwreset (.refl s) ..
  | .softwareReset => keeps_doSoftwareReset (.refl s)
  | .chReset .. => keeps_doChReset (.refl s) ..
  | .chResetComplete .. => keeps_doChResetComplete (.refl s) ..
  | .millerReset => keeps_doMillerReset (.refl s)
  | .millerRestart => keeps_doMillerRestart (.refl s)
  | .millerWatchdogExpiry .. => keeps_doMillerWatchdog (.refl s) ..
  | .millerTrap .. => keeps_doMillerTrap (.refl s) ..
  | .fwReady .. => keeps_doFwReady (.refl s) ..
  | .wrightWatchdogExpiry .. => keeps_doWrightWatchdog (.refl s) ..
  | .wrightTrap .. => keeps_doWrightTrap (.refl s) ..
  | .wrightRestart .. => keeps_doWrightRestart (.refl s) ..
  | .wrightImageCopyDone .. => keeps_doWrightImageCopyDone (.refl s) ..
  | .mbxPayloadWrite .. => keeps_doMbxPayloadWrite (.refl s) ..
  | .mbxRing .. => keeps_doMbxRing (.refl s) ..
  | .mbxTake .. => keeps_doMbxTake (.refl s) ..
  | .mbxAgeTick .. => keeps_doMbxAgeTick (.refl s) ..
  | .hostEpochWrite .. => keeps_doHostEpochWrite (.refl s) ..
  | .responsePost .. => keeps_doResponsePost (.refl s) ..
  | .heldCommandStart .. => keeps_doHeldCommandStart (.refl s) ..
  | .m2wAgeTimeout .. => keeps_doM2wAgeTimeout (.refl s) ..
  | .ping .. => keeps_doPing (.refl s) ..
  | .fwInfo .. => keeps_doFwInfo (.refl s) ..
  | .chPower .. => keeps_doChPower (.refl s) ..
  | .chBringup .. => keeps_doChBringup (.refl s) ..
  | .hostRetrain .. => keeps_doHostRetrain (.refl s) ..
  | .dressPass .. => keeps_doDressPass (.refl s) ..
  | .trialCh .. => keeps_doTrialCh (.refl s) ..
  | .trialStatus .. => keeps_doTrialStatus (.refl s) ..
  | .mrSend .. => keeps_doMrSend (.refl s) ..
  | .scrub .. => keeps_doScrub (.refl s) ..
  | .memTest .. => keeps_doMemTest (.refl s) ..
  | .restartWright .. => keeps_doRestartWright (.refl s) ..
  | .modeApplyGo .. => keeps_doModeApplyGo (.refl s) ..
  | .modeDone .. => keeps_doModeDone (.refl s) ..
  | .chPllLockTimeout .. => keeps_doChPllLockTimeout (.refl s) ..
  | .chPllUnlock .. => keeps_doChPllUnlock (.refl s) ..
  | .holdoverExit .. => keeps_doHoldoverExit (.refl s) ..
  | .xingSlip .. => keeps_doXingSlip (.refl s) ..
  | .hostSigDetect .. => keeps_doHostSigDetect (.refl s) ..
  | .hostSigFall .. => keeps_doHostSigFall (.refl s) ..
  | .cdrLock .. => keeps_doCdrLock (.refl s) ..
  | .frameLock .. => keeps_doFrameLock (.refl s) ..
  | .trainRequestReceived .. => keeps_doTrainRequest (.refl s) ..
  | .trainMeasurement .. => keeps_doTrainMeasurement (.refl s) ..
  | .trainNoresp .. => keeps_doTrainNoresp (.refl s) ..
  | .trainDone .. => keeps_doTrainDone (.refl s) ..
  | .trainTimeout .. => keeps_doTrainTimeout (.refl s) ..
  | .autoRetrainRetry .. => keeps_doAutoRetrain (.refl s) ..
  | .lockLost .. => keeps_doLockLost (.refl s) ..
  | .retrain .. => keeps_doRetrain (.refl s) ..
  | .txFirWrite .. => keeps_doTxFirWrite (.refl s) ..
  | .hostGuardWindow .. => keeps_doHostGuardWindow (.refl s) ..
  | .laneFsmPar .. => keeps_doLaneFsmPar (.refl s) ..
  | .markerPeriod .. => keeps_doMarkerPeriod (.refl s) ..
  | .slipGo .. => keeps_doSlipGo (.refl s) ..
  | .slipApply .. => keeps_doSlipApply (.refl s) ..
  | .manualSwitch .. => keeps_doManualSwitch (.refl s) ..
  | .codewordDecode .. => keeps_doCodewordDecode (.refl s) ..
  | .serWindowEnd .. => keeps_doSerWindowEnd (.refl s) ..
  | .hfecClrCnt .. => keeps_doHfecClrCnt (.refl s) ..
  | .hfecFsmPar .. => keeps_doHfecFsmPar (.refl s) ..
  | .leadEnd .. => keeps_doLeadEnd (.refl s) ..
  | .rampUpEnd .. => keeps_doRampUpEnd (.refl s) ..
  | .rampDownEnd .. => keeps_doRampDownEnd (.refl s) ..
  | .lagEnd .. => keeps_doLagEnd (.refl s) ..
  | .firApply .. => keeps_doFirApply (.refl s) ..
  | .nlLoad .. => keeps_doNlLoad (.refl s) ..
  | .nlBankSwitch .. => keeps_doNlBankSwitch (.refl s) ..
  | .nlParity .. => keeps_doNlParity (.refl s) ..
  | .dacSatWindow .. => keeps_doDacSatWindow (.refl s) ..
  | .txdisMismatch .. => keeps_doTxdisMismatch (.refl s) ..
  | .ltxFsmPar .. => keeps_doLtxFsmPar (.refl s) ..
  | .sdRawRise .. => keeps_doSdRawRise (.refl s) ..
  | .sdRawFall .. => keeps_doSdRawFall (.refl s) ..
  | .gainMeasurement .. => keeps_doGainMeasurement (.refl s) ..
  | .gainAcqTimeout .. => keeps_doGainAcqTimeout (.refl s) ..
  | .gainReacq .. => keeps_doGainReacq (.refl s) ..
  | .reacqStep .. => keeps_doReacqStep (.refl s) ..
  | .rmsWindow .. => keeps_doRmsWindow (.refl s) ..
  | .gainModeWrite .. => keeps_doGainModeWrite (.refl s) ..
  | .tandemWindow .. => keeps_doTandemWindow (.refl s) ..
  | .plausWindow .. => keeps_doPlausWindow (.refl s) ..
  | .plausTest .. => keeps_doPlausTest (.refl s) ..
  | .plausTestEnd .. => keeps_doPlausTestEnd (.refl s) ..
  | .swap .. => keeps_doSwap (.refl s) ..
  | .waitGuardTimeout .. => keeps_doWaitGuardTimeout (.refl s) ..
  | .bankSwapSwitch .. => keeps_doBankSwapSwitch (.refl s) ..
  | .shadowEnWrite .. => keeps_doShadowEnWrite (.refl s) ..
  | .capArm .. => keeps_doCapArm (.refl s) ..
  | .capTrigger .. => keeps_doCapTrigger (.refl s) ..
  | .capDone .. => keeps_doCapDone (.refl s) ..
  | .capAbort .. => keeps_doCapAbort (.refl s) ..
  | .clipWindow .. => keeps_doClipWindow (.refl s) ..
  | .lrxClrStats .. => keeps_doLrxClrStats (.refl s) ..
  | .lrxFsmPar .. => keeps_doLrxFsmPar (.refl s) ..
  | .pfApply .. => keeps_doPfApply (.refl s) ..
  | .phaseErrWindow .. => keeps_doPhaseErrWindow (.refl s) ..
  | .timRange .. => keeps_doTimRange (.refl s) ..
  | .timReacq .. => keeps_doTimReacq (.refl s) ..
  | .quickEqRefresh .. => keeps_doQuickEqRefresh (.refl s) ..
  | .freqUpdate .. => keeps_doFreqUpdate (.refl s) ..
  | .deskewCoarseApply .. => keeps_doDeskewCoarse (.refl s) ..
  | .fineSlewStep .. => keeps_doFineSlewStep (.refl s) ..
  | .timClrStats .. => keeps_doTimClrStats (.refl s) ..
  | .timFsmPar .. => keeps_doTimFsmPar (.refl s) ..
  | .lmsUpdate .. => keeps_doLmsUpdate (.refl s) ..
  | .dressNotice .. => keeps_doDressNotice (.refl s) ..
  | .noticeEnd .. => keeps_doNoticeEnd (.refl s) ..
  | .guardWindowEnd .. => keeps_doGuardWindow (.refl s) ..
  | .guardLong .. => keeps_doGuardLong (.refl s) ..
  | .eqRestart .. => keeps_doEqRestart (.refl s) ..
  | .eyeStart .. => keeps_doEyeStart (.refl s) ..
  | .eyePhaseEnd .. => keeps_doEyePhaseEnd (.refl s) ..
  | .eyeAbort .. => keeps_doEyeAbort (.refl s) ..
  | .eqClrStats .. => keeps_doEqClrStats (.refl s) ..
  | .eqFsmPar .. => keeps_doEqFsmPar (.refl s) ..
  | .acqWindowEnd .. => keeps_doAcqWindowEnd (.refl s) ..
  | .lockWindowEnd .. => keeps_doLockWindowEnd (.refl s) ..
  | .blockDecode .. => keeps_doBlockDecode (.refl s) ..
  | .berWindowEnd .. => keeps_doBerWindowEnd (.refl s) ..
  | .boltClrCnt .. => keeps_doBoltClrCnt (.refl s) ..
  | .boltFsmPar .. => keeps_doBoltFsmPar (.refl s) ..
  | .dressCmdPass .. => keeps_doDressCmdPass (.refl s) ..
  | .dressCmdAbort .. => keeps_doDressCmdAbort (.refl s) ..
  | .firstPassTrigger .. => keeps_doFirstPassTrigger (.refl s) ..
  | .measureWindowEnd .. => keeps_doMeasureWindowEnd (.refl s) ..
  | .trimStep .. => keeps_doTrimStep (.refl s) ..
  | .deferTimeout .. => keeps_doDeferTimeout (.refl s) ..
  | .dressFsmPar .. => keeps_doDressFsmPar (.refl s) ..
  | .mrFrameStart .. => keeps_doMrFrameStart (.refl s) ..
  | .mrFrameEnd .. => keeps_doMrFrameEnd (.refl s) ..
  | .mrTxAbort .. => keeps_doMrTxAbort (.refl s) ..
  | .txFlush .. => keeps_doTxFlush (.refl s) ..
  | .beaconDue .. => keeps_doBeaconDue (.refl s) ..
  | .echo .. => keeps_doEcho (.refl s) ..
  | .preambleDetect .. => keeps_doPreambleDetect (.refl s) ..
  | .syncDetect .. => keeps_doSyncDetect (.refl s) ..
  | .rxNosync .. => keeps_doRxNosync (.refl s) ..
  | .headerDecoded .. => keeps_doHeaderDecoded (.refl s) ..
  | .payloadDecoded .. => keeps_doPayloadDecoded (.refl s) ..
  | .farLost .. => keeps_doFarLost (.refl s) ..
  | .rxPop .. => keeps_doRxPop (.refl s) ..
  | .dupExpire .. => keeps_doDupExpire (.refl s) ..
  | .relayEntryWrite .. => keeps_doRelayEntryWrite (.refl s) ..
  | .mrFsmPar .. => keeps_doMrFsmPar (.refl s) ..
  | .mrMemPar .. => keeps_doMrMemPar (.refl s) ..
  | .relayPar .. => keeps_doRelayPar (.refl s) ..
  | .gaugeTrigger .. => keeps_doGaugeTrigger (.refl s) ..
  | .gaugeTimerTrigger .. => .ite (keeps_doGaugeTimerTrigger (.refl s) ..) (.refl s)
  | .entryComplete .. => .ite (keeps_doEntryComplete (.refl s) ..) (.refl s)
  | .streamDue .. => .ite (keeps_doStreamDue (.refl s) ..) (.refl s)
  | .streamResult .. => .ite (keeps_doStreamResult (.refl s) ..) (.refl s)
  | .dieTempDue .. => .ite (keeps_doDieTempDue (.refl s) ..) (.refl s)
  | .dieTempResult .. => .ite (keeps_doDieTempResult (.refl s) ..) (.refl s)
  | .readbackDue .. => .ite (keeps_doReadbackDue (.refl s) ..) (.refl s)
  | .readbackResult .. => .ite (keeps_doReadbackResult (.refl s) ..) (.refl s)
  | .gaugeDiag .. => keeps_doGaugeDiag (.refl s) ..
  | .diagDone .. => .ite (keeps_doDiagDone (.refl s) ..) (.refl s)
  | .gaugeClrStats .. => keeps_doGaugeClrStats (.refl s) ..
  | .gaugeFsmPar .. => keeps_doGaugeFsmPar (.refl s) ..
  | .dacCfgWrite .. => keeps_doDacCfgWrite (.refl s) ..
  | .dacDataPush .. => keeps_doDacDataPush (.refl s) ..
  | .dacTick .. => .ite (keeps_doDacTick (.refl s) ..) (.refl s)
  | .clampPeriodEnd .. => .ite (keeps_doClampPeriodEnd (.refl s) ..) (.refl s)
  | .voutnLost => keeps_doVoutnLost (.refl s)
  | .outFsmPar .. => keeps_doOutFsmPar (.refl s) ..
  | .kilnEnWrite .. => keeps_doKilnEnWrite (.refl s) ..
  | .kilnTick .. => .ite (keeps_doKilnTick (.refl s) ..) (.refl s)
  | .kilnSat .. => .ite (keeps_doKilnSat (.refl s) ..) (.refl s)
  | .integWrite .. => keeps_doIntegWrite (.refl s) ..
  | .kilnFsmPar .. => keeps_doKilnFsmPar (.refl s) ..
  | .tallyFrame .. => keeps_doTallyFrame (.refl s) ..
  | .epochBoundary .. => keeps_doEpochBoundary (.refl s) ..
  | .sweepDone .. => keeps_doSweepDone (.refl s) ..
  | .scanPass .. => keeps_doScanPass (.refl s) ..
  | .spillRdWrite .. => keeps_doSpillRdWrite (.refl s) ..
  | .tallyFlush .. => keeps_doTallyFlush (.refl s) ..
  | .flushDone .. => keeps_doFlushDone (.refl s) ..
  | .tallySnap .. => keeps_doTallySnap (.refl s) ..
  | .tallyQuery .. => keeps_doTallyQuery (.refl s) ..
  | .tallyInit .. => keeps_doTallyInit (.refl s) ..
  | .initDone .. => keeps_doInitDone (.refl s) ..
  | .tallyClrCnt .. => keeps_doTallyClrCnt (.refl s) ..
  | .tallyFsmPar .. => keeps_doTallyFsmPar (.refl s) ..
  | .selectorWrite .. => keeps_doSelectorWrite (.refl s) ..
  | .counterPreset .. => keeps_doCounterPreset (.refl s) ..
  | .counterLoRead .. => keeps_doCounterLoRead (.refl s) ..
  | .timeNowRead .. => keeps_doTimeNowRead (.refl s) ..
  | .timeSet => keeps_doTimeSet (.refl s)
  | .timeAdjust => keeps_doTimeAdjust (.refl s)
  | .ppsEdge .. => keeps_doPpsEdge (.refl s) ..
  | .ppsLoss => keeps_doPpsLoss (.refl s)
  | .secondRollover => keeps_doSecondRollover (.refl s)
  | .ppsOutPulseEnd => keeps_doPpsOutPulseEnd (.refl s)
  | .hopperBoundary .. => keeps_doHopperBoundary (.refl s) ..
  | .hopperDump .. => keeps_doHopperDump (.refl s) ..
  | .hopperLatch .. => keeps_doHopperLatch (.refl s) ..
  | .hopperWriteDone .. => keeps_doHopperWriteDone (.refl s) ..
  | .hopRdIdxWrite .. => keeps_doHopRdIdxWrite (.refl s) ..
  | .hopFsmPar .. => keeps_doHopFsmPar (.refl s) ..
  | .cntSelPar .. => keeps_doCntSelPar (.refl s) ..
  | .timePar => keeps_doTimePar (.refl s)
  | .scrubGo .. => keeps_doScrubGo (.refl s) ..
  | .scrubStop .. => keeps_doScrubStop (.refl s) ..
  | .scrubPassEnd .. => keeps_doScrubPassEnd (.refl s) ..
  | .eccWriteback .. => keeps_doEccWriteback (.refl s) ..
  | .leakTick .. => keeps_doLeakTick (.refl s) ..
  | .marchGo .. => keeps_doMarchGo (.refl s) ..
  | .marchSliceEnd .. => keeps_doMarchSliceEnd (.refl s) ..
  | .marchBudgetEnd .. => keeps_doMarchBudgetEnd (.refl s) ..
  | .memCtrlPar .. => keeps_doMemCtrlPar (.refl s) ..
  | .faultCollect => keeps_doFaultCollect (.refl s)
  | .logEntryWrite => keeps_doLogEntryWrite (.refl s)
  | .faultClear .. => keeps_doFaultClear (.refl s) ..
  | .fltEnWrite .. => keeps_doFltEnWrite (.refl s) ..
  | .selfFault .. => keeps_doSelfFault (.refl s) ..
  | .flogRdIdxWrite .. => keeps_doFlogRdIdxWrite (.refl s) ..
  | .trialGo .. => keeps_doTrialGo (.refl s) ..
  | .trialSlicesStart .. => keeps_doTrialSlicesStart (.refl s) ..
  | .trialSliceEnd .. => keeps_doTrialSliceEnd (.refl s) ..
  | .trialBudgetExpiry .. => keeps_doTrialBudgetExpiry (.refl s) ..
  | .trialRestoreEnd .. => keeps_doTrialRestoreEnd (.refl s) ..
  | .devTrialGo .. => keeps_doDevTrialGo (.refl s) ..
  | .trialFsmPar .. => keeps_doTrialFsmPar (.refl s) ..
  | .patCfgWrite .. => keeps_doPatCfgWrite (.refl s) ..
  | .checkerLock .. => keeps_doCheckerLock (.refl s) ..
  | .checkerLockLost .. => keeps_doCheckerLockLost (.refl s) ..
  | .gateGo .. => keeps_doGateGo (.refl s) ..
  | .gateOpen .. => keeps_doGateOpen (.refl s) ..
  | .gateClose .. => keeps_doGateClose (.refl s) ..
  | .gateStop .. => keeps_doGateStop (.refl s) ..
  | .patClr .. => keeps_doPatClr (.refl s) ..
  | .errInj .. => keeps_doErrInj (.refl s) ..
  | .patFsmPar .. => keeps_doPatFsmPar (.refl s) ..
  | .jtagInstruction .. => keeps_doJtagInstruction (.refl s) ..
  | .trstNAssert => keeps_doTrstNAssert (.refl s)
  | .chPwrTarget .. => keeps_doChPwrTarget (.refl s) ..
  | .devPwrTarget .. => keeps_doDevPwrTarget (.refl s) ..
  | .controllerWait .. => keeps_doControllerWait (.refl s) ..
  | .waitTimeout .. => keeps_doWaitTimeout (.refl s) ..
  | .legComplete .. => keeps_doLegComplete (.refl s) ..
  | .chWakeCmd .. => keeps_doChWakeCmd (.refl s) ..
  | .wakeTimerExpiry .. => keeps_doWakeTimerExpiry (.refl s) ..
  | .wakeReplay .. => keeps_doWakeReplay (.refl s) ..
  | .watchSampleStart .. => .ite (keeps_doWatchSampleStart (.refl s) ..) (.refl s)
  | .watchSampleResult .. => .ite (keeps_doWatchSampleResult (.refl s) ..) (.refl s)
  | .watchSampleEnd .. => keeps_doWatchSampleEnd (.refl s) ..
  | .pwrClrStats .. => keeps_doPwrClrStats (.refl s) ..
  | .pwrFsmPar .. => keeps_doPwrFsmPar (.refl s) ..
  | .pwrSeqPar => keeps_doPwrSeqPar (.refl s)
  | .sensUpdate .. => keeps_doSensUpdate (.refl s) ..
  | .clrPeak => keeps_doClrPeak (.refl s)
  | .capPreFilled .. => keeps_doCapPreFilled (.refl s) ..
  | .coreOffsetUpdate .. => keeps_doCoreOffsetUpdate (.refl s) ..
  | .cdrPpmUpdate .. => keeps_doCdrPpmUpdate (.refl s) ..
  | .chPllRelock .. => keeps_doChPllRelock (.refl s) ..
  | .voutnReturn => keeps_doVoutnReturn (.refl s)
  | .railReturn .. => keeps_doRailReturn (.refl s) ..

/-- A step, of a command or of the time clock, takes one entry from the queue and keeps the canonical form, the identity and the
programmed fuses. -/
theorem step_keepsNext (s : State) : KeepsNext { s with pending := s.pending.tail } (step s) := by
  unfold step
  cases hp : s.pending with
  | nil =>
    have hs : Keeps { s with pending := [] } s := ⟨hp, id, rfl, rfl, fun _ hw => hw, fun _ _ hb => hb⟩
    exact keeps_elapse hs 1
  | cons c rest => exact exec_keepsNext { s with pending := rest } c

/-- Settles O6: a step is a command or a tick of the time clock, and both keep identity and fuses (`step_keepsNext`). -/
theorem fusesOnlyEverGoFromZeroToOne : Obligations.FusesOnlyEverGoFromZeroToOne := by
  unfold Obligations.FusesOnlyEverGoFromZeroToOne
  intro s t hstep
  have hkeeps := step_keepsNext s
  rw [hstep] at hkeeps
  exact ⟨hkeeps.order, hkeeps.uid, hkeeps.valid, hkeeps.bits⟩

/-! ## A write that may not act (R45, R58, R62, R112) -/

/-- A write that its target does not take is counted, where it lies in a page, and a refused processor traps. -/
theorem State.actPut_unreached {s : State} {a : Nat} {data : Word} {req : Nat} (hbusy : s.busyPin = false)
    (hreach : s.regReach a ≠ codeOk) :
    s.actPut a data req =
      (if inPage a then s.countBus (addrCh? a) 0x12 req (regLoc a) else s).accessTrap req (s.regReach a) := by
  unfold State.actPut State.busPut
  rw [if_neg (by simp [hbusy])]
  by_cases hpage : inPage a = true
  · simp only [hpage, Bool.not_true, Bool.false_eq_true, if_false, if_true, if_pos hreach]
    rfl
  · simp only [hpage, Bool.not_false, if_true, Bool.false_eq_true, if_false]

/-- The host's write in a blocking period is discarded (R58). -/
theorem State.actPut_busy {s : State} (hbusy : s.busyPin = true) (a : Nat) (data : Word) : s.actPut a data reqHost = s :=
  if_pos ⟨rfl, hbusy⟩

/-- A requester that is no processor does not trap. -/
theorem State.accessTrap_other (s : State) {req : Nat} (c : Code) (hm : req ≠ reqMiller) (hw : reqWright? req = none) :
    s.accessTrap req c = s := by
  unfold State.accessTrap
  simp [hm, hw]

theorem State.accessTrap_miller {s : State} {c : Code} (hc : c ≠ codeOk) (hrun : s.dget MILLER.STATUS_CORE = 1) :
    s.accessTrap reqMiller c = s.millerRestart 4 := by
  unfold State.accessTrap
  rw [if_neg hc, if_pos rfl, if_pos hrun]

theorem State.accessTrap_wright (s : State) {c : Code} {req : Nat} {n : Ch} (hc : c ≠ codeOk) (hm : req ≠ reqMiller)
    (hw : reqWright? req = some n) : s.accessTrap req c = s.wrightRestart n 4 := by
  unfold State.accessTrap
  rw [if_neg hc, if_neg hm]
  simp only [hw]

theorem State.regReach_undecoded (s : State) {a : Nat} (h : decoded a = false) : s.regReach a = (7, 0x60) := by
  unfold State.regReach
  simp [h]

theorem State.regReach_unpowered {s : State} {n : Ch} {f : Field} (hf : chField f = true) (hdec : decoded (f.addr n) = true)
    (htrial : s.inTrial n = false) (hoff : s.pageOn n (pageCode (f.addr n) - 0x20) = false) :
    s.regReach (f.addr n) = (4, 0x31) := by
  obtain ⟨-, -, hch⟩ := chField_addr hf n
  obtain ⟨hbase, -⟩ := of_decide_eq_true hf
  have hhigh : ¬ f.addr n < 0x100000 := by
    unfold Field.addr
    omega
  unfold State.regReach
  simp [hdec, hhigh, hch, htrial, hoff]

/-- Settles O10: the bus refuses the write before its target (`State.actPut_unreached`), and the laws of reach and traps say with
what code and effect. -/
theorem aWriteThatMayNotActIsOnlyCountedOrDiscarded : Obligations.AWriteThatMayNotActIsOnlyCountedOrDiscarded := by
  unfold Obligations.AWriteThatMayNotActIsOnlyCountedOrDiscarded
  refine ⟨fun s a data req hbusy hreach => ?_, fun s c req => s.accessTrap_other c, fun s c => State.accessTrap_miller,
    fun s c req n => s.accessTrap_wright, fun s a => s.regReach_undecoded, fun s n f => State.regReach_unpowered,
    fun s a data hbusy => ?_⟩
  · rw [exec_registerWrite, State.actPut_unreached hbusy hreach]
  · rw [exec_registerWrite, State.actPut_busy hbusy]

end Sys2Proof.Machine
end

section
/-! PROOFS. The statements of 02_register_model.md about the host port: read and write transactions (R35, R38, R41, R45, R51, R52,
R58), the status command and READ_ID (R43, R47, R48), and transactions discarded whole (R40, R42, R44, R46). -/

namespace Sys2Proof.Machine

/-! ## Ports and transactions -/

/-- The state of a port rewritten. -/
@[simp] theorem State.port_modPort_same (s : State) (p : Port) (f : PortState → PortState) :
    (s.modPort p f).port p = f (s.port p) := by
  cases p <;> rfl

/-- The state of the other port. -/
theorem State.port_modPort_ne (s : State) {p q : Port} (f : PortState → PortState) (h : q ≠ p) :
    (s.modPort p f).port q = s.port q := by
  cases p <;> cases q
  case primary.primary => exact absurd rfl h
  case primary.secondary => rfl
  case secondary.primary => rfl
  case secondary.secondary => exact absurd rfl h

theorem exec_hostRead (p : Port) (i2c : BitVec 7) (low : BitVec 6) (addr : BitVec 24) (count : Nat) (framing : Framing)
    (late : List Nat) (s : State) :
    exec (.hostRead ⟨p, i2c⟩ low addr count framing late) s = .next (doHostRead p i2c low addr count framing late s) := rfl

theorem exec_hostWrite (p : Port) (i2c : BitVec 7) (low : BitVec 6) (addr : BitVec 24) (data : List Word) (framing : Framing)
    (drains : List Nat) (s : State) :
    exec (.hostWrite ⟨p, i2c⟩ low addr data framing drains) s =
      .next (doHostWrite p i2c low addr data framing drains s) := rfl

/-! ## What discards a whole transaction (R40, R42, R45, R58) -/

section
variable {s : State} {framing : Framing} {a : Nat} {reserved : Bool}

theorem State.txnRefusal_busy (hbusy : s.busyPin = true) : s.txnRefusal framing a reserved = some (1, 0x01) := if_pos hbusy

variable (hbusy : s.busyPin = false)
include hbusy

theorem State.txnRefusal_cut (hcut : framing = .inCommand ∨ framing = .inAddress) :
    s.txnRefusal framing a reserved = some (4, 0x33) := by
  unfold State.txnRefusal
  simp [hbusy, hcut]

variable (hwords : framing = .whole ∨ framing = .inWord)
include hwords

theorem State.txnRefusal_misaligned (ha : a % 4 ≠ 0) : s.txnRefusal framing a reserved = some (7, 0x61) := by
  unfold State.txnRefusal
  rcases hwords with rfl | rfl <;> simp [hbusy, ha]

theorem State.txnRefusal_aligned (ha : a % 4 = 0) :
    s.txnRefusal framing a reserved = if reserved then some (7, 0x62) else none := by
  unfold State.txnRefusal
  rcases hwords with rfl | rfl <;> simp [hbusy, ha]

end

/-- The reasons of R45 for discarding a whole transaction. -/
theorem State.txnRefusal_mem {s : State} {framing : Framing} {a : Nat} {reserved : Bool} {c : Code}
    (h : s.txnRefusal framing a reserved = some c) : c ∈ [(1, 0x01), (4, 0x33), (7, 0x61), (7, 0x62)] := by
  unfold State.txnRefusal at h
  split_ifs at h <;> simp_all

/-- A transaction outside a blocking period, framed and aligned as it should be, is not discarded. -/
theorem State.txnRefusal_whole_eq_none {s : State} {a : Nat} {reserved : Bool} (hbusy : s.busyPin = false) (ha : a % 4 = 0)
    (hres : reserved = false) : s.txnRefusal .whole a reserved = none := by
  rw [State.txnRefusal_aligned hbusy (.inl rfl) ha, hres]
  rfl

/-! ## A read transaction (R35, R38, R41, R45) -/

section
variable {s : State} {p : Port} {i2c : BitVec 7} {low : BitVec 6} {addr : BitVec 24}

/-- A read transaction that nothing discards answers the words of its burst and completes. -/
theorem doHostRead_whole (count : Nat) (late : List Nat) (hans : s.answers p i2c = true)
    (hnone : (s.txnBegin p (cmdByte 0 low)).txnRefusal .whole addr.toNat (burstReserved (burstOf low)) = none) :
    doHostRead p i2c low addr count .whole late s =
      (((s.txnBegin p (cmdByte 0 low)).readBurst p (isObs low) late addr.toNat 0 (burstLimit (burstOf low) count)).2.txnEnd
        p).modPort p fun x => { x with resp :=
          ((s.txnBegin p (cmdByte 0 low)).readBurst p (isObs low) late addr.toNat 0 (burstLimit (burstOf low) count)).1 } := by
  unfold doHostRead
  simp [hans, hnone, State.partialWord]

/-- A port that does not answer does nothing (R35). -/
theorem doHostRead_unanswered (count : Nat) (framing : Framing) (late : List Nat) (hans : s.answers p i2c = false) :
    doHostRead p i2c low addr count framing late s = s := by
  unfold doHostRead
  simp [hans]

end

/-- A burst of one word whose target gives OK is that word. -/
theorem State.readBurst_one {s u : State} {p : Port} {obs : Bool} {a : Nat} {v : Word}
    (h : s.portGet p obs a = ((codeOk, v), u)) : s.readBurst p obs [] a 0 1 = ([v], u) := by
  simp [State.readBurst, h, codeOk]

/-- An I2C port answers its own address only (R35). -/
theorem State.i2c_of_answers {s : State} {p : Port} {i2c : BitVec 7} (hans : s.answers p i2c = true)
    (hport : s.i2cPort p = true) : i2c.toNat = 0x3A + s.dev.straps.toNat % 4 := by
  unfold State.answers at hans
  simp only [hport, Bool.not_true, Bool.false_or, Bool.and_eq_true, beq_iff_eq] at hans
  exact hans.2

/-- Settles O12: the transaction's one path that nothing discards (`doHostRead_whole`), with a burst of one word run on it. -/
theorem aHostReadRespondsWithTheWordsOfItsBurst : Obligations.AHostReadRespondsWithTheWordsOfItsBurst := by
  unfold Obligations.AHostReadRespondsWithTheWordsOfItsBurst
  refine ⟨?burst, ?one, ?away, fun s i2c => ⟨fun hans => State.i2c_of_answers hans rfl,
    fun hsel hans => State.i2c_of_answers hans hsel⟩⟩
  case burst =>
    intro s p i2c low addr count late hans s1 hnone r
    rw [exec_hostRead, doHostRead_whole count late hans hnone]
  case one =>
    intro s p i2c low addr v u hans hburst hbusy haddr hget
    have hnone := State.txnRefusal_whole_eq_none hbusy haddr (show burstReserved (burstOf low) = false by rw [hburst]; rfl)
    have hlimit : burstLimit (burstOf low) 1 = 1 := by rw [hburst]; rfl
    refine ⟨_, exec_hostRead .., ?_⟩
    rw [doHostRead_whole 1 [] hans hnone, State.port_modPort_same, hlimit, State.readBurst_one hget]
  case away =>
    intro s p i2c low addr count framing late hans
    rw [exec_hostRead, doHostRead_unanswered count framing late hans]

/-! ## A write transaction and the write buffer (R35, R51, R52, R58) -/

theorem exec_writeBufferDrain (p : Port) (s : State) :
    exec (.writeBufferDrain p) s = .next (doWriteBufferDrain p s) := rfl

section
variable {s u : State} {p : Port} {i2c : BitVec 7} {low : BitVec 6} {addr : BitVec 24} {data : List Word} {drains : List Nat}

/-- A write transaction that nothing discards and whose words all pass into the buffer. -/
theorem doHostWrite_buffered (hans : s.answers p i2c = true)
    (hnone : (s.txnBegin p (cmdByte 1 low)).txnRefusal .whole addr.toNat (burstReserved (burstOf low)) = none)
    (hburst : (s.txnBegin p (cmdByte 1 low)).writeBurst p (isObs low) addr.toNat
      (data.take (burstLimit (burstOf low) data.length)) drains = (none, u)) :
    doHostWrite p i2c low addr data .whole drains s = u.txnSettle p := by
  unfold doHostWrite
  simp [hans, hnone, hburst, State.partialWord]

/-- One of whose words starts a blocking command, at the transaction's end. -/
theorem doHostWrite_starts {x : BufWord} (hans : s.answers p i2c = true)
    (hnone : (s.txnBegin p (cmdByte 1 low)).txnRefusal .whole addr.toNat (burstReserved (burstOf low)) = none)
    (hburst : (s.txnBegin p (cmdByte 1 low)).writeBurst p (isObs low) addr.toNat
      (data.take (burstLimit (burstOf low) data.length)) drains = (some x, u)) :
    doHostWrite p i2c low addr data .whole drains s = (u.drainWord p x).txnEnd p := by
  unfold doHostWrite
  simp [hans, hnone, hburst, State.partialWord]

theorem doHostWrite_unanswered (framing : Framing) (hans : s.answers p i2c = false) :
    doHostWrite p i2c low addr data framing drains s = s := by
  unfold doHostWrite
  simp [hans]

end

/-- A drain takes the oldest buffered word to its target. -/
theorem State.drain_one {s : State} {p : Port} {x : BufWord} {l : List BufWord} (h : (s.port p).buf = x :: l) :
    s.drain p 1 = (s.modPort p fun y => { y with buf := l }).drainWord p x := by
  simp [State.drain, h]

theorem State.drain_empty {s : State} {p : Port} (h : (s.port p).buf = []) (k : Nat) : s.drain p k = s := by
  cases k with
  | zero => rfl
  | succ k => simp [State.drain, h]

/-- A port without a transaction completes none. -/
theorem State.txnEnd_idle {s : State} {p : Port} (h : (s.port p).txn = none) : s.txnEnd p = s := by
  unfold State.txnEnd
  simp [h]

theorem State.txnSettle_idle {s : State} {p : Port} (h : (s.port p).txn = none) : s.txnSettle p = s := by
  unfold State.txnSettle
  simp [State.txnEnd_idle h]

/-- Settles O13: the transaction's one paths that nothing discards, and a drain of one word. -/
theorem aHostWriteBuffersTheWordsOfItsBurst : Obligations.AHostWriteBuffersTheWordsOfItsBurst := by
  unfold Obligations.AHostWriteBuffersTheWordsOfItsBurst
  refine ⟨?burst, ?away, ?oldest, ?nothing⟩
  case burst =>
    intro s p i2c low addr data drains hans s1 hnone r
    rcases hr : r with ⟨_ | x, u⟩
    · rw [exec_hostWrite, doHostWrite_buffered hans hnone hr]
    · rw [exec_hostWrite, doHostWrite_starts hans hnone hr]
  case away =>
    intro s p i2c low addr data framing drains hans
    rw [exec_hostWrite, doHostWrite_unanswered framing hans]
  case oldest =>
    intro s p x l hbuf
    rw [exec_writeBufferDrain]
    unfold doWriteBufferDrain
    rw [State.drain_one hbuf]
  case nothing =>
    intro s p hbuf htxn
    rw [exec_writeBufferDrain]
    unfold doWriteBufferDrain
    rw [State.drain_empty hbuf, State.txnSettle_idle htxn]

/-! ## A whole register written -/

/-- A field that is its whole register leaves the value written. -/
theorem State.word_set_whole (s : State) (n : Ch) {f : Field} (v : Nat) (hlo : f.lo = 0) (hw : f.w = 32) :
    (s.set n f v).word (f.addr n) = BitVec.ofNat 32 v := by
  unfold State.set
  rw [State.word_setWord_same, hlo, hw]
  refine BitVec.eq_of_getLsbD_eq fun i hi => ?_
  rw [setBits_getLsbD _ _ _ _ _ hi, if_pos (by omega), BitVec.getLsbD_ofNat]
  simp [hi]

/-- The bits of a number stored as a word. -/
theorem getBits_ofNat (v lo w : Nat) (h : lo + w ≤ 32) : getBits (BitVec.ofNat 32 v) lo w = v / 2 ^ lo % 2 ^ w := by
  apply Nat.eq_of_testBit_eq
  intro i
  rw [getBits_testBit, BitVec.getLsbD_ofNat, Nat.testBit_mod_two_pow, Nat.testBit_div_two_pow]
  by_cases hi : i < w
  · simp [show lo + i < 32 by omega, Nat.add_comm]
  · simp [hi]

/-! ## What a port's rewriting leaves alone, and the end of a transaction (R43 to R46, R74) -/

@[simp] theorem State.modPort_word (s : State) (p : Port) (f : PortState → PortState) (a : Nat) :
    (s.modPort p f).word a = s.word a := by
  cases p <;> rfl

@[simp] theorem State.modPort_get (s : State) (p : Port) (f : PortState → PortState) (n : Ch) (g : Field) :
    (s.modPort p f).get n g = s.get n g := by
  cases p <;> rfl

@[simp] theorem State.modPort_cell (s : State) (p : Port) (f : PortState → PortState) (a : Nat) :
    (s.modPort p f).cell a = s.cell a := by
  cases p <;> rfl

@[simp] theorem State.modPort_ch (s : State) (p : Port) (f : PortState → PortState) : (s.modPort p f).ch = s.ch := by
  cases p <;> rfl

@[simp] theorem State.modPort_time (s : State) (p : Port) (f : PortState → PortState) :
    (s.modPort p f).dev.time = s.dev.time := by
  cases p <;> rfl

@[simp] theorem State.modPort_state (s : State) (p : Port) (f : PortState → PortState) :
    (s.modPort p f).dev.state = s.dev.state := by
  cases p <;> rfl

theorem State.port_of_dev {s t : State} (h : t.dev = s.dev) (p : Port) : t.port p = s.port p := by
  cases p <;> simp only [State.port, h]

/-- A transaction that has begun waits on its port with its command byte (R45). -/
theorem State.txn_txnBegin (s : State) (p : Port) (cmd : Nat) : ((s.txnBegin p cmd).port p).txn = some { cmd } := by
  unfold State.txnBegin State.txnOpen
  rw [State.port_modPort_same]

section
variable {s : State} {p : Port} {t : TxnRec} (h : (s.port p).txn = some t)
include h

/-- A completed transaction leaves its port with the CODE of its first failing word, 0 without one (R43). -/
theorem State.port_txnEnd :
    (s.txnEnd p).port p = { s.port p with txn := none, code := (t.fail.getD (0, 0, 0)).1 } := by
  unfold State.txnEnd
  simp only [h, State.port_modPort_same]
  rw [State.port_of_dev (s := s)]
  unfold State.dirq State.incr
  split <;> simp only [State.set_dev]

/-- The last-error record of a port names the first failing word and the number of failing words (R46). -/
theorem State.word_lastErr_txnEnd :
    (s.txnEnd p).word ((lastErr p).1.addr 0) =
      BitVec.ofNat 32 (min 255 t.fails * 2 ^ 24 + (t.fail.getD (0, 0, 0)).2.1 * 2 ^ 16 + t.cmd / 32 % 8 * 256 +
        (t.fail.getD (0, 0, 0)).1) := by
  have haddr : (lastErr p).2.1.addr 0 ≠ (lastErr p).1.addr 0 := by cases p <;> decide
  have htxn : HOST.TXN_COUNT.addr 0 ≠ (lastErr p).1.addr 0 := by cases p <;> decide
  have herr : HOST.ERR_COUNT.addr 0 ≠ (lastErr p).1.addr 0 := by cases p <;> decide
  have hirq : (lastErr p).2.2.addr 0 ≠ (lastErr p).1.addr 0 := by cases p <;> decide
  have hwhole : (lastErr p).1.lo = 0 ∧ (lastErr p).1.w = 32 := by cases p <;> decide
  unfold State.txnEnd State.dirq State.incr
  simp only [h, State.modPort_word]
  split
  · rw [State.word_set_ne _ _ htxn, State.word_set_ne _ _ haddr, State.word_set_whole _ _ _ hwhole.1 hwhole.2]
  · rw [State.word_set_ne _ _ hirq, State.word_set_ne _ _ herr, State.word_set_ne _ _ htxn, State.word_set_ne _ _ haddr,
      State.word_set_whole _ _ _ hwhole.1 hwhole.2]

/-- The address beside it is that word's (R46). -/
theorem State.word_lastErrAddr_txnEnd :
    (s.txnEnd p).word ((lastErr p).2.1.addr 0) = BitVec.ofNat 32 ((t.fail.getD (0, 0, 0)).2.2 % 2 ^ 24) := by
  have htxn : HOST.TXN_COUNT.addr 0 ≠ (lastErr p).2.1.addr 0 := by cases p <;> decide
  have herr : HOST.ERR_COUNT.addr 0 ≠ (lastErr p).2.1.addr 0 := by cases p <;> decide
  have hirq : (lastErr p).2.2.addr 0 ≠ (lastErr p).2.1.addr 0 := by cases p <;> decide
  have hwhole : (lastErr p).2.1.lo = 0 ∧ (lastErr p).2.1.w = 32 := by cases p <;> decide
  unfold State.txnEnd State.dirq State.incr
  simp only [h, State.modPort_word]
  split
  · rw [State.word_set_ne _ _ htxn, State.word_set_whole _ _ _ hwhole.1 hwhole.2]
  · rw [State.word_set_ne _ _ hirq, State.word_set_ne _ _ herr, State.word_set_ne _ _ htxn,
      State.word_set_whole _ _ _ hwhole.1 hwhole.2]

end

/-! ## The status command and READ_ID (R43, R44, R47, R48) -/

theorem exec_statusCommand (p : Port) (i2c : BitVec 7) (low : BitVec 6) (framing : Framing) (s : State) :
    exec (.statusCommand ⟨p, i2c⟩ low framing) s = .next (doStatusCommand p i2c low framing s) := rfl

theorem exec_readId (p : Port) (i2c : BitVec 7) (low : BitVec 6) (framing : Framing) (s : State) :
    exec (.readId ⟨p, i2c⟩ low framing) s = .next (doReadId p i2c low framing s) := rfl

section
variable {s : State} {p : Port} {i2c : BitVec 7} {low : BitVec 6} (hans : s.answers p i2c = true)
include hans

/-- A status command rewrites its own port alone (R47). -/
theorem doStatusCommand_whole (hburst : burstOf low = 0) :
    doStatusCommand p i2c low .whole s =
      s.modPort p fun x => { x with statusOut := s.statusByte p, resp := [s.statusWord] } := by
  unfold doStatusCommand
  simp [hans, hburst]

theorem doStatusCommand_burst (framing : Framing) (hburst : burstOf low ≠ 0) :
    doStatusCommand p i2c low framing s = s.statusRefused p low (7, 0x62) := by
  unfold doStatusCommand
  simp [hans, hburst]

/-- READ_ID in a blocking period or without the access level is discarded. -/
theorem doReadId_refused (hburst : burstOf low = 0)
    (hdeny : (s.txnBegin p (cmdByte 3 low)).busyPin = true ∨
      (s.txnBegin p (cmdByte 3 low)).levelDeny p (isObs low) 0x40 none false ≠ 0) :
    ∃ c, doReadId p i2c low .whole s = (s.txnBegin p (cmdByte 3 low)).idRefused p low .whole c := by
  unfold doReadId
  simp only [hans, hburst, Bool.not_true, Bool.false_eq_true, if_false, bne_self_eq_false]
  rcases hb : (s.txnBegin p (cmdByte 3 low)).busyPin with _ | _
  · have hdeny' := hdeny.resolve_left (by simp [hb])
    rw [State.txnRefusal_whole_eq_none hb rfl rfl]
    exact ⟨_, if_pos hdeny'⟩
  · exact ⟨(1, 0x01), by simp [State.txnRefusal, hb]⟩

/-- READ_ID that nothing refuses answers the register DEV.ID.DEVICE. -/
theorem doReadId_whole (hburst : burstOf low = 0) (hbusy : (s.txnBegin p (cmdByte 3 low)).busyPin = false)
    (hlevel : (s.txnBegin p (cmdByte 3 low)).levelDeny p (isObs low) 0x40 none false = 0) :
    doReadId p i2c low .whole s = ((s.txnBegin p (cmdByte 3 low)).txnEnd p).modPort p fun x =>
      { x with resp := [(s.txnBegin p (cmdByte 3 low)).regView 0x40 (levelReq (isObs low))] } := by
  unfold doReadId
  simp only [hans, hburst, Bool.not_true, Bool.false_eq_true, if_false, bne_self_eq_false]
  rw [State.txnRefusal_whole_eq_none hbusy rfl rfl]
  simp [hlevel, State.partialWord]

end

/-- Settles O14: the status command rewrites its port alone, and READ_ID is one transaction that completes or is discarded. -/
theorem theStatusAndIdCommandsOnlyReport : Obligations.TheStatusAndIdCommandsOnlyReport := by
  unfold Obligations.TheStatusAndIdCommandsOnlyReport
  refine ⟨?status, ?burst, ?id, ?refused⟩
  case status =>
    intro s p i2c low hans hburst
    refine ⟨_, exec_statusCommand .., ?_⟩
    rw [doStatusCommand_whole hans hburst, State.port_modPort_same]
    exact ⟨rfl, rfl, rfl, State.modPort_word s p _, State.modPort_cell s p _, State.modPort_ch s p _,
      fun q hq => State.port_modPort_ne s _ hq, State.modPort_time s p _, State.modPort_state s p _⟩
  case burst =>
    intro s p i2c low framing hans hburst
    rw [exec_statusCommand, doStatusCommand_burst hans framing hburst]
  case id =>
    intro s p i2c low hans hburst hbusy hlevel
    refine ⟨_, exec_readId .., ?_⟩
    rw [doReadId_whole hans hburst hbusy hlevel, State.port_modPort_same, State.port_txnEnd (State.txn_txnBegin s p _)]
    exact ⟨rfl, rfl, rfl⟩
  case refused =>
    intro s p i2c low hans hburst hdeny
    obtain ⟨c, hread⟩ := doReadId_refused hans hburst hdeny
    refine ⟨_, exec_readId .., ?_⟩
    rw [hread]
    unfold State.idRefused
    simp [hburst]

/-! ## A transaction discarded whole (R38, R40, R42, R44, R46, R58) -/

/-- A discarded transaction stands in the last-error record with its CODE, detail and address (R46). -/
theorem State.lastErr_txnDiscard {s : State} {t : TxnRec} (ht : (s.port .primary).txn = some t) {c d a : Nat} (k : Nat)
    (hc : c < 8) (hd : d < 256) (ha : a < 2 ^ 24) :
    (s.txnDiscard .primary (c, d) a k).get 0 HOST.LAST_ERR_CODE = c ∧
      (s.txnDiscard .primary (c, d) a k).get 0 HOST.LAST_ERR_DETAIL = d ∧
      (s.txnDiscard .primary (c, d) a k).get 0 HOST.LAST_ERR_ADDR = a ∧
      ((s.txnDiscard .primary (c, d) a k).port .primary).code = c := by
  have hfail : ((s.modPort .primary fun x =>
      { x with txn := x.txn.map fun t => { t with fail := some (c, d, a), fails := k } }).port .primary).txn =
        some { t with fail := some (c, d, a), fails := k } := by
    rw [State.port_modPort_same, ht]
    rfl
  have hrec := State.word_lastErr_txnEnd hfail
  have haddr := State.word_lastErrAddr_txnEnd hfail
  have hport := State.port_txnEnd hfail
  unfold State.txnDiscard
  refine ⟨?code, ?detail, ?addr, ?port⟩
  case code =>
    refine (congrArg (fun w => getBits w 0 3) hrec).trans ((getBits_ofNat _ 0 3 (by omega)).trans ?_)
    simp only [Option.getD_some]
    omega
  case detail =>
    refine (congrArg (fun w => getBits w 16 8) hrec).trans ((getBits_ofNat _ 16 8 (by omega)).trans ?_)
    simp only [Option.getD_some]
    omega
  case addr =>
    refine (congrArg (fun w => getBits w 0 32) haddr).trans ((getBits_ofNat _ 0 32 (by omega)).trans ?_)
    simp only [Option.getD_some]
    omega
  case port => rw [hport, Option.getD_some]

/-- A read transaction discarded whole answers zeros (R42, R44). -/
theorem doHostRead_discarded {s : State} {p : Port} {i2c : BitVec 7} {low : BitVec 6} {addr : BitVec 24} {count : Nat}
    {framing : Framing} {late : List Nat} {c : Code} (hans : s.answers p i2c = true)
    (hsome : (s.txnBegin p (cmdByte 0 low)).txnRefusal framing addr.toNat (burstReserved (burstOf low)) = some c) :
    ∃ k, doHostRead p i2c low addr count framing late s =
      ((s.txnBegin p (cmdByte 0 low)).txnDiscard p c addr.toNat k).modPort p fun x =>
        { x with resp := List.replicate k 0 } := by
  unfold doHostRead
  simp only [hans, hsome, Bool.not_true, Bool.false_eq_true, if_false]
  exact ⟨_, rfl⟩

/-- Settles O15: the reason follows from the order of R45 (`State.txnRefusal_busy` to `State.txnRefusal_aligned`), and the record
of the discarded transaction is `State.lastErr_txnDiscard`. -/
theorem aDiscardedTransactionRecordsItsReason : Obligations.ADiscardedTransactionRecordsItsReason := by
  unfold Obligations.ADiscardedTransactionRecordsItsReason
  intro s i2c low addr count framing late hans s1 c d hsome
  refine ⟨fun hbusy => ?busy, fun hbusy hcut => ?cut, fun hbusy hwords ha => ?misaligned, fun hbusy hwords ha => ?reserved,
    ?record⟩
  case busy => exact Option.some.inj (hsome.symm.trans (State.txnRefusal_busy hbusy))
  case cut => exact Option.some.inj (hsome.symm.trans (State.txnRefusal_cut hbusy hcut))
  case misaligned => exact Option.some.inj (hsome.symm.trans (State.txnRefusal_misaligned hbusy hwords ha))
  case reserved =>
    rw [State.txnRefusal_aligned hbusy hwords ha] at hsome
    by_cases hres : burstReserved (burstOf low) = true
    · rw [if_pos hres] at hsome
      exact ⟨(Option.some.inj hsome).symm, of_decide_eq_true hres⟩
    · rw [if_neg hres] at hsome
      cases hsome
  case record =>
    obtain ⟨k, hread⟩ := doHostRead_discarded (count := count) (late := late) hans hsome
    have hbound : c < 8 ∧ d < 256 := by
      have hmem := State.txnRefusal_mem hsome
      simp only [List.mem_cons, Prod.mk.injEq, List.not_mem_nil, or_false] at hmem
      omega
    obtain ⟨hcode, hdetail, haddr, hport⟩ :=
      State.lastErr_txnDiscard (State.txn_txnBegin s .primary (cmdByte 0 low)) k hbound.1 hbound.2 addr.isLt
    refine ⟨_, (exec_hostRead ..).trans (congrArg _ hread), ?_⟩
    simp only [State.modPort_get, State.port_modPort_same]
    exact ⟨hcode, hdetail, haddr, hport, fun w => List.eq_of_mem_replicate⟩

end Sys2Proof.Machine
end

section
/-! PROOFS. The statements of 02_register_model.md about supplies and resets (R34, R78, R79, R83 to R85) and about the ends of the
blocking periods (R59, R88, R89, R92 to R94, R99, R101). -/

namespace Sys2Proof.Machine

/-! ## Supplies, RESET_N and resets (R34, R78, R79, R83 to R85) -/

/-- SWRESET at its target (R85). -/
theorem State.regStore_swreset (t : State) (key : Word) (req : Nat) :
    t.regStore 0x3050 key req = (codeOk, t.writeSwreset key) := rfl

/-- The host's open write of SWRESET does what the key says. -/
theorem State.actPut_swreset {s : State} (key : Word) (hopen : s.writeOpen 0x3050 reqHost = true) :
    s.actPut 0x3050 key reqHost = (s.seen 0x3050 reqHost).writeSwreset key :=
  actPut_open hopen (.inl (by decide +kernel)) (State.regStore_swreset _ key reqHost)

theorem exec_swreset (key : Word) (s : State) : exec (.swreset key) s = .next (s.actPut 0x3050 key reqHost) := rfl

/-- Settles O17: in each clause the guard of the event or key is open, and what it guards is the clause's state. -/
theorem suppliesAndResetsActAsTheTableSays : Obligations.SuppliesAndResetsActAsTheTableSays := by
  unfold Obligations.SuppliesAndResetsActAsTheTableSays
  refine ⟨fun straps => When.of_exec (fun _ => rfl) fun s ⟨hmon, hoff⟩ => ?powerOn,
    fun straps => When.of_exec (fun _ => rfl) fun s ⟨hmon, hon⟩ => ?supplied,
    When.of_exec (fun _ => rfl) fun s hon => ?pin, fun straps => When.of_exec (fun _ => rfl) fun s hrel => ?release,
    fun vddio => When.of_exec (fun _ => rfl) fun s hon => ?dip, When.of_exec (fun _ => rfl) fun s hon => ?deep,
    fun r => When.of_exec (fun _ => rfl) fun s ⟨hpow, hmon⟩ => ?rail,
    fun r => When.of_exec (fun _ => rfl) fun s ⟨hreset, hboot, hmon⟩ => ?early,
    fun r => When.of_exec (fun _ => rfl) fun s _ => rfl, fun s hopen _ => ?arms, fun key hkey s hopen _ => ?badKey,
    When.of_exec (fun _ => rfl) fun s ⟨harmed, hfree⟩ => ?software⟩
  case powerOn =>
    unfold doPowerOn
    simp only [hmon, Bool.false_eq_true, if_false, if_pos hoff]
  case supplied =>
    unfold doPowerOn
    simp only [hmon, Bool.false_eq_true, if_false, if_neg hon]
  case pin =>
    unfold doResetNAssert
    simp only [if_neg hon]
  case release => exact if_neg (by simp [hrel])
  case dip =>
    unfold doBrownout
    simp only [if_neg hon, Bool.and_false, Bool.false_eq_true, if_false]
  case deep =>
    unfold doBrownout
    simp only [if_neg hon, Bool.and_self, if_true]
  case rail =>
    obtain ⟨hoff, hreset⟩ : s.dev.state ≠ .off ∧ s.dev.state ≠ .reset := by simpa [State.powered] using hpow
    unfold doRailFault
    simp only [hoff, hreset, hmon, Bool.true_eq_false, or_self, false_and, if_false]
  case early =>
    unfold doRailFault
    simp only [hreset, hboot, hmon, reduceCtorEq, Bool.true_eq_false, or_self, and_self, if_false, if_true]
    rfl
  case arms =>
    rw [exec_swreset, State.actPut_swreset _ hopen]
    unfold State.writeSwreset
    rw [if_pos rfl]
  case badKey =>
    rw [exec_swreset, State.actPut_swreset _ hopen]
    unfold State.writeSwreset
    rw [if_neg hkey]
  case software => exact if_pos (by simp [harmed, hfree])

/-! ## The ends of the blocking periods (R59, R88, R89, R92 to R94, R99, R101) -/

section
variable {s : State} (hblock : s.blockCode = 1) (hauth : s.is 0 BOOT.STATUS_AUTHENTICATED = false)
include hblock hauth

/-- AUTHENTICATE fails at the header, before the signed message is read (R92). -/
theorem doAuthComplete_header (h : s.authHeader ≠ 0) :
    doAuthComplete s = (((s.sat 0 BOOT.AUTH_ATTEMPTS_COUNT).enterHolding 3 0).setStage 6).cmdEnd 1 s.authHeader := by
  unfold doAuthComplete
  simp only [hblock, hauth, h, ne_eq, not_true_eq_false, not_false_eq_true, Bool.false_eq_true, or_self, if_false, if_true]

variable (hheader : s.authHeader = 0)
include hheader

/-- AUTHENTICATE fails at the signed message (R92). -/
theorem doAuthComplete_message (h : s.authMessage.1 ≠ 0) :
    doAuthComplete s =
      (((s.authMessage.2.sat 0 BOOT.AUTH_ATTEMPTS_COUNT).enterHolding 3 0).setStage 6).cmdEnd 1 s.authMessage.1 := by
  unfold doAuthComplete
  simp only [hblock, hauth, hheader, h, ne_eq, not_true_eq_false, not_false_eq_true, Bool.false_eq_true, or_self, if_false,
    if_true]

/-- AUTHENTICATE succeeds with the Sluice open: version and security are recorded and firmware starts (R93). -/
theorem doAuthComplete_success (h : s.authMessage.1 = 0) (hopen : s.authMessage.2.dev.shut = false) :
    doAuthComplete s =
      let t := ((s.authMessage.2.modDev fun d => { d with codeLocked := true }).dset BOOT.STATUS_AUTHENTICATED 1).dset
        BOOT.FW_VERSION (s.header 0x14 4)
      let u := ((t.dset BOOT.SEC_IMAGE (s.header 6 2)).modDev fun d =>
        { d with state := if d.state = .holding then .boot else d.state, millerStart := d.ticks, fwFirst := true,
                 wdogTicks := 0 }).dset BOOT.STATUS_MILLER_RUN 1
      (((u.dset MILLER.STATUS_CORE 1).dset MILLER.FW_STATE_STATE 1).cmdResult 1 0).dirq BOOT.IRQ_CMD_DONE := by
  unfold doAuthComplete
  simp only [hblock, hauth, hheader, h, ne_eq, not_true_eq_false, Bool.false_eq_true, or_self, if_false, if_true]
  exact if_neg (by simp [State.dset, hopen])

end

/-- TRIAL_ALL whose channels and slices have all passed gives READY at stage 5 (R94). -/
theorem doTrialAllEnd_pass {s : State} (hrun : s.trialAll = true) (hch : s.dget DTRIAL.RESULT_CH_RUN = 0xFF)
    (hslices : s.dev.trialSlices = []) (hpass : s.dget DTRIAL.RESULT_CH_PASS = 0xFF)
    (hall : s.dget { DTRIAL.RESULT_SLICES with w := 4 } = 5) (hstate : s.dev.state ≠ .holding) :
    doTrialAllEnd s =
      let t := (((s.modDev fun d => { d with trialAllRunning := false }).dset DTRIAL.STATUS_RUNNING 0).dset DTRIAL.BUSY_LONG_OP
        0).dset DTRIAL.STATUS_CUR 0xF
      ((((t.dset DTRIAL.ELAPSED_MS_MS (s.dget HOST.STATUS_WORD_ELAPSED)).dirq DTRIAL.IRQ_DONE).modDev fun d =>
        { d with state := .ready }).setStage 5).cmdEnd 2 0 := by
  unfold doTrialAllEnd
  simp only [hrun, hch, hslices, hpass, hall, Bool.true_eq_false, ne_eq, not_true_eq_false, or_self, if_false, beq_self_eq_true,
    Bool.and_self, if_true]
  rw [if_neg (by simpa [State.dset, State.dirq] using hstate)]

/-- COMMIT ends with the result of its programming (R99). -/
theorem doBlockingEnd_commit {s : State} {b : Blocking} (hb : s.dev.blocking = some b) (hcode : b.code = 3)
    (stuck : BitVec 64) : doBlockingEnd stuck s = (s.commit stuck).2.cmdEnd 3 (s.commit stuck).1 := by
  unfold doBlockingEnd
  simp only [hb, hcode, if_true]

/-- OTP_PROGRAM ends with the result of its programming (R101). -/
theorem doBlockingEnd_program {s : State} {b : Blocking} (hb : s.dev.blocking = some b) (hcode : b.code = 4)
    (hok : s.otpRefusal b.word b.data = 0) (stuck : BitVec 64) :
    doBlockingEnd stuck s =
      (s.program b.word b.data (stuck.setWidth 32)).2.cmdEnd 4 (s.program b.word b.data (stuck.setWidth 32)).1 := by
  unfold doBlockingEnd
  simp only [hb, hcode, hok, Nat.reduceEqDiff, if_false, if_true]

/-- Settles O20: each event that ends a blocking period, on the path that the clause's hypotheses choose. -/
theorem blockingPeriodsEndWithTheirResult : Obligations.BlockingPeriodsEndWithTheirResult := by
  unfold Obligations.BlockingPeriodsEndWithTheirResult
  refine ⟨fun memOk => When.of_exec (fun _ => rfl) fun s ⟨hrom, hpow⟩ => ?romPass,
    fun memOk => When.of_exec (fun _ => rfl) fun s ⟨hrom, hpow⟩ => ?romFail,
    When.of_exec (fun _ => rfl) fun s ⟨hblock, hauth, hfail⟩ => doAuthComplete_header hblock hauth hfail,
    When.of_exec (fun _ => rfl) fun s ⟨hblock, hauth, hheader, hfail⟩ => doAuthComplete_message hblock hauth hheader hfail,
    When.of_exec (fun _ => rfl) fun s ⟨hblock, hauth, hheader, hpass, hopen⟩ =>
      doAuthComplete_success hblock hauth hheader hpass hopen,
    When.of_exec (fun _ => rfl) fun s ⟨hblock, hauth, hopen⟩ => ?firmware,
    When.of_exec (fun _ => rfl) fun s ⟨hrun, hch, hslices, hpass, hall, hstate⟩ =>
      doTrialAllEnd_pass hrun hch hslices hpass hall hstate,
    fun stuck => When.of_exec (fun _ => rfl) fun s ⟨b, hb, hcode⟩ => doBlockingEnd_commit hb hcode stuck,
    fun stuck b hcode => When.of_exec (fun _ => rfl) fun s ⟨hb, hok⟩ => doBlockingEnd_program hb hcode hok stuck,
    When.of_exec (fun _ => rfl) fun s ⟨hblock, hpow⟩ => ?overrun⟩
  case romPass =>
    unfold doRomCheckDone
    rw [if_neg (by simp [hrom, hpow])]
    rfl
  case romFail =>
    unfold doRomCheckDone
    rw [if_neg (by simp [hrom, hpow])]
    rfl
  case firmware =>
    unfold doFirmwareTrialAll
    rw [if_neg (by simp [hblock, hauth]), if_neg (by simp [hopen])]
  case overrun =>
    obtain ⟨b, hb⟩ := Option.isSome_iff_exists.mp hblock
    exact if_neg (by simp [hb, hpow])

end Sys2Proof.Machine
end

section
/-! PROOFS. The statements of 03_start_up.md about device resets (R79, R83) and about blocking commands and OTP (R95, R100, R101). -/

namespace Sys2Proof.Machine

/-! ## A device reset (R79, R83) -/

/-- Every cause is one bit of RESET_CAUSE. -/
theorem resetCause_bit {cause : Field}
    (h : cause ∈ [BOOT.RESET_CAUSE_POWER_ON, BOOT.RESET_CAUSE_BROWNOUT, BOOT.RESET_CAUSE_PIN, BOOT.RESET_CAUSE_SOFTWARE]) :
    cause.addr 0 = BOOT.RESET_CAUSE.addr 0 ∧ cause.w = 1 ∧ cause.lo < 32 := by
  revert cause
  decide

section
variable (s : State) (powerOn software : Bool) {cause : Field} (hcause : cause.addr 0 = BOOT.RESET_CAUSE.addr 0)
include hcause

/-- RESET_CAUSE gains the reset's cause; the causes before it outlive every reset but a power-on reset (R79). -/
theorem State.word_deviceReset_cause :
    (s.deviceReset powerOn software cause).word (BOOT.RESET_CAUSE.addr 0) =
      setBits (if powerOn then 0 else s.word (BOOT.RESET_CAUSE.addr 0)) cause.lo cause.w 1 := by
  have hpins : DTRIAL.STATUS_JTAG_PINS.addr 0 ≠ BOOT.RESET_CAUSE.addr 0 := by decide
  have hwarn : SENS.CFG_WARN.addr 0 ≠ BOOT.RESET_CAUSE.addr 0 := by decide
  unfold State.deviceReset State.dset
  extract_lets d stop why s1 s2 s3
  rw [State.word_set_ne _ _ hpins, State.word_set_ne _ _ hwarn]
  unfold State.set
  rw [hcause, State.word_setWord_same, State.word_setWord_same]

/-- LAST_STOP outlives every reset but a power-on reset (R79). -/
theorem State.word_deviceReset_stop :
    (s.deviceReset powerOn software cause).word (BOOT.LAST_STOP.addr 0) =
      if powerOn then 0 else s.word (BOOT.LAST_STOP.addr 0) := by
  have hpins : DTRIAL.STATUS_JTAG_PINS.addr 0 ≠ BOOT.LAST_STOP.addr 0 := by decide
  have hwarn : SENS.CFG_WARN.addr 0 ≠ BOOT.LAST_STOP.addr 0 := by decide
  have hwhy : BOOT.RESET_CAUSE.addr 0 ≠ BOOT.LAST_STOP.addr 0 := by decide
  unfold State.deviceReset State.dset
  extract_lets d stop why s1 s2 s3
  rw [State.word_set_ne _ _ hpins, State.word_set_ne _ _ hwarn, State.word_set_ne _ _ (hcause ▸ hwhy),
    State.word_setWord_ne _ _ hwhy, State.word_setWord_same]

/-- Every register but four is at its Reset value (R83). -/
theorem State.word_deviceReset_reset {a : Nat} (hwhy : a ≠ BOOT.RESET_CAUSE.addr 0) (hstop : a ≠ BOOT.LAST_STOP.addr 0)
    (hwarn : a ≠ SENS.CFG_WARN.addr 0) (hpins : a ≠ DTRIAL.STATUS_JTAG_PINS.addr 0) :
    (s.deviceReset powerOn software cause).word a = resetWord a := by
  unfold State.deviceReset State.dset
  extract_lets d stop why s1 s2 s3
  rw [State.word_set_ne _ _ hpins.symm, State.word_set_ne _ _ hwarn.symm, State.word_set_ne _ _ (hcause ▸ hwhy.symm),
    State.word_setWord_ne _ _ hwhy.symm, State.word_setWord_ne _ _ hstop.symm]
  rfl

end

/-- A word with one bit set. -/
theorem getBits_setBits_zero_one {lo : Nat} (h : lo < 32) : getBits (setBits 0 lo 1 1) 0 32 = 2 ^ lo := by
  apply Nat.eq_of_testBit_eq
  intro i
  rw [getBits_testBit, Nat.testBit_two_pow, Nat.zero_add]
  by_cases hi : i < 32
  · rw [setBits_getLsbD _ _ _ _ _ hi]
    by_cases he : lo = i
    · simp [he, hi]
    · rw [if_neg (by omega)]
      simp [he]
  · simp [hi, show lo ≠ i by omega]

/-- Settles O16: a device reset builds the state afresh from what it keeps and then writes four registers, whose words are the
laws above. -/
theorem aDeviceResetPutsTheWholeDeviceBack : Obligations.ADeviceResetPutsTheWholeDeviceBack := by
  unfold Obligations.ADeviceResetPutsTheWholeDeviceBack
  intro s powerOn software cause hmem t
  obtain ⟨haddr, hone, hlo⟩ := resetCause_bit hmem
  have hword : t.word (BOOT.RESET_CAUSE.addr 0) = _ := State.word_deviceReset_cause s powerOn software haddr
  have hstop : t.word (BOOT.LAST_STOP.addr 0) = _ := State.word_deviceReset_stop s powerOn software haddr
  rw [hone] at hword
  refine ⟨rfl, rfl, rfl, rfl, fun a => State.word_deviceReset_reset s powerOn software haddr, fun hpow => ⟨?onlyCause, ?noStop⟩,
    fun hpow => ⟨?keptStop, ?cause, fun i hi hne => ?keptCauses⟩, rfl, rfl, rfl, rfl, rfl, rfl, rfl⟩
  case onlyCause =>
    unfold State.get
    rw [hword, if_pos hpow]
    exact getBits_setBits_zero_one hlo
  case noStop => rw [hstop, if_pos hpow]
  case keptStop => rw [hstop, if_neg (by simp [hpow])]
  case cause =>
    unfold State.is State.get
    rw [haddr, hword, hone, getBits_setBits_same _ _ _ _ (by omega)]
    rfl
  case keptCauses => rw [hword, if_neg (by simp [hpow]), setBits_getLsbD _ _ _ _ _ hi, if_neg (by omega)]

/-! ## A command that is one register write -/

/-- A command that is an open write of a register that its own count leaves alone does what the register's target does. -/
theorem Put.of_regStore {c : Instr} {a req : Nat} {data : Word} {may : State → Prop} {op : State → State}
    (hexec : ∀ s, exec c s = .next (s.actPut a data req)) (hw : w1cMask a = 0 ∨ ¬ cntWritten (a % 0x1000))
    (h : ∀ t, may t → t.regStore a data req = (codeOk, op t)) : Put c a req may op :=
  fun s hopen hmay => (hexec s).trans (congrArg _ (actPut_open hopen hw (h _ hmay)))

/-! ## Acceptance of blocking commands (R95) -/

/-- CMD at its target. -/
theorem State.regStore_cmd (t : State) (data : Word) (req : Nat) :
    t.regStore 0x3040 data req = (codeOk, t.blockCmd (data.toNat % 16)) := rfl

theorem State.blockCmd_go {s : State} {c : Nat} (hbusy : s.busyPin = false) (hr : s.blockRefusal c = 0) :
    s.blockCmd c = s.blockGo c := by
  unfold State.blockCmd
  rw [if_neg (by simp [hbusy])]
  exact if_pos hr

theorem State.blockCmd_refused {s : State} {c : Nat} (hbusy : s.busyPin = false) (hr : s.blockRefusal c ≠ 0) :
    s.blockCmd c = s.blockRefuse c (s.blockRefusal c) := by
  unfold State.blockCmd
  rw [if_neg (by simp [hbusy])]
  exact if_neg hr

section
variable {c : Instr} {data : Word} (hexec : ∀ s, exec c s = .next (s.actPut 0x3040 data reqHost))
include hexec

/-- The host's write of CMD with a code that the state accepts starts the command. -/
theorem Put.of_cmd_go : Put c 0x3040 reqHost (fun s => s.busyPin = false ∧ s.blockRefusal (data.toNat % 16) = 0)
    fun s => s.blockGo (data.toNat % 16) :=
  Put.of_regStore hexec (.inl (by decide +kernel)) fun t ⟨hbusy, hr⟩ => by
    rw [State.regStore_cmd, State.blockCmd_go hbusy hr]

/-- With another code it records the refusal. -/
theorem Put.of_cmd_refused : Put c 0x3040 reqHost (fun s => s.busyPin = false ∧ s.blockRefusal (data.toNat % 16) ≠ 0)
    fun s => s.blockRefuse (data.toNat % 16) (s.blockRefusal (data.toNat % 16)) :=
  Put.of_regStore hexec (.inl (by decide +kernel)) fun t ⟨hbusy, hr⟩ => by
    rw [State.regStore_cmd, State.blockCmd_refused hbusy hr]

end

/-- The four blocking commands are the host's writes of their code. -/
theorem exec_blockingCommand {p : Instr × Nat} (h : p ∈ [(.authenticate, 1), (.trialAll, 2), (.commit, 3), (.otpProgram, 4)]) :
    ∃ data : Word, data.toNat % 16 = p.2 ∧ ∀ s, exec p.1 s = .next (s.actPut 0x3040 data reqHost) := by
  simp only [List.mem_cons, List.not_mem_nil, or_false] at h
  rcases h with rfl | rfl | rfl | rfl
  · exact ⟨1, rfl, fun _ => rfl⟩
  · exact ⟨2, rfl, fun _ => rfl⟩
  · exact ⟨3, rfl, fun _ => rfl⟩
  · exact ⟨4, rfl, fun _ => rfl⟩

/-- Waiting for its image, the part accepts AUTHENTICATE and OTP_PROGRAM. -/
theorem State.blockRefusal_waiting {s : State} (hstate : s.dev.state = .boot) (hstage : s.dget BOOT.STATUS_STAGE = 2) :
    s.blockRefusal 1 = 0 ∧ s.blockRefusal 2 = 1 ∧ s.blockRefusal 3 = 1 ∧ s.blockRefusal 4 = 0 := by
  simp [State.blockRefusal, hstate, hstage]

/-- In RUN it accepts none but COMMIT. -/
theorem State.blockRefusal_run {s : State} (hstate : s.dev.state = .run) :
    s.blockRefusal 1 = 1 ∧ s.blockRefusal 2 = 1 ∧ s.blockRefusal 4 = 1 := by
  simp [State.blockRefusal, hstate]

theorem State.blockRefusal_reserved (s : State) {c : Nat} (h : c = 0 ∨ 4 < c) : s.blockRefusal c = 2 := if_pos h

/-! ## OTP words programmed (R100, R101) -/

theorem State.otpBits_fuse_same (s : State) (w : Nat) (bits : Word) : (s.fuse w bits).otpBits w = s.otpBits w ||| bits := by
  simp [State.fuse, State.otpBits]

@[simp] theorem State.otpBits_fuseSetValid (s : State) (w v : Nat) : (s.fuseSetValid w).otpBits v = s.otpBits v := rfl

@[simp] theorem State.otpValid_fuse (s : State) (w : Nat) (bits : Word) (v : Nat) : (s.fuse w bits).otpValid v = s.otpValid v := rfl

/-- A VALID fuse programmed is the fuse of its word alone. -/
theorem State.otpValid_fuseSetValid (s : State) {w : Nat} (v : Nat) (hw : w < 64) :
    (s.fuseSetValid w).otpValid v = (s.otpValid v || decide (w = v)) := by
  have hbit : (BitVec.ofNat 64 (2 ^ w)).getLsbD v = decide (w = v) := by
    rw [BitVec.getLsbD_ofNat, Nat.testBit_two_pow]
    by_cases he : w = v
    · simp [he, he ▸ hw]
    · simp [he]
  exact (BitVec.getLsbD_or ..).trans (congrArg _ hbit)

/-- A word in which no bit fails is programmed and marked VALID. -/
theorem State.program_ok (s : State) (w : Nat) (data : Word) : s.program w data 0 = (0, (s.fuse w data).fuseSetValid w) := by
  have hall : data &&& ~~~(0 : Word) = data := BitVec.and_allOnes
  unfold State.program
  rw [hall]
  exact if_pos (State.otpBits_fuse_same s w data)

/-- OTP_PROGRAM of a word that it may not program ends with the refusal's result and nothing else (R101). -/
theorem doBlockingEnd_refused {s : State} {b : Blocking} (hb : s.dev.blocking = some b) (hcode : b.code = 4)
    (hr : s.otpRefusal b.word b.data ≠ 0) (stuck : BitVec 64) :
    doBlockingEnd stuck s = s.cmdEnd 4 (s.otpRefusal b.word b.data) := by
  unfold doBlockingEnd
  simp only [hb, hcode, hr, Nat.reduceEqDiff, if_false, if_true]

/-- Settles O19: a write of CMD starts or records (`Put.of_cmd_go`, `Put.of_cmd_refused`), and a word programmed is two fuse
operations (`State.program_ok`). -/
theorem blockingCommandsStartProgramOrAreRefused : Obligations.BlockingCommandsStartProgramOrAreRefused := by
  unfold Obligations.BlockingCommandsStartProgramOrAreRefused
  refine ⟨⟨fun p hp => ?named, fun data => Put.of_cmd_refused fun _ => rfl, fun s => State.blockRefusal_waiting,
    fun s => State.blockRefusal_run, fun s c => State.blockRefusal_reserved s⟩, fun s w data hlo hhi => ?programs,
    fun s w data hw => if_pos hw, fun s w data hlo hrev hfloor hfloor' hvalid => ?again,
    fun s b stuck hcode hb hr => congrArg _ (doBlockingEnd_refused hb hcode hr stuck)⟩
  case named =>
    obtain ⟨data, hdata, hexec⟩ := exec_blockingCommand hp
    rw [← hdata]
    exact ⟨Put.of_cmd_go hexec, Put.of_cmd_refused hexec⟩
  case programs =>
    rw [State.program_ok]
    refine ⟨rfl, State.otpBits_fuse_same s w data, ?_, fun v hv => ⟨otpBits_fuse_ne s data hv, fun _ => ?_⟩⟩
    · simp [State.otpValid_fuseSetValid _ _ hhi]
    · simp [State.otpValid_fuseSetValid _ _ hhi, hv.symm]
  case again =>
    unfold State.otpRefusal
    rw [if_neg (by omega), if_neg hrev, if_pos hvalid]

end Sys2Proof.Machine
end

section
/-! PROOFS. The statements of 03_start_up.md about restarts of the Miller (R87, R109 to R112, R124) and channel resets (R83, R86,
R108). -/

namespace Sys2Proof.Machine

/-! ## Requests of DEV.BOOT (R9, R12) -/

/-- A write of DEV.BOOT whose data name one ws bit does at once what the bit requests. -/
theorem State.codedWrite_boot (t : State) {a b : Nat} {data : Word} (ha : a / 0x1000 = 3) (hb : b < 32)
    (hd : ∀ i, i < 32 → (data &&& wsMask a).getLsbD i = decide (i = b)) :
    t.codedWrite a data = (t.plainWrite a data).wsAct a b := by
  have hpage : pageCode a = 3 := by
    unfold pageCode
    rw [if_pos (by omega), ha]
  have hdata : wsData a data = data := if_neg fun h => by omega
  have hfree : wsFree a b = true := by
    unfold wsFree
    simp [hpage]
  rw [codedWrite_one t hb (by rwa [hdata]) (.inl hfree)]
  unfold State.afterWrite
  rw [hpage]
  exact if_pos (.inl (by decide))

/-- MILLER_RESET.GO at its target. -/
theorem State.regStore_millerReset (t : State) (req : Nat) :
    t.regStore 0x3058 1 req = (codeOk, (t.plainWrite 0x3058 1).millerReset) := by
  have hbits : ∀ i, i < 32 → ((1 : Word) &&& wsMask 0x3058).getLsbD i = decide (i = 0) := by decide +kernel
  rw [regStore_coded t 1 req (by decide +kernel), State.codedWrite_boot t rfl (by decide) hbits]
  rfl

/-- CH_RESET with the one bit `n` at its target. -/
theorem State.regStore_chReset (t : State) (n : Ch) (req : Nat) :
    t.regStore 0x3054 (BitVec.ofNat 32 (2 ^ n.val)) req =
      (codeOk, (t.plainWrite 0x3054 (BitVec.ofNat 32 (2 ^ n.val))).chReset n) := by
  have hbits : ∀ n : Ch, ∀ i, i < 32 → (BitVec.ofNat 32 (2 ^ n.val) &&& wsMask 0x3054).getLsbD i = decide (i = n.val) := by
    decide +kernel
  have hact : ∀ u : State, u.wsAct 0x3054 n.val = u.chReset (Fin.ofNat 8 n.val) := fun _ => rfl
  rw [regStore_coded t _ req (by decide +kernel), State.codedWrite_boot t rfl (by omega) (hbits n), hact, Fin.ofNat_val_eq_self]

/-- A plain write leaves the fields of every other register alone. -/
theorem State.get_plainWrite (t : State) {a : Nat} (data : Word) {n : Ch} {f : Field} (h : a ≠ f.addr n) :
    (t.plainWrite a data).get n f = t.get n f := by
  unfold State.get State.plainWrite
  rw [State.word_setWord_ne _ _ h]

theorem State.is_plainWrite (t : State) {a : Nat} (data : Word) {n : Ch} {f : Field} (h : a ≠ f.addr n) :
    (t.plainWrite a data).is n f = t.is n f := by
  unfold State.is
  rw [State.get_plainWrite t data h]

/-! ## The Miller (R87, R109 to R112, R124) -/

/-- MILLER_RESET in BOOT before authentication is discarded. -/
theorem State.millerReset_early {s : State} (hstate : s.dev.state = .boot) (hauth : s.is 0 BOOT.STATUS_AUTHENTICATED = false) :
    s.millerReset = s := if_pos (.inl ⟨hstate, hauth⟩)

/-- Once firmware runs it is a restart of cause 1. -/
theorem State.millerReset_running {s : State} (hauth : s.is 0 BOOT.STATUS_AUTHENTICATED = true)
    (hrun : s.is 0 BOOT.STATUS_MILLER_RUN = true) : s.millerReset = s.millerRestart 1 :=
  if_neg (by simp [hauth, hrun])

/-- Settles O21: a restart past its guard, MILLER_RESET at its target, and the open guards of the Miller's events. -/
theorem theMillerRestartsUnderItsLimit : Obligations.TheMillerRestartsUnderItsLimit := by
  unfold Obligations.TheMillerRestartsUnderItsLimit
  have hw1c : w1cMask 0x3058 = 0 := by decide +kernel
  refine ⟨fun s cause hoff hheld hhold => ?restart,
    Put.of_regStore (fun _ => rfl) (.inl hw1c) fun t ⟨hauth, hrun⟩ => ?reset,
    Put.of_regStore (fun _ => rfl) (.inl hw1c) fun t ⟨hstate, hauth⟩ => ?early,
    fun after => When.of_exec (fun _ => rfl) fun s hrun => if_pos hrun,
    fun c after => When.of_exec (fun _ => rfl) fun s hrun => ?trap,
    When.of_exec (fun _ => rfl) fun s hhold => ?holdEnds,
    fun lost => When.of_exec (fun _ => rfl) fun s ⟨hrun, hstarts, hfirst⟩ => ?ready⟩
  case restart => exact if_neg (by simp [hoff, hheld, hhold])
  case reset =>
    rw [State.regStore_millerReset, State.millerReset_running]
    · rwa [State.is_plainWrite _ _ (by decide)]
    · rwa [State.is_plainWrite _ _ (by decide)]
  case early =>
    rw [State.regStore_millerReset, State.millerReset_early (s := t.plainWrite 0x3058 1) hstate]
    rwa [State.is_plainWrite _ _ (by decide)]
  case trap =>
    refine (if_pos hrun).trans ?_
    cases c <;> rfl
  case holdEnds => exact if_neg (by simp [hhold])
  case ready =>
    refine if_neg (not_or.mpr ⟨by simp [hrun], not_or.mpr ⟨by simp [hstarts], fun ⟨hfresh, hblock⟩ => ?_⟩⟩)
    rcases hfirst with hfirst | hfirst
    · simp [hfirst] at hfresh
    · simp [hfirst] at hblock

/-! ## Channel resets (R83, R86, R108) -/

/-- CH_RESET lies in no channel's PWR page. -/
theorem chReset_addr_ne_chState (n : Ch) : 0x3054 ≠ PWR.STATUS_STATE.addr n := by
  show 0x3054 ≠ 0x116000 + n.val * 0x20000 + 8
  omega

theorem State.chState_dset_chReset (s : State) (n : Ch) (k v : Nat) :
    (s.dset (BOOT.CH_RESET_CH.bit k) v).chState n = s.chState n :=
  State.get_set_addr s v (chReset_addr_ne_chState n)

theorem State.chState_plainWrite_chReset (s : State) (n : Ch) (data : Word) :
    (s.plainWrite 0x3054 data).chState n = s.chState n :=
  State.get_plainWrite s data (chReset_addr_ne_chState n)

/-- A channel reset that has no effect (R86). -/
theorem State.chReset_idle {s : State} {n : Ch} (h : s.resetIdle n = true) : s.chReset n = s := if_pos h

/-- A channel reset of a channel that is not DARK acts at once. -/
theorem State.chReset_acts {s : State} {n : Ch} (hidle : s.resetIdle n = false) (hstate : s.chState n ≠ 0) :
    s.chReset n =
      let s0 := s.dset (BOOT.CH_RESET_CH.bit n.val) 1
      let s2 := ((((s0.sliceCut n).abruptStop n).chScope n).abruptMark n (s0.ltxState n != 0)).wrightHold n
      (if s2.chPhase n = 0 then s2 else s2.pathAbort (.ch n) 0xD (2 ^ 0xD)).allNote n (s.trialSt n).all := by
  unfold State.chReset
  rw [if_neg (by simp [hidle])]
  exact if_neg (by rwa [State.chState_dset_chReset])

/-- The wright that a channel reset holds waits for the reset's completion (R108). -/
theorem State.wright_wrightHold (s : State) (n : Ch) :
    (s.wrightHold n).wright n = { (s.wrightCut n).wright n with cause := 0, holding := false, inReset := true } := by
  unfold State.wrightHold State.wright State.modWright
  rw [State.chan_modCh_same]

/-- Settles O23: CH_RESET at its target on each side of the guard, and the completion's open guard. -/
theorem aChannelResetReturnsTheChannelInStandby : Obligations.AChannelResetReturnsTheChannelInStandby := by
  unfold Obligations.AChannelResetReturnsTheChannelInStandby
  have hw1c : w1cMask 0x3054 = 0 := by decide +kernel
  refine ⟨fun n => Put.of_regStore (fun _ => rfl) (.inl hw1c) fun t ⟨hidle, hstate⟩ => ?acts,
    fun n => Put.of_regStore (fun _ => rfl) (.inl hw1c) fun t hidle => ?idle, State.wright_wrightHold,
    Event.of_exec (fun _ _ => rfl) fun s n ⟨hbit, hstate⟩ => ?completes⟩
  case acts =>
    rw [State.regStore_chReset, State.chReset_acts hidle (by rwa [State.chState_plainWrite_chReset])]
    rfl
  case idle => rw [State.regStore_chReset, State.chReset_idle hidle]
  case completes => exact if_neg (by simp [hbit, hstate])

end Sys2Proof.Machine
end

section
/-! PROOFS. The statements of 04_miller_and_mailboxes.md about the mailboxes (R112, R114, R115, R117 to R119). -/

namespace Sys2Proof.Machine

/-! ## An open write that its target refuses (R115, R391) -/

/-- The state with another record of the registers whose stored parity is spoiled. -/
def State.withBad (s : State) (l : List Nat) : State := s.modDev fun d => { d with badRegs := l }

/-- A write whose target refuses it, whatever parity the registers hold, leaves the parity as it is. -/
theorem State.regPut_refused {s : State} {a req : Nat} {data : Word} (hreg : s.pageArmed a 2 = false)
    (hrefuse : ∀ l, ((s.withBad l).regStore a data req).1 ≠ codeOk) : s.regPut a data req = s.regStore a data req := by
  unfold State.regPut
  simp only [hreg, Bool.false_and, Bool.false_eq_true, if_false]
  refine if_pos ?_
  split
  · exact hrefuse _
  · exact hrefuse s.dev.badRegs

/-- Such a write, where it is open, is counted as failed beside what the refusing target does, and a processor traps. -/
theorem State.actPut_refused {s t : State} {a req : Nat} {data : Word} {c : Code} (hopen : s.writeOpen a req = true)
    (hstore : s.regStore a data req = (c, t)) (hrefuse : ∀ l, ((s.withBad l).regStore a data req).1 ≠ codeOk)
    (hcount : ∀ l, (((s.countBus (addrCh? a) 0x11 req (regLoc a)).withBad l).regStore a data req).1 ≠ codeOk) :
    s.actPut a data req = (t.failCount a req).accessTrap req c := by
  unfold State.writeOpen at hopen
  simp only [Bool.and_eq_true, Bool.not_eq_true', beq_iff_eq, Bool.and_eq_false_iff, beq_eq_false_iff_ne, ne_eq] at hopen
  obtain ⟨⟨⟨hfree, hreach⟩, hreg⟩, hbus⟩ := hopen
  have hcounted : (s.countedPut a data req).1 ≠ codeOk := by
    unfold State.countedPut
    dsimp only
    rw [State.regPut_refused (by rwa [pageArmed_countBus]) hcount]
    split
    · exact hcount _
    · exact hcount _
  have hwrite : s.busPut a data req = (c, t.failCount a req) := by
    unfold State.busPut State.regWrite
    simp only [regReach_inPage hreach, hreach, hbus, hcounted, State.regPut_refused hreg hrefuse, hstore, Bool.not_true,
      Bool.false_eq_true, if_false, ne_eq, not_true_eq_false, not_false_eq_true, if_true]
  unfold State.actPut
  rw [if_neg (by rcases hfree with h | h <;> simp [h]), hwrite]

/-! ## Where the mailboxes lie (R114, R131, R132) -/

/-- The page code of a mailbox's page. -/
def boxPage : Box → Nat
  | .h2m _ => 0x05
  | .m2h _ => 0x05
  | .m2w _ _ => 0x37
  | .w2m _ _ => 0x37

section
variable (b : Box) {r : Nat} (hr : r < 0x80)
include hr

theorem boxAddr_mod : (boxAddr b + r) % 0x1000 = boxOff b + r := by
  cases b <;> simp only [boxAddr, boxBase, boxCh, boxOff] <;> omega

theorem boxOff_mod : (boxOff b + r) % 0x80 = r := by
  cases b <;> simp only [boxOff] <;> omega

theorem pageCode_boxAddr : pageCode (boxAddr b + r) = boxPage b := by
  cases b <;> simp only [boxAddr, boxBase, boxCh, boxOff, boxPage, Fin.val_zero] <;> unfold pageCode
  case h2m k => rw [if_pos (by omega)]; omega
  case m2h k => rw [if_pos (by omega)]; omega
  case m2w n j => rw [if_neg (by omega), if_pos (by omega)]; omega
  case w2m n j => rw [if_neg (by omega), if_pos (by omega)]; omega

theorem addrCh_boxAddr : addrCh (boxAddr b + r) = boxCh b := by
  cases b <;> simp only [boxAddr, boxBase, boxCh, boxOff, Fin.val_zero] <;> unfold addrCh
  case h2m k => exact if_pos (by omega)
  case m2h k => exact if_pos (by omega)
  case m2w n j =>
    rw [if_neg (by omega)]
    exact Fin.ext (show _ % 8 = n.val by omega)
  case w2m n j =>
    rw [if_neg (by omega)]
    exact Fin.ext (show _ % 8 = n.val by omega)

/-- The addresses of a mailbox's block are its own. -/
theorem boxAt_boxAddr : boxAt (boxAddr b + r) = some b := by
  have hoff := boxAddr_mod b hr
  have hpage := pageCode_boxAddr b hr
  have hch := addrCh_boxAddr b hr
  unfold boxAt
  dsimp only
  rw [hoff, hpage, hch]
  cases b <;> unfold boxOff boxPage boxCh <;> dsimp only
  case h2m k =>
    rw [if_pos (by omega)]
    exact congrArg (fun i => some (Box.h2m i)) (Fin.ext (show _ % 4 = k.val by omega))
  case m2h k =>
    rw [if_neg (by omega), if_pos (by omega)]
    exact congrArg (fun i => some (Box.m2h i)) (Fin.ext (show _ % 4 = k.val by omega))
  case m2w n j =>
    rw [if_neg (by omega), if_neg (by omega), if_pos (by omega)]
    exact congrArg (fun i => some (Box.m2w n i)) (Fin.ext (show _ % 2 = j.val by omega))
  case w2m n j =>
    rw [if_neg (by omega), if_neg (by omega), if_neg (by omega), if_pos (by omega)]
    exact congrArg (fun i => some (Box.w2m n i)) (Fin.ext (show _ % 2 = j.val by omega))

end

/-- Two mailboxes share no address. -/
theorem boxAddr_ne {b c : Box} (h : b ≠ c) {r r' : Nat} (hr : r < 0x80) (hr' : r' < 0x80) : boxAddr b + r ≠ boxAddr c + r' :=
  fun he => h (Option.some.inj ((boxAt_boxAddr b hr).symm.trans ((congrArg boxAt he).trans (boxAt_boxAddr c hr'))))

/-! ## Payload words and DOORBELL at their target (R114, R115) -/

/-- A write in a mailbox's block. -/
theorem State.regStore_box (t : State) {a : Nat} {b : Box} (h : boxAt a = some b) (data : Word) (req : Nat) :
    t.regStore a data req =
      if a % 0x1000 % 0x80 < 0x40 then t.boxPut b (a % 0x1000 % 0x80 / 4) data req
      else if a % 0x1000 % 0x80 = 0x40 then t.boxBell b (data.getLsbD 0) (data.getLsbD 1) req
      else (codeOk, t.plainWrite a data) := by
  unfold State.regStore
  rw [h]

theorem State.regStore_payload (t : State) (b : Box) (i : Fin 16) (data : Word) (req : Nat) :
    t.regStore (boxAddr b + 4 * i.val) data req = t.boxPut b i.val data req := by
  have hr : 4 * i.val < 0x80 := by omega
  rw [State.regStore_box t (boxAt_boxAddr b hr), boxAddr_mod b hr, boxOff_mod b hr, if_pos (by omega),
    Nat.mul_div_cancel_left _ (by decide)]

theorem State.regStore_doorbell (t : State) (b : Box) (data : Word) (req : Nat) :
    t.regStore (boxAddr b + 0x40) data req = t.boxBell b (data.getLsbD 0) (data.getLsbD 1) req := by
  have hr : 0x40 < 0x80 := by decide
  rw [State.regStore_box t (boxAt_boxAddr b hr), boxAddr_mod b hr, boxOff_mod b hr, if_neg (by decide), if_pos rfl]

/-! ## Bits and registers that a mailbox's write leaves to others -/

/-- A row that the table finds for an offset covers it. -/
theorem RegDef.find_some {ds : List RegDef} {o : Nat} {d : RegDef} (h : RegDef.find ds o = some d) :
    d ∈ ds ∧ d.off ≤ o ∧ (o - d.off) % d.stride = 0 ∧ (o - d.off) / d.stride < d.n := by
  induction ds with
  | nil => cases h
  | cons e ds ih =>
    unfold RegDef.find at h
    split at h
    next hcover =>
      cases h
      exact ⟨List.mem_cons_self, hcover⟩
    next =>
      obtain ⟨hmem, hcover⟩ := ih h
      exact ⟨List.mem_cons_of_mem _ hmem, hcover⟩

/-- On the mailboxes' pages the rows with a w1c bit are single registers, before the blocks or behind a block's DOORBELL. -/
theorem boxRows_w1c : ∀ p ∈ [0x05, 0x37], ∀ d ∈ pageRegs p, d.w1c = 0 ∨ d.n = 1 ∧ (d.off < 0x100 ∨ 0x40 < d.off % 0x80) := by
  decide

/-- Payload words and DOORBELL have no w1c bit. -/
theorem w1cMask_box (b : Box) {r : Nat} (hr : r ≤ 0x40) : w1cMask (boxAddr b + r) = 0 := by
  have hlt : r < 0x80 := by omega
  have hoff : 0x100 ≤ boxOff b + r ∧ (boxOff b + r) % 0x80 ≤ 0x40 := by
    cases b <;> simp only [boxOff] <;> omega
  have hpage : boxPage b ∈ [0x05, 0x37] := by cases b <;> simp [boxPage]
  unfold w1cMask regDef
  rw [boxAddr_mod b hlt, pageCode_boxAddr b hlt]
  cases hfind : RegDef.find (pageRegs (boxPage b)) (boxOff b + r) with
  | none => rfl
  | some d =>
    obtain ⟨hmem, hle, hmod, hdiv⟩ := RegDef.find_some hfind
    have hzero : d.w1c = 0 := (boxRows_w1c _ hpage d hmem).resolve_right fun ⟨hone, hwhere⟩ => by
      have hat := Nat.div_add_mod (boxOff b + r - d.off) d.stride
      rw [hone] at hdiv
      rw [hmod, Nat.lt_one_iff.mp hdiv] at hat
      omega
    exact congrArg (BitVec.ofNat 32) hzero

/-- A counted access leaves the mailboxes alone. -/
theorem State.word_countBus_box (s : State) (m : Option Ch) (cls req loc k : Nat) (b : Box) {r : Nat} (hr : r < 0x80) :
    (s.countBus m cls req loc k).word (boxAddr b + r) = s.word (boxAddr b + r) := by
  refine word_countBus s m cls req loc k (fun o ho => ?_) fun n _ o ho => ?_
  · unfold cntWritten at ho
    cases b <;> simp only [boxAddr, boxBase, boxCh, boxOff] <;> omega
  · unfold cntWritten at ho
    cases b <;> simp only [boxAddr, boxBase, boxCh, boxOff] <;> omega

/-! ## A mailbox's fields -/

/-- A field of a mailbox's STATE register. -/
def InState (f : Nat → Nat → Field) : Prop := ∀ base off, (f base off).base = base ∧ (f base off).off = off + 0x44

theorem full_inState : InState BOX.STATE_FULL := fun _ _ => ⟨rfl, rfl⟩
theorem age_inState : InState BOX.STATE_AGE := fun _ _ => ⟨rfl, rfl⟩
theorem mark_inState : InState BOX.STATE_RECEIVER_RESET_SINCE_POST := fun _ _ => ⟨rfl, rfl⟩

theorem InState.addr {f : Nat → Nat → Field} (hf : InState f) (b : Box) :
    (f (boxBase b) (boxOff b)).addr (boxCh b) = boxAddr b + 0x44 := by
  obtain ⟨hbase, hoff⟩ := hf (boxBase b) (boxOff b)
  unfold Field.addr boxAddr
  rw [hbase, hoff, Nat.add_assoc _ (boxOff b)]

/-- The states of two mailboxes lie apart. -/
theorem State.bget_bset_ne (s : State) {b c : Box} (h : c ≠ b) {f g : Nat → Nat → Field} (v : Nat) (hf : InState f)
    (hg : InState g) : (s.bset c f v).bget b g = s.bget b g := by
  refine State.get_set_addr s v ?_
  rw [hf.addr, hg.addr]
  exact boxAddr_ne h (by decide) (by decide)

theorem State.boxFull_countBus (s : State) (m : Option Ch) (cls req loc k : Nat) (b : Box) :
    (s.countBus m cls req loc k).boxFull b = s.boxFull b := by
  unfold State.boxFull State.bget State.get
  rw [full_inState.addr, State.word_countBus_box _ _ _ _ _ _ _ (by decide)]

/-- The mark of a mailbox's receiver leaves FULL alone. -/
theorem State.boxFull_boxReset (s : State) (c b : Box) : (s.boxReset c).boxFull b = s.boxFull b := by
  have hmark : (s.bset c BOX.STATE_RECEIVER_RESET_SINCE_POST 1).bget b BOX.STATE_FULL = s.bget b BOX.STATE_FULL := by
    by_cases h : c = b
    · subst h
      exact State.get_set_apart s 1 (by simp [Field.apart, BOX.STATE_RECEIVER_RESET_SINCE_POST, BOX.STATE_FULL])
    · exact State.bget_bset_ne s h 1 mark_inState full_inState
  unfold State.boxReset
  split
  · exact congrArg (· == 1) hmark
  · rfl

/-- The mark of a receiver whose epoch increments (R118). -/
theorem State.bget_boxReset (s : State) (c b : Box) :
    (s.boxReset c).bget b BOX.STATE_RECEIVER_RESET_SINCE_POST =
      if b = c ∧ s.boxFull b = true then 1 else s.bget b BOX.STATE_RECEIVER_RESET_SINCE_POST := by
  by_cases hfull : s.boxFull c = true
  · have hset : s.boxReset c = s.bset c BOX.STATE_RECEIVER_RESET_SINCE_POST 1 := if_pos hfull
    rw [hset]
    by_cases hc : b = c
    · rw [if_pos ⟨hc, hc ▸ hfull⟩, hc]
      exact State.get_set_same s _ _ 1 (show 1 + 1 ≤ 32 by decide)
    · rw [if_neg fun h => hc h.1]
      exact State.bget_bset_ne s (Ne.symm hc) 1 mark_inState mark_inState
  · have hkeep : s.boxReset c = s := if_neg hfull
    rw [hkeep, if_neg]
    rintro ⟨rfl, h⟩
    exact hfull h

theorem State.bget_boxResets (s : State) (l : List Box) (b : Box) :
    (s.boxResets l).bget b BOX.STATE_RECEIVER_RESET_SINCE_POST =
      if b ∈ l ∧ s.boxFull b = true then 1 else s.bget b BOX.STATE_RECEIVER_RESET_SINCE_POST := by
  induction l generalizing s with
  | nil => simp [State.boxResets]
  | cons c l ih =>
    unfold State.boxResets
    rw [ih, State.boxFull_boxReset, State.bget_boxReset]
    by_cases hfull : s.boxFull b = true
    · by_cases hc : b = c
      · simp [← hc, hfull]
      · simp [hfull, hc]
    · simp [hfull]

/-- The event of a taking leaves the mailboxes alone. -/
theorem State.bget_boxTaken (s : State) (b : Box) {f : Nat → Nat → Field} (hf : InState f) :
    (s.boxTaken b).bget b f = s.bget b f := by
  cases b with
  | h2m k =>
    refine State.get_set_addr s 1 ?_
    rw [hf.addr]
    unfold MBX.IRQ_TAKEN Field.bit Field.addr boxAddr boxBase boxCh boxOff
    dsimp only
    omega
  | m2h k => rfl
  | m2w n j => rfl
  | w2m n j => rfl

/-- TAKE by the receiver of a FULL mailbox empties it and leaves AGE as it is (R118). -/
theorem State.boxTake_full {s : State} {b : Box} (hfull : s.boxFull b = true) :
    (s.boxTake b).bget b BOX.STATE_AGE = s.bget b BOX.STATE_AGE ∧ (s.boxTake b).boxFull b = false := by
  have hage : (s.bset b BOX.STATE_FULL 0).bget b BOX.STATE_AGE = s.bget b BOX.STATE_AGE :=
    State.get_set_apart s 0 (by simp [Field.apart, BOX.STATE_AGE, BOX.STATE_FULL])
  have hempty : (s.bset b BOX.STATE_FULL 0).bget b BOX.STATE_FULL = 0 :=
    State.get_set_same s _ _ 0 (show 0 + 1 ≤ 32 by decide)
  have htake : s.boxTake b = (s.bset b BOX.STATE_FULL 0).boxTaken b := if_pos hfull
  unfold State.boxFull
  rw [htake, State.bget_boxTaken _ _ age_inState, State.bget_boxTaken _ _ full_inState, hempty]
  exact ⟨hage, rfl⟩

/-! ## Posting and taking (R112, R114, R115) -/

theorem State.boxBell_ring {t : State} {b : Box} (h : t.boxFull b = false) :
    t.boxBell b true false (boxSender b) = (codeOk, t.boxRing b) := by
  unfold State.boxBell
  rw [if_pos ⟨rfl, rfl⟩, if_neg (by simp [h])]

theorem State.boxBell_ring_full {t : State} {b : Box} (h : t.boxFull b = true) :
    t.boxBell b true false (boxSender b) = t.boxRefuse b := by
  unfold State.boxBell
  rw [if_pos ⟨rfl, rfl⟩, if_pos h]

theorem State.boxBell_ring_other (t : State) {b : Box} {req : Nat} (h : req ≠ boxSender b) :
    t.boxBell b true false req = (codeOk, t) := by
  unfold State.boxBell
  rw [if_neg fun hb => h hb.2, if_neg (by simp)]

theorem State.boxBell_take (t : State) (b : Box) : t.boxBell b false true (boxReceiver b) = (codeOk, t.boxTake b) := by
  unfold State.boxBell
  rw [if_neg (by simp), if_pos ⟨rfl, rfl⟩]

theorem State.boxBell_take_other (t : State) {b : Box} {req : Nat} (h : req ≠ boxReceiver b) :
    t.boxBell b false true req = (codeOk, t) := by
  unfold State.boxBell
  rw [if_neg (by simp), if_neg fun hb => h hb.2]

theorem State.regStore_ring (t : State) (b : Box) (req : Nat) :
    t.regStore (boxAddr b + 0x40) 1 req = t.boxBell b true false req := State.regStore_doorbell t b 1 req

theorem State.regStore_take (t : State) (b : Box) (req : Nat) :
    t.regStore (boxAddr b + 0x40) 2 req = t.boxBell b false true req := State.regStore_doorbell t b 2 req

theorem State.boxPut_open {t : State} {b : Box} (h : t.boxFull b = false) (i : Nat) (data : Word) :
    t.boxPut b i data (boxSender b) = (codeOk, t.boxStore b i data) := by
  unfold State.boxPut
  rw [if_neg (not_not.mpr rfl), if_neg (by simp [h])]
  rfl

theorem State.boxPut_full {t : State} {b : Box} (h : t.boxFull b = true) (i : Nat) (data : Word) :
    t.boxPut b i data (boxSender b) = t.boxRefuse b := by
  unfold State.boxPut
  rw [if_neg (not_not.mpr rfl), if_pos h]

/-- TAKE by the receiver, where it is not firmware's taking of a command. -/
theorem State.boxTake_plain (t : State) {b : Box} (h : ∀ k, b ≠ .h2m k) :
    t.boxTake b =
      if t.boxFull b then (t.bset b BOX.STATE_FULL 0).boxTaken b else t.bset b BOX.STATE_TAKE_SPURIOUS 1 := by
  cases b with
  | h2m k => exact absurd rfl (h k)
  | m2h k => rfl
  | m2w n j => rfl
  | w2m n j => rfl

/-- A sender's write that the FULL mailbox refuses is counted and refused (R115). -/
theorem State.actPut_boxFull {s : State} {b : Box} {a : Nat} {data : Word} (hopen : s.writeOpen a (boxSender b) = true)
    (hfull : s.boxFull b = true)
    (hstore : ∀ t : State, t.boxFull b = true → t.regStore a data (boxSender b) = t.boxRefuse b) :
    s.actPut a data (boxSender b) =
      ((s.dcount 0x61 (boxSender b)).failCount a (boxSender b)).accessTrap (boxSender b)
        (if boxSender b = reqHost then (5, 0x40) else codeRefused) := by
  have hrefuse : ∀ t : State, t.boxFull b = true → (t.regStore a data (boxSender b)).1 ≠ codeOk := by
    intro t ht
    rw [hstore t ht]
    show (if boxSender b = reqHost then (5, 0x40) else codeRefused) ≠ codeOk
    split_ifs <;> decide
  exact State.actPut_refused hopen (hstore s hfull) (fun l => hrefuse _ hfull)
    fun l => hrefuse _ ((State.boxFull_countBus ..).trans hfull)

/-- TAKE written at the register: every TAKE but firmware's. -/
theorem exec_mbxTake {b : Box} {req : Nat} (h : ∀ k, b = .h2m k → req ≠ reqMiller) (s : State) :
    exec (.mbxTake b req) s = .next (s.actPut (boxAddr b + 0x40) 2 req) := by
  cases b with
  | h2m k => exact congrArg _ (if_neg (h k rfl))
  | m2h k => rfl
  | m2w n j => rfl
  | w2m n j => rfl

/-! ## HOST_EPOCH (R119) -/

theorem State.regStore_hostEpoch (t : State) (data : Word) (req : Nat) :
    t.regStore 0x5040 data req = (codeOk, t.hostEpoch data) := rfl

theorem State.hostEpoch_new {t : State} {data : Word} (h : t.word (MBX.HOST_EPOCH.addr 0) ≠ data) :
    t.hostEpoch data = (t.setWord (MBX.HOST_EPOCH.addr 0) data).boxResets [.m2h 0, .m2h 1, .m2h 2, .m2h 3] := if_neg h

theorem State.hostEpoch_same {t : State} {data : Word} (h : t.word (MBX.HOST_EPOCH.addr 0) = data) : t.hostEpoch data = t :=
  if_pos h

/-- Settles O24: the writes of a mailbox's block at their target, on each side of their guards, and the laws of its fields. -/
theorem aMailboxHasOneSenderOneReceiverAndAnAge : Obligations.AMailboxHasOneSenderOneReceiverAndAnAge := by
  unfold Obligations.AMailboxHasOneSenderOneReceiverAndAnAge
  have hbell : ∀ b : Box, w1cMask (boxAddr b + 0x40) = 0 := fun b => w1cMask_box b le_rfl
  have hdata : ∀ (b : Box) (i : Fin 16), w1cMask (boxAddr b + 4 * i.val) = 0 := fun b i => w1cMask_box b (by omega)
  have hepoch : w1cMask 0x5040 = 0 := by decide +kernel
  have hboxes : ∀ k : Fin 4, Box.m2h k ∈ [Box.m2h 0, .m2h 1, .m2h 2, .m2h 3] := by decide
  refine ⟨⟨fun b i data => Put.of_regStore (fun _ => rfl) (.inl (hdata b i)) fun t hempty => ?stored,
      fun b i data s hopen hfull => congrArg _ (State.actPut_boxFull hopen hfull fun t ht => ?storeRefused),
      fun b i data req hreq => Put.of_regStore (fun _ => rfl) (.inl (hdata b i)) fun t _ => ?notSender,
      fun b => Put.of_regStore (fun _ => rfl) (.inl (hbell b)) fun t hempty => ?rung,
      fun b s hopen hfull => congrArg _ (State.actPut_boxFull hopen hfull fun t ht => ?ringRefused),
      fun b req hreq => Put.of_regStore (fun _ => rfl) (.inl (hbell b)) fun t _ => ?notRinger,
      fun b hb => Put.of_regStore (exec_mbxTake fun k hk => absurd hk (hb k)) (.inl (hbell b)) fun t _ => ?taken,
      fun b req hreq => Put.of_regStore (exec_mbxTake fun k hk => ?notMiller) (.inl (hbell b)) fun t _ => ?notReceiver⟩,
    fun b => When.of_exec (fun _ => rfl) fun s hfull => if_pos hfull,
    fun b => When.of_exec (fun _ => rfl) fun s hempty => if_neg (by simp [hempty]),
    fun s b => State.boxTake_full,
    fun data => Put.of_regStore (fun _ => rfl) (.inl hepoch) fun t hnew => ?newEpoch,
    fun s k hfull => ?marked, fun s k hempty => ?unmarked,
    fun data => Put.of_regStore (fun _ => rfl) (.inl hepoch) fun t hold => ?sameEpoch⟩
  case stored => rw [State.regStore_payload, State.boxPut_open hempty]
  case storeRefused => rw [State.regStore_payload, State.boxPut_full ht]
  case notSender => exact (State.regStore_payload t b i data req).trans (if_pos hreq)
  case rung => exact (State.regStore_ring ..).trans (State.boxBell_ring hempty)
  case ringRefused => rw [State.regStore_ring, State.boxBell_ring_full ht]
  case notRinger => rw [State.regStore_ring, State.boxBell_ring_other t hreq]
  case taken => rw [State.regStore_take, State.boxBell_take, State.boxTake_plain t hb]
  case notMiller =>
    subst hk
    exact hreq
  case notReceiver => rw [State.regStore_take, State.boxBell_take_other t hreq]
  case newEpoch => exact (State.regStore_hostEpoch ..).trans (congrArg _ (State.hostEpoch_new hnew))
  case sameEpoch => exact (State.regStore_hostEpoch ..).trans (congrArg _ (State.hostEpoch_same hold))
  case marked => rw [State.bget_boxResets, if_pos ⟨hboxes k, hfull⟩]
  case unmarked => rw [State.bget_boxResets, if_neg (by simp [hempty])]

end Sys2Proof.Machine
end

section
/-! PROOFS. The statements of 04_miller_and_mailboxes.md about the wrights (R107 to R109, R112, R113, R129) and about firmware's
commands (R120 to R128). -/

namespace Sys2Proof.Machine

/-! ## The wrights (R107 to R109, R112, R113, R129) -/

theorem State.millerLives_iff (s : State) :
    s.millerLives = true ↔ s.dget MILLER.STATUS_CORE ≠ 0 ∧ s.dget MILLER.STATUS_CORE ≠ 3 := by
  unfold State.millerLives
  rw [Bool.and_eq_true, bne_iff_ne, bne_iff_ne]

/-- Settles O22: a restart past its guard, and the open guards of the wright's events. -/
theorem aWrightRestartsUnderItsLimit : Obligations.AWrightRestartsUnderItsLimit := by
  unfold Obligations.AWrightRestartsUnderItsLimit
  refine ⟨fun s n cause hrun hhold hreset => ?restart,
    fun after => Event.of_exec (fun _ _ => rfl) fun s n hlives => if_pos ((State.millerLives_iff _).mpr hlives),
    fun c after => Event.of_exec (fun _ _ => rfl) fun s n _ => ?trap,
    Event.of_exec (fun _ _ => rfl) fun s n ⟨hhold, hreset⟩ => ?holdEnds, fun _ _ _ => rfl,
    fun image => Event.of_exec (fun _ _ => rfl) fun s n ⟨hload, hmiller, hreset⟩ => ?copied,
    fun j => Event.of_exec (fun _ _ => rfl) fun s n ⟨hserves, hfull, hage⟩ => ?unread⟩
  case restart => exact if_neg (by simp [hrun, hhold, hreset])
  case trap => cases c <;> rfl
  case holdEnds => exact if_pos (by simp [hhold, hreset])
  case copied => exact if_neg (by simp [hload, hmiller, hreset])
  case unread => exact if_pos (by simp [hserves, hfull, hage])

/-! ## Taking, checking and answering (R120 to R123, R127) -/

section
variable {s : State} {k : Fin 4} (hserves : s.fwServes = true) (hfree : s.fwCmd k = none) (hfull : s.boxFull (.h2m k) = true)
include hserves hfree hfull

/-- Firmware takes a message whose payload words are all sound. -/
theorem State.fwTake_sound (hsound : ∀ i < 16, boxAddr (.h2m k) + 4 * i ∉ s.dev.badRegs) :
    s.fwTake k =
      let c : FwCmd := { box := k, words := (List.range 16).map fun i => s.boxWord (.h2m k) i }
      let t := ((s.bset (.h2m k) BOX.STATE_FULL 0).dirq (MBX.IRQ_TAKEN.bit k)).modDev fun d => { d with fw := d.fw ++ [c] }
      if t.fwCheck c ≠ 0 then t.fwFail k (t.fwCheck c)
      else if fwBehind k [] t.dev.fw then t.modFw k fun c => { c with held := true } else t := by
  have hfind : ((List.range 16).find? fun i => s.dev.badRegs.contains (boxAddr (.h2m k) + 4 * i)) = none := by
    rw [List.find?_eq_none]
    intro i hi
    simpa using hsound i (List.mem_range.mp hi)
  have htake : s.boxTake (.h2m k) = (s.bset (.h2m k) BOX.STATE_FULL 0).dirq (MBX.IRQ_TAKEN.bit k) := if_pos hfull
  unfold State.fwTake
  rw [if_neg (by simp [hserves, hfree]), if_neg (by simp [hfull]), hfind, htake]

/-- A first payload word of bad parity traps the Miller instead (R112). -/
theorem State.fwTake_spoiled (hbad : boxAddr (.h2m k) ∈ s.dev.badRegs) :
    s.fwTake k =
      (s.draise MBX.FLT_MBX_PARITY
        { flags := 9, detail := some (BitVec.ofNat 32 (boxAddr (.h2m k))), req := some reqMiller }).millerRestart 4 := by
  have hfind : ((List.range 16).find? fun i => s.dev.badRegs.contains (boxAddr (.h2m k) + 4 * i)) = some 0 :=
    List.find?_cons_of_pos (by simpa using hbad)
  unfold State.fwTake
  rw [if_neg (by simp [hserves, hfree]), if_neg (by simp [hfull]), hfind]
  dsimp only
  rw [Nat.mul_zero, Nat.add_zero]

end

/-- An unknown code fails the first check. -/
theorem State.fwCheck_unknown (s : State) {c : FwCmd} (h : fwTable (fwOp c) = none) : s.fwCheck c = 1 := by
  unfold State.fwCheck
  simp only [h]

/-- No state forbids PING. -/
theorem State.fwWrongState_ping (s : State) {c : FwCmd} (hop : fwOp c = 0x01) (hdev : fwChan c = 15) :
    s.fwWrongState c = false := by
  unfold State.fwWrongState
  simp [hop, hdev]

theorem State.fwBadArg_ping (s : State) {c : FwCmd} (hop : fwOp c = 0x01) : s.fwBadArg c = false := by
  unfold State.fwBadArg
  simp only [hop]

/-- A PING for the device, of a length in its range, passes every check. -/
theorem State.fwCheck_ping (s : State) {c : FwCmd} (hop : fwOp c = 0x01) (hdev : fwChan c = 15) (hlen : fwAlen c ≤ 15)
    (hzero : getBits (c.words.headD 0) 6 6 = 0) : s.fwCheck c = 0 := by
  have hrow : fwTable (fwOp c) = some (false, true, 0, 15) := by rw [hop]; rfl
  unfold State.fwCheck
  simp only [hrow, hdev, hzero, State.fwWrongState_ping s hop hdev, State.fwBadArg_ping s hop]
  rw [if_neg (by omega)]
  rfl

/-- Settles O25: firmware's taking on sound and on spoiled words, the open guards of the two events, and the checks of an unknown
code and of PING. -/
theorem firmwareTakesChecksAndAnswers : Obligations.FirmwareTakesChecksAndAnswers := by
  unfold Obligations.FirmwareTakesChecksAndAnswers
  refine ⟨fun k => When.of_exec (fun _ => rfl) fun s ⟨hserves, hfree, hfull, hsound⟩ =>
      State.fwTake_sound hserves hfree hfull hsound,
    fun k => When.of_exec (fun _ => rfl) fun s ⟨hserves, hfree, hfull, hbad⟩ => State.fwTake_spoiled hserves hfree hfull hbad,
    fun k c => When.of_exec (fun _ => rfl) fun s ⟨hcmd, hheld, hserves, hfirst⟩ => ?starts,
    fun k c words => When.of_exec (fun _ => rfl) fun s ⟨hcmd, hphase, hserves, hempty⟩ => ?posts,
    fun s c => s.fwCheck_unknown, fun s c => s.fwCheck_ping⟩
  case starts =>
    unfold doHeldCommandStart
    simp only [hcmd]
    exact if_neg (by simp [hheld, hserves, hfirst])
  case posts =>
    unfold doResponsePost
    simp only [hcmd, hphase, hserves, if_true]
    exact if_neg (by simp [hempty])

/-! ## The work of the commands (R128) -/

/-- Settles O26: each command's first part on the command that firmware has taken. -/
theorem firmwareCommandsDoTheirWork : Obligations.FirmwareCommandsDoTheirWork := by
  unfold Obligations.FirmwareCommandsDoTheirWork
  refine ⟨fun k c => When.of_exec (fun _ => rfl) fun s htaken => ?ping,
    fun k c => When.of_exec (fun _ => rfl) fun s htaken => ?fwInfo,
    fun k c => When.of_exec (fun _ => rfl) fun s htaken => ?trialStatus,
    fun k c hinline => When.of_exec (fun _ => rfl) fun s htaken => ?mrSendInline,
    fun k c => When.of_exec (fun _ => rfl) fun s htaken => ?chPower,
    fun k c => When.of_exec (fun _ => rfl) fun s htaken => ?chBringup,
    fun k c t l hpad => When.of_exec (fun _ => rfl) fun s ⟨htaken, hstate, hbytes⟩ => ?mrSendPad,
    fun k c t hpad => When.of_exec (fun _ => rfl) fun s ⟨htaken, hread⟩ => ?mrSendTrap,
    fun k c => When.of_exec (fun _ => rfl) fun s htaken => ?hostRetrain,
    fun k c => When.of_exec (fun _ => rfl) fun s htaken => ?dressPass,
    fun k c => When.of_exec (fun _ => rfl) fun s htaken => ?trialCh,
    fun k c => When.of_exec (fun _ => rfl) fun s htaken => ?scrub,
    fun k c => When.of_exec (fun _ => rfl) fun s ⟨htaken, hpinned⟩ => ?memTestPinned,
    fun k c => When.of_exec (fun _ => rfl) fun s ⟨htaken, hpinned⟩ => ?memTest,
    fun k c => When.of_exec (fun _ => rfl) fun s htaken => ?restartWright⟩
  case ping => unfold doPing; rw [htaken]
  case fwInfo => unfold doFwInfo; rw [htaken]
  case trialStatus => unfold doTrialStatus; rw [htaken]
  case mrSendInline =>
    unfold doMrSend
    rw [htaken]
    exact if_pos hinline
  case chPower => unfold doChPower; rw [htaken]
  case chBringup =>
    unfold doChBringup
    rw [htaken]
    rfl
  case mrSendPad =>
    obtain ⟨d, hread, rfl⟩ := Option.map_eq_some_iff.mp hbytes
    unfold doMrSend
    rw [htaken]
    dsimp only
    rw [if_neg hpad, hread, hstate] <;> rfl
  case mrSendTrap =>
    unfold doMrSend
    rw [htaken]
    dsimp only
    rw [if_neg hpad, hread]
  case hostRetrain => unfold doHostRetrain; rw [htaken]
  case dressPass => unfold doDressPass; rw [htaken]
  case trialCh => unfold doTrialCh; rw [htaken]
  case scrub => unfold doScrub; rw [htaken]
  case memTestPinned =>
    unfold doMemTest
    rw [htaken]
    exact if_pos hpinned
  case memTest =>
    unfold doMemTest
    rw [htaken]
    exact if_neg (by simp [hpinned])
  case restartWright => unfold doRestartWright; rw [htaken]

/-! ## The answers at the end of the work (R128, R437, R498) -/

/-- Settles O27: each command's second part on the command that firmware has begun, its work at rest. -/
theorem firmwareAnswersWhenTheWorkHasEnded : Obligations.FirmwareAnswersWhenTheWorkHasEnded := by
  unfold Obligations.FirmwareAnswersWhenTheWorkHasEnded
  refine ⟨fun k c ms => When.of_exec (fun _ => rfl) fun s ⟨hbegun, hnote⟩ => ?chPowerRefused,
    fun k c ms => When.of_exec (fun _ => rfl) fun s ⟨hbegun, hnote, hphase, hlatched⟩ => ?chPower,
    fun k c ms => When.of_exec (fun _ => rfl) fun s hbegun => ?chBringup,
    fun k c ms => When.of_exec (fun _ => rfl) fun s hbegun => ?hostRetrain,
    fun k c ms => When.of_exec (fun _ => rfl) fun s ⟨hbegun, hidle, hheld⟩ => ?dressPass,
    fun k c ms => When.of_exec (fun _ => rfl) fun s ⟨hbegun, hended⟩ => ?trialCh,
    fun k c ms => When.of_exec (fun _ => rfl) fun s ⟨hbegun, hidle, hheld⟩ => ?scrub,
    fun k c ms => When.of_exec (fun _ => rfl) fun s ⟨hbegun, hidle, hheld, hstopped, hpinned⟩ => ?memTest,
    fun k c ms => When.of_exec (fun _ => rfl) fun s ⟨hbegun, hidle, hheld, hrefused⟩ => ?memTestRefused,
    fun k c ms => When.of_exec (fun _ => rfl) fun s ⟨hbegun, hruns⟩ => ?restartWright⟩
  case chPowerRefused =>
    unfold doChPower
    rw [hbegun]
    exact if_pos hnote
  case chPower =>
    unfold doChPower
    rw [hbegun]
    dsimp only
    rw [if_neg (not_not.mpr hnote), if_neg (by simp [hphase, hlatched])]
  case chBringup => unfold doChBringup; rw [hbegun]
  case hostRetrain => unfold doHostRetrain; rw [hbegun]
  case dressPass =>
    unfold doDressPass
    rw [hbegun]
    exact if_neg (by simp [hidle, hheld])
  case trialCh =>
    unfold doTrialCh
    rw [hbegun]
    exact if_neg (by simp [hended])
  case scrub =>
    unfold doScrub
    rw [hbegun]
    exact if_neg (by simp [hidle, hheld])
  case memTest =>
    unfold doMemTest
    rw [hbegun]
    dsimp only
    rw [if_neg (by simp [hidle, hheld]), if_neg hstopped, if_neg hpinned]
  case memTestRefused =>
    unfold doMemTest
    rw [hbegun]
    dsimp only
    rw [if_neg (by simp [hidle, hheld])]
    by_cases hstopped : s.xget (fwScope c) MEM.MARCH_RESULT_RESULT = 6
    · rw [if_pos hstopped, if_pos hstopped]
    · rw [if_neg hstopped, if_neg hstopped, if_pos (hrefused.resolve_left hstopped)]
  case restartWright =>
    unfold doRestartWright
    rw [hbegun]
    exact if_pos hruns

end Sys2Proof.Machine
end

section
/-! PROOFS. The statements of 05_host_lanes.md about a lane's way from signal to data (R134, R142, R143, R145, R147 to R150) and
about how it leaves DATA, retries and adapts (R141, R145, R149, R151, R152, R155). -/

namespace Sys2Proof.Machine

/-! ## What leaves a lane's hidden state and its STATE alone -/

section
variable (s : State) (n : Ch) (l : Fin 2)

/-- A lane's hidden state reads as it was last rewritten. -/
@[simp] theorem State.lane_modLane_same (f : LaneSt → LaneSt) : (s.modLane n l f).lane n l = f (s.lane n l) := by
  unfold State.modLane State.lane
  rw [State.chan_modCh_same]
  split_ifs <;> rfl

@[simp] theorem State.lane_set (m : Ch) (f : Field) (v : Nat) : (s.set m f v).lane n l = s.lane n l := by
  unfold State.lane
  rw [State.set_chan]

@[simp] theorem State.lane_setI (m : Ch) (f : Field) (v : Int) : (s.setI m f v).lane n l = s.lane n l :=
  State.lane_set ..

@[simp] theorem State.lane_setSat (m : Ch) (f : Field) (v : Nat) : (s.setSat m f v).lane n l = s.lane n l :=
  State.lane_set ..

/-- The FFE's taps are registers alone. -/
@[simp] theorem State.lane_setTaps (k : Fin 2) (i : Nat) (cs : List Int) : (s.setTaps n k i cs).lane n l = s.lane n l := by
  induction cs generalizing s i with
  | nil => unfold State.setTaps; rfl
  | cons c cs ih =>
    unfold State.setTaps
    split_ifs
    · exact (ih ..).trans (State.lane_setI ..)
    · rfl

/-- A field that shares no bit with STATE leaves the lane in its state. -/
theorem State.laneState_set {f : Field} (v : Nat) (h : f.apart (HL.STATUS_STATE l) = true) :
    (s.set n f v).laneState n l = s.laneState n l := State.get_set_apart s v h

/-- SIG_DET's rise shows in STATUS and IRQ_RAW alone (R142). -/
theorem State.laneState_sigDetect :
    ((s.set n (HL.STATUS_SIG_DET l) 1).irq n (HL.IRQ_SIG_DETECT l)).laneState n l = s.laneState n l := by
  have hdet : ∀ k : Fin 2, (HL.STATUS_SIG_DET k).apart (HL.STATUS_STATE k) = true := by decide
  have hirq : ∀ k : Fin 2, (HL.IRQ_SIG_DETECT k).apart (HL.STATUS_STATE k) = true := by decide
  exact (State.laneState_set _ n l 1 (hirq l)).trans (State.laneState_set s n l 1 (hdet l))

end

/-! ## From signal to data (R134, R142, R143, R145, R147 to R150) -/

/-- SIG_DET rises in a lane out of IDLE: SIG_WAIT alone gives way to CDR_ACQ (R134, R142). -/
theorem doHostSigDetect_rise {s : State} {n : Ch} {l : Fin 2} (hstate : s.laneState n l ≠ 0)
    (hdet : s.is n (HL.STATUS_SIG_DET l) = false) :
    doHostSigDetect n l s =
      let t := (s.set n (HL.STATUS_SIG_DET l) 1).irq n (HL.IRQ_SIG_DETECT l)
      if s.laneState n l = 1 then t.set n (HL.STATUS_STATE l) 2 else t := by
  unfold doHostSigDetect
  rw [if_neg hstate]
  simp only [hdet, Bool.false_eq_true, if_false, State.laneState_sigDetect]

/-- Settles O30: in each clause the guard of the event is open, and what it guards is the clause's state. -/
theorem aLaneMovesFromSignalToData : Obligations.ALaneMovesFromSignalToData := by
  unfold Obligations.ALaneMovesFromSignalToData
  refine ⟨fun l => Event.of_exec (fun _ _ => rfl) fun s n ⟨hstate, hdet⟩ => ?detectWaiting,
    fun l => Event.of_exec (fun _ _ => rfl) fun s n ⟨hstate, hdet⟩ => ?detectLater,
    fun l => Event.of_exec (fun _ _ => rfl) fun s n hstate => ?fallInTraining,
    fun l => Event.of_exec (fun _ _ => rfl) fun s n hstate => ?fallInData,
    fun l => Event.of_exec (fun _ _ => rfl) fun s n hstate => ?fallShort,
    fun l ppm hlo hhi => Event.of_exec (fun _ _ => rfl) fun s n ⟨hstate, htrain⟩ => ?lockTraining,
    fun l ppm hlo hhi => Event.of_exec (fun _ _ => rfl) fun s n ⟨hstate, htrain⟩ => ?lockData,
    fun l ppm hout => Event.of_exec (fun _ _ => rfl) fun s n _ => if_pos hout,
    fun l ppm hlo hhi => Event.of_exec (fun _ _ => rfl) fun s n hlock => ?ppmWithin,
    fun l ppm hout => Event.of_exec (fun _ _ => rfl) fun s n hlock => ?ppmBeyond,
    fun l inv far => Event.of_exec (fun _ _ => rfl) fun s n ⟨hstate, hframe, hpol⟩ => ?framed,
    fun l inv far => Event.of_exec (fun _ _ => rfl) fun s n ⟨hstate, hframe, hpol, hauto⟩ => ?inverted,
    fun s n l far hdecided => if_pos hdecided, fun s n l far hopen => if_neg (by simp [hopen]),
    fun l ms => Event.of_exec (fun _ _ => rfl) fun s n ⟨hstate, hready⟩ => if_neg (by simp [hstate, hready])⟩
  case detectWaiting => exact (doHostSigDetect_rise (by omega) hdet).trans (if_pos hstate)
  case detectLater => exact (doHostSigDetect_rise (by omega) hdet).trans (if_neg (by omega))
  case fallInTraining =>
    unfold doHostSigFall
    rcases hstate with hstate | hstate <;> simp only [hstate, OfNat.ofNat_ne_zero, Bool.true_eq_false, if_false]
  case fallInData =>
    unfold doHostSigFall
    simp only [hstate, OfNat.ofNat_ne_zero, Bool.true_eq_false, if_false]
  case fallShort => exact (if_neg hstate).trans (if_pos rfl)
  case lockTraining =>
    unfold doCdrLock
    rw [if_neg (by omega)]
    simp only [hstate, State.lane_setI, State.lane_set, htrain, if_true]
  case lockData =>
    unfold doCdrLock
    rw [if_neg (by omega)]
    simp only [hstate, State.lane_setI, State.lane_set, htrain, Bool.false_eq_true, if_false]
  case ppmWithin =>
    unfold doCdrPpmUpdate
    rw [if_neg (by simp [hlock]), if_pos ⟨hlo, hhi⟩]
  case ppmBeyond =>
    unfold doCdrPpmUpdate
    rw [if_neg (by simp [hlock]), if_neg (by omega)]
  case framed =>
    unfold doFrameLock
    rw [if_neg (by simp [hstate, hframe])]
    refine if_neg ?_
    rcases hpol with hpol | hauto
    · simp [hpol]
    · simp [hauto]
  case inverted =>
    unfold doFrameLock
    rw [if_neg (by simp [hstate, hframe])]
    exact if_pos (by simp [hpol, hauto])

/-! ## Retries (R149, R151, R152, R155) -/

/-- RETRAIN at its target (R152). -/
theorem State.wsAct_retrain (t : State) (n : Ch) (l : Fin 2) :
    t.wsAct ((HL.CMD_RETRAIN l).addr n) (HL.CMD_RETRAIN l).lo = t.retrain n l := by
  have hfield : ∀ k : Fin 2, chField (HL.CMD_RETRAIN k) = true := by decide
  have hoff0 : ∀ k : Fin 2, (HL.CMD_RETRAIN k).addr 0 % 0x1000 = 0x44 := by decide
  obtain ⟨hpage, hoff, hch⟩ := chField_addr (hfield l) n
  replace hoff := hoff.trans (hoff0 l)
  unfold State.wsAct
  obtain rfl | rfl : l = 0 ∨ l = 1 := by omega
  · rw [hpage.trans (show pageCode ((HL.CMD_RETRAIN (0 : Fin 2)).addr 0) = 0x21 by decide), hoff, hch]
    rfl
  · rw [hpage.trans (show pageCode ((HL.CMD_RETRAIN (1 : Fin 2)).addr 0) = 0x22 by decide), hoff, hch]
    rfl

/-! ## The requester's measurements and the windows of DATA (R141, R145) -/

/-- A request that waits for its status is counted, and its tap counts as dead at the second time (R145). -/
theorem doTrainNoresp_waiting {s : State} {n : Ch} {l : Fin 2} {pos : Nat} {up turned : Bool} (hstate : s.laneState n l = 3)
    (hstep : (s.lane n l).step = .tap pos up turned) (hwait : (s.lane n l).waiting = true) :
    doTrainNoresp n l s =
      let tap := (tapOrder (s.is n (HL.STATUS_EXT_ACTIVE l))).getD pos 0
      let t := s.sat n (HL.COUNTS1_NORESP_COUNT l)
      if tap ∈ (s.lane n l).noresp then
        (t.modLane n l fun y => { y with dead := tap :: y.dead, waiting := false }).startTap n l (pos + 1)
      else (t.modLane n l fun y => { y with noresp := tap :: y.noresp }).sendReq n l pos up turned := by
  unfold doTrainNoresp
  simp only [hstate, hstep, hwait, if_true, List.contains_iff_mem]

/-- Settles O31: RETRAIN at its target, the open guards of the lane's events, each step of the requester after a measurement, and
the window of DATA in and out of range, held and not. -/
theorem aLaneRetriesAndAdaptsByItsMeasurements : Obligations.ALaneRetriesAndAdaptsByItsMeasurements := by
  unfold Obligations.ALaneRetriesAndAdaptsByItsMeasurements
  have hfield : ∀ k : Fin 2, wsField (HL.CMD_RETRAIN k) = true := by decide +kernel
  refine ⟨⟨fun l cause hcause => Event.of_exec (fun _ _ => rfl) fun s n hstate => ?lost,
      fun l => Event.of_exec (fun _ _ => rfl) fun s n hstate => if_neg hstate,
      fun l => RequestWhen.of_wsAct (fun _ _ => rfl) (hfield l) fun t n hstate => ?retrained,
      fun l => RequestWhen.of_wsAct (fun _ _ => rfl) (hfield l) fun t n hstate => ?discarded,
      fun l => Event.of_exec (fun _ _ => rfl) fun s n ⟨hlo, hhi, htrain⟩ => if_pos ⟨by omega, htrain⟩,
      fun l => Event.of_exec (fun _ _ => rfl) fun s n hstate => if_neg fun ⟨htraining, _⟩ => by omega,
      fun l => Event.of_exec (fun _ _ => rfl) fun s n hretry => if_pos hretry,
      fun l k => Event.of_exec (fun _ _ => rfl) fun s n hstate => if_neg hstate⟩,
    fun l snr clipped taps dfe => Event.of_exec (fun _ _ => rfl) fun s n ⟨hstate, hframe⟩ => ?measured,
    fun l pos up turned => Event.of_exec (fun _ _ => rfl) fun s n ⟨hstate, hstep, hwait⟩ => ?unanswered,
    fun l occ snr clipped signs dress hocc => Event.of_exec (fun _ _ => rfl) fun s n ⟨hstate, hheld, hadapt⟩ => ?outOfRange,
    fun l occ snr clipped signs dress hocc => Event.of_exec (fun _ _ => rfl) fun s n ⟨hstate, hheld⟩ => ?held,
    fun l occ snr clipped signs dress hocc =>
      Event.of_exec (fun _ _ => rfl) fun s n ⟨hstate, hheld, hadapt, hdet⟩ => ?adapted⟩
  case lost =>
    unfold doLockLost
    rw [if_pos hstate]
    cases cause with
    | signal => exact absurd rfl hcause
    | cdr => rfl
    | marker => rfl
  case retrained => exact (State.wsAct_retrain t n l).trans (if_pos hstate)
  case discarded => exact (State.wsAct_retrain t n l).trans (if_neg (by omega))
  case measured =>
    unfold doTrainMeasurement
    rw [if_neg (by simp [hstate, hframe])]
    cases hstep : (s.lane n l).step <;>
      simp only [hstep, State.lane_modLane_same, State.lane_setI, State.lane_setTaps, State.lane_set, State.lane_setSat]
  case unanswered => exact doTrainNoresp_waiting hstate hstep hwait
  case outOfRange =>
    unfold doHostGuardWindow
    rw [if_neg (by simp [hstate])]
    simp only [hocc, hheld, hadapt, Bool.false_and, Bool.false_eq_true, if_false]
  case held =>
    unfold doHostGuardWindow
    rw [if_neg (by simp [hstate])]
    simp only [hocc, hheld, Bool.not_true, Bool.and_false, Bool.false_eq_true, if_false, if_true, Bool.true_and,
      decide_eq_true_eq, State.lane_set, State.lane_setSat]
  case adapted =>
    unfold doHostGuardWindow
    rw [if_neg (by simp [hstate])]
    simp only [hocc, hheld, hadapt, hdet, Bool.not_false, Bool.and_self, Bool.false_and, Bool.false_eq_true, if_true, if_false]

end Sys2Proof.Machine
end

section
/-! PROOFS. The statement of 05_host_lanes.md about received training requests and the transmit filter's registers (R136, R137,
R143, R144). -/

namespace Sys2Proof.Machine

/-! ## Received requests (R136, R143, R144) -/

/-- A step within the coefficient's range is taken where the sum allows it (R136, R144). -/
theorem firStep_within {ext : Bool} {c : List Int} {i : Nat} {up : Bool}
    (hlo : (firRange ext i).1 ≤ c.getD i 0 + (if up then 1 else -1))
    (hhi : c.getD i 0 + (if up then 1 else -1) ≤ (firRange ext i).2) :
    firStep ext c i up =
      if firSum (c.set i (c.getD i 0 + (if up then 1 else -1))) ≤ 64 then
        (.updated, c.set i (c.getD i 0 + (if up then 1 else -1)))
      else (.equLimit, c) := if_pos ⟨hlo, hhi⟩

/-- A step beyond it changes nothing (R136, R144). -/
theorem firStep_beyond {ext : Bool} {c : List Int} {i : Nat} {up : Bool} {v : Int}
    (hv : v = c.getD i 0 + (if up then 1 else -1)) (hout : v < (firRange ext i).1 ∨ (firRange ext i).2 < v) :
    firStep ext c i up =
      (if ext = false ∧ (firRange true i).1 ≤ v ∧ v ≤ (firRange true i).2 then .notSupported else if up then .atMax else .atMin,
        c) := by
  unfold firStep
  dsimp only
  rw [← hv, if_neg (by omega)]
  by_cases hwide : ext = false ∧ (firRange true i).1 ≤ v ∧ v ≤ (firRange true i).2
  · rw [if_pos (by simpa using hwide), if_pos hwide]
  · rw [if_neg (by simpa using hwide), if_neg hwide]

section
variable {s : State} {n : Ch} {l : Fin 2} {req : TrainReq} (far : Bool) (hreq : req ≠ .hold) (hstate : s.laneState n l = 3)
  (hframe : s.is n (HL.STATUS_FRAME_LOCK l) = true)
include hreq hstate hframe

/-- A request that follows hold is answered (R144). -/
theorem doTrainRequest_fresh (hlast : (s.lane n l).last = none) :
    doTrainRequest n l req far s =
      let t := s.set n (HL.STATUS_REMOTE_READY l) (if far then 1 else 0)
      (t.setFirActive n l (t.answerTo n l req).2).modLane n l fun x =>
        { x with last := some req, answer := (t.answerTo n l req).1, reqRcvd := x.reqRcvd + 1 } := by
  unfold doTrainRequest
  rw [if_neg (by simp [hstate, hframe]), if_neg hreq]
  simp only [State.lane_set, hlast]

/-- Without a return to hold a request changes no coefficient, and one that differs from the last is an error (R144). -/
theorem doTrainRequest_again {q : TrainReq} (hlast : (s.lane n l).last = some q) :
    doTrainRequest n l req far s =
      let t := s.set n (HL.STATUS_REMOTE_READY l) (if far then 1 else 0)
      if req = q then t
      else
        ((t.irq n (HL.IRQ_REQ_PROTOCOL_ERR l)).sat n (HL.COUNTS1_PROTO_ERR_COUNT l)).modLane n l fun x =>
          { x with last := some req } := by
  unfold doTrainRequest
  rw [if_neg (by simp [hstate, hframe]), if_neg hreq]
  simp only [State.lane_set, hlast]

end

/-! ## The transmit filter's registers (R137) -/

theorem plainAt_txFir : ∀ (l : Fin 2) (hi : Bool), plainAt (if hi then HL.TX_FIR1 l else HL.TX_FIR0 l) = true := by decide

theorem chField_txFir : ∀ (l : Fin 2) (hi : Bool), chField (if hi then HL.TX_FIR1 l else HL.TX_FIR0 l) = true := by decide

theorem txFir_not_cntWritten (n : Ch) (l : Fin 2) (hi : Bool) :
    ¬ cntWritten ((if hi then HL.TX_FIR1 l else HL.TX_FIR0 l).addr n % 0x1000) := by
  have hoff : ∀ (k : Fin 2) (b : Bool), ¬ cntWritten (if b then HL.TX_FIR1 k else HL.TX_FIR0 k).off := by
    unfold cntWritten
    decide
  rw [off_addr (chField_txFir l hi)]
  exact hoff l hi

/-- TX_FIR0 and TX_FIR1 at their target. -/
theorem State.regStore_txFir (t : State) (n : Ch) (l : Fin 2) (hi : Bool) (data : Word) (req : Nat) :
    t.regStore ((if hi then HL.TX_FIR1 l else HL.TX_FIR0 l).addr n) data req = (codeOk, t.writeTxFir n l hi data) := by
  have hpage0 : ∀ b : Bool, pageCode ((if b then HL.TX_FIR1 0 else HL.TX_FIR0 0).addr 0) = 0x21 := by decide
  have hpage1 : ∀ b : Bool, pageCode ((if b then HL.TX_FIR1 1 else HL.TX_FIR0 1).addr 0) = 0x22 := by decide
  have hoff0 : ∀ (k : Fin 2) (b : Bool), (if b then HL.TX_FIR1 k else HL.TX_FIR0 k).addr 0 % 0x1000 = if b then 0x5C else 0x58 := by
    decide
  obtain ⟨hpage, hoff, -⟩ := chField_addr (chField_txFir l hi) n
  rw [regStore_chan t (plainAt_txFir l hi), hpage]
  unfold State.writeLink
  simp only [hpage, hoff.trans (hoff0 l hi)]
  obtain rfl | rfl : l = 0 ∨ l = 1 := by omega
  · simp only [Fin.val_zero, hpage0]
    cases hi <;> simp
  · simp only [Fin.val_one, hpage1]
    cases hi <;> simp

/-- With TRAIN_EN 0 in force and the lane out of IDLE a write of the filter is applied or marked bad at once (R137). -/
theorem State.writeTxFir_notTrained {t : State} {n : Ch} {l : Fin 2} (hi : Bool) (data : Word)
    (htrain : (t.lane n l).trainEn = false) (hstate : t.laneState n l ≠ 0) :
    t.writeTxFir n l hi data =
      let u := t.set n (if hi then HL.TX_FIR1 l else HL.TX_FIR0 l) (data.toNat % 0x1000000)
      if firOk (u.is n (HL.STATUS_EXT_ACTIVE l)) (u.firStaged n l) then
        (u.set n (HL.STATUS_FIR_BAD l) 0).setFirActive n l ((u.set n (HL.STATUS_FIR_BAD l) 0).firStaged n l)
      else u.set n (HL.STATUS_FIR_BAD l) 1 := by
  have hfir : ∀ (k : Fin 2) (b : Bool), (if b then HL.TX_FIR1 k else HL.TX_FIR0 k).apart (HL.STATUS_STATE k) = true := by decide
  have hbad : ∀ k : Fin 2, (HL.STATUS_FIR_BAD k).apart (HL.STATUS_STATE k) = true := by decide
  unfold State.writeTxFir
  simp only [State.lane_set, htrain, State.laneState_set _ _ _ _ (hbad l), State.laneState_set _ _ _ _ (hfir l hi), hstate,
    Bool.false_or, beq_iff_eq, if_false]

/-- Settles O32: a coefficient's step within and beyond its range, each request after hold and without it, and the write of
TX_FIR0 or TX_FIR1 at its target. -/
theorem aTrainingRequestObeysTheRanges : Obligations.ATrainingRequestObeysTheRanges := by
  unfold Obligations.ATrainingRequestObeysTheRanges
  refine ⟨fun ext c i up hlo hhi => firStep_within hlo hhi, fun ext c i up hout => firStep_beyond rfl hout,
    fun l far => Event.of_exec (fun _ _ => rfl) fun s n ⟨hstate, hframe⟩ => ?hold,
    fun l sel up far => Event.of_exec (fun _ _ => rfl) fun s n ⟨hstate, hframe, hlast⟩ => ?step,
    fun l p far => Event.of_exec (fun _ _ => rfl) fun s n ⟨hstate, hframe, hlast⟩ => ?preset,
    fun l req far hreq => Event.of_exec (fun _ _ => rfl) fun s n ⟨hstate, hframe, hlast⟩ => ?same,
    fun l req q far hreq hq => Event.of_exec (fun _ _ => rfl) fun s n ⟨hstate, hframe, hlast⟩ => ?changed,
    fun l hi data n => Put.of_regStore (fun _ => rfl) (.inr (txFir_not_cntWritten n l hi)) fun t ⟨htrain, hstate⟩ => ?written⟩
  case hold =>
    unfold doTrainRequest
    rw [if_neg (by simp [hstate, hframe])]
    exact if_pos rfl
  case step => exact doTrainRequest_fresh far TrainReq.noConfusion hstate hframe hlast
  case preset => exact doTrainRequest_fresh far TrainReq.noConfusion hstate hframe hlast
  case same => exact (doTrainRequest_again far hreq hstate hframe hlast).trans (if_pos rfl)
  case changed => exact (doTrainRequest_again far hreq hstate hframe hlast).trans (if_neg hq)
  case written => rw [State.regStore_txFir, State.writeTxFir_notTrained hi data htrain hstate]

end Sys2Proof.Machine
end

section
/-! PROOFS. The statements of 06_outer_code_and_pcs.md about a marker hunter (R159, R162) and about codewords (R160, R165 to R169,
R173, R174). -/

namespace Sys2Proof.Machine

/-! ## A judged marker period (R159, R162) -/

section
variable {w : Nat} {manual : Bool} {v : Hunter} {m : Marker} {ok skewOut : Bool}

/-- HUNT gives way to CONFIRM at a valid marker among the 128 offsets under test. -/
theorem hunterNext_hunt_found (hstate : v.state = 1) (hgroup : (m.offset + w - v.start) % w < 128) :
    hunterNext w manual v m true skewOut = { v with state := 3, pos := m.offset, lanes := m.lanes } := by
  unfold hunterNext
  simp only [hstate, hgroup, decide_true, Bool.and_self, if_true]

/-- CONFIRM gives way to LOCKED at a second valid marker. -/
theorem hunterNext_confirm_valid (hstate : v.state = 3) (hpos : m.offset = v.pos) :
    hunterNext w manual v m true skewOut = { v with state := 4, bad := 0, skewBad := 0, lanes := m.lanes } := by
  unfold hunterNext
  simp only [hstate, hpos, beq_self_eq_true, Bool.and_self, if_true]

section
variable (hstate : v.state = 4)
include hstate

/-- A valid period of a LOCKED hunter starts the count of invalid ones afresh. -/
theorem hunterNext_locked_valid (hpos : m.offset = v.pos) :
    hunterNext w manual v m true false = { v with bad := 0, skewBad := 0, lanes := m.lanes } := by
  unfold hunterNext
  simp only [hstate, hpos, beq_self_eq_true, Bool.not_false, Bool.and_self, if_true]

/-- One of its first four invalid periods in a row is counted. -/
theorem hunterNext_locked_invalid (hinvalid : (ok && !skewOut) = false) (hbad : v.bad < 4) :
    hunterNext w manual v m ok skewOut =
      { v with bad := v.bad + 1, skewBad := if skewOut then v.skewBad + 1 else 0 } := by
  have hmiss : (ok && m.offset == v.pos && !skewOut) = false := by rw [Bool.and_right_comm, hinvalid, Bool.false_and]
  unfold hunterNext
  simp only [hstate, hmiss, Bool.false_eq_true, if_false]
  exact if_pos (by omega)

/-- The fifth in a row loses the lock. -/
theorem hunterNext_locked_lost (hinvalid : (ok && !skewOut) = false) (hbad : v.bad = 4) :
    hunterNext w manual v m ok skewOut = lostTo manual v (v.pos / 128 * 128) := by
  have hmiss : (ok && m.offset == v.pos && !skewOut) = false := by rw [Bool.and_right_comm, hinvalid, Bool.false_and]
  unfold hunterNext
  simp only [hstate, hmiss, Bool.false_eq_true, if_false]
  exact if_neg (by omega)

end

end

/-- The hunter after a run of invalid periods. -/
def hunterMisses (w : Nat) (manual : Bool) (v : Hunter) (ms : List Marker) : Hunter :=
  ms.foldl (fun x m => hunterNext w manual x m false false) v

/-- A LOCKED hunter keeps its lock and its offset until five invalid periods in a row are counted. -/
theorem hunterMisses_upTo_four (w : Nat) (manual : Bool) {v : Hunter} (ms : List Marker) (hstate : v.state = 4)
    (hbad : v.bad + ms.length ≤ 4) :
    (hunterMisses w manual v ms).state = 4 ∧ (hunterMisses w manual v ms).pos = v.pos ∧
      (hunterMisses w manual v ms).bad = v.bad + ms.length := by
  induction ms generalizing v with
  | nil => exact ⟨hstate, rfl, rfl⟩
  | cons m ms ih =>
    rw [List.length_cons] at hbad ⊢
    have hnext : hunterNext w manual v m false false = { v with bad := v.bad + 1, skewBad := 0 } :=
      hunterNext_locked_invalid hstate rfl (by omega)
    have hcons : hunterMisses w manual v (m :: ms) = hunterMisses w manual { v with bad := v.bad + 1, skewBad := 0 } ms :=
      congrArg (hunterMisses w manual · ms) hnext
    have hbad' : v.bad + 1 + ms.length ≤ 4 := by omega
    obtain ⟨hs, hp, hb⟩ := ih (v := { v with bad := v.bad + 1, skewBad := 0 }) hstate hbad'
    rw [hcons]
    exact ⟨hs, hp, hb.trans (by dsimp only; omega)⟩

/-- The fifth of five invalid periods in a row loses the lock to the state that `lostTo` gives. -/
theorem hunterMisses_five (w : Nat) (manual : Bool) {v : Hunter} (ms : List Marker) (hstate : v.state = 4) (hbad : v.bad = 0)
    (hlen : ms.length = 5) :
    (hunterMisses w manual v ms).state = (if manual then 2 else 1) ∧
      (hunterMisses w manual v ms).start = v.pos / 128 * 128 ∧ (hunterMisses w manual v ms).pos = v.pos := by
  rcases ms.eq_nil_or_concat' with rfl | ⟨four, last, rfl⟩
  · simp at hlen
  · have hfour : four.length = 4 := by simpa using hlen
    obtain ⟨hs, hp, hb⟩ := hunterMisses_upTo_four w manual four hstate (by omega)
    have hcount : (hunterMisses w manual v four).bad = 4 := by omega
    have hlost : hunterMisses w manual v (four ++ [last]) =
        lostTo manual (hunterMisses w manual v four) ((hunterMisses w manual v four).pos / 128 * 128) :=
      (List.foldl_append ..).trans (hunterNext_locked_lost hs rfl hcount)
    rw [hlost, hp]
    exact ⟨rfl, rfl, hp⟩

/-- Settles O33: two valid markers in turn, runs of four and of five invalid periods, and a valid or a skewed period of a LOCKED
hunter. -/
theorem aHunterLocksOnTwoMarkersAndLosesOnFiveMisses : Obligations.AHunterLocksOnTwoMarkersAndLosesOnFiveMisses := by
  unfold Obligations.AHunterLocksOnTwoMarkersAndLosesOnFiveMisses
  refine ⟨fun w v m hstate hgroup => ?locks, fun w man v ms hstate hbad hlen => ?keeps,
    fun w man v ms hstate hbad hlen => hunterMisses_five w man ms hstate hbad hlen,
    fun w man v m hstate hpos => ?afresh, fun w man v m ok hstate hbad => ?skewed⟩
  case locks =>
    rw [hunterNext_hunt_found hstate hgroup]
    refine ⟨rfl, rfl, fun m' hpos => ?_⟩
    rw [hunterNext_confirm_valid rfl hpos]
    exact ⟨rfl, rfl⟩
  case keeps =>
    obtain ⟨hs, hp, hb⟩ := hunterMisses_upTo_four w man ms hstate (by omega)
    exact ⟨hs, hp, hb.trans (by omega)⟩
  case afresh =>
    rw [hunterNext_locked_valid hstate hpos]
    exact ⟨hstate, rfl⟩
  case skewed => exact hunterNext_locked_invalid hstate (Bool.and_false ok) hbad

/-! ## What a decode comes to (R157, R167) -/

/-- Without erasures up to 15 symbols are corrected. -/
theorem rsDecode_unmarked (errs hit : Nat) : rsDecode errs 0 hit = if errs ≤ 15 then some (errs, 0) else none :=
  if_neg fun h => absurd h.1 (Nat.lt_irrefl 0)

/-- With erasures the decode that uses them comes first. -/
theorem rsDecode_erased {errs marked hit : Nat} (hmarked : 0 < marked) (hbound : 2 * (errs - hit) + marked ≤ 30) :
    rsDecode errs marked hit = some (errs, marked) := if_pos ⟨hmarked, hbound⟩

theorem rsDecode_isSome (errs marked hit : Nat) :
    (rsDecode errs marked hit).isSome = true ↔ errs ≤ 15 ∨ 0 < marked ∧ 2 * (errs - hit) + marked ≤ 30 := by
  unfold rsDecode
  split_ifs with herased hplain
  · exact iff_of_true rfl (.inr herased)
  · exact iff_of_true rfl (.inl hplain)
  · exact iff_of_false Bool.false_ne_true (not_or.mpr ⟨hplain, herased⟩)

theorem rsDecode_eq_some {errs marked hit c e : Nat} (h : rsDecode errs marked hit = some (c, e)) :
    c = errs ∧ (e = 0 ∨ e = marked) := by
  unfold rsDecode at h
  split_ifs at h
  · obtain ⟨rfl, rfl⟩ := Prod.mk.inj (Option.some.inj h)
    exact ⟨rfl, .inr rfl⟩
  · obtain ⟨rfl, rfl⟩ := Prod.mk.inj (Option.some.inj h)
    exact ⟨rfl, .inl rfl⟩

/-! ## A codeword of a side (R160, R165 to R169, R173, R174) -/

/-- The errors-only decode of a codeword, by the path decoder on the host side or without erasures, or by the monitor decoder. -/
theorem doCodewordDecode_errorsOnly {s : State} {n : Ch} {d : Fin 2} (cw : Codeword) (hlocked : s.sideLocked n d = true)
    (hon : s.is n TOP.STATUS_ACTIVE_OUTER = true ∨ s.is n HFEC.CTRL_EN = true)
    (hplain : s.is n TOP.STATUS_ACTIVE_OUTER = false ∨ d = 0 ∨ s.is n HFEC.CFG_ERASURE_EN = false) :
    doCodewordDecode n d cw s =
      let term := s.is n TOP.STATUS_ACTIVE_OUTER
      let c := (errorsFrom 0 cw.rx cw.code).length
      let t := if term then s else s.sideSends n d cw.rx
      let t1 := if d = 1 then t.modHfec n fun y => { y with marks := y.unripe } else t
      let u := ((t1.add64 n (HFEC.D_CW_LO d)).count n 0x28 (d.val + 1) 0).modHfec n fun y =>
        if d = 0 then { y with cwHost := y.cwHost + 1 } else { y with cwLine := y.cwLine + 1 }
      if c ≤ 15 then
        let u1 := if 0 < c then (u.add64 n (HFEC.D_CORR_LO d)).add64 n (HFEC.D_SYM_LO d) c else u
        let u2 := u1.add64 n (HFEC.D_BIN_LO d c)
        let u3 := if 0 < c then u2.count n 0x2A (d.val + 1) 0 c else u2
        let u4 := u3.modHfec n fun y => if d = 0 then { y with serHost := y.serHost + c } else { y with serLine := y.serLine + c }
        (if term then u4.sideSends n d (correctedCodeword cw.code) else u4).handCopy n d cw.code false
      else
        let u1 := ((u.raise n HFEC.FLT_UNCORR_CW).add64 n (HFEC.D_UNCORR_LO d)).count n 0x29 (d.val + 1) 0
        let u2 := u1.irq n (if d = 0 then HFEC.IRQ_UNCORR_HOST else HFEC.IRQ_UNCORR_LINE)
        (if term then u2.sideSends n d (invalidCodeword cw.rx) else u2).handCopy n d cw.rx true := by
  have hgo : (!s.sideLocked n d || !(s.is n TOP.STATUS_ACTIVE_OUTER || s.is n HFEC.CTRL_EN)) = false := by
    rw [hlocked, Bool.or_eq_true_iff.mpr hon]
    rfl
  have huse : (s.is n TOP.STATUS_ACTIVE_OUTER && d == 1 && s.is n HFEC.CFG_ERASURE_EN) = false := by
    rcases hplain with hterm | rfl | hen
    · simp [hterm]
    · simp
    · simp [hen]
  unfold doCodewordDecode
  simp only [hgo, huse, Bool.false_and, Bool.false_eq_true, if_false, List.length_nil, rsDecode_unmarked]
  by_cases hc : (errorsFrom 0 cw.rx cw.code).length ≤ 15
  · simp only [hc, if_true, Nat.min_eq_left, Nat.lt_irrefl, if_false]
  · simp only [hc, if_false]

/-- The erasure decode of a line codeword that corrects it. -/
theorem doCodewordDecode_erased {s : State} {n : Ch} {cw : Codeword} {marks : List Nat} (hmarks : (s.chan n).hfec.ripe = marks)
    {bad : List Nat} (hbad : errorsFrom 0 cw.rx cw.code = bad) (hlocked : s.sideLocked n 1 = true)
    (hterm : s.is n TOP.STATUS_ACTIVE_OUTER = true) (hen : s.is n HFEC.CFG_ERASURE_EN = true) (herr : 0 < bad.length)
    (hsome : 0 < marks.length) (hmax : marks.length ≤ min 30 (s.get n HFEC.CFG_ERASE_MAX))
    (hbound : 2 * (bad.length - bad.countP fun i => marks.contains i) + marks.length ≤ 30) :
    doCodewordDecode n 1 cw s =
      let c := bad.length
      let t := (s.modHfec n fun y => { y with marks := y.unripe }).add64 n (HFEC.D_CW_LO 1)
      let u := ((t.count n 0x28 2 0).modHfec n fun y => { y with cwLine := y.cwLine + 1 }).add64 n (HFEC.D_CORR_LO 1)
      let v := ((u.add64 n (HFEC.D_SYM_LO 1) c).add64 n (HFEC.D_ERASED_LO 1) marks.length).add64 n (HFEC.D_BIN_LO 1 (min c 15))
      (((v.count n 0x2A 2 0 c).modHfec n fun y => { y with serLine := y.serLine + c }).sideSends n 1
        (correctedCodeword cw.code)).handCopy n 1 cw.code false := by
  have hfew : ¬ min 30 (s.get n HFEC.CFG_ERASE_MAX) < marks.length := by omega
  unfold doCodewordDecode
  simp only [hmarks, hbad, hlocked, hterm, hen, herr, hsome, hfew, beq_self_eq_true, Bool.not_true, Bool.true_or, Bool.or_self,
    Bool.and_self, Bool.false_eq_true, decide_false, Bool.and_false, if_false, if_true, rsDecode_erased hsome hbound,
    Fin.one_eq_zero_iff, OfNat.ofNat_ne_one]
  rfl

/-- Settles O34: the laws of `rsDecode`, and `doCodewordDecode` out of lock, with errors only and with erasures. -/
theorem aCodewordCountsOnlyInLock : Obligations.ACodewordCountsOnlyInLock := by
  unfold Obligations.ACodewordCountsOnlyInLock
  refine ⟨fun errs => rsDecode_unmarked errs 0, rsDecode_isSome, fun errs marked hit c e => rsDecode_eq_some,
    fun d msg parity code => Event.of_exec (fun _ _ => rfl) fun s n hout => ?passed,
    fun d msg parity code => Event.of_exec (fun _ _ => rfl) fun s n ⟨hlocked, hon, hplain⟩ =>
      doCodewordDecode_errorsOnly _ hlocked hon hplain,
    fun msg parity code => Event.of_exec (fun _ _ => rfl) fun s n ⟨hlocked, hterm, hen, herr, hsome, hmax, hbound⟩ =>
      doCodewordDecode_erased rfl rfl hlocked hterm hen herr hsome hmax hbound⟩
  case passed =>
    refine if_pos ?_
    rcases hout with hlost | ⟨hterm, hen⟩
    · simp [hlost]
    · simp [hterm, hen]

end Sys2Proof.Machine
end

section
/-! PROOFS. The statement of 06_outer_code_and_pcs.md about the HFEC block's windows, slips, MANUAL switches and marker periods
(R158, R159, R163, R164, R171 to R176). -/

namespace Sys2Proof.Machine

/-! ## The block's hidden state -/

theorem HfecSt.hunter_host (x : HfecSt) : x.hunter 0 = x.h0 := rfl
theorem HfecSt.hunter_line (x : HfecSt) : x.hunter 2 = x.line := rfl
theorem HfecSt.manual_host (x : HfecSt) : x.manual 0 = x.manHost := rfl
theorem HfecSt.manual_line (x : HfecSt) : x.manual 2 = x.manLine := rfl
theorem hunterWidth_host : hunterWidth 0 = 512 := rfl
theorem hunterWidth_line : hunterWidth 2 = 480 := rfl

section
variable (s : State) (n : Ch)

/-- The HFEC stage's hidden state reads as it was last rewritten. -/
@[simp] theorem State.hfec_modHfec (f : HfecSt → HfecSt) : ((s.modHfec n f).chan n).hfec = f (s.chan n).hfec :=
  congrArg Chan.hfec (State.chan_modCh_same s n _)

/-- Two rewritings that agree on what they find. -/
theorem State.modHfec_congr {f g : HfecSt → HfecSt} (h : f (s.chan n).hfec = g (s.chan n).hfec) :
    s.modHfec n f = s.modHfec n g := congrArg (fun x => s.modCh n fun c => { c with hfec := x }) h

/-- A rewriting that keeps what it finds changes nothing. -/
theorem State.modHfec_self {f : HfecSt → HfecSt} (h : f (s.chan n).hfec = (s.chan n).hfec) : s.modHfec n f = s :=
  (s.modHfec_congr n (g := id) h).trans (congrArg (fun v => { s with ch := v }) (Vector.set_getElem_self ..))

/-- A rewriting that a test of the state withholds. -/
theorem State.modHfec_unless (p : HfecSt → Prop) [DecidablePred p] (f : HfecSt → HfecSt) :
    (s.modHfec n fun y => if p y then y else f y) = if p (s.chan n).hfec then s else s.modHfec n f := by
  by_cases hp : p (s.chan n).hfec
  · rw [if_pos hp]
    exact s.modHfec_self n (if_pos hp)
  · rw [if_neg hp]
    exact s.modHfec_congr n (if_neg hp)

theorem State.optP_modHfec (f : HfecSt → HfecSt) : (s.modHfec n f).optP n = s.optP n := rfl

/-- The line side is LOCKED with its hunter. -/
theorem State.sideLocked_line : s.sideLocked n 1 = ((s.chan n).hfec.line.state == 4) := rfl

/-- In host option W the host side is LOCKED with the hunter of its only lane. -/
theorem State.sideLocked_host_w (hopt : s.optP n = false) : s.sideLocked n 0 = ((s.chan n).hfec.h0.state == 4) := by
  unfold State.sideLocked State.hostLocked
  simp only [hopt, Bool.false_eq_true, if_false, if_true]

/-- In host option W there is no skew to measure (R161). -/
theorem State.deskew_w (hopt : s.optP n = false) (m : Marker) : s.deskew n m = s := by
  unfold State.deskew
  simp only [hopt, Bool.false_and, Bool.false_eq_true, if_false]

end

/-! ## Requests of the block (R12, R163, R173) -/

/-- The host's write of one plain ws field that the state always grants (`RequestWhen.of_wsAct`). -/
theorem Request.of_wsAct {c : Ch → Instr} {f : Field} {op : State → Ch → State}
    (hexec : ∀ s n, exec (c n) s = .next (s.actPut (f.addr n) (oneBit f) reqHost)) (hf : wsField f = true)
    (h : ∀ t n, t.wsAct (f.addr n) f.lo = op t n) : Request c f op :=
  fun s n hopen => RequestWhen.of_wsAct (may := fun _ _ => True) hexec hf (fun t m _ => h t m) s n hopen trivial

theorem State.wsAct_hfecClrCnt (t : State) (n : Ch) :
    t.wsAct (HFEC.CMD_CLR_CNT.addr n) HFEC.CMD_CLR_CNT.lo = t.hfecClear n := by
  obtain ⟨hpage, hoff, hch⟩ := chField_addr (f := HFEC.CMD_CLR_CNT) (by decide) n
  have hpage0 : pageCode (HFEC.CMD_CLR_CNT.addr 0) = 0x23 := by decide
  have hoff0 : HFEC.CMD_CLR_CNT.addr 0 % 0x1000 = 0x60 := by decide
  unfold State.wsAct
  simp only [hpage, hoff, hch, hpage0, hoff0]

theorem State.wsAct_slip (t : State) (n : Ch) (b : Nat) : t.wsAct (HFEC.SLIP.addr n) b = t.slipGo n := by
  obtain ⟨hpage, hoff, hch⟩ := chField_addr (f := HFEC.SLIP) (by decide) n
  have hpage0 : pageCode (HFEC.SLIP.addr 0) = 0x23 := by decide
  have hoff0 : HFEC.SLIP.addr 0 % 0x1000 = 0x44 := by decide
  unfold State.wsAct
  simp only [hpage, hoff, hch, hpage0, hoff0]

/-- A write of a channel's block whose data name one ws bit, taken at once: what the bit requests, and the channel's blocks
then see it. -/
theorem State.codedWrite_channel (t : State) {f : Field} {n : Ch} {b : Nat} {data : Word} (hf : chField f = true)
    (hpage : pageCode (f.addr 0) < 0x36) (hoff : f.off ≠ 0x24) (hb : b < 32)
    (hd : ∀ i, i < 32 → (data &&& wsMask (f.addr 0)).getLsbD i = decide (i = b)) (hlong : t.longOp (f.addr n) = false)
    (hheld : t.pageHeld (f.addr n) = false) :
    t.codedWrite (f.addr n) data = ((t.plainWrite (f.addr n) data).wsAct (f.addr n) b).levels n := by
  obtain ⟨hbase, hround, -, -⟩ := of_decide_eq_true hf
  obtain ⟨hcode, -, hch⟩ := chField_addr hf n
  have hlow : 0x20 ≤ pageCode (f.addr 0) := by
    unfold pageCode Field.addr
    simp only [Fin.val_zero]
    rw [if_neg (by omega)]
    split_ifs <;> omega
  have hdata : wsData (f.addr n) data = data := if_neg fun h => by
    unfold Field.addr at h
    omega
  have hlong' : (t.plainWrite (f.addr n) data).longOp (f.addr n) = false :=
    (longOp_plainWrite t _ data (by rwa [off_addr hf])).trans hlong
  rw [codedWrite_one t hb (by rwa [hdata, wsMask_addr hf]) (.inr (by rw [hlong', hheld]; rfl))]
  unfold State.afterWrite
  rw [hcode, hch]
  exact if_neg (by omega)

theorem rwMask_addr {f : Field} (h : chField f = true) (n : Ch) : rwMask (f.addr n) = rwMask (f.addr 0) := by
  unfold rwMask
  rw [regDef_addr h]

/-- The rw bits of a register read as they were written (R9). -/
theorem getBits_plainWord {a lo w : Nat} (old data : Word) (hrw : ∀ i, i < w → (rwMask a).getLsbD (lo + i) = true) :
    getBits (plainWord a old data) lo w = getBits data lo w := by
  apply Nat.eq_of_testBit_eq
  intro i
  rw [getBits_testBit, getBits_testBit]
  by_cases hi : i < w
  · simp [plainWord, hrw i hi]
  · simp [hi]

/-- A rw field of a channel's register reads as the plain write of its register left it. -/
theorem State.get_plainWrite_same (t : State) {r f : Field} {n : Ch} (data : Word) (hr : chField r = true)
    (haddr : f.addr n = r.addr n) (hrw : ∀ i, i < f.w → (rwMask (r.addr 0)).getLsbD (f.lo + i) = true) :
    (t.plainWrite (r.addr n) data).get n f = getBits data f.lo f.w := by
  unfold State.get State.plainWrite
  rw [haddr, State.word_setWord_same]
  exact getBits_plainWord _ _ (by rwa [rwMask_addr hr])

/-- The word that SLIP_GO writes: GO with SIDE and BITS (R176). -/
def slipWord (side : Fin 2) (bits : BitVec 4) : Word := BitVec.ofNat 32 (0x1000 + side.val * 256 + bits.toNat)

theorem slipWord_wsMask (side : Fin 2) (bits : BitVec 4) (i : Nat) (hi : i < 32) :
    (slipWord side bits &&& wsMask (HFEC.SLIP.addr 0)).getLsbD i = decide (i = 12) := by
  have hgo : ∀ (d : Fin 2) (k : Fin 16), slipWord d (BitVec.ofFin k) &&& wsMask (HFEC.SLIP.addr 0) = 0x1000 := by decide +kernel
  rw [show bits = BitVec.ofFin bits.toFin from rfl, hgo]
  revert i
  decide

section
variable (t : State) (n : Ch) (side : Fin 2) (bits : BitVec 4)

theorem State.slipSide_plainWrite :
    (t.plainWrite (HFEC.SLIP.addr n) (slipWord side bits)).get n HFEC.SLIP_SIDE = side.val := by
  rw [State.get_plainWrite_same t (r := HFEC.SLIP) (f := HFEC.SLIP_SIDE) _ (by decide) rfl (by decide +kernel)]
  unfold getBits slipWord
  simp only [BitVec.toNat_ofNat, Nat.shiftRight_eq_div_pow, HFEC.SLIP_SIDE]
  omega

theorem State.slipBits_plainWrite :
    (t.plainWrite (HFEC.SLIP.addr n) (slipWord side bits)).get n HFEC.SLIP_BITS = bits.toNat := by
  rw [State.get_plainWrite_same t (r := HFEC.SLIP) (f := HFEC.SLIP_BITS) _ (by decide) rfl (by decide +kernel)]
  unfold getBits slipWord
  simp only [BitVec.toNat_ofNat, Nat.shiftRight_eq_div_pow, HFEC.SLIP_BITS]
  omega

/-- GO written while no slip is pending: accepted or refused by what the write leaves in SIDE and BITS (R163). -/
theorem State.slipGo_written (hnone : (t.chan n).hfec.slip = none) :
    (t.plainWrite (HFEC.SLIP.addr n) (slipWord side bits)).slipGo n =
      let x := (t.chan n).hfec
      let man := if side = 1 then x.manLine else x.manHost
      let off := if side = 1 then x.line.state == 0 else x.h0.state == 0
      let ok := man && decide (1 ≤ bits.toNat ∧ bits.toNat ≤ 10) && !off
      let u := ((t.plainWrite (HFEC.SLIP.addr n) (slipWord side bits)).set n HFEC.SLIP_GO 1).modHfec n fun y =>
        { y with slip := some (side.val, bits.toNat, ok) }
      if ok then u else u.irq n HFEC.IRQ_SLIP_REFUSED := by
  have hchan : ∀ a data, (t.plainWrite a data).chan n = t.chan n := fun _ _ => rfl
  have hside : side.val = 1 ↔ side = 1 := (Fin.ext_iff (b := 1)).symm
  unfold State.slipGo
  simp only [hchan, hnone, Option.isSome_none, Bool.false_eq_true, if_false, State.slipSide_plainWrite,
    State.slipBits_plainWrite, hside]

theorem slip_w1cMask : w1cMask (HFEC.SLIP.addr n) = 0 := (w1cMask_addr (by decide) n).trans (by decide +kernel)

/-- SLIP with GO at its target, where the request is taken at once. -/
theorem State.regStore_slip (req : Nat) (hlong : t.longOp (HFEC.SLIP.addr n) = false)
    (hheld : t.pageHeld (HFEC.SLIP.addr n) = false) :
    t.regStore (HFEC.SLIP.addr n) (slipWord side bits) req =
      (codeOk, ((t.plainWrite (HFEC.SLIP.addr n) (slipWord side bits)).slipGo n).levels n) := by
  have hcoded : codedReg (HFEC.SLIP.addr n) = true := (codedReg_addr (by decide) n).trans (by decide +kernel)
  rw [regStore_coded t _ req hcoded, State.codedWrite_channel t (by decide) (by decide) (by decide) (b := 12) (by decide)
    (slipWord_wsMask side bits) hlong hheld, State.wsAct_slip]

end

/-! ## MANUAL switches (R164) -/

section
variable {s : State} {n : Ch}

theorem doManualSwitch_host (hhost : (s.chan n).hfec.manHost ≠ s.is n HFEC.CFG_MANUAL_HOST)
    (hline : (s.chan n).hfec.manLine = s.is n HFEC.CFG_MANUAL_LINE) :
    doManualSwitch n s =
      (s.modHfec n fun y => { y with manHost := s.is n HFEC.CFG_MANUAL_HOST,
                                     h0 := switchHunter (s.is n HFEC.CFG_MANUAL_HOST) y.h0,
                                     h1 := switchHunter (s.is n HFEC.CFG_MANUAL_HOST) y.h1 }).alignStatus n := by
  unfold doManualSwitch
  simp only [State.modHfec_unless, hhost, if_false, State.hfec_modHfec, hline, if_true]

theorem doManualSwitch_line (hhost : (s.chan n).hfec.manHost = s.is n HFEC.CFG_MANUAL_HOST)
    (hline : (s.chan n).hfec.manLine ≠ s.is n HFEC.CFG_MANUAL_LINE) :
    doManualSwitch n s =
      (s.modHfec n fun y => { y with manLine := s.is n HFEC.CFG_MANUAL_LINE,
                                     line := switchHunter (s.is n HFEC.CFG_MANUAL_LINE) y.line }).alignStatus n := by
  unfold doManualSwitch
  simp only [State.modHfec_unless, hhost, if_true, hline, if_false]

end

/-! ## Marker periods (R158, R159, R171, R172, R176) -/

section
variable {s : State} {n : Ch} {m : Marker}

/-- A marker period of the line hunter out of LOCKED. -/
theorem doMarkerPeriod_line_hunting (hoff : (s.chan n).hfec.line.state ≠ 0) (hlocked : (s.chan n).hfec.line.state ≠ 4) :
    doMarkerPeriod n 2 m s =
      let x := (s.chan n).hfec
      ((s.modHfec n fun y => y.setHunter 2 (hunterNext 480 x.manLine x.line m (s.markerGood n 2 m) false)).alignEdges s n).levels
        n := by
  have hwas : s.sideLocked n 1 = false := (State.sideLocked_line s n).trans (beq_false_of_ne hlocked)
  unfold doMarkerPeriod
  simp only [HfecSt.hunter_line, HfecSt.manual_line, hunterWidth_line, hoff, hwas, if_true, Bool.false_and,
    Bool.false_eq_true, if_false, bne_self_eq_false]

/-- A marker period that the LOCKED line hunter ends in LOCKED. -/
theorem doMarkerPeriod_line_locked {v : Hunter} (hlocked : (s.chan n).hfec.line.state = 4)
    (hnext : hunterNext 480 (s.chan n).hfec.manLine (s.chan n).hfec.line m (s.markerGood n 2 m) false = v) (hv : v.state = 4) :
    doMarkerPeriod n 2 m s =
      let t := (s.modHfec n fun y => y.setHunter 2 v).sat n HFEC.ALIGN_POS_LINE_PERIODS
      ((if s.is n FLT.STATUS_SAFE then t else t.set n HFEC.STATUS_LF_TO_HOST 0).alignEdges s n).levels n := by
  have hwas : s.sideLocked n 1 = true := (State.sideLocked_line s n).trans (beq_iff_eq.mpr hlocked)
  have hoff : (s.chan n).hfec.line.state ≠ 0 := by omega
  have hkept : (s.modHfec n fun y => y.setHunter 2 v).sideLocked n 1 = true := by
    rw [State.sideLocked_line, State.hfec_modHfec]
    exact beq_iff_eq.mpr hv
  have hother : ((2 : Fin 3) != 1) = true := by decide
  have hside : ((1 : Fin 2) == 0) = false := by decide
  have hside' : ((1 : Fin 2) = 0) = False := eq_false (by decide)
  unfold doMarkerPeriod
  simp only [HfecSt.hunter_line, HfecSt.manual_line, hunterWidth_line, hoff, hwas, hnext, hkept, hother, hside, hside', if_true,
    Bool.false_and, Bool.true_and, Bool.false_or, if_false, bne_self_eq_false]
  cases s.is n FLT.STATUS_SAFE <;> simp only [Bool.not_true, Bool.not_false, Bool.false_eq_true, if_true, if_false]

/-- A marker period of the only host lane's hunter out of LOCKED. -/
theorem doMarkerPeriod_host_hunting (hoff : (s.chan n).hfec.h0.state ≠ 0) (hlocked : (s.chan n).hfec.h0.state ≠ 4)
    (hopt : s.optP n = false) :
    doMarkerPeriod n 0 m s =
      let v := hunterNext 512 (s.chan n).hfec.manHost (s.chan n).hfec.h0 m (s.markerGood n 0 m) false
      let t := s.modHfec n fun y => y.setHunter 0 v
      ((if v.state < 3 then t.set n HFEC.STATUS_DESKEW_LOCK 0 else t).alignEdges s n).levels n := by
  have hwas : s.sideLocked n 0 = false := (State.sideLocked_host_w s n hopt).trans (beq_false_of_ne hlocked)
  have hside : ((0 : Fin 3) = 2) = False := eq_false (by decide)
  unfold doMarkerPeriod
  simp only [HfecSt.hunter_host, HfecSt.manual_host, hunterWidth_host, hside, hoff, hwas, hopt, hlocked, if_false,
    Bool.and_false, Bool.false_and, false_and, Bool.false_eq_true, State.deskew_w, State.optP_modHfec]

end

/-- Settles O35: the guards of the end of a window, of slips and of switches, CLR_CNT and SLIP at their targets, and the marker
periods of a hunter OFF, hunting and LOCKED. -/
theorem theHfecBlockActsOnWindowsSlipsAndMarkers : Obligations.TheHfecBlockActsOnWindowsSlipsAndMarkers := by
  unfold Obligations.TheHfecBlockActsOnWindowsSlipsAndMarkers
  have hclr : wsField HFEC.CMD_CLR_CNT = true := by decide +kernel
  refine ⟨fun d => Event.of_exec (fun _ _ => rfl) fun s n ⟨hlocked, hfull⟩ => ?windowEnds,
    fun d => Event.of_exec (fun _ _ => rfl) fun s n hopen => ?windowOpen,
    Request.of_wsAct (fun _ _ => rfl) hclr State.wsAct_hfecClrCnt,
    fun n side bits => Put.of_regStore (data := slipWord side bits) (fun _ => rfl) (.inl (slip_w1cMask n))
      fun t ⟨hnone, hlong, hheld⟩ => ?slipped,
    fun side bits => Event.of_exec (fun _ _ => rfl) fun s n hslip => ?slipTaken,
    fun side bits => Event.of_exec (fun _ _ => rfl) fun s n hslip => ?slipRefused,
    Event.of_exec (fun _ _ => rfl) fun s n hslip => ?noSlip,
    Event.of_exec (fun _ _ => rfl) fun s n ⟨hhost, hline⟩ => ?hostSwitch,
    Event.of_exec (fun _ _ => rfl) fun s n ⟨hhost, hline⟩ => ?lineSwitch,
    fun h m => Event.of_exec (fun _ _ => rfl) fun s n hoff => if_pos hoff,
    fun m => Event.of_exec (fun _ _ => rfl) fun s n ⟨hoff, hlocked⟩ => doMarkerPeriod_line_hunting hoff hlocked,
    fun m => Event.of_exec (fun _ _ => rfl) fun s n ⟨hoff, hlocked, hopt⟩ => doMarkerPeriod_host_hunting hoff hlocked hopt,
    fun m => Event.of_exec (fun _ _ => rfl) fun s n ⟨hlocked, hpos, hgood⟩ => ?valid,
    fun k => Event.of_exec (fun _ _ => rfl) fun s n _ => rfl⟩
  case windowEnds => exact if_pos (by rw [hlocked, decide_eq_true hfull]; rfl)
  case windowOpen =>
    refine if_neg ?_
    rcases hopen with hlost | hfew
    · simp [hlost]
    · rw [decide_eq_false (Nat.not_le.mpr hfew), Bool.and_false]
      exact Bool.false_ne_true
  case slipped =>
    exact (State.regStore_slip t n side bits reqHost hlong hheld).trans
      (congrArg (fun u : State => (codeOk, u.levels n)) (State.slipGo_written t n side bits hnone))
  case slipTaken =>
    unfold doSlipApply
    simp only [hslip, if_true]
  case slipRefused =>
    unfold doSlipApply
    simp only [hslip, Bool.false_eq_true, if_false]
  case noSlip =>
    unfold doSlipApply
    simp only [hslip]
  case hostSwitch => exact doManualSwitch_host hhost hline
  case lineSwitch => exact doManualSwitch_line hhost hline
  case valid =>
    refine doMarkerPeriod_line_locked hlocked ?_ hlocked
    rw [hgood]
    exact hunterNext_locked_valid hlocked hpos

end Sys2Proof.Machine
end

section
/-! PROOFS. The statement of 07_line_transmit.md about the line transmitter: its states (R190, R191), its faults (R184, R193, R194,
R197), its filter (R182, R183) and its nonlinear table (R186, R187). -/

namespace Sys2Proof.Machine

/-! ## States and faults (R184, R190, R191, R193, R194, R197) -/

/-- The end of a state's time does nothing in every other state (log entry 8). -/
theorem Event.ltxState_ne {c : Ch → Instr} {k : Nat} {f : Ch → State → State}
    (hexec : ∀ s n, exec (c n) s = .next (if s.ltxState n = k then f n s else s)) :
    Event c (fun s n => s.ltxState n ≠ k) fun s _ => s :=
  Event.of_exec hexec fun _ _ hne => if_neg hne

section
variable (s : State) (n : Ch)

/-- A readback is judged against the level driven, which taking it does not change (R194). -/
theorem State.txdisBad_pin (high : Bool) :
    (s.modLtx n fun x => { x with pin := some high }).txdisBad n = (high != s.txdisLevel n) := by
  unfold State.txdisBad State.modLtx State.txdisLevel State.ltxState
  simp only [State.chan_modCh_same, State.modCh_get]

variable {s n}

theorem doTxdisMismatch_differs {high : Bool} (h : high ≠ s.txdisLevel n) :
    doTxdisMismatch n high s = (s.modLtx n fun x => { x with pin := some high }).raise n LTX.FLT_TXDIS_MISMATCH :=
  if_pos ((State.txdisBad_pin s n high).trans (bne_iff_ne.mpr h))

theorem doTxdisMismatch_follows {high : Bool} (h : high = s.txdisLevel n) :
    doTxdisMismatch n high s = s.modLtx n fun x => { x with pin := none } :=
  if_neg (by simp [State.txdisBad_pin, h])

end

/-! ## The filter (R182, R183) -/

theorem State.wsAct_firApply (t : State) (n : Ch) :
    t.wsAct (LTX.FIR_APPLY_GO.addr n) LTX.FIR_APPLY_GO.lo = t.firApply n := by
  obtain ⟨hpage, hoff, hch⟩ := chField_addr (f := LTX.FIR_APPLY_GO) (by decide) n
  have hpage0 : pageCode (LTX.FIR_APPLY_GO.addr 0) = 0x24 := by decide
  have hoff0 : LTX.FIR_APPLY_GO.addr 0 % 0x1000 = 0x74 := by decide
  unfold State.wsAct
  simp only [hpage, hoff, hch, hpage0, hoff0]

theorem firActive_fits (i : Nat) : (LTX.FIR_ACTIVE_COEF i).lo + (LTX.FIR_ACTIVE_COEF i).w ≤ 32 := by
  simp [LTX.FIR_ACTIVE_COEF]

/-- Each active tap stands in a register of its own. -/
theorem firActive_apart {i k : Nat} (h : k ≠ i) : (LTX.FIR_ACTIVE_COEF k).apart (LTX.FIR_ACTIVE_COEF i) = true := by
  refine decide_eq_true ⟨firActive_fits i, .inl ?_⟩
  simp only [LTX.FIR_ACTIVE_COEF]
  omega

/-- The first `k` active taps are the staged ones. -/
theorem State.get_firCopy (s : State) (n : Ch) {i k : Nat} (h : i < k) :
    (s.firCopy n k).get n (LTX.FIR_ACTIVE_COEF i) = s.get n (LTX.FIR_C_COEF i) := by
  induction k with
  | zero => exact absurd h (Nat.not_lt_zero i)
  | succ k ih =>
    unfold State.firCopy
    by_cases hik : i = k
    · subst hik
      rw [State.get_set_same _ _ _ _ (firActive_fits i)]
      exact Nat.mod_eq_of_lt (State.get_lt s n (LTX.FIR_C_COEF i))
    · rw [State.get_set_apart _ _ (firActive_apart (Ne.symm hik))]
      exact ih (by omega)

/-! ## The nonlinear table (R186, R187) -/

theorem State.wsAct_nlLoad (t : State) (n : Ch) : t.wsAct (LTX.NL_LOAD_GO.addr n) LTX.NL_LOAD_GO.lo = t.nlLoad n := by
  obtain ⟨hpage, hoff, hch⟩ := chField_addr (f := LTX.NL_LOAD_GO) (by decide) n
  have hpage0 : pageCode (LTX.NL_LOAD_GO.addr 0) = 0x24 := by decide
  have hoff0 : LTX.NL_LOAD_GO.addr 0 % 0x1000 = 0x78 := by decide
  unfold State.wsAct
  simp only [hpage, hoff, hch, hpage0, hoff0]

section
variable {t : State} {n : Ch}

theorem State.nlLoad_sound (h : t.armed n LTX.STATUS 0 = false ∨ t.get n LTX.INJECT_TARGET ≠ 1) :
    t.nlLoad n =
      (t.modLtx n fun x =>
        { x with latched := (List.range 64).map fun i => t.get n (LTX.NL_ENTRY_CORR i), badNext := false }).set n
        LTX.BUSY_LONG_OP 1 := by
  have hhit : (t.armed n LTX.STATUS 0 && t.get n LTX.INJECT_TARGET == 1) = false := by
    rcases h with harm | htarget
    · rw [harm, Bool.false_and]
    · rw [beq_false_of_ne htarget, Bool.and_false]
  unfold State.nlLoad
  simp only [hhit, Bool.false_eq_true, if_false]

theorem State.nlLoad_spoiled (harm : t.armed n LTX.STATUS 0 = true) (htarget : t.get n LTX.INJECT_TARGET = 1) :
    t.nlLoad n =
      ((t.modLtx n fun x =>
        { x with latched := (List.range 64).map fun i => t.get n (LTX.NL_ENTRY_CORR i), badNext := true }).disarm n
        LTX.STATUS 0).set n LTX.BUSY_LONG_OP 1 := by
  unfold State.nlLoad
  simp only [harm, htarget, beq_self_eq_true, Bool.and_self, if_true]

/-- A parity error other than the one that an injection put into entry 0 of path 0 is not tagged INJECTED. -/
theorem doNlParity_untagged {path : Fin 256} {i : Fin 64} (h : (t.chan n).ltx.badNow = false ∨ path ≠ 0 ∨ i ≠ 0) :
    doNlParity n path i t =
      let u := (t.raise n LTX.FLT_NL_PARITY).modLtx n fun x =>
        { x with zeroed := (path.val, i.val) :: x.zeroed.erase (path.val, i.val) }
      if path = 0 then u.set n (LTX.NL_ACTIVE_CORR i) 0 else u := by
  have htag : ((t.chan n).ltx.badNow && path == 0 && i == 0) = false := by
    rcases h with hbad | hpath | hentry
    · rw [hbad, Bool.false_and, Bool.false_and]
    · rw [beq_false_of_ne hpath, Bool.and_false, Bool.false_and]
    · rw [beq_false_of_ne hentry, Bool.and_false]
  unfold doNlParity
  simp only [htag, Bool.false_eq_true, if_false]

end

/-- Settles O36: the guards of the ends of the states and of the readings, the check of FIR_APPLY, and the load of the
nonlinear table with its injection. -/
theorem theTransmitterRampsAndTakesOnlyWhatFits : Obligations.TheTransmitterRampsAndTakesOnlyWhatFits := by
  unfold Obligations.TheTransmitterRampsAndTakesOnlyWhatFits
  have hfir : wsField LTX.FIR_APPLY_GO = true := by decide +kernel
  have hnl : wsField LTX.NL_LOAD_GO = true := by decide +kernel
  refine ⟨⟨Event.of_exec (fun _ _ => rfl) fun s n hlead => if_pos hlead,
    Event.of_exec (fun _ _ => rfl) fun s n hup => if_pos hup,
    Event.of_exec (fun _ _ => rfl) fun s n hdown => if_pos hdown,
    Event.of_exec (fun _ _ => rfl) fun s n hlag => if_pos hlag, ?otherState,
    fun clipped => Event.of_exec (fun _ _ => rfl) fun s n hpow => if_neg hpow,
    fun clipped => Event.of_exec (fun _ _ => rfl) fun s n hdark => if_pos hdark,
    fun high => Event.of_exec (fun _ _ => rfl) fun s n hdiff => doTxdisMismatch_differs hdiff,
    fun high => Event.of_exec (fun _ _ => rfl) fun s n hsame => doTxdisMismatch_follows hsame,
    Event.of_exec (fun _ _ => rfl) fun s n hon => congrArg (State.levels · n) (if_neg hon)⟩,
    RequestWhen.of_wsAct (fun _ _ => rfl) hfir fun t n hfit => (State.wsAct_firApply t n).trans (if_pos hfit),
    RequestWhen.of_wsAct (fun _ _ => rfl) hfir fun t n hbad => (State.wsAct_firApply t n).trans (if_neg (by omega)),
    fun s n i hi => State.get_firCopy s n hi,
    RequestWhen.of_wsAct (fun _ _ => rfl) hnl fun t n hsound => (State.wsAct_nlLoad t n).trans (State.nlLoad_sound hsound),
    RequestWhen.of_wsAct (fun _ _ => rfl) hnl fun t n ⟨harm, htarget⟩ =>
      (State.wsAct_nlLoad t n).trans (State.nlLoad_spoiled harm htarget),
    Event.of_exec (fun _ _ => rfl) fun s n hbusy => if_pos hbusy,
    Event.of_exec (fun _ _ => rfl) fun s n hidle => if_neg (by simp [hidle]),
    fun path i => Event.of_exec (fun _ _ => rfl) fun s n huntagged => doNlParity_untagged huntagged⟩
  case otherState =>
    intro p hp
    simp only [List.mem_cons, List.not_mem_nil, or_false] at hp
    obtain rfl | rfl | rfl | rfl := hp <;> exact Event.ltxState_ne fun _ _ => rfl

end Sys2Proof.Machine
end

section
/-! PROOFS. The statement of 08_line_receive_converters.md about signal detect and gain (R203 to R208, R224), after the register
writes of the line receiver that all its statements rest on (R208, R211, R213, R214, R220, R225). -/

namespace Sys2Proof.Machine

/-! ## The requests of CMD and CAP_CTRL (R207, R213, R214, R220, R225) -/

/-- What bit `b` of CMD requests. -/
def State.lrxCmd (s : State) (n : Ch) (b : Nat) : State :=
  if b = 0 then s.swapRequest n else if b = 1 then s.gainReacq n else if b = 2 then s.plausTest n else s.lrxClear n

theorem State.wsAct_lrxCmd (t : State) (n : Ch) (b : Nat) : t.wsAct (LRX.CMD.addr n) b = t.lrxCmd n b := by
  obtain ⟨hpage, hoff, hch⟩ := chField_addr (f := LRX.CMD) (by decide) n
  have hpage0 : pageCode (LRX.CMD.addr 0) = 0x25 := by decide
  have hoff0 : LRX.CMD.addr 0 % 0x1000 = 0x60 := by decide
  unfold State.wsAct
  simp only [hpage, hoff, hch, hpage0, hoff0]
  match b with
  | 0 | 1 | 2 | _ + 3 => rfl

/-- What bit `b` of CAP_CTRL requests. -/
def State.capCtrl (s : State) (n : Ch) (b : Nat) : State := if b = 0 then s.capArm n else s.capAbort n

theorem State.wsAct_capCtrl (t : State) (n : Ch) (b : Nat) : t.wsAct (LRX.CAP_CTRL.addr n) b = t.capCtrl n b := by
  obtain ⟨hpage, hoff, hch⟩ := chField_addr (f := LRX.CAP_CTRL) (by decide) n
  have hpage0 : pageCode (LRX.CAP_CTRL.addr 0) = 0x25 := by decide
  have hoff0 : LRX.CAP_CTRL.addr 0 % 0x1000 = 0x80 := by decide
  unfold State.wsAct
  simp only [hpage, hoff, hch, hpage0, hoff0]
  match b with
  | 0 | _ + 1 => rfl

/-! ## GAIN_CFG and BANK_CFG at their target (R208, R211) -/

section
variable (t : State) (n : Ch) (data : Word)

/-- A register of the line receiver at its target: all but GAIN_CFG and BANK_CFG take a write by their access codes. -/
theorem State.regStore_lrx {f : Field} (hf : plainAt f = true) (hpage0 : pageCode (f.addr 0) = 0x25) (req : Nat) :
    t.regStore (f.addr n) data req =
      (codeOk, if f.off = 0x40 then t.writeGainCfg n data else if f.off = 0x50 then t.writeBankCfg n data
        else t.codedWrite (f.addr n) data) := by
  have hch : chField f = true := by
    unfold plainAt at hf
    simp only [Bool.and_eq_true] at hf
    obtain ⟨⟨⟨⟨hch, -⟩, -⟩, -⟩, -⟩ := hf
    exact hch
  have hpage : pageCode (f.addr n) = 0x25 := (chField_addr hch n).1.trans hpage0
  rw [regStore_chan t hf n, if_pos (by omega)]
  unfold State.writeLink
  simp only [hpage, off_addr hch n]

theorem State.regStore_gainCfg (req : Nat) :
    t.regStore (LRX.GAIN_CFG.addr n) data req = (codeOk, t.writeGainCfg n data) :=
  State.regStore_lrx t n data (f := LRX.GAIN_CFG) (by decide) (by decide) req

theorem State.regStore_bankCfg (req : Nat) :
    t.regStore (LRX.BANK_CFG.addr n) data req = (codeOk, t.writeBankCfg n data) :=
  State.regStore_lrx t n data (f := LRX.BANK_CFG) (by decide) (by decide) req

theorem gainCfg_w1cMask : w1cMask (LRX.GAIN_CFG.addr n) = 0 := (w1cMask_addr (by decide) n).trans (by decide +kernel)

theorem bankCfg_w1cMask : w1cMask (LRX.BANK_CFG.addr n) = 0 := (w1cMask_addr (by decide) n).trans (by decide +kernel)

/-- MODE is the low two bits of what is written to GAIN_CFG. -/
theorem State.gainMode_set (v : Nat) : (t.set n LRX.GAIN_CFG v).get n LRX.GAIN_CFG_MODE = v % 4 := by
  have hword : (t.set n LRX.GAIN_CFG v).word (LRX.GAIN_CFG_MODE.addr n) = BitVec.ofNat 32 v :=
    State.word_set_whole t n v rfl rfl
  unfold State.get
  rw [hword, getBits_ofNat _ _ _ (by decide)]
  exact congrArg (· % 4) (Nat.div_one v)

variable {t n data}

/-- A controller that is off or held takes a write of GAIN_CFG as settings alone. -/
theorem State.writeGainCfg_idle (h : t.gainState n = 0 ∨ t.gainHeld n = true) :
    t.writeGainCfg n data = t.set n LRX.GAIN_CFG (data.toNat &&& 0x7F7F7F03) := if_pos h

/-- MANUAL written to a controller in WAIT, ACQ, FROZEN or REACQ fixes MAN_CODE. -/
theorem State.writeGainCfg_manual (hmode : data.toNat % 4 = 1) (hlo : 1 ≤ t.gainState n) (hhi : t.gainState n ≤ 4)
    (hheld : t.gainHeld n = false) :
    t.writeGainCfg n data =
      let u := t.set n LRX.GAIN_CFG (data.toNat &&& 0x7F7F7F03)
      let v := u.gainFixed n 5 (u.get n LRX.GAIN_CFG_MAN_CODE)
      ((if v.is n LRX.STATUS_SD_RAW then v else v.sigFall n).lrxBusy n).levels n := by
  have hnew : (t.set n LRX.GAIN_CFG (data.toNat &&& 0x7F7F7F03)).get n LRX.GAIN_CFG_MODE = 1 := by
    rw [State.gainMode_set]
    exact (Nat.and_mod_two_pow (n := 2)).trans (by rw [show data.toNat % 2 ^ 2 = 1 from hmode]; rfl)
  unfold State.writeGainCfg
  extract_lets old u new st
  rw [if_neg (by simp [st, hheld]; omega), if_neg (by omega), if_pos hnew, if_neg (by omega)]

end

/-! ## Signal detect (R203, R206) -/

section
variable {s : State} {n : Ch} {mv us : Nat}

theorem doSdRawRise_above (hon : s.gainState n ≠ 0) (hmv : 10 * max 2 (s.get n LRX.SD_CFG_SD_ON) < mv) :
    doSdRawRise n mv s =
      let t := s.set n LRX.STATUS_SD_RAW 1
      if s.gainHeld n then t
      else if s.gainState n = 1 then t.gainAcq n
      else if s.gainState n = 5 ∨ s.gainState n = 6 then (t.sigRise n).levels n else t := by
  have hrise : ¬ (s.gainState n = 0 ∨ mv ≤ 10 * s.sdOn n) := not_or.mpr ⟨hon, Nat.not_le.mpr hmv⟩
  unfold doSdRawRise
  rw [if_neg hrise]
  refine if_congr Iff.rfl rfl ?_
  split <;> simp_all

theorem doSdRawFall_below (hon : s.gainState n ≠ 0) (hmv : mv < 5 * max 2 (s.get n LRX.SD_CFG_SD_ON))
    (hus : max 1 (s.get n LRX.SD_CFG_LOS_HOLD) ≤ us) :
    doSdRawFall n mv us s =
      let t := s.set n LRX.STATUS_SD_RAW 0
      if s.gainHeld n then t
      else if s.gainState n = 2 then t.set n LRX.STATUS_GAIN_STATE 1
      else if s.gainState n = 3 ∨ s.gainState n = 4 then ((t.set n LRX.STATUS_GAIN_STATE 1).sigFall n).levels n
      else if s.gainState n = 5 ∨ s.gainState n = 6 then (t.sigFall n).levels n else t := by
  have hfall : ¬ (s.gainState n = 0 ∨ 5 * s.sdOn n ≤ mv ∨ us < s.losHold n) :=
    not_or.mpr ⟨hon, not_or.mpr ⟨Nat.not_le.mpr hmv, Nat.not_lt.mpr hus⟩⟩
  unfold doSdRawFall
  rw [if_neg hfall]
  refine if_congr Iff.rfl rfl ?_
  split <;> simp_all

end

/-! ## The gain's measurements (R205, R207) -/

theorem codesAbove_le (a b k : Nat) : codesAbove a b k ≤ k := by
  induction k with
  | zero => exact Nat.le_refl 0
  | succ k ih =>
    unfold codesAbove
    extract_lets m
    split_ifs
    · exact Nat.le_refl _
    · exact Nat.le_succ_of_le ih

/-- A measurement moves the code by 24 codes at most (R205). -/
theorem gainError_bounds (target rms : Nat) : -24 ≤ gainError target rms ∧ gainError target rms ≤ 24 := by
  have hbelow := codesAbove_le target rms 24
  have habove := codesAbove_le rms target 24
  unfold gainError
  split_ifs <;> omega

/-- Outside FROZEN GAIN_REACQ has no effect (R207). -/
theorem State.gainReacq_unfrozen {t : State} {n : Ch} (hother : t.gainState n ≠ 3) : t.gainReacq n = t :=
  if_neg fun ⟨hfrozen, _⟩ => hother hfrozen

section
variable {s : State} {n : Ch} {rms t : Nat}

/-- In ACQ the code moves by the error, and the second good measurement in a row freezes it (R205). -/
theorem doGainMeasurement_acq (hacq : s.gainState n = 2) (hheld : s.gainHeld n = false) :
    doGainMeasurement n rms t s =
      let u := s.gainMove n (gainError (s.agcTarget n) rms)
      if gainGood (s.agcTarget n) rms = false then u.modLrx n fun x => { x with good := 0 }
      else if (s.chan n).lrx.good = 1 then u.gainFreeze n t false else u.modLrx n fun x => { x with good := 1 } := by
  unfold doGainMeasurement
  rw [if_neg (by simp [hacq, hheld])]
  cases gainGood (s.agcTarget n) rms
  · rfl
  · rfl

/-- Only FROZEN judges the drift (R207). -/
theorem doRmsWindow_unfrozen (hon : s.gainState n ≠ 0) (hfrozen : s.gainState n ≠ 3) :
    doRmsWindow n rms s = s.setSat n LRX.RMS_RMS rms := (if_neg hon).trans (if_pos hfrozen)

/-- In FROZEN the first window of a drift raises GAIN_DRIFT (R207). -/
theorem doRmsWindow_frozen (hfrozen : s.gainState n = 3) :
    doRmsWindow n rms s =
      let d := max 1 (s.get n LRX.AGC_CFG_DRIFT_DB)
      let out := decide (s.agcTarget n ^ 20 * 10 ^ d < rms ^ 20 ∨ rms ^ 20 * 10 ^ d < s.agcTarget n ^ 20)
      let u := (s.setSat n LRX.RMS_RMS rms).modLrx n fun x => { x with drifted := out }
      if out ∧ (s.chan n).lrx.drifted = false then u.irq n LRX.IRQ_GAIN_DRIFT else u := by
  unfold doRmsWindow
  rw [if_neg (by omega)]
  simp only [hfrozen, ne_eq, not_true_eq_false, if_false, Bool.decide_or, Bool.and_eq_true, Bool.not_eq_true']

end

/-! ## Clipping (R224) -/

/-- Samples at the rails above THRESH are a fault and may trigger a capture. -/
theorem doClipWindow_on {s : State} {n : Ch} {clipped : Nat} (hon : s.gainState n ≠ 0) :
    doClipWindow n clipped s =
      if s.get n LRX.CLIP_CFG_THRESH < clipped then
        ((s.sat n LRX.CLIP_COUNT clipped).raise n LRX.FLT_ADC_OVERRANGE).capTrig n 6
      else s.sat n LRX.CLIP_COUNT clipped := if_neg hon

/-- Settles O37: the moves of SD_RAW and of the gain's measurements in each state of the controller, GAIN_REACQ and GAIN_CFG at
their targets, and the bound of `codesAbove`. -/
theorem theGainIsAcquiredFrozenAndMovedByCommandOnly : Obligations.TheGainIsAcquiredFrozenAndMovedByCommandOnly := by
  unfold Obligations.TheGainIsAcquiredFrozenAndMovedByCommandOnly
  have hreacq : wsField LRX.CMD_GAIN_REACQ = true := by decide +kernel
  exact ⟨fun mv => Event.of_exec (fun _ _ => rfl) fun s n ⟨hon, hmv⟩ => doSdRawRise_above hon hmv,
    fun mv us => Event.of_exec (fun _ _ => rfl) fun s n ⟨hon, hmv, hus⟩ => doSdRawFall_below hon hmv hus,
    fun rms t => Event.of_exec (fun _ _ => rfl) fun s n ⟨hacq, hheld⟩ => doGainMeasurement_acq hacq hheld,
    Event.of_exec (fun _ _ => rfl) fun s n hacq => if_pos hacq,
    RequestWhen.of_wsAct (fun _ _ => rfl) hreacq fun t n hfrozen => (State.wsAct_lrxCmd t n 1).trans (if_pos hfrozen),
    RequestWhen.of_wsAct (fun _ _ => rfl) hreacq fun t n hother =>
      (State.wsAct_lrxCmd t n 1).trans (State.gainReacq_unfrozen hother),
    fun rms t => Event.of_exec (fun _ _ => rfl) fun s n ⟨hstate, hheld⟩ => if_neg (by simp [hstate, hheld]),
    fun rms => Event.of_exec (fun _ _ => rfl) fun s n ⟨hon, hother⟩ => doRmsWindow_unfrozen hon hother,
    fun rms => Event.of_exec (fun _ _ => rfl) fun s n hfrozen => doRmsWindow_frozen hfrozen,
    fun data n => Put.of_regStore (fun _ => rfl) (.inl (gainCfg_w1cMask n)) fun t hidle =>
      (State.regStore_gainCfg t n data reqHost).trans (congrArg (Prod.mk codeOk) (State.writeGainCfg_idle hidle)),
    fun data n hmode => Put.of_regStore (fun _ => rfl) (.inl (gainCfg_w1cMask n)) fun t ⟨hlo, hhi, hheld⟩ =>
      (State.regStore_gainCfg t n data reqHost).trans
        (congrArg (Prod.mk codeOk) (State.writeGainCfg_manual hmode hlo hhi hheld)),
    fun s n e => rfl, gainError_bounds,
    fun clipped => Event.of_exec (fun _ _ => rfl) fun s n hon => doClipWindow_on hon,
    fun k => Event.of_exec (fun _ _ => rfl) fun s n _ => rfl⟩

end Sys2Proof.Machine
end

section
/-! PROOFS. The statement of 08_line_receive_converters.md about the converter banks: Tandem windows (R210), the shadow bank's
windows and its self-test (R212, R213), swaps (R214 to R218), BANK_CFG and CLR_STATS (R211, R225). -/

namespace Sys2Proof.Machine

/-! ## A plausibility window (R212, R213, R215) -/

section
variable {s : State} {n : Ch} {d : Nat} (hpwr : s.is n LRX.STATUS_SHADOW_PWR = true)
include hpwr

/-- In SETTLE a window is counted off, and the last ends the swap. -/
theorem doPlausWindow_settle (hsettle : s.swapState n = 5) :
    doPlausWindow n d s =
      let t := s.modLrx n fun y => { y with left := y.left - 1, skip := false }
      if (s.chan n).lrx.left ≤ 1 then (t.set n LRX.STATUS_SWAP_STATE 0).levels n else t := by
  unfold doPlausWindow
  extract_lets x st
  rw [if_neg (by simp [hpwr]), if_pos hsettle]

/-- A window that an offline trim, the switch of a swap or a change of gain spoils is not judged. -/
theorem doPlausWindow_spoiled (hsettle : s.swapState n ≠ 5)
    (hspoilt : s.swapState n = 1 ∨ s.swapState n = 4 ∨ (s.chan n).lrx.skip = true) :
    doPlausWindow n d s = s.modLrx n fun y => { y with skip := false } := by
  unfold doPlausWindow
  extract_lets x st
  rw [if_neg (by simp [hpwr]), if_neg hsettle, if_pos hspoilt]

/-- A judged window serves the self-test, or else the runs of R212 and a swap that verifies. -/
theorem doPlausWindow_judged (hskip : (s.chan n).lrx.skip = false)
    (hstate : s.swapState n = 0 ∨ s.swapState n = 2 ∨ s.swapState n = 3) :
    doPlausWindow n d s =
      let fail := decide (s.get n LRX.PLAUS_CFG_THRESH < d)
      let t := (s.setSat n LRX.PLAUS_D_LAST d).setSat n LRX.PLAUS_D_MAX (max d (s.get n LRX.PLAUS_D_MAX))
      if (s.chan n).lrx.testing then
        t.modLrx n fun y => { y with testLeft := y.testLeft - 1, testPassed := y.testPassed || !fail }
      else (t.plausJudge n fail).swapJudge n fail := by
  have hspoilt : ¬ (s.swapState n = 1 ∨ s.swapState n = 4 ∨ (s.chan n).lrx.skip = true) := by
    simp only [hskip, Bool.false_eq_true, or_false]
    omega
  unfold doPlausWindow
  extract_lets x st
  rw [if_neg (by simp [hpwr]), if_neg (by omega), if_neg hspoilt]

end

/-- The window that fills a run of bad ones raises SHADOW_IMPLAUSIBLE and clears PLAUS_OK. -/
theorem State.plausJudge_bad_full {s : State} {n : Ch} (h : s.plausCount n ≤ (s.chan n).lrx.failRun + 1) :
    s.plausJudge n true =
      ((((s.sat n LRX.PLAUS_STAT_FAIL_WINDOWS).capTrig n 4).raise n LRX.FLT_SHADOW_IMPLAUSIBLE).set n LRX.STATUS_PLAUS_OK
        0).modLrx n fun x => { x with failRun := 0 } := if_pos h

/-! ## The self-test (R213) -/

/-- The self-test starts only on a powered shadow bank that no swap uses. -/
theorem State.plausTest_refused {t : State} {n : Ch}
    (h : t.get n LRX.STATUS_BANK_MODE ≠ 2 ∨ t.is n LRX.BANK_CFG_SHADOW_EN = false ∨ t.swapState n ≠ 0 ∨
      t.is n LRX.STATUS_SHADOW_PWR = false) :
    t.plausTest n = (t.set n LRX.PLAUS_STAT_TEST_RESULT 3).irq n LRX.IRQ_PLAUS_TEST_DONE := by
  refine if_neg fun ⟨hmode, hen, hidle, hpwr⟩ => ?_
  rcases h with hmode' | hen' | hidle' | hpwr'
  · exact hmode' hmode
  · exact Bool.false_ne_true (hen'.symm.trans hen)
  · exact hidle' hidle
  · exact Bool.false_ne_true (hpwr'.symm.trans hpwr)

/-- A self-test of which a window passed has failed: its stimulus was to fail each. -/
theorem doPlausTestEnd_done {s : State} {n : Ch} (htest : (s.chan n).lrx.testing = true) (hleft : (s.chan n).lrx.testLeft = 0) :
    doPlausTestEnd n s =
      let t := (s.modLrx n fun y => { y with testing := false }).lrxBusy n
      if (s.chan n).lrx.testPassed then
        ((t.raise n LRX.FLT_SHADOW_IMPLAUSIBLE).set n LRX.PLAUS_STAT_TEST_RESULT 2).irq n LRX.IRQ_PLAUS_TEST_DONE
      else (t.set n LRX.PLAUS_STAT_TEST_RESULT 1).irq n LRX.IRQ_PLAUS_TEST_DONE := by
  unfold doPlausTestEnd
  rw [if_pos (by simp [htest, hleft])]
  cases (s.chan n).lrx.testPassed
  · rfl
  · rfl

/-! ## Requests of a swap (R214) -/

section
variable {t : State} {n : Ch}

theorem State.swapRequest_notShadow (hmode : t.get n LRX.STATUS_BANK_MODE ≠ 2) : t.swapRequest n = t.swapRefuse n 1 :=
  if_pos hmode

theorem State.swapRequest_disabled (hmode : t.get n LRX.STATUS_BANK_MODE = 2) (hen : t.is n LRX.BANK_CFG_SHADOW_EN = false) :
    t.swapRequest n = t.swapRefuse n 2 := (if_neg (not_not.mpr hmode)).trans (if_pos hen)

/-- A swap that is granted verifies the shadow bank first. -/
theorem State.swapRequest_granted (hmode : t.get n LRX.STATUS_BANK_MODE = 2) (hen : t.is n LRX.BANK_CFG_SHADOW_EN = true)
    (hoffline : t.swapState n ≠ 1) :
    t.swapRequest n =
      ((t.set n LRX.STATUS_SWAP_STATE 2).modLrx n fun x => { x with left := max 1 (t.get n LRX.BANK_CFG_VERIFY) }).levels n := by
  unfold State.swapRequest
  rw [if_neg (not_not.mpr hmode), if_neg (by simp [hen]), if_neg hoffline]

end

/-- Settles O38: each branch of a plausibility window, of a request for a swap and of the self-test, and BANK_CFG and CMD at
their targets. -/
theorem theBanksAreJudgedAndSwapped : Obligations.TheBanksAreJudgedAndSwapped := by
  unfold Obligations.TheBanksAreJudgedAndSwapped
  have hswap : wsField LRX.CMD_SWAP = true := by decide +kernel
  have htest : wsField LRX.CMD_PLAUS_TEST = true := by decide +kernel
  have hclr : wsField LRX.CMD_CLR_STATS = true := by decide +kernel
  exact ⟨fun spur skew => Event.of_exec (fun _ _ => rfl) fun s n htandem => if_pos htandem,
    fun d => Event.of_exec (fun _ _ => rfl) fun s n ⟨hpwr, hsettle⟩ => doPlausWindow_settle hpwr hsettle,
    fun d => Event.of_exec (fun _ _ => rfl) fun s n ⟨hpwr, hsettle, hspoilt⟩ => doPlausWindow_spoiled hpwr hsettle hspoilt,
    fun d => Event.of_exec (fun _ _ => rfl) fun s n ⟨hpwr, hskip, hstate⟩ => doPlausWindow_judged hpwr hskip hstate,
    fun s n => ⟨rfl, State.plausJudge_bad_full, rfl⟩,
    RequestWhen.of_wsAct (fun _ _ => rfl) htest fun t n hno => (State.wsAct_lrxCmd t n 2).trans (State.plausTest_refused hno),
    RequestWhen.of_wsAct (fun _ _ => rfl) htest fun t n hmay => (State.wsAct_lrxCmd t n 2).trans (if_pos hmay),
    Event.of_exec (fun _ _ => rfl) fun s n ⟨htesting, hleft⟩ => doPlausTestEnd_done htesting hleft,
    RequestWhen.of_wsAct (fun _ _ => rfl) hswap fun t n hmode =>
      (State.wsAct_lrxCmd t n 0).trans (State.swapRequest_notShadow hmode),
    RequestWhen.of_wsAct (fun _ _ => rfl) hswap fun t n ⟨hmode, hen⟩ =>
      (State.wsAct_lrxCmd t n 0).trans (State.swapRequest_disabled hmode hen),
    RequestWhen.of_wsAct (fun _ _ => rfl) hswap fun t n ⟨hmode, hen, hoffline⟩ =>
      (State.wsAct_lrxCmd t n 0).trans (State.swapRequest_granted hmode hen hoffline),
    Event.of_exec (fun _ _ => rfl) fun s n hwait => if_pos hwait,
    Event.of_exec (fun _ _ => rfl) fun s n hprime => if_pos hprime,
    fun on n s hopen => congrArg Host.Outcome.next
      (actPut_open hopen (.inl (bankCfg_w1cMask n)) (State.regStore_bankCfg (s.seen _ reqHost) n _ reqHost)),
    Request.of_wsAct (fun _ _ => rfl) hclr fun t n => State.wsAct_lrxCmd t n 3⟩

end Sys2Proof.Machine
end

section
/-! PROOFS. The statement of 08_line_receive_converters.md about a capture: ARM and ABORT, its trigger and its record (R219 to
R223). -/

namespace Sys2Proof.Machine

/-! ## ARM and ABORT (R219, R220) -/

section
variable {t : State} {n : Ch}

/-- ARM starts a capture with the epoch that holds then. -/
theorem State.capArm_idle (hidle : t.capturing n = false) (hstate : t.chState n ≠ 2) :
    t.capArm n =
      (((t.set n LRX.CAP_STATUS_STATE 1).set n LRX.STATUS_CAP_BUSY 1).modLrx n fun x =>
        { x with trig := t.get n LRX.CAP_CFG_TRIG == 0 || t.get n LRX.CAP_CFG_TRIG == 7, pre := 0, epochs := [t.epochNow n false],
                 dropped := false, due := false }).levels n := if_neg (by simp [hidle, hstate])

theorem State.capArm_ignored (h : t.capturing n = true ∨ t.chState n = 2) : t.capArm n = t := if_pos (by simpa using h)

/-- ABORT stops only a capture that runs. -/
theorem State.capAbort_idle (hidle : t.capturing n = false) : t.capAbort n = t := if_neg (by simp [hidle])

end

/-! ## The record (R220 to R222) -/

section
variable {s : State} {n : Ch} {r : CapRecord} (hkept : (s.chan n).lrx.dropped = false)
include hkept

/-- The record of a capture that has filled POST: every epoch kept, its samples begin at the record's start. -/
theorem doCapDone_full (hpost : s.capState n = 3) :
    doCapDone n r s =
      let x := (s.chan n).lrx
      let ep := capTrim (x.epochs.zip r.starts)
      let t := (((s.putSamples n r.start (s.capSamples n r.words) 32768).set n LRX.CAP_STATUS_COUNT
        (min 262144 (x.pre + (262144 - s.capPre n)))).set n LRX.CAP_START_WORD r.start).set n LRX.CAP_TRIG_POS_INDEX x.pre
      let u := ((t.putEpochs n 0 0 ep).set n LRX.CAP_EPOCHS_ENTRIES ep.length).modLrx n fun y => { y with due := false }
      ((u.set n LRX.CAP_STATUS_STATE 4).set n LRX.STATUS_CAP_BUSY 0).irq n LRX.IRQ_CAP_DONE := by
  unfold doCapDone
  rw [if_neg (by simp [hpost])]
  simp only [hpost, hkept, if_true, Bool.false_eq_true, if_false, Int.toNat_zero, Nat.zero_div, Nat.sub_zero, Nat.add_zero]

/-- The record of a capture that has stopped before: it counts what was stored. -/
theorem doCapDone_stopped (hstop : s.capState n ≠ 3) (hdue : (s.chan n).lrx.due = true) :
    doCapDone n r s =
      let x := (s.chan n).lrx
      let ep := capTrim (x.epochs.zip r.starts)
      let t := (((s.putSamples n r.start (s.capSamples n r.words) 32768).set n LRX.CAP_STATUS_COUNT
        (min 262144 r.count)).set n LRX.CAP_START_WORD r.start).set n LRX.CAP_TRIG_POS_INDEX x.pre
      ((t.putEpochs n 0 0 ep).set n LRX.CAP_EPOCHS_ENTRIES ep.length).modLrx n fun y => { y with due := false } := by
  unfold doCapDone
  rw [if_neg (by simp [hdue])]
  simp only [hstop, hkept, Bool.false_eq_true, if_false, Int.toNat_zero, Nat.zero_div, Nat.sub_zero, Nat.add_zero]

end

/-- Settles O39: ARM and ABORT at their targets, the guards of the pre-trigger part and of the trigger, and the record of a
capture that has filled and of one that was stopped. -/
theorem aCaptureRunsFromArmToItsRecord : Obligations.ACaptureRunsFromArmToItsRecord := by
  unfold Obligations.ACaptureRunsFromArmToItsRecord
  have harm : wsField LRX.CAP_CTRL_ARM = true := by decide +kernel
  have habort : wsField LRX.CAP_CTRL_ABORT = true := by decide +kernel
  exact ⟨RequestWhen.of_wsAct (fun _ _ => rfl) harm fun t n ⟨hidle, hstate⟩ =>
      (State.wsAct_capCtrl t n 0).trans (State.capArm_idle hidle hstate),
    RequestWhen.of_wsAct (fun _ _ => rfl) harm fun t n hno => (State.wsAct_capCtrl t n 0).trans (State.capArm_ignored hno),
    Event.of_exec (fun _ _ => rfl) fun s n hpre => if_pos hpre,
    Event.of_exec (fun _ _ => rfl) fun s n hother => if_neg hother,
    fun stored => Event.of_exec (fun _ _ => rfl) fun s n hdue => if_pos hdue,
    fun r => Event.of_exec (fun _ _ => rfl) fun s n ⟨hpost, hkept⟩ => doCapDone_full hkept hpost,
    fun r => Event.of_exec (fun _ _ => rfl) fun s n ⟨hstop, hdue, hkept⟩ => doCapDone_stopped hkept hstop hdue,
    RequestWhen.of_wsAct (fun _ _ => rfl) habort fun t n hruns => (State.wsAct_capCtrl t n 1).trans (if_pos hruns),
    RequestWhen.of_wsAct (fun _ _ => rfl) habort fun t n hidle =>
      (State.wsAct_capCtrl t n 1).trans (State.capAbort_idle hidle)⟩

end Sys2Proof.Machine
end

section
/-! PROOFS. The statement of 09_timing_and_equaliser.md about the timing loop, the deskew and the prefilter (R24, R226, R229 to
R237, R251, R252). -/

namespace Sys2Proof.Machine

/-! ## The timing loop (R24, R226, R230, R233, R235, R252) -/

/-- CORE_RX is judged by TIM_LOCK and by the fill of LINE_IN at its set point (R24, log entry 38). -/
theorem State.coreRxLock_eq (s : State) (n : Ch) (fill : Nat) :
    s.coreRxLock n fill =
      if s.is n TIM.STATUS_TIM_LOCK = true ∧ fill = 3 then s.set n TOP.CLK_STATUS_CORE_RX_LOCK 1 else s := by
  unfold State.coreRxLock
  simp only [Bool.and_eq_true, beq_iff_eq]

/-- REACQ does nothing to a loop that is not locked (R235). -/
theorem State.timReacq_unlocked {t : State} {n : Ch} (h : t.loopState n = 0 ∨ t.loopState n = 1 ∨ t.loopState n = 4) :
    t.timReacq n = t := if_neg (by omega)

/-- What bit `b` of CMD of the timing page requests. -/
def State.timCmd (s : State) (n : Ch) (b : Nat) : State :=
  if b = 0 then s.timReacq n else if b = 1 then s.timClear n else s.pfApply n

theorem State.wsAct_timCmd (t : State) (n : Ch) (b : Nat) : t.wsAct (TIM.CMD.addr n) b = t.timCmd n b := by
  obtain ⟨hpage, hoff, hch⟩ := chField_addr (f := TIM.CMD) (by decide) n
  have hpage0 : pageCode (TIM.CMD.addr 0) = 0x26 := by decide
  have hoff0 : TIM.CMD.addr 0 % 0x1000 = 0x68 := by decide
  unfold State.wsAct
  simp only [hpage, hoff, hch, hpage0, hoff0]
  match b with
  | 0 | 1 | _ + 2 => rfl

theorem pfActive_fits (i : Nat) : (TIM.PF_ACTIVE_COEF i).lo + (TIM.PF_ACTIVE_COEF i).w ≤ 32 := by
  simp [TIM.PF_ACTIVE_COEF]

/-- Each active coefficient stands in a register of its own. -/
theorem pfActive_apart {i k : Nat} (h : k ≠ i) : (TIM.PF_ACTIVE_COEF k).apart (TIM.PF_ACTIVE_COEF i) = true := by
  refine decide_eq_true ⟨pfActive_fits i, .inl ?_⟩
  simp only [TIM.PF_ACTIVE_COEF]
  omega

/-- The first `k` active coefficients of the prefilter are the staged ones (R226). -/
theorem State.get_pfCopy (s : State) (n : Ch) {i k : Nat} (h : i < k) :
    (s.pfCopy n k).get n (TIM.PF_ACTIVE_COEF i) = s.get n (TIM.PREFILTER_C_COEF i) := by
  induction k with
  | zero => exact absurd h (Nat.not_lt_zero i)
  | succ k ih =>
    unfold State.pfCopy
    obtain hlt | rfl := Nat.lt_succ_iff_lt_or_eq.mp h
    · rw [State.get_set_apart _ _ (pfActive_apart hlt.ne'), ih hlt]
    · rw [State.get_set_same _ _ _ _ (pfActive_fits i)]
      exact Nat.mod_eq_of_lt (State.get_lt s n (TIM.PREFILTER_C_COEF i))

/-- Settles O40: the branches of a timing-error window, the guards of the loop's and the deskew's events, and CMD at its
target. -/
theorem theTimingLoopLocksLosesAndDelays : Obligations.TheTimingLoopLocksLosesAndDelays := by
  unfold Obligations.TheTimingLoopLocksLosesAndDelays
  have hreacq : wsField TIM.CMD_REACQ = true := by decide +kernel
  have hclr : wsField TIM.CMD_CLR_STATS = true := by decide +kernel
  have hpf : wsField TIM.CMD_PF_APPLY = true := by decide +kernel
  refine ⟨State.coreRxLock_eq,
    fun rms mean sat fill => Event.of_exec (fun _ _ => rfl) fun s n hrest => if_pos hrest,
    fun rms mean sat fill => Event.of_exec (fun _ _ => rfl) fun s n hacq => (if_neg (by omega)).trans (if_pos hacq),
    fun rms mean sat fill => Event.of_exec (fun _ _ => rfl) fun s n hlocked => ?locked,
    Event.of_exec (fun _ _ => rfl) fun s n hon => if_neg (not_or.mpr hon),
    fun ppm frac => Event.of_exec (fun _ _ => rfl) fun s n hon => if_neg hon,
    Event.of_exec (fun _ _ => rfl) fun s n ⟨hon, hseen, hnotice, hhold⟩ => if_neg (by simp [hon, hseen, hnotice, hhold]),
    Event.of_exec (fun _ _ => rfl) fun s n hidle => if_pos hidle,
    Event.of_exec (fun _ _ => rfl) fun s n ⟨hmode, hpar, hnew⟩ => if_neg (by simp [hmode, hpar, hnew]),
    Event.of_exec (fun _ _ => rfl) fun s n ⟨hmode, hpar, hnew⟩ => if_neg (by simp [hmode, hpar, hnew]),
    ⟨Request.of_wsAct (fun _ _ => rfl) hpf fun t n => State.wsAct_timCmd t n 2, fun s n i hi => State.get_pfCopy s n hi⟩,
    RequestWhen.of_wsAct (fun _ _ => rfl) hreacq fun t n hlocked => (State.wsAct_timCmd t n 0).trans (if_pos hlocked),
    RequestWhen.of_wsAct (fun _ _ => rfl) hreacq fun t n hother =>
      (State.wsAct_timCmd t n 0).trans (State.timReacq_unlocked hother),
    Request.of_wsAct (fun _ _ => rfl) hclr fun t n => State.wsAct_timCmd t n 1,
    fun k => Event.of_exec (fun _ _ => rfl) fun s n _ => rfl⟩
  case locked =>
    unfold doPhaseErrWindow
    extract_lets st s1 s2 s3 s4 s5 t u
    rw [if_neg (by omega), if_neg (by omega)]
    by_cases hgood : rms ≤ s.get n TIM.LOCK_CFG_UNLOCK_THR
    · rw [if_neg (not_lt.mpr hgood), if_pos hgood]
    · rw [if_pos (not_le.mp hgood), if_neg hgood]

end Sys2Proof.Machine
end

section
/-! PROOFS. The statement of 09_timing_and_equaliser.md about the equaliser: adaptation, the guard's windows, RESTART and the
eye monitor (R238 to R253). -/

namespace Sys2Proof.Machine

/-! ## Adaptation (R238 to R241) -/

/-- A value that has moved lies in its range (R240). -/
theorem lmsMove_bounds {lo hi : Int} (h : lo ≤ hi) (full : Int) (step : Nat) (sign v : Int) :
    lo ≤ (lmsMove full lo hi step sign v).1 ∧ (lmsMove full lo hi step sign v).1 ≤ hi := clampI_bounds h _

/-- A value whose move meets no end of its range has moved by its step and its leakage (R240). -/
theorem lmsMove_free {full lo hi : Int} {step : Nat} {sign v : Int} (h : (lmsMove full lo hi step sign v).2 = false) :
    (lmsMove full lo hi step sign v).1 = v + sign.sign * (full / 2 ^ step) - v.tdiv (2 ^ (step + 6)) := by
  unfold lmsMove clampI at *
  obtain ⟨hlo, hhi⟩ := not_or.mp (of_decide_eq_false h)
  exact (if_neg hlo).trans (if_neg hhi)

/-- A notice at the head of the queue is counted and freezes adaptation (R241). -/
theorem doDressNotice_cons {s : State} {n : Ch} {src : Nat} {rest : List Nat} (h : (s.chan n).notices = src :: rest) :
    doDressNotice n s =
      ((((s.modCh n fun c => { c with notices := rest }).incr n EQ.NOTICE_COUNT).count n 0x33 2 src).modEq n fun x =>
        { x with frozen := x.frozen + 1 }).eqStatus n := by
  unfold doDressNotice
  rw [h]

/-! ## The guard's windows (R242 to R244, R248) -/

section
variable {s : State} {n : Ch} {w : EqWindow}

/-- In ACQ a window reports, and the last of them readies the equaliser. -/
theorem doGuardWindow_acq (hacq : s.eqState n = 2) :
    doGuardWindow n w s =
      let t := s.eqReport n w
      if max 1 (s.get n EQ.CFG_ACQ_WINDOWS) ≤ (s.chan n).eq.windows + 1 then
        (((t.set n EQ.STATUS_EQ_STATE 3).modEq n fun x => { x with windows := 0, lowRun := 0 }).irq n EQ.IRQ_EQ_READY).levels n
      else t.modEq n fun x => { x with windows := (s.chan n).eq.windows + 1 } := by
  unfold doGuardWindow
  rw [hacq]
  rfl

variable (htrack : s.eqState n = 3)
include htrack

/-- In TRACK an SNR at its floor or above ends the run of low ones. -/
theorem doGuardWindow_clear (hsnr : s.get n EQ.SNR_CFG_FLOOR ≤ overallSnr w) :
    doGuardWindow n w s =
      ((s.eqReport n w).modEq n fun x => { x with lowRun := 0 }).guardJudge n (s.guardCause n w.occ w.trans) := by
  unfold doGuardWindow
  rw [htrack]
  simp [not_lt.mpr hsnr]

variable (hsnr : overallSnr w < s.get n EQ.SNR_CFG_FLOOR)
include hsnr

/-- A low SNR in a hold, or one of the first three of its run, leaves the guard to judge the window. -/
theorem doGuardWindow_low (hshort : s.is n EQ.STATUS_GUARD_HOLD = true ∨ (s.chan n).eq.lowRun < 3) :
    doGuardWindow n w s =
      (((s.eqReport n w).irq n EQ.IRQ_SNR_LOW).modEq n fun x =>
        { x with lowRun := if s.is n EQ.STATUS_GUARD_HOLD then 0 else (s.chan n).eq.lowRun + 1 }).guardJudge n
        (s.guardCause n w.occ w.trans) := by
  unfold doGuardWindow
  rw [htrack]
  cases hhold : s.is n EQ.STATUS_GUARD_HOLD
  case true => simp [hsnr]
  case false =>
    have hrun : ¬ 4 ≤ (s.chan n).eq.lowRun + 1 := by
      have := hshort.resolve_left (by simp [hhold])
      omega
    simp [hsnr, hrun]

/-- The fourth low SNR in a row out of a hold is EQ_DIVERGE. -/
theorem doGuardWindow_diverge (hhold : s.is n EQ.STATUS_GUARD_HOLD = false) (hrun : 3 ≤ (s.chan n).eq.lowRun) :
    doGuardWindow n w s =
      let t := (((s.eqReport n w).irq n EQ.IRQ_SNR_LOW).modEq n fun x => { x with lowRun := (s.chan n).eq.lowRun + 1 })
      let u := (t.raise n EQ.FLT_EQ_DIVERGE).irq n EQ.IRQ_DIVERGE
      if u.eqState n = 3 then ((u.eqEnter n 2).eqTapsReset n).levels n else u := by
  unfold doGuardWindow
  rw [htrack]
  simp [hsnr, hhold, hrun]

end

/-! ## CMD and EYE_CTRL (R247, R250, R253) -/

/-- What bit `b` of CMD of the equaliser's page requests. -/
def State.eqCmd (s : State) (n : Ch) (b : Nat) : State := if b = 0 then s.eqRestart n else s.eqClear n

theorem State.wsAct_eqCmd (t : State) (n : Ch) (b : Nat) : t.wsAct (EQ.CMD.addr n) b = t.eqCmd n b := by
  obtain ⟨hpage, hoff, hch⟩ := chField_addr (f := EQ.CMD) (by decide) n
  have hpage0 : pageCode (EQ.CMD.addr 0) = 0x27 := by decide
  have hoff0 : EQ.CMD.addr 0 % 0x1000 = 0x90 := by decide
  unfold State.wsAct
  simp only [hpage, hoff, hch, hpage0, hoff0]
  match b with
  | 0 | _ + 1 => rfl

/-- ABORT stops only an eye run that is in progress. -/
theorem State.eyeAbort_idle {t : State} {n : Ch} (hidle : t.is n EQ.BUSY_LONG_OP = false) : t.eyeAbort n = t :=
  if_neg (by simp [hidle])

/-- What bit `b` of EYE_CTRL requests. -/
def State.eyeCtrl (s : State) (n : Ch) (b : Nat) : State := if b = 0 then s.eyeStart n else s.eyeAbort n

theorem State.wsAct_eyeCtrl (t : State) (n : Ch) (b : Nat) : t.wsAct (EQ.EYE_CTRL.addr n) b = t.eyeCtrl n b := by
  obtain ⟨hpage, hoff, hch⟩ := chField_addr (f := EQ.EYE_CTRL) (by decide) n
  have hpage0 : pageCode (EQ.EYE_CTRL.addr 0) = 0x27 := by decide
  have hoff0 : EQ.EYE_CTRL.addr 0 % 0x1000 = 0x88 := by decide
  unfold State.wsAct
  simp only [hpage, hoff, hch, hpage0, hoff0]
  match b with
  | 0 | _ + 1 => rfl

/-- Settles O41: an update by `lmsMove`, the guard's windows in ACQ and in TRACK, the guards of the other events, and CMD and
EYE_CTRL at their targets. -/
theorem theEqualiserAdaptsUnderItsGuard : Obligations.TheEqualiserAdaptsUnderItsGuard := by
  unfold Obligations.TheEqualiserAdaptsUnderItsGuard
  have hrestart : wsField EQ.CMD_RESTART = true := by decide +kernel
  have hclr : wsField EQ.CMD_CLR_STATS = true := by decide +kernel
  have hstart : wsField EQ.EYE_CTRL_START = true := by decide +kernel
  have habort : wsField EQ.EYE_CTRL_ABORT = true := by decide +kernel
  refine ⟨fun ffe dfe levels => Event.of_exec (fun _ _ => rfl) fun s n hfrozen => if_pos hfrozen,
    fun ffe dfe levels => Event.of_exec (fun _ _ => rfl) fun s n hadapts => ?adapts,
    fun full lo hi step sign v hrange =>
      and_assoc.mp ⟨lmsMove_bounds hrange full step sign v, lmsMove_free⟩,
    fun src rest => Event.of_exec (fun _ _ => rfl) fun s n hnotice => doDressNotice_cons hnotice,
    Event.of_exec (fun _ _ => rfl) fun s n hfrozen => if_neg hfrozen,
    fun w => Event.of_exec (fun _ _ => rfl) fun s n hacq => doGuardWindow_acq hacq,
    fun w => Event.of_exec (fun _ _ => rfl) fun s n ⟨htrack, hsnr⟩ => doGuardWindow_clear htrack hsnr,
    fun w => Event.of_exec (fun _ _ => rfl) fun s n ⟨htrack, hsnr, hshort⟩ => doGuardWindow_low htrack hsnr hshort,
    fun w => Event.of_exec (fun _ _ => rfl) fun s n ⟨htrack, hsnr, hhold, hrun⟩ =>
      doGuardWindow_diverge htrack hsnr hhold hrun,
    Event.of_exec (fun _ _ => rfl) fun s n ⟨hhold, hlong⟩ => if_pos (by simp [hhold, hlong]),
    RequestWhen.of_wsAct (fun _ _ => rfl) hrestart fun t n hon => (State.wsAct_eqCmd t n 0).trans (if_neg hon),
    RequestWhen.of_wsAct (fun _ _ => rfl) hrestart fun t n hoff => (State.wsAct_eqCmd t n 0).trans (if_pos hoff),
    RequestWhen.of_wsAct (fun _ _ => rfl) hstart fun t n hmay => (State.wsAct_eyeCtrl t n 0).trans (if_pos hmay),
    fun hits => Event.of_exec (fun _ _ => rfl) fun s n ⟨hruns, hbusy⟩ => if_neg (by simp [hruns, hbusy]),
    RequestWhen.of_wsAct (fun _ _ => rfl) habort fun t n hbusy => (State.wsAct_eyeCtrl t n 1).trans (if_pos hbusy),
    RequestWhen.of_wsAct (fun _ _ => rfl) habort fun t n hidle =>
      (State.wsAct_eyeCtrl t n 1).trans (State.eyeAbort_idle hidle),
    Request.of_wsAct (fun _ _ => rfl) hclr fun t n => State.wsAct_eqCmd t n 1,
    fun k => Event.of_exec (fun _ _ => rfl) fun s n _ => rfl⟩
  case adapts =>
    unfold doLmsUpdate
    rw [if_neg (by simp [hadapts])]
    simp only [Bool.and_eq_true, Bool.or_eq_true]

end Sys2Proof.Machine
end

section
/-! PROOFS. The statement of 10_bolter_inner_code.md: block lock, the Chase decoder with its counts and marks, the BER window and
the requests of the Bolter (R257 to R259, R262 to R269). -/

namespace Sys2Proof.Machine

/-! ## Acquisition windows (R257, R258) -/

section
variable {s : State} {n : Ch} {counts : List Nat} (hdecides : s.eqState n = 2 ∨ s.eqState n = 3)
include hdecides

/-- In HUNT a window takes the offset that wins in the group. -/
theorem doAcqWindowEnd_hunt_won {o : Nat} (hhunt : s.boltState n = 1)
    (hwon : huntWinner counts (s.acqFrac n * 4) (s.chan n).bolt.group 16 = some o) :
    doAcqWindowEnd n counts s =
      ((s.set n BOLT.STATUS_STATE 2).set n BOLT.STATUS_OFFSET o).modBolt n fun y => { y with confirms := 0 } := by
  unfold doAcqWindowEnd
  rw [if_neg (by omega), hhunt]
  simp only [hwon]

/-- In HUNT a window in which no offset wins goes on to the next group. -/
theorem doAcqWindowEnd_hunt_lost (hhunt : s.boltState n = 1)
    (hlost : huntWinner counts (s.acqFrac n * 4) (s.chan n).bolt.group 16 = none) :
    doAcqWindowEnd n counts s = s.modBolt n fun y => { y with group := (y.group + 16) % 64 } := by
  unfold doAcqWindowEnd
  rw [if_neg (by omega), hhunt]
  simp only [hlost]

/-- In CONFIRM the first window that holds is noted and the second one locks. -/
theorem doAcqWindowEnd_confirm_held (hconfirm : s.boltState n = 2)
    (hheld : s.acqFrac n * 4 ≤ counts.getD (s.get n BOLT.STATUS_OFFSET) 0) :
    doAcqWindowEnd n counts s =
      if (s.chan n).bolt.confirms = 0 then s.modBolt n fun y => { y with confirms := 1 }
      else ((((s.set n BOLT.STATUS_STATE 3).set n BOLT.STATUS_BLOCK_LOCK 1).modBolt n fun y =>
        { y with confirms := 0, lossRun := 0, blocks := 0, corr := 0, unc := 0 }).irq n BOLT.IRQ_BLOCK_LOCK).levels n := by
  unfold doAcqWindowEnd
  rw [if_neg (by omega), hconfirm]
  exact if_pos hheld

/-- In CONFIRM a window that fails returns to HUNT, at the group after its offset. -/
theorem doAcqWindowEnd_confirm_failed (hconfirm : s.boltState n = 2)
    (hfailed : counts.getD (s.get n BOLT.STATUS_OFFSET) 0 < s.acqFrac n * 4) :
    doAcqWindowEnd n counts s =
      (s.set n BOLT.STATUS_STATE 1).modBolt n fun y =>
        { y with confirms := 0, group := (s.get n BOLT.STATUS_OFFSET / 16 * 16 + 16) % 64 } := by
  unfold doAcqWindowEnd
  rw [if_neg (by omega), hconfirm]
  exact if_neg (not_le.mpr hfailed)

end

/-! ## Decoding (R262, R263, R265 to R267, R269) -/

/-- Whether an armed CE of the page falls on the check of R263 (R269). -/
def State.boltCheckHit (s : State) (n : Ch) : Bool := s.armed n BOLT.STATUS 0 && s.get n BOLT.INJECT_TARGET == 1

theorem State.boltCheckHit_false {s : State} {n : Ch} (h : s.armed n BOLT.STATUS 0 = false ∨ s.get n BOLT.INJECT_TARGET ≠ 1) :
    s.boltCheckHit n = false := by
  unfold State.boltCheckHit
  obtain harm | htarget := h
  · rw [harm, Bool.false_and]
  · rw [beq_false_of_ne htarget, Bool.and_false]

theorem State.boltCheckHit_true {s : State} {n : Ch} (harm : s.armed n BOLT.STATUS 0 = true)
    (htarget : s.get n BOLT.INJECT_TARGET = 1) : s.boltCheckHit n = true := by
  unfold State.boltCheckHit
  rw [harm, htarget]
  rfl

/-- What a decoded block leaves: `t` is the state after the decoder's check, `result` what the check lets stand. -/
def State.boltReport (s t : State) (n : Ch) (b : SoftBlock) (pos : Nat) (result : Option (Candidate × Option Nat)) : State :=
  let bits := hardBits b.gray
  let rel := reliabilities (s.chan n).eq.mu (s.is n EQ.STATUS_PRECODE_ACTIVE) b.prev b.values
  let flag := flagged (s.get n BOLT.ERASE_CFG_MARGIN) result
  let marks := if flag then weakestK (rel.take 120) (s.eraseBits n) [] else []
  let s1 := (t.markSymbols n pos marks).add64 n BOLT.BLOCKS_LO
  let s2 := if flag then s1.add64 n BOLT.FLAGGED_LO else s1
  match result with
  | some (c, _) =>
    let k := c.diff.length
    let s3 := (s2.add64 n BOLT.BITS_CORR_LO k).add64 n (BOLT.HIST_LO k)
    (if 0 < k then s3.count n 0x37 2 0 k else s3).modBolt n fun x =>
      { x with msg := (flipBits c.diff 0 bits).take 120, marks, blocks := x.blocks + 1, corr := x.corr + k }
  | none =>
    ((s2.add64 n BOLT.UNCORR_LO).count n 0x36 2 0).modBolt n fun x =>
      { x with msg := bits.take 120, marks, blocks := x.blocks + 1, unc := x.unc + 1 }

section
variable {s : State} {n : Ch} (b : SoftBlock) (pos : Nat)

/-- Out of LOCKED the hard message bits pass, unmarked. -/
theorem doBlockDecode_unlocked (hmode : s.modeActive n = true) (hstate : s.boltState n ≠ 3) :
    doBlockDecode n b pos s = s.modBolt n fun x => { x with msg := (hardBits b.gray).take 120, marks := [] } := by
  unfold doBlockDecode
  rw [if_neg (by simp [hmode]), if_pos hstate]

variable (hmode : s.modeActive n = true) (hlocked : s.boltState n = 3)
include hmode hlocked

/-- In LOCKED a block is reported as the Chase decoder found it, but an injected check error spoils the result. -/
theorem doBlockDecode_locked :
    doBlockDecode n b pos s =
      s.boltReport (if s.boltCheckHit n then (s.disarm n BOLT.STATUS 0).raise n BOLT.FLT_DEC_CHECK { flags := 1 } else s) n b pos
        (if s.boltCheckHit n then none
         else chase (hardBits b.gray)
           (reliabilities (s.chan n).eq.mu (s.is n EQ.STATUS_PRECODE_ACTIVE) b.prev b.values)) := by
  unfold doBlockDecode
  rw [if_neg (by simp [hmode]), if_neg (not_not.mpr hlocked)]
  rfl

/-- Where no check error is injected the Chase decoder's result stands. -/
theorem doBlockDecode_sound (hsound : s.armed n BOLT.STATUS 0 = false ∨ s.get n BOLT.INJECT_TARGET ≠ 1) :
    doBlockDecode n b pos s =
      s.boltReport s n b pos (chase (hardBits b.gray)
        (reliabilities (s.chan n).eq.mu (s.is n EQ.STATUS_PRECODE_ACTIVE) b.prev b.values)) := by
  have hhit := State.boltCheckHit_false hsound
  rw [doBlockDecode_locked b pos hmode hlocked, if_neg (by simp [hhit]), if_neg (by simp [hhit])]

/-- An injected check error raises its fault and leaves the block uncorrectable. -/
theorem doBlockDecode_spoiled (harm : s.armed n BOLT.STATUS 0 = true) (htarget : s.get n BOLT.INJECT_TARGET = 1) :
    doBlockDecode n b pos s =
      s.boltReport ((s.disarm n BOLT.STATUS 0).raise n BOLT.FLT_DEC_CHECK { flags := 1 }) n b pos none := by
  have hhit := State.boltCheckHit_true harm htarget
  rw [doBlockDecode_locked b pos hmode hlocked, if_pos hhit, if_pos hhit]

end

/-! ## CMD (R267) -/

theorem State.wsAct_boltClrCnt (t : State) (n : Ch) :
    t.wsAct (BOLT.CMD_CLR_CNT.addr n) BOLT.CMD_CLR_CNT.lo = t.boltClear n := by
  obtain ⟨hpage, hoff, hch⟩ := chField_addr (f := BOLT.CMD_CLR_CNT) (by decide) n
  have hpage0 : pageCode (BOLT.CMD_CLR_CNT.addr 0) = 0x28 := by decide
  have hoff0 : BOLT.CMD_CLR_CNT.addr 0 % 0x1000 = 0x5C := by decide
  unfold State.wsAct
  simp only [hpage, hoff, hch, hpage0, hoff0]

/-- Settles O42: the windows of HUNT and CONFIRM, a block out of LOCKED, a sound and a spoiled one in LOCKED, the guards of the
lock and BER windows, and CLR_CNT at its target. -/
theorem theBolterLocksDecodesAndReports : Obligations.TheBolterLocksDecodesAndReports := by
  unfold Obligations.TheBolterLocksDecodesAndReports
  have hclr : wsField BOLT.CMD_CLR_CNT = true := by decide +kernel
  refine ⟨fun counts => Event.of_exec (fun _ _ => rfl) fun s n hidle => if_pos hidle,
    fun counts o => Event.of_exec (fun _ _ => rfl) fun s n ⟨hdecides, hhunt, hwon⟩ =>
      doAcqWindowEnd_hunt_won hdecides hhunt hwon,
    fun counts => Event.of_exec (fun _ _ => rfl) fun s n ⟨hdecides, hhunt, hlost⟩ =>
      doAcqWindowEnd_hunt_lost hdecides hhunt hlost,
    fun counts => Event.of_exec (fun _ _ => rfl) fun s n ⟨hdecides, hconfirm, hheld⟩ =>
      doAcqWindowEnd_confirm_held hdecides hconfirm hheld,
    fun counts => Event.of_exec (fun _ _ => rfl) fun s n ⟨hdecides, hconfirm, hfailed⟩ =>
      doAcqWindowEnd_confirm_failed hdecides hconfirm hfailed,
    fun zeros => Event.of_exec (fun _ _ => rfl) fun s n hlocked => if_neg (not_not.mpr hlocked),
    fun b pos => Event.of_exec (fun _ _ => rfl) fun s n hmode => if_pos (by simp [hmode]),
    fun b pos => Event.of_exec (fun _ _ => rfl) fun s n ⟨hmode, hstate⟩ => doBlockDecode_unlocked b pos hmode hstate,
    fun b pos => Event.of_exec (fun _ _ => rfl) fun s n ⟨hmode, hlocked, hsound⟩ =>
      doBlockDecode_sound b pos hmode hlocked hsound,
    fun b pos => Event.of_exec (fun _ _ => rfl) fun s n ⟨hmode, hlocked, harm, htarget⟩ =>
      doBlockDecode_spoiled b pos hmode hlocked harm htarget,
    Event.of_exec (fun _ _ => rfl) fun s n ⟨hlocked, hfull⟩ => if_neg (not_or.mpr ⟨not_not.mpr hlocked, not_lt.mpr hfull⟩),
    Event.of_exec (fun _ _ => rfl) fun s n hshort => if_pos hshort,
    Request.of_wsAct (fun _ _ => rfl) hclr State.wsAct_boltClrCnt,
    Event.of_exec (fun _ _ => rfl) fun s n _ => rfl⟩

end Sys2Proof.Machine
end

section
/-! PROOFS. The statements about the queue, the time clock and what every command keeps (R400, log entries 1, 2 and 14), and about
a memory word written in full (R419, R423). -/

namespace Sys2Proof.Machine

/-! ## The queue and the canonical form (log entries 1, 2 and 14) -/

/-- Settles O1: a step reads its queue's front and hands `exec` the state with the rest. -/
theorem stepRunsTheFrontCommand : Obligations.StepRunsTheFrontCommand := fun _ _ _ => rfl

theorem step_of_empty {s : State} (h : s.pending = []) : step s = .next (s.elapse 1) := by
  unfold step
  rw [h]
  rfl

/-- While device time is stopped the time clock's ticks are counted and nothing else changes (R400). -/
theorem State.elapse_stopped {s : State} (h : s.dev.timeRunning = false) (k : Nat) :
    s.elapse k = s.modDev fun d => { d with ticks := d.ticks + k } := by
  unfold State.elapse
  exact if_pos (by simp [h])

/-- Settles O2: a step on an empty queue is one tick, which stopped device time only counts (`State.elapse_stopped`). -/
theorem anEmptyQueueLetsOneTickPass : Obligations.AnEmptyQueueLetsOneTickPass :=
  ⟨fun _ => step_of_empty, fun s hempty hstopped => by rw [step_of_empty hempty, State.elapse_stopped hstopped]⟩

/-- Settles O4: every step keeps what `Keeps` names (`step_keepsNext`), the canonical form among it. -/
theorem everyStepKeepsTheCanonicalForm : Obligations.EveryStepKeepsTheCanonicalForm := by
  unfold Obligations.EveryStepKeepsTheCanonicalForm
  intro s t hcanonical hstep
  have hkeeps := step_keepsNext s
  rw [hstep] at hkeeps
  exact hkeeps.canonical hcanonical

/-- An outcome that keeps what every operation keeps is a next state with the queue as it was. -/
theorem KeepsNext.exists_next {s : State} {o : Host.Outcome State Fault Refusal} (h : KeepsNext s o) :
    ∃ t, o = .next t ∧ t.pending = s.pending := by
  cases o with
  | next t => exact ⟨t, rfl, h.pending⟩
  | fault => exact h.elim
  | refused => exact h.elim

/-- Settles O5: `exec_keepsNext` for every command, `step_keepsNext` for the step that takes it. -/
theorem aStepTakesOneCommandFromTheQueue : Obligations.AStepTakesOneCommandFromTheQueue :=
  ⟨fun c s => (exec_keepsNext s c).exists_next, fun s => (step_keepsNext s).exists_next⟩

/-! ## A memory word written in full (R419, R423) -/

/-- Bytes written leave every byte outside them alone. -/
theorem State.cell_setBytesLE_out {a b k : Nat} (s : State) (v : Nat) (h : b < a ∨ a + k ≤ b) :
    (s.setBytesLE a k v).cell b = s.cell b := by
  induction k generalizing s a v with
  | zero => rfl
  | succ k ih =>
    unfold State.setBytesLE
    rw [ih _ _ (by omega), State.cell_setCell_ne _ _ (by omega)]

/-- A little-endian value depends on its own bytes only. -/
theorem State.bytesLE_congr {s t : State} {a k : Nat} (h : ∀ b, a ≤ b → b < a + k → t.cell b = s.cell b) :
    t.bytesLE a k = s.bytesLE a k := by
  induction k generalizing a with
  | zero => rfl
  | succ k ih =>
    unfold State.bytesLE
    rw [h a (by omega) (by omega), ih fun b hlo hhi => h b (by omega) (by omega)]

/-- Bytes written read back as the low bytes of the value. -/
theorem State.bytesLE_setBytesLE (s : State) (a k v : Nat) : (s.setBytesLE a k v).bytesLE a k = v % 256 ^ k := by
  induction k generalizing s a v with
  | zero => exact (Nat.mod_one v).symm
  | succ k ih =>
    have hfirst : ((s.setCell a (BitVec.ofNat 8 v)).setBytesLE (a + 1) k (v / 256)).cell a = BitVec.ofNat 8 v := by
      rw [State.cell_setBytesLE_out _ _ (by omega), State.cell_setCell_same]
    unfold State.bytesLE State.setBytesLE
    rw [ih, hfirst, BitVec.toNat_ofNat, Nat.pow_succ' (m := 256), Nat.mod_mul, show 2 ^ 8 = 256 from rfl]

@[simp] theorem State.setBytesLE_word (s : State) (a k v b : Nat) : (s.setBytesLE a k v).word b = s.word b := by
  induction k generalizing s a v with
  | zero => rfl
  | succ k ih =>
    unfold State.setBytesLE
    rw [ih, State.setCell_word]

/-- A word written in full changes its own nine bytes only. -/
theorem State.cell_memPut_out {m w b : Nat} (s : State) (v : Nat) (h : b < memAddr m w ∨ memAddr m w + 8 < b) :
    (s.memPut m w v).cell b = s.cell b := by
  unfold State.memPut State.memPutSyn
  rw [State.cell_setCell_ne _ _ (by omega), State.cell_setBytesLE_out _ _ (by omega)]

theorem State.ecc_memPut_same (s : State) (m w v : Nat) : (s.memPut m w v).ecc m w = .clean := by
  unfold State.ecc State.memSyn State.memPut State.memPutSyn
  rw [State.cell_setCell_same]
  rfl

theorem State.memData_memPut_same (s : State) (m w v : Nat) : (s.memPut m w v).memData m w = v % 2 ^ 64 := by
  have hdata : ∀ b, memAddr m w ≤ b → b < memAddr m w + 8 →
      (s.memPut m w v).cell b = (s.setBytesLE (memAddr m w) 8 v).cell b :=
    fun b _ hb => State.cell_setCell_ne _ _ (by omega)
  exact (State.bytesLE_congr hdata).trans (State.bytesLE_setBytesLE s _ 8 v)

/-- Two words whose nine bytes meet are the same word. -/
theorem memAddr_apart {m w m' w' : Nat} (hw : w < 0x100000) (hw' : w' < 0x100000) (hne : (m', w') ≠ (m, w)) {b : Nat}
    (hlo : memAddr m' w' ≤ b) (hhi : b ≤ memAddr m' w' + 8) : b < memAddr m w ∨ memAddr m w + 8 < b := by
  unfold memAddr at *
  by_cases hm : m' = m
  · have hww : w' ≠ w := fun e => hne (by rw [hm, e])
    omega
  · omega

/-- Settles O8: what the nine bytes of the word read back as, and that no other byte changes (`State.cell_memPut_out`). -/
theorem aFullMemoryWriteReadsBackClean : Obligations.AFullMemoryWriteReadsBackClean := by
  unfold Obligations.AFullMemoryWriteReadsBackClean
  intro s m w v
  refine ⟨s.ecc_memPut_same m w v, s.memData_memPut_same m w v, fun m' w' hw hw' hne => ⟨?_, ?_⟩, fun a => ?_⟩
  · unfold State.ecc State.memSyn
    rw [State.cell_memPut_out s v (memAddr_apart hw hw' hne (by omega) (by omega))]
  · exact State.bytesLE_congr fun b hlo hhi => State.cell_memPut_out s v (memAddr_apart hw hw' hne hlo (by omega))
  · unfold State.memPut State.memPutSyn
    rw [State.setCell_word, State.setBytesLE_word]

end Sys2Proof.Machine
end

section
/-! PROOFS. Requests written to registers at their target: ws bits of device and channel pages (R9, R12). -/

namespace Sys2Proof.Machine

/-- Where a channel register with a known page and offset lies. -/
theorem chField_place {f : Field} (hf : chField f = true) (n : Ch) {p o : Nat} (hp : pageCode (f.addr 0) = p)
    (ho : f.addr 0 % 0x1000 = o) : pageCode (f.addr n) = p ∧ f.addr n % 0x1000 = o ∧ addrCh (f.addr n) = n := by
  obtain ⟨hpage, hoff, hch⟩ := chField_addr hf n
  exact ⟨hpage.trans hp, hoff.trans ho, hch⟩

/-- A write of a device page whose data name one ws bit, taken at once, does what the bit requests. -/
theorem State.codedWrite_device (t : State) {a b : Nat} {data : Word} (hpage : pageCode a < 0x20) (hoff : a % 0x1000 ≠ 0x24)
    (hb : b < 32) (hd : ∀ i, i < 32 → (wsData a data &&& wsMask a).getLsbD i = decide (i = b)) (hlong : t.longOp a = false)
    (hheld : t.pageHeld a = false) : t.codedWrite a data = (t.plainWrite a data).wsAct a b := by
  rw [codedWrite_one t hb hd (.inr (by rw [longOp_plainWrite t a data hoff, hlong, hheld]; rfl))]
  exact if_pos (.inl hpage)

/-- The host's write of one ws bit of a device register that takes writes by its access codes. -/
theorem Put.of_deviceWs {c : Instr} {a b : Nat} {data : Word} (hexec : ∀ s, exec c s = .next (s.actPut a data reqHost))
    (hcoded : codedReg a = true) (hw1c : w1cMask a = 0) (hpage : pageCode a < 0x20) (hoff : a % 0x1000 ≠ 0x24) (hb : b < 32)
    (hd : ∀ i, i < 32 → (wsData a data &&& wsMask a).getLsbD i = decide (i = b)) :
    Put c a reqHost (fun s => s.longOp a = false ∧ s.pageHeld a = false) fun s => (s.plainWrite a data).wsAct a b :=
  Put.of_regStore hexec (.inl hw1c) fun t ⟨hlong, hheld⟩ => by
    rw [regStore_coded t data reqHost hcoded, State.codedWrite_device t hpage hoff hb hd hlong hheld]

end Sys2Proof.Machine
end

section
/-! PROOFS. The statement of 21_ballout_and_electrical.md about the temperature sensors (R530 to R532). -/

namespace Sys2Proof.Machine

-- One theorem at a time: those that wait for a kernel evaluation would each keep a thread and its stack.
set_option Elab.async false

/-- Whether a threshold with hysteresis is passed by some reading (R531). -/
theorem thresholdNext_iff (now : Bool) (upper hyst : Int) (l : List Int) :
    thresholdNext now upper hyst l = true ↔ ∃ v ∈ l, (if now = true then upper - hyst else upper) < v := by
  unfold thresholdNext
  split <;> simp

/-- Settles O60: an update is the clause's state word for word, and CLR_PEAK is one ws bit of DEV.SENS. -/
theorem theSensorsJudgeTheHottestReading : Obligations.TheSensorsJudgeTheHottestReading := by
  unfold Obligations.TheSensorsJudgeTheHottestReading
  refine ⟨fun complex => When.of_exec (fun _ => rfl) fun s _ => ?update, thresholdNext_iff,
    Put.of_deviceWs (b := 0) (fun _ => rfl) (by decide +kernel) (by decide +kernel) (by decide) (by decide) (by decide)
      (by decide +kernel)⟩
  case update =>
    unfold doSensUpdate
    simp only [Bool.and_eq_true, Bool.not_eq_true'] <;> rfl

end Sys2Proof.Machine
end

section
/-! PROOFS. The statement of 11_dresser_calibration.md: the Dresser's passes, steps, windows and deferrals (R276, R279 to R284,
R286, R287, R290, R292, R293). -/

namespace Sys2Proof.Machine

-- One theorem at a time: those that wait for a kernel evaluation would each keep a thread and its stack.
set_option Elab.async false

/-! ## CMD and CTRL (R284, R292) -/

theorem State.wsAct_dressPass (t : State) (n : Ch) : t.wsAct (DRESS.CMD_PASS.addr n) DRESS.CMD_PASS.lo = t.dressPass n := by
  obtain ⟨hpage, hoff, hch⟩ :=
    chField_place (f := DRESS.CMD_PASS) (by decide) n (p := 0x29) (o := 0x4C) (by decide) (by decide)
  unfold State.wsAct
  rw [hpage, hoff, hch]
  rfl

theorem State.wsAct_passAbort (t : State) (n : Ch) :
    t.wsAct (DRESS.CMD_ABORT.addr n) DRESS.CMD_ABORT.lo = t.passAbort n := by
  obtain ⟨hpage, hoff, hch⟩ :=
    chField_place (f := DRESS.CMD_ABORT) (by decide) n (p := 0x29) (o := 0x4C) (by decide) (by decide)
  unfold State.wsAct
  rw [hpage, hoff, hch]
  rfl

theorem State.passMay_iff (s : State) (n : Ch) (mask : Nat) :
    s.passMay n mask = true ↔ s.is n DRESS.CTRL_EN = true ∧ s.chRun n = true ∧ s.modeActive n = true ∧ mask ≠ 0 ∧
      s.is n DRESS.FLT_DRESS_FSM_PAR = false := by
  simp [State.passMay, and_assoc]

theorem State.passAbort_running {s : State} {n : Ch} (h : s.dressing n = true) :
    s.passAbort n = (s.passCut n 2 7).irq n DRESS.IRQ_PASS_ABORTED := if_pos h

theorem State.passAbort_idle {s : State} {n : Ch} (h : s.dressing n = false) : s.passAbort n = s := if_neg (by simp [h])

theorem State.dressPass_admitted {s : State} {n : Ch} (h : s.passMay n (s.get n DRESS.SCOPE_CMD_SCOPE) = true) :
    s.dressPass n = (s.passStart n (s.get n DRESS.SCOPE_CMD_SCOPE) 1).levels n := if_pos h

theorem State.dressPass_refused {s : State} {n : Ch} (h : s.passMay n (s.get n DRESS.SCOPE_CMD_SCOPE) = false) :
    s.dressPass n =
      ((s.set n DRESS.PASS_RESULT (4 * 2 ^ 28 + 1 * 2 ^ 24)).sat n DRESS.PASS_COUNT_ABORTED).irq n DRESS.IRQ_PASS_ABORTED :=
  if_neg (by simp [h])

/-- A register of a channel's block that has no ws bits and takes writes by its access codes, at its target. -/
theorem State.regStore_plain (t : State) {f : Field} (n : Ch) (data : Word) (req : Nat) (hf : chField f = true)
    (hcoded : codedReg (f.addr 0) = true) (hws : wsMask (f.addr 0) = 0) (hlow : 0x20 ≤ pageCode (f.addr 0))
    (hpage : pageCode (f.addr 0) < 0x36) :
    t.regStore (f.addr n) data req = (codeOk, (t.plainWrite (f.addr n) data).levels n) := by
  obtain ⟨hcode, -, hch⟩ := chField_addr hf n
  rw [regStore_coded t data req ((codedReg_addr hf n).trans hcoded),
    State.codedWrite_of_wsMask_zero t data ((wsMask_addr hf n).trans hws)]
  unfold State.afterWrite
  rw [hcode, hch, if_neg (by omega)]

/-- The host's write of CTRL with EN 0 is stored, and the channel's blocks see it. -/
theorem exec_dressCmdAbort_en {s : State} {n : Ch} (hopen : s.writeOpen (DRESS.CTRL.addr n) reqHost = true) :
    exec (.dressCmdAbort n true) s =
      .next (((s.seen (DRESS.CTRL.addr n) reqHost).plainWrite (DRESS.CTRL.addr n)
        (setBits (s.word (DRESS.CTRL.addr n)) 0 1 0)).levels n) := by
  have hexec : exec (.dressCmdAbort n true) s =
      .next (s.actPut (DRESS.CTRL.addr n) (setBits (s.word (DRESS.CTRL.addr n)) 0 1 0) reqHost) :=
    congrArg Host.Outcome.next (if_pos rfl)
  have hw1c : w1cMask (DRESS.CTRL.addr n) = 0 := (w1cMask_addr (by decide) n).trans (by decide +kernel)
  rw [hexec, actPut_open hopen (.inl hw1c) (State.regStore_plain _ (f := DRESS.CTRL) n _ reqHost (by decide)
    (by decide +kernel) (by decide +kernel) (by decide) (by decide))]

/-! ## Steps (R276, R281) -/

section
variable {s : State} {n : Ch} (part : StepPart) (wait : Nat)

/-- A step in flight takes effect when it is carried out. -/
theorem doTrimStep_lands (hflight : (s.chan n).dress.flight.isSome = true) :
    doTrimStep n .carriedOut wait s = s.flightLands n := if_pos hflight

variable (hnone : (s.chan n).dress.flight = none) (hstep : s.dressState n = 3)
include hnone hstep

/-- A step that is due waits where its scope must. -/
theorem doTrimStep_defers (hcause : s.deferCause n ≠ 0) :
    doTrimStep n part wait s =
      ((s.set n DRESS.STATUS_STATE 4).set n DRESS.STATUS_DEFER_CAUSE (s.deferCause n)).modDress n fun x =>
        { x with waited := true } := by
  unfold doTrimStep
  rw [if_neg (by simp [hnone]), if_neg (not_not.mpr hstep), if_pos hcause]

/-- A step that is due begins, and lands at once where it is not only announced. -/
theorem doTrimStep_begins (hcause : s.deferCause n = 0) :
    doTrimStep n part wait s =
      match part with
      | .announced => (s.addWait n wait).stepBegins n
      | .carriedOut => ((s.addWait n wait).stepBegins n).flightLands n := by
  refine (if_neg (by simp [hnone])).trans ((if_neg (not_not.mpr hstep)).trans ((if_neg (not_not.mpr hcause)).trans ?_))
  cases part <;> rfl

end

/-! ## Measurement windows (R279, R280, R287, R290) -/

/-- The state in which a window of the running scope is judged, `gap` after the last. -/
def State.dressMeasured (s : State) (n : Ch) (wait gap : Nat) : State :=
  ((s.addWait n wait).addRun n (gap + s.dressWindowPs n)).modDress n fun x =>
    { x with measured := (s.chan n).dress.measured + 1, most := max x.most (min ((s.chan n).dress.measured + 1) 15) }

section
variable {s : State} {n : Ch} (est : List TrimError) (wait : Nat)

/-- A window of a scope off line. -/
theorem doMeasureWindowEnd_offline (h : s.dressState n = 5) :
    doMeasureWindowEnd n est wait s =
      let t := s.dressMeasured n wait 0
      let todo := t.toStep n est
      if todo = [] then t.phaseEnd n false
      else
        let u := (t.offlineTrims n todo).modDress n fun x => { x with round := x.round + 1 }
        if max 1 (s.get n DRESS.CFG_MAX_ROUNDS) ≤ (u.chan n).dress.round then u.phaseEnd n true else u := by
  unfold doMeasureWindowEnd
  simp only [h, or_true, if_true, ne_eq, not_true_eq_false, and_false, if_false, Nat.reduceEqDiff, false_and]
  rfl

/-- A window of a scope in service. -/
theorem doMeasureWindowEnd_inService (h : s.dressState n = 2)
    (hwait : ¬ ((s.chan n).dress.scopes.head? = some 0 ∧ s.shadowMode n = true)) :
    doMeasureWindowEnd n est wait s =
      let t := s.dressMeasured n wait (if (s.chan n).dress.round = 0 then 0 else s.stepPs n)
      let r := t.splitRails n ((t.toStep n est).map fun e => (e.index, decide (0 < e.quarters)))
      if r.2.dressState n ≠ 2 then r.2
      else if r.1 = [] then (r.2.scopeEnd n 1).levels n
      else (r.2.modDress n fun x => { x with due := r.1 }).set n DRESS.STATUS_STATE 3 := by
  unfold doMeasureWindowEnd
  simp only [h, hwait, or_false, ne_eq, not_true_eq_false, false_and, if_false, Nat.reduceEqDiff, and_false]
  rfl

end

/-! ## Deferral over its limit (R282, R283) -/

theorem doDeferTimeout_waiting {s : State} {n : Ch} (hrun : s.dressing n = true)
    (hwait : (s.chan n).dress.waited = true ∨ s.dressState n = 4) :
    doDeferTimeout n s =
      let t := (s.raise n DRESS.FLT_PASS_TIMEOUT).setSat n DRESS.DEFER_US (1000 * max 1 (s.get n DRESS.DEFER_CFG_LIMIT_MS))
      if t.dressing n then ((t.passCut n 3 8).irq n DRESS.IRQ_PASS_TIMEOUT).levels n else t.irq n DRESS.IRQ_PASS_TIMEOUT :=
  if_pos (by simpa [hrun] using hwait)

theorem doDeferTimeout_moving {s : State} {n : Ch}
    (h : s.dressing n = false ∨ (s.chan n).dress.waited = false ∧ s.dressState n ≠ 4) : doDeferTimeout n s = s := by
  refine if_neg ?_
  obtain hidle | ⟨hwaited, hstate⟩ := h
  · simp [hidle]
  · simp [hwaited, hstate]

/-- Settles O43: CMD and CTRL at their targets, and the branches of a step, of a window, of the first trigger and of a
deferral's end. -/
theorem aDresserPassStartsStepsAndEnds : Obligations.ADresserPassStartsStepsAndEnds := by
  unfold Obligations.ADresserPassStartsStepsAndEnds
  have hpass : wsField DRESS.CMD_PASS = true := by decide +kernel
  have habort : wsField DRESS.CMD_ABORT = true := by decide +kernel
  have hstop : ∀ (s : State) (n : Ch), exec (.dressCmdAbort n false) s =
      .next (s.actPut (DRESS.CMD_ABORT.addr n) (oneBit DRESS.CMD_ABORT) reqHost) :=
    fun _ _ => congrArg Host.Outcome.next (if_neg Bool.false_ne_true)
  exact ⟨RequestWhen.of_wsAct (fun _ _ => rfl) hpass fun t n hmay =>
      (State.wsAct_dressPass t n).trans (State.dressPass_admitted hmay),
    RequestWhen.of_wsAct (fun _ _ => rfl) hpass fun t n hno =>
      (State.wsAct_dressPass t n).trans (State.dressPass_refused hno),
    State.passMay_iff,
    RequestWhen.of_wsAct hstop habort fun t n hrun =>
      (State.wsAct_passAbort t n).trans (State.passAbort_running hrun),
    RequestWhen.of_wsAct hstop habort fun t n hidle =>
      (State.wsAct_passAbort t n).trans (State.passAbort_idle hidle),
    fun n s hopen => exec_dressCmdAbort_en hopen,
    fun wait => Event.of_exec (fun _ _ => rfl) fun s n ⟨hnone, hstep, hcause⟩ => doTrimStep_begins _ wait hnone hstep hcause,
    fun wait => Event.of_exec (fun _ _ => rfl) fun s n ⟨hnone, hstep, hcause⟩ => doTrimStep_begins _ wait hnone hstep hcause,
    fun wait => Event.of_exec (fun _ _ => rfl) fun s n hflight => doTrimStep_lands wait hflight,
    fun wait part => Event.of_exec (fun _ _ => rfl) fun s n ⟨hnone, hstep, hcause⟩ =>
      doTrimStep_defers part wait hnone hstep hcause,
    fun est wait => Event.of_exec (fun _ _ => rfl) fun s n hoffline => doMeasureWindowEnd_offline est wait hoffline,
    fun est wait => Event.of_exec (fun _ _ => rfl) fun s n ⟨hmeasure, hwait⟩ =>
      doMeasureWindowEnd_inService est wait hmeasure hwait,
    Event.of_exec (fun _ _ => rfl) fun s n htrigger => if_pos htrigger,
    Event.of_exec (fun _ _ => rfl) fun s n hno => if_neg (by simp [hno]),
    Event.of_exec (fun _ _ => rfl) fun s n hmoving => doDeferTimeout_moving hmoving,
    Event.of_exec (fun _ _ => rfl) fun s n ⟨hrun, hwait⟩ => doDeferTimeout_waiting hrun hwait,
    Event.of_exec (fun _ _ => rfl) fun s n _ => rfl⟩

end Sys2Proof.Machine
end

section
/-! PROOFS. The statements of 12_millrace.md: the transmitter's order (R301 to R303, R312, R315), and the receiver, the FIFO and the
relay's table with their parity (R304 to R309, R314, R318, R320, R323). -/

namespace Sys2Proof.Machine

-- One theorem at a time: those that wait for a kernel evaluation would each keep a thread and its stack.
set_option Elab.async false

/-! ## CMD (R301, R309, R315) -/

theorem State.wsAct_mrFlush (t : State) (n : Ch) : t.wsAct (MRACE.CMD_TX_FLUSH.addr n) MRACE.CMD_TX_FLUSH.lo = t.mrFlush n := by
  obtain ⟨hpage, hoff, hch⟩ :=
    chField_place (f := MRACE.CMD_TX_FLUSH) (by decide) n (p := 0x2A) (o := 0x58) (by decide) (by decide)
  unfold State.wsAct
  rw [hpage, hoff, hch]
  rfl

theorem State.wsAct_mrPop (t : State) (n : Ch) : t.wsAct (MRACE.CMD_RX_POP.addr n) MRACE.CMD_RX_POP.lo = t.mrPop n := by
  obtain ⟨hpage, hoff, hch⟩ :=
    chField_place (f := MRACE.CMD_RX_POP) (by decide) n (p := 0x2A) (o := 0x58) (by decide) (by decide)
  unfold State.wsAct
  rw [hpage, hoff, hch]
  rfl

theorem State.wsAct_mrEcho (t : State) (n : Ch) : t.wsAct (MRACE.CMD_ECHO.addr n) MRACE.CMD_ECHO.lo = t.mrEcho n := by
  obtain ⟨hpage, hoff, hch⟩ :=
    chField_place (f := MRACE.CMD_ECHO) (by decide) n (p := 0x2A) (o := 0x58) (by decide) (by decide)
  unfold State.wsAct
  rw [hpage, hoff, hch]
  rfl

/-! ## Frames on the line (R301 to R303, R312) -/

section
variable {s : State} {n : Ch} (hmay : s.mrTxMay n = true) (hair : (s.chan n).mr.air = none)
  (hgap : (s.chan n).mr.gapEnd ≤ s.dev.time.units)
include hmay hair hgap

/-- Where the transmitter may send, none is on the air and the gap has passed, the first of what waits starts: the answer, the
beacon, the echo, the queue. -/
theorem doMrFrameStart_starts :
    doMrFrameStart n s =
      State.mrStatus (match (s.chan n).mr.rsp with
        | some e => (s.modMr n fun y => { y with rsp := none }).mrLocal n 4 e.dst (leBytes e.seq 2 ++ e.ts.bytes ++
            leBytes (((s.mrSync n).units + 2 ^ 64 - e.rx.units) % 2 ^ 64) 8 ++ [0, 0])
        | none =>
          if (s.chan n).mr.beacon then
            (s.modMr n fun y => { y with beacon := false }).mrLocal n 2 mrBroadcast (s.beaconBytes n)
          else if (s.chan n).mr.echo then
            (s.modMr n fun y => { y with echo := false }).mrLocal n 3
              (if s.is n MRACE.STATUS_FAR_VALID then s.get n MRACE.FAR_ID_LO + s.get n MRACE.FAR_ID_HI_ID * 2 ^ 32
                else mrBroadcast) []
          else s.mrFromQueue n (s.chan n).mr.queue) n := by
  unfold doMrFrameStart
  refine (if_neg (by simp [hmay, hair, hgap])).trans ?_
  cases (s.chan n).mr.rsp <;> rfl

theorem doMrFrameStart_answer {e : MrEcho} (hrsp : (s.chan n).mr.rsp = some e) :
    doMrFrameStart n s =
      ((s.modMr n fun y => { y with rsp := none }).mrLocal n 4 e.dst (leBytes e.seq 2 ++ e.ts.bytes ++
        leBytes (((s.mrSync n).units + 2 ^ 64 - e.rx.units) % 2 ^ 64) 8 ++ [0, 0])).mrStatus n := by
  rw [doMrFrameStart_starts hmay hair hgap, hrsp]

variable (hrsp : (s.chan n).mr.rsp = none)
include hrsp

theorem doMrFrameStart_beacon (hbeacon : (s.chan n).mr.beacon = true) :
    doMrFrameStart n s =
      ((s.modMr n fun y => { y with beacon := false }).mrLocal n 2 mrBroadcast (s.beaconBytes n)).mrStatus n := by
  rw [doMrFrameStart_starts hmay hair hgap, hrsp]
  exact congrArg (State.mrStatus · n) (if_pos hbeacon)

variable (hbeacon : (s.chan n).mr.beacon = false)
include hbeacon

theorem doMrFrameStart_echo (hecho : (s.chan n).mr.echo = true) :
    doMrFrameStart n s =
      ((s.modMr n fun y => { y with echo := false }).mrLocal n 3
        (if s.is n MRACE.STATUS_FAR_VALID then s.get n MRACE.FAR_ID_LO + s.get n MRACE.FAR_ID_HI_ID * 2 ^ 32 else mrBroadcast)
        []).mrStatus n := by
  rw [doMrFrameStart_starts hmay hair hgap, hrsp]
  exact congrArg (State.mrStatus · n) ((if_neg (by simp [hbeacon])).trans (if_pos hecho))

theorem doMrFrameStart_queue (hecho : (s.chan n).mr.echo = false) :
    doMrFrameStart n s = (s.mrFromQueue n (s.chan n).mr.queue).mrStatus n := by
  rw [doMrFrameStart_starts hmay hair hgap, hrsp]
  exact congrArg (State.mrStatus · n) ((if_neg (by simp [hbeacon])).trans (if_neg (by simp [hecho])))

end

theorem doMrFrameStart_idle {s : State} {n : Ch}
    (h : s.mrTxMay n = false ∨ (s.chan n).mr.air.isSome = true ∨ s.dev.time.units < (s.chan n).mr.gapEnd) :
    doMrFrameStart n s = s := by
  refine if_pos ?_
  obtain h | h | h := h <;> simp [h]

section
variable {s : State} {n : Ch} {o : MrOut} (hair : (s.chan n).mr.air = some o)
include hair

/-- A frame that was not cut has been sent. -/
theorem doMrFrameEnd_sent (hcut : (s.chan n).mr.cut = false) :
    doMrFrameEnd n s =
      let e := s.get n MRACE.BEACON_CFG_ECHO_EVERY
      let t := ((((s.irq n MRACE.IRQ_TX_DONE).incr n MRACE.TX_FRAMES).set n MRACE.TX_LAST_SENT_SEQ o.frame.seq).count n 0x40 2
        0).modMr n fun x => { x with gapEnd := s.mrGapFrom n }
      let u := (if o.own then t else t.incr n MRLY.RELAY_TX).modMr n fun x =>
        if o.frame.typ = 2 ∧ o.own = true ∧ e ≠ 0 then
          if e ≤ x.sinceEcho + 1 then { x with air := none, slopes := [], sinceEcho := 0, echo := true }
          else { x with air := none, slopes := [], sinceEcho := x.sinceEcho + 1 }
        else { x with air := none, slopes := [] }
      (u.mrTxLevel n).mrStatus n := by
  unfold doMrFrameEnd
  simp only [hair]
  exact if_neg (by simp [hcut])

/-- A frame that was cut has been aborted. -/
theorem doMrTxAbort_cut (hcut : (s.chan n).mr.cut = true) :
    doMrTxAbort n s =
      (((((s.irq n MRACE.IRQ_TX_ABORTED).incr n MRACE.TX_ABORTED).set n MRACE.TX_LAST_ABORT_SEQ o.frame.seq).modMr n fun x =>
        { x with air := none, slopes := [], cut := false, gapEnd := s.mrGapFrom n }).mrTxLevel n).mrStatus n := by
  unfold doMrTxAbort
  simp only [hair]
  exact if_pos hcut

end

/-- Settles O44: the branches of a frame's start, the ends of a frame, a due beacon, and CMD at its target. -/
theorem theMillraceSendsInItsOrder : Obligations.TheMillraceSendsInItsOrder := by
  unfold Obligations.TheMillraceSendsInItsOrder
  have hflush : wsField MRACE.CMD_TX_FLUSH = true := by decide +kernel
  have hecho : wsField MRACE.CMD_ECHO = true := by decide +kernel
  exact ⟨Event.of_exec (fun _ _ => rfl) fun s n ⟨hperiod, hstate⟩ => if_neg (not_or.mpr ⟨hperiod, hstate⟩),
    fun e => Event.of_exec (fun _ _ => rfl) fun s n ⟨hmay, hair, hgap, hrsp⟩ => doMrFrameStart_answer hmay hair hgap hrsp,
    Event.of_exec (fun _ _ => rfl) fun s n ⟨hmay, hair, hgap, hrsp, hbeacon⟩ =>
      doMrFrameStart_beacon hmay hair hgap hrsp hbeacon,
    Event.of_exec (fun _ _ => rfl) fun s n ⟨hmay, hair, hgap, hrsp, hbeacon, hecho⟩ =>
      doMrFrameStart_echo hmay hair hgap hrsp hbeacon hecho,
    Event.of_exec (fun _ _ => rfl) fun s n ⟨hmay, hair, hgap, hrsp, hbeacon, hecho⟩ =>
      doMrFrameStart_queue hmay hair hgap hrsp hbeacon hecho,
    Event.of_exec (fun _ _ => rfl) fun s n hidle => doMrFrameStart_idle hidle,
    fun o => Event.of_exec (fun _ _ => rfl) fun s n ⟨hair, hcut⟩ => doMrFrameEnd_sent hair hcut,
    fun o => Event.of_exec (fun _ _ => rfl) fun s n ⟨hair, hcut⟩ => doMrTxAbort_cut hair hcut,
    Request.of_wsAct (fun _ _ => rfl) hflush State.wsAct_mrFlush,
    Request.of_wsAct (fun _ _ => rfl) hecho State.wsAct_mrEcho⟩

/-! ## The relay table at its target (R318) -/

/-- ENTRYe_W0 at its target. -/
theorem State.regStore_entryW0 (t : State) (n : Ch) (e : Fin 64) (data : Word) (req : Nat) :
    t.regStore ((MRLY.ENTRY_W0 e.val).addr n) data req = (codeOk, t.writeRelayW0 n e.val data) := by
  have hplain : ∀ e : Fin 64, plainAt (MRLY.ENTRY_W0 e.val) = true := by decide
  have hfield : ∀ e : Fin 64, chField (MRLY.ENTRY_W0 e.val) = true := by decide
  have hpage0 : ∀ e : Fin 64, pageCode ((MRLY.ENTRY_W0 e.val).addr 0) = 0x2B := by decide
  have hoff0 : ∀ e : Fin 64, (MRLY.ENTRY_W0 e.val).addr 0 % 0x1000 = 0x200 + 8 * e.val := by decide
  obtain ⟨hpage, hoff, -⟩ := chField_place (hfield e) n (hpage0 e) (hoff0 e)
  rw [regStore_chan t (hplain e) n, if_neg (by omega)]
  unfold State.writeRest
  simp only [hpage, hoff]
  rw [if_neg (by omega), if_pos (by omega), if_pos (by omega), show (0x200 + 8 * e.val - 0x200) / 8 = e.val by omega]

theorem entryW0_w1cMask (n : Ch) (e : Fin 64) : w1cMask ((MRLY.ENTRY_W0 e.val).addr n) = 0 := by
  have hfield : ∀ e : Fin 64, chField (MRLY.ENTRY_W0 e.val) = true := by decide
  have hmask0 : ∀ e : Fin 64, w1cMask ((MRLY.ENTRY_W0 e.val).addr 0) = 0 := by decide +kernel
  exact (w1cMask_addr (hfield e) n).trans (hmask0 e)

/-! ## Words with bad parity (R323) -/

section
variable {s : State} {n : Ch} {k : Nat}

theorem State.mrDrop_fifo (h : k < (s.chan n).mr.fifo.length) :
    s.mrDrop n (.fifo k) =
      ((s.modMr n fun y => { y with fifo := y.fifo.eraseIdx k }).incr n MRACE.RX_DROP_FULL).mrStatus n := if_pos h

theorem State.mrDrop_queue (h : k < (s.chan n).mr.queue.length) :
    s.mrDrop n (.queue k) =
      ((s.modMr n fun y => { y with queue := y.queue.eraseIdx k }).incr n MRACE.TX_ABORTED).mrStatus n := if_pos h

theorem State.mrDrop_beacon (h : (s.chan n).mr.beacon = true) :
    s.mrDrop n (.slot 1) =
      ((s.modMr n fun y => { y with beacon := false }).incr n MRACE.TX_ABORTED).mrStatus n := if_pos h

end

/-! ## Reception (R306, R307) -/

theorem doHeaderDecoded_header {s : State} {n : Ch} (h : List Byte) (hstate : s.mrRx n = 3) :
    doHeaderDecoded n h s =
      if leNat ((h.drop 32).take 2) = crc16 0xFFFF (h.take 32) ∧ mrLen h ≤ 256 then
        (s.set n MRACE.STATUS_RX_STATE 4).modMr n fun x => { x with header := h.take 34 }
      else s.mrRxErr n 1 MRACE.RX_HDR_ERR := if_neg (not_not.mpr hstate)

theorem doPayloadDecoded_payload {s : State} {n : Ch} (p : MrPayload) (hstate : s.mrRx n = 4) :
    doPayloadDecoded n p s =
      let h := (s.chan n).mr.header
      if leNat ((p.bytes.drop (mrLen h)).take 4) = crc32 0xFFFFFFFF (h ++ p.bytes.take (mrLen h)) then
        s.mrAccept n (MrFrame.ofBytes h (p.bytes.take (mrLen h))) (TimeVal.ofUnits (s.dev.time.units - p.back)) p.rssi p.ppm
      else s.mrRxErr n 0 MRACE.RX_CRC_ERR := if_neg (not_not.mpr hstate)

/-- Settles O45: the receiver's states in turn, CMD and the relay table at their targets, and what each parity error drops. -/
theorem theMillraceReceivesAndRelays : Obligations.TheMillraceReceivesAndRelays := by
  unfold Obligations.TheMillraceReceivesAndRelays
  have hpop : wsField MRACE.CMD_RX_POP = true := by decide +kernel
  exact ⟨Event.of_exec (fun _ _ => rfl) fun s n hsearch => if_pos hsearch,
    Event.of_exec (fun _ _ => rfl) fun s n hother => if_neg hother,
    fun gain => Event.of_exec (fun _ _ => rfl) fun s n hpreamble => if_pos hpreamble,
    Event.of_exec (fun _ _ => rfl) fun s n hpreamble => if_pos hpreamble,
    fun h => Event.of_exec (fun _ _ => rfl) fun s n hstate => doHeaderDecoded_header h hstate,
    fun p => Event.of_exec (fun _ _ => rfl) fun s n hstate => doPayloadDecoded_payload p hstate,
    Event.of_exec (fun _ _ => rfl) fun s n hvalid => if_pos hvalid,
    Request.of_wsAct (fun _ _ => rfl) hpop State.wsAct_mrPop,
    fun k => When.of_exec (fun _ => rfl) fun s _ => rfl,
    fun e data n => Put.of_regStore (fun _ => rfl) (.inl (entryW0_w1cMask n e)) fun t _ =>
      State.regStore_entryW0 t n e data reqHost,
    fun k => Event.of_exec (fun _ _ => rfl) fun s n hheld => State.mrDrop_fifo hheld,
    fun k => Event.of_exec (fun _ _ => rfl) fun s n hheld => State.mrDrop_queue hheld,
    Event.of_exec (fun _ _ => rfl) fun s n hheld => State.mrDrop_beacon hheld,
    fun e => Event.of_exec (fun _ _ => rfl) fun s n _ => rfl,
    fun k => Event.of_exec (fun _ _ => rfl) fun s n _ => rfl,
    fun k => Event.of_exec (fun _ _ => rfl) fun s n _ => rfl⟩

end Sys2Proof.Machine
end

section
/-! PROOFS. The statement of 13_gauge_monitoring.md: the Gauge's runs, streams, housekeeping slots and diagnosis (R332 to R334, R336
to R338, R340, R342, R343). -/

namespace Sys2Proof.Machine

-- One theorem at a time: those that wait for a kernel evaluation would each keep a thread and its stack.
set_option Elab.async false

/-! ## Events that REFCLK carries (R22) -/

theorem Event.of_refclk {c : Ch → Instr} {may : State → Ch → Prop} {f : Ch → State → State} {op : State → Ch → State}
    (hexec : ∀ s n, exec (c n) s = .next (if s.dev.refclk then f n s else s)) (h : ∀ s n, may s n → f n s = op s n) :
    Event c (fun s n => s.dev.refclk = true ∧ may s n) op :=
  Event.of_exec hexec fun s n ⟨hclk, hmay⟩ => (if_pos hclk).trans (h s n hmay)

theorem Event.of_no_refclk {c : Ch → Instr} {may : State → Ch → Prop} {f : Ch → State → State}
    (hexec : ∀ s n, exec (c n) s = .next (if s.dev.refclk then f n s else s)) (h : ∀ s n, may s n → f n s = s) :
    Event c (fun s n => s.dev.refclk = false ∨ may s n) fun s _ => s :=
  Event.of_exec hexec fun s n hmay => by
    split_ifs with hclk
    · exact h s n (hmay.resolve_left (by simp [hclk]))
    · rfl

/-! ## CMD (R333, R340, R343) -/

theorem State.wsAct_gaugeTrigger (t : State) (n : Ch) :
    t.wsAct (GAUGE.CMD_TRIGGER.addr n) GAUGE.CMD_TRIGGER.lo = t.gaugeTrigger n := by
  obtain ⟨hpage, hoff, hch⟩ :=
    chField_place (f := GAUGE.CMD_TRIGGER) (by decide) n (p := 0x2C) (o := 0x4C) (by decide) (by decide)
  unfold State.wsAct
  rw [hpage, hoff, hch]
  rfl

theorem State.wsAct_gaugeDiag (t : State) (n : Ch) : t.wsAct (GAUGE.CMD_DIAG.addr n) GAUGE.CMD_DIAG.lo = t.gaugeDiag n := by
  obtain ⟨hpage, hoff, hch⟩ :=
    chField_place (f := GAUGE.CMD_DIAG) (by decide) n (p := 0x2C) (o := 0x4C) (by decide) (by decide)
  unfold State.wsAct
  rw [hpage, hoff, hch]
  rfl

theorem State.wsAct_gaugeClear (t : State) (n : Ch) :
    t.wsAct (GAUGE.CMD_CLR_STATS.addr n) GAUGE.CMD_CLR_STATS.lo = t.gaugeClear n := by
  obtain ⟨hpage, hoff, hch⟩ :=
    chField_place (f := GAUGE.CMD_CLR_STATS) (by decide) n (p := 0x2C) (o := 0x4C) (by decide) (by decide)
  unfold State.wsAct
  rw [hpage, hoff, hch]
  rfl

/-! ## Triggers (R333) -/

section
variable {s : State} {n : Ch}

theorem State.gaugeTrigger_off (h : s.is n GAUGE.CTRL_EN = false ∨ s.inTrial n = true) : s.gaugeTrigger n = s := by
  refine if_pos ?_
  obtain h | h := h <;> simp [h]

theorem State.gaugeTrigger_starts (hmay : s.gaugeMay n = true) (hbusy : s.is n GAUGE.STATUS_SEQ_BUSY = false)
    (hlong : s.is n GAUGE.BUSY_LONG_OP = false) : s.gaugeTrigger n = s.runStart n := by
  have hon : s.is n GAUGE.CTRL_EN = true ∧ s.inTrial n = false := by
    simp only [State.gaugeMay, Bool.and_eq_true, Bool.not_eq_true'] at hmay
    exact ⟨hmay.1.1.2, hmay.1.2⟩
  unfold State.gaugeTrigger
  rw [if_neg (by simp [hon]), if_pos (by simp [hmay, hbusy, hlong])]

/-- A trigger that cannot start a run waits, or is lost where one waits. -/
theorem State.gaugeTrigger_waits (hen : s.is n GAUGE.CTRL_EN = true) (htrial : s.inTrial n = false)
    (hno : s.gaugeMay n = false ∨ s.is n GAUGE.STATUS_SEQ_BUSY = true ∨ s.is n GAUGE.BUSY_LONG_OP = true) :
    s.gaugeTrigger n =
      if s.is n GAUGE.STATUS_TRIG_PENDING then
        ((s.sat n GAUGE.COUNTS_TRIGGER_LOST).irq n GAUGE.IRQ_TRIG_LOST).count n 0x51 0 0
      else s.set n GAUGE.STATUS_TRIG_PENDING 1 := by
  have hbusy : ¬ (s.gaugeMay n && !s.is n GAUGE.STATUS_SEQ_BUSY && !s.is n GAUGE.BUSY_LONG_OP) = true := by
    obtain h | h | h := hno <;> simp [h]
  unfold State.gaugeTrigger
  rw [if_neg (by simp [hen, htrial]), if_neg hbusy]

end

/-! ## Entries (R332, R334, R336) -/

/-- The entry that has run, and how far the results of the two converters lie apart. -/
def State.curEntry (s : State) (n : Ch) : Word := (s.chan n).gauge.entries.getD (s.get n GAUGE.STATUS_CUR_ENTRY) 0
def codesApart (a b : BitVec 16) : Nat := (a.toNat - b.toNat) + (b.toNat - a.toNat)

section
variable {s : State} {n : Ch} (va vb : BitVec 16) (hbusy : s.is n GAUGE.STATUS_SEQ_BUSY = true)
  (hfsm : s.is n GAUGE.FLT_GAUGE_FSM_PAR = false) (htarget : s.get n GAUGE.INJECT_TARGET ≠ 2)
include hbusy hfsm htarget

/-- An entry whose results agree, or that has one result only. -/
theorem doEntryComplete_agrees
    (hagree : entConv (s.curEntry n) ≠ 2 ∨ codesApart va vb ≤ s.get n GAUGE.CHECK_WINDOW_Q) :
    doEntryComplete n va vb s =
      let e := s.get n GAUGE.STATUS_CUR_ENTRY
      let w := s.curEntry n
      let a := if entConv w = 1 then vb.toNat else va.toNat
      let t := ((s.entryConverted n w).writeResult n e w a vb.toNat false).noteRxpwr n (entInput w) (entPga w) a
      (if w.getLsbD 31 = true then t.irq n GAUGE.IRQ_ENTRY_DONE else t).entryNext n e := by
  have hhit : (s.get n GAUGE.INJECT_TARGET == 2) = false := beq_false_of_ne htarget
  have hpair : (entConv (s.curEntry n) == 2 && decide (s.get n GAUGE.CHECK_WINDOW_Q <
      ((if entConv (s.curEntry n) = 1 then vb.toNat else va.toNat) - vb.toNat) +
        (vb.toNat - if entConv (s.curEntry n) = 1 then vb.toNat else va.toNat))) = false := by
    by_cases hconv : entConv (s.curEntry n) = 2
    · have hwindow := hagree.resolve_left (not_not.mpr hconv)
      unfold codesApart at hwindow
      simp [hconv, hwindow]
    · rw [beq_false_of_ne hconv, Bool.false_and]
  unfold State.curEntry at *
  unfold doEntryComplete
  simp only [hbusy, hfsm, hhit, hpair, Bool.not_true, Bool.or_self, Bool.and_false, Bool.false_eq_true, if_false]

/-- A pair whose results disagree. -/
theorem doEntryComplete_disagrees (hconv : entConv (s.curEntry n) = 2)
    (hapart : s.get n GAUGE.CHECK_WINDOW_Q < codesApart va vb) :
    doEntryComplete n va vb s =
      let e := s.get n GAUGE.STATUS_CUR_ENTRY
      let w := s.curEntry n
      let t := s.raise n GAUGE.FLT_GAUGE_DISAGREE
      let u := (((t.entryConverted n w).writeResult n e w va.toNat vb.toNat true).disagreed n e (codesApart va vb)).noteRxpwr n
        (entInput w) (entPga w) va.toNat
      if t.is n GAUGE.STATUS_SEQ_BUSY = false then t
      else (if w.getLsbD 31 = true then u.irq n GAUGE.IRQ_ENTRY_DONE else u).entryNext n e := by
  have hhit : (s.get n GAUGE.INJECT_TARGET == 2) = false := beq_false_of_ne htarget
  unfold State.curEntry codesApart at *
  unfold doEntryComplete
  simp only [hbusy, hfsm, hhit, hconv, hapart, Bool.not_true, Bool.or_self, Bool.and_false, Bool.false_eq_true, if_false,
    beq_self_eq_true, decide_true, Bool.and_self, if_true, Nat.reduceEqDiff, Bool.not_eq_true']

end

/-! ## Streams and the die slot (R337, R338) -/

section
variable {s : State} {n : Ch}

theorem doStreamDue_idle {k : Fin 2} (h : s.is n (streamActive k) = false ∨ s.chState n = 3) : doStreamDue n k s = s := by
  refine if_neg ?_
  obtain h | h := h <;> simp [h]

variable (hdie : (s.chan n).gauge.die = true) (hfsm : s.is n GAUGE.FLT_GAUGE_FSM_PAR = false)
include hdie hfsm

/-- A reading of the die, valid or not. -/
theorem doDieTempResult_read (code : BitVec 14) {ok : Bool}
    (hok : decide (code.toNat ≠ 0 ∧ code.toNat ≠ 16383 ∧ -640 ≤ dieC16 (Config.tempSeed n.val) code.toNat ∧
      dieC16 (Config.tempSeed n.val) code.toNat ≤ 2400) = ok) :
    doDieTempResult n code s =
      let c16 := dieC16 (Config.tempSeed n.val) code.toNat
      let runs := if ok then 0 else (s.chan n).gauge.invalid + 1
      let t := if 3 ≤ runs then s.raise n GAUGE.FLT_DIE_TEMP_INVALID else s
      let d := discards (t.gaugePrev n true 11) 11 0 3
      let u := ((t.converted n true 11 0 (d + 2)).modGauge n fun x => { x with die := false, invalid := runs }).set n
        GAUGE.DIE_TEMP_CODE code.toNat
      ((((u.setI n GAUGE.DIE_TEMP_C16 c16).set n GAUGE.DIE_TEMP_VALID (if ok then 1 else 0)).unitEnd n true).dressTemp n
        (if ok then some c16 else none)) := by
  subst hok
  exact if_neg (by simp [hdie, hfsm])

/-- A reading at an end of the code range is invalid. -/
theorem doDieTempResult_invalid {code : BitVec 14} (hcode : code = 0 ∨ code.toNat = 16383) :
    doDieTempResult n code s =
      let runs := (s.chan n).gauge.invalid + 1
      let t := if 3 ≤ runs then s.raise n GAUGE.FLT_DIE_TEMP_INVALID else s
      let d := discards (t.gaugePrev n true 11) 11 0 3
      let u := ((t.converted n true 11 0 (d + 2)).modGauge n fun x => { x with die := false, invalid := runs }).set n
        GAUGE.DIE_TEMP_CODE code.toNat
      (((u.setI n GAUGE.DIE_TEMP_C16 (dieC16 (Config.tempSeed n.val) code.toNat)).set n GAUGE.DIE_TEMP_VALID 0).unitEnd n
        true).set n DRESS.STATUS_TEMP_VALID 0 := by
  rw [doDieTempResult_read hdie hfsm code (ok := false) (by obtain rfl | h := hcode <;> simp [*])]
  simp only [Bool.false_eq_true, if_false]
  rfl

/-- A reading within the code range is valid where its temperature is. -/
theorem doDieTempResult_inRange {code : BitVec 14} (hzero : code ≠ 0) (hfull : code.toNat ≠ 16383) :
    doDieTempResult n code s =
      let c16 := dieC16 (Config.tempSeed n.val) code.toNat
      let ok := decide (-640 ≤ c16 ∧ c16 ≤ 2400)
      let runs := if ok then 0 else (s.chan n).gauge.invalid + 1
      let t := if 3 ≤ runs then s.raise n GAUGE.FLT_DIE_TEMP_INVALID else s
      let d := discards (t.gaugePrev n true 11) 11 0 3
      let u := ((t.converted n true 11 0 (d + 2)).modGauge n fun x => { x with die := false, invalid := runs }).set n
        GAUGE.DIE_TEMP_CODE code.toNat
      ((((u.setI n GAUGE.DIE_TEMP_C16 c16).set n GAUGE.DIE_TEMP_VALID (if ok then 1 else 0)).unitEnd n true).dressTemp n
        (if ok then some c16 else none)) := by
  have hzero' : code.toNat ≠ 0 := fun h => hzero (BitVec.eq_of_toNat_eq h)
  exact doDieTempResult_read hdie hfsm code (decide_eq_decide.mpr (by simp [hzero', hfull]))

end

/-! ## Path diagnosis (R340) -/

section
variable {s : State} {n : Ch}

theorem State.gaugeDiag_refused
    (h : 7 < s.get n GAUGE.DIAG_CFG_PATH ∨ s.is n GAUGE.CTRL_EN = false ∨
      s.get n GAUGE.DIAG_CFG_PATH = 4 ∧ s.is n GAUGE.STATUS_STREAM0_ACTIVE = true ∨
      s.get n GAUGE.DIAG_CFG_PATH = 0 ∧ s.is n GAUGE.STATUS_STREAM1_ACTIVE = true) :
    s.gaugeDiag n = (s.set n GAUGE.DIAG_RESULT (3 * 2 ^ 30)).irq n GAUGE.IRQ_DIAG_DONE := if_pos (by tauto)

theorem State.gaugeDiag_accepted (hpath : s.get n GAUGE.DIAG_CFG_PATH ≤ 7) (hen : s.is n GAUGE.CTRL_EN = true)
    (h0 : s.get n GAUGE.DIAG_CFG_PATH ≠ 4 ∨ s.is n GAUGE.STATUS_STREAM0_ACTIVE = false)
    (h1 : s.get n GAUGE.DIAG_CFG_PATH ≠ 0 ∨ s.is n GAUGE.STATUS_STREAM1_ACTIVE = false) :
    s.gaugeDiag n =
      ((s.set n GAUGE.BUSY_LONG_OP 1).modGauge n fun x =>
        { x with diagCfg := s.word (GAUGE.DIAG_CFG.addr n), diagWait := true }).levels n := by
  refine if_neg ?_
  rintro (h | ⟨h, hactive⟩ | ⟨h, hactive⟩ | h)
  · omega
  · simp [h, hactive] at h0
  · simp [h, hactive] at h1
  · simp [hen] at h

/-- The unit that diagnoses ends: judged against its tolerance, a failed path being a fault. -/
theorem doDiagDone_judged (v : BitVec 16) (hbusy : s.is n GAUGE.STATUS_DIAG_BUSY = true)
    (hfsm : s.is n GAUGE.FLT_GAUGE_FSM_PAR = false) :
    doDiagDone n v s =
      let c := (s.chan n).gauge.diagCfg
      let e := min 16383 ((2 * getBits c 16 10 * 2 ^ getBits c 6 2 * 16384 + 1023) / 2046)
      let ok := decide ((wholeLsb v.toNat - e) + (e - wholeLsb v.toNat) ≤ max 1 (getBits c 8 8))
      let r := if ok then s else s.raise n GAUGE.FLT_GAUGE_PATH_FAIL
      let t := (r.converted n (c.getLsbD 4) (getBits c 0 4) (getBits c 6 2) (35 + (r.chan n).gauge.extra)).modGauge n fun x =>
        { x with dirty := some (getBits c 0 4) }
      if r.is n GAUGE.STATUS_DIAG_BUSY = false then r
      else ((((t.set n GAUGE.DIAG_RESULT ((if ok then 1 else 2) * 2 ^ 30 + e * 2 ^ 16 + wholeLsb v.toNat)).set n
        GAUGE.STATUS_DIAG_BUSY 0).set n GAUGE.BUSY_LONG_OP 0).irq n GAUGE.IRQ_DIAG_DONE).gaugeNext n := by
  unfold doDiagDone
  rw [if_neg (by simp [hbusy, hfsm])]
  simp only [Bool.not_eq_true']

end

/-- Settles O46: CMD at its target, a trigger's branches, and the guards and results of entries, streams, the die slot and the
diagnosis. -/
theorem theGaugeRunsItsSequencesStreamsAndTests : Obligations.TheGaugeRunsItsSequencesStreamsAndTests := by
  unfold Obligations.TheGaugeRunsItsSequencesStreamsAndTests
  have htrigger : wsField GAUGE.CMD_TRIGGER = true := by decide +kernel
  have hdiag : wsField GAUGE.CMD_DIAG = true := by decide +kernel
  have hclr : wsField GAUGE.CMD_CLR_STATS = true := by decide +kernel
  exact ⟨RequestWhen.of_wsAct (fun _ _ => rfl) htrigger fun t n ⟨hmay, hbusy, hlong⟩ =>
      (State.wsAct_gaugeTrigger t n).trans (State.gaugeTrigger_starts hmay hbusy hlong),
    RequestWhen.of_wsAct (fun _ _ => rfl) htrigger fun t n ⟨hen, htrial, hno⟩ =>
      (State.wsAct_gaugeTrigger t n).trans (State.gaugeTrigger_waits hen htrial hno),
    RequestWhen.of_wsAct (fun _ _ => rfl) htrigger fun t n hoff =>
      (State.wsAct_gaugeTrigger t n).trans (State.gaugeTrigger_off hoff),
    fun second => Event.of_refclk (fun _ _ => rfl) fun s n ⟨hsrc, hen, htrial, hbusy⟩ =>
      (if_pos hsrc).trans (State.gaugeTrigger_waits hen htrial (.inr (.inl hbusy))),
    fun second => Event.of_refclk (fun _ _ => rfl) fun s n ⟨hsrc, hmay, hbusy, hlong⟩ =>
      (if_pos hsrc).trans (State.gaugeTrigger_starts hmay hbusy hlong),
    fun second => Event.of_no_refclk (fun _ _ => rfl) fun s n hsrc => if_neg (ne_true_of_eq_false hsrc),
    fun va vb => Event.of_refclk (fun _ _ => rfl) fun s n ⟨hbusy, hfsm, htarget, hagree⟩ =>
      doEntryComplete_agrees va vb hbusy hfsm htarget hagree,
    fun va vb => Event.of_refclk (fun _ _ => rfl) fun s n ⟨hbusy, hfsm, htarget, hconv, hapart⟩ =>
      doEntryComplete_disagrees va vb hbusy hfsm htarget hconv hapart,
    fun s n e hlast => if_neg (not_lt.mpr hlast), fun s n e hmore => if_pos hmore,
    fun k => Event.of_refclk (fun _ _ => rfl) fun s n ⟨hactive, hstate⟩ => if_pos (by simp [hactive, hstate]),
    fun k => Event.of_no_refclk (fun _ _ => rfl) fun s n hidle => doStreamDue_idle hidle,
    fun k v => Event.of_refclk (fun _ _ => rfl) fun s n ⟨hdue, hfsm⟩ => if_pos (by simp [hdue, hfsm]),
    Event.of_refclk (fun _ _ => rfl) fun s n hon => if_pos hon,
    Event.of_no_refclk (fun _ _ => rfl) fun s n hoff => if_neg (ne_true_of_eq_false hoff),
    fun code => Event.of_refclk (fun _ _ => rfl) fun s n ⟨hdie, hfsm, hcode⟩ => doDieTempResult_invalid hdie hfsm hcode,
    fun code hzero hfull => Event.of_refclk (fun _ _ => rfl) fun s n ⟨hdie, hfsm⟩ =>
      doDieTempResult_inRange hdie hfsm hzero hfull,
    RequestWhen.of_wsAct (fun _ _ => rfl) hdiag fun t n hno =>
      (State.wsAct_gaugeDiag t n).trans (State.gaugeDiag_refused hno),
    RequestWhen.of_wsAct (fun _ _ => rfl) hdiag fun t n ⟨hpath, hen, h0, h1⟩ =>
      (State.wsAct_gaugeDiag t n).trans (State.gaugeDiag_accepted hpath hen h0 h1),
    fun v => Event.of_refclk (fun _ _ => rfl) fun s n ⟨hbusy, hfsm⟩ => doDiagDone_judged v hbusy hfsm,
    Request.of_wsAct (fun _ _ => rfl) hclr State.wsAct_gaugeClear,
    fun k => Event.of_exec (fun _ _ => rfl) fun s n _ => rfl⟩

end Sys2Proof.Machine
end

section
/-! PROOFS. The statement of 15_tally_flow_accounting.md: Tally's frames, sweeps, spills, commands and parity (R363 to R365, R370,
R371, R375, R377, R378, R380 to R382, R385, R387). -/

namespace Sys2Proof.Machine

-- One theorem at a time: those that wait for a kernel evaluation would each keep a thread and its stack.
set_option Elab.async false

/-! ## CMD and SPILL_RD (R377, R378, R380 to R382) -/

theorem State.wsAct_tallyInit (t : State) (n : Ch) : t.wsAct (TALLY.CMD_INIT.addr n) TALLY.CMD_INIT.lo = t.tallyInit n := by
  obtain ⟨hpage, hoff, hch⟩ :=
    chField_place (f := TALLY.CMD_INIT) (by decide) n (p := 0x2F) (o := 0x5C) (by decide) (by decide)
  unfold State.wsAct
  rw [hpage, hoff, hch]
  rfl

theorem State.wsAct_tallyFlush (t : State) (n : Ch) : t.wsAct (TALLY.CMD_FLUSH.addr n) TALLY.CMD_FLUSH.lo = t.tallyFlush n := by
  obtain ⟨hpage, hoff, hch⟩ :=
    chField_place (f := TALLY.CMD_FLUSH) (by decide) n (p := 0x2F) (o := 0x5C) (by decide) (by decide)
  unfold State.wsAct
  rw [hpage, hoff, hch]
  rfl

theorem State.wsAct_tallySnap (t : State) (n : Ch) : t.wsAct (TALLY.CMD_SNAP.addr n) TALLY.CMD_SNAP.lo = t.tallySnap n := by
  obtain ⟨hpage, hoff, hch⟩ :=
    chField_place (f := TALLY.CMD_SNAP) (by decide) n (p := 0x2F) (o := 0x5C) (by decide) (by decide)
  unfold State.wsAct
  rw [hpage, hoff, hch]
  rfl

theorem State.wsAct_tallyQuery (t : State) (n : Ch) : t.wsAct (TALLY.CMD_QUERY.addr n) TALLY.CMD_QUERY.lo = t.tallyQuery n := by
  obtain ⟨hpage, hoff, hch⟩ :=
    chField_place (f := TALLY.CMD_QUERY) (by decide) n (p := 0x2F) (o := 0x5C) (by decide) (by decide)
  unfold State.wsAct
  rw [hpage, hoff, hch]
  rfl

theorem State.wsAct_tallyClear (t : State) (n : Ch) :
    t.wsAct (TALLY.CMD_CLR_CNT.addr n) TALLY.CMD_CLR_CNT.lo = t.tallyClear n := by
  obtain ⟨hpage, hoff, hch⟩ :=
    chField_place (f := TALLY.CMD_CLR_CNT) (by decide) n (p := 0x2F) (o := 0x5C) (by decide) (by decide)
  unfold State.wsAct
  rw [hpage, hoff, hch]
  rfl

/-- Where INIT is accepted, and where SNAP, QUERY and FLUSH are (R382). -/
theorem State.tallyMayInit_iff (s : State) (n : Ch) :
    s.tallyMayInit n = true ↔ s.get n TOP.STATUS_MODE_ACTIVE = 1 ∧ s.get n TALLY.STATUS_STATE ≠ 4 := by
  simp [State.tallyMayInit, State.modeActive, State.is, State.tallyState]

theorem State.tallyMay_iff (s : State) (n : Ch) :
    s.tallyMay n = true ↔ s.tallyMayInit n = true ∧ s.get n TALLY.STATUS_INIT_DONE = 1 := by
  simp [State.tallyMay, State.is]

/-- A command that Tally may not run is refused. -/
theorem not_tallyMay {s : State} {n : Ch} (h : s.tallyMay n = false) : (!s.tallyMay n) = true := by rw [h]; rfl

/-- A command that Tally may run is not. -/
theorem tallyMay_not {s : State} {n : Ch} (h : s.tallyMay n = true) : ¬ (!s.tallyMay n) = true := by simp [h]

/-- SPILL_RD at its target. -/
theorem State.regStore_spillRd (t : State) (n : Ch) (rd : BitVec 12) (req : Nat) :
    t.regStore (TALLY.SPILL_RD.addr n) (rd.setWidth 32) req = (codeOk, t.writeSpillRd n rd.toNat) := by
  obtain ⟨hpage, hoff, -⟩ :=
    chField_place (f := TALLY.SPILL_RD) (by decide) n (p := 0x2F) (o := 0x54) (by decide) (by decide)
  have hdata : (rd.setWidth 32).toNat % 4096 = rd.toNat := by
    rw [BitVec.toNat_setWidth]
    omega
  rw [regStore_chan t (f := TALLY.SPILL_RD) (by decide) n, if_neg (by omega)]
  unfold State.writeRest
  simp only [hpage, hoff, hdata]
  rw [if_neg (by decide), if_pos trivial]

theorem spillRd_w1cMask (n : Ch) : w1cMask (TALLY.SPILL_RD.addr n) = 0 := (w1cMask_addr (by decide) n).trans (by decide +kernel)

section
variable {s : State} {n : Ch} (rd : BitVec 12)

theorem State.writeSpillRd_bad
    (h : s.get n TALLY.SPILL_STAT_COUNT < spillCount (s.get n TALLY.SPILL_WR_IDX) rd.toNat) :
    s.writeSpillRd n rd.toNat = s.irq n TALLY.IRQ_SPILL_RD_BAD := by
  have hlow : rd.toNat % 4096 = rd.toNat := Nat.mod_eq_of_lt rd.isLt
  exact if_pos (by rwa [hlow])

theorem State.writeSpillRd_consumes
    (h : spillCount (s.get n TALLY.SPILL_WR_IDX) rd.toNat ≤ s.get n TALLY.SPILL_STAT_COUNT) :
    s.writeSpillRd n rd.toNat =
      let t := (s.set n TALLY.SPILL_RD_IDX rd.toNat).spillStat n
      if t.is n TALLY.STATUS_FLUSHING = true then t.flushRun n 131072 else t := by
  have hlow : rd.toNat % 4096 = rd.toNat := Nat.mod_eq_of_lt rd.isLt
  exact if_neg (by rwa [hlow, not_lt])

end

/-! ## Frames (R363 to R365) -/

/-- A frame that arrives in RUN: the sweep has gone on and PARSED counts it. -/
def State.tallyParsed (s : State) (n : Ch) (f : TallyFrame) : State :=
  ((s.sweepTo n f.swept).tallyCount n 0).count n 0x48 (s.tallySide n) 0

section
variable {s : State} {n : Ch} {f : TallyFrame} (hrun : s.tallyState n = 3)
include hrun

/-- A frame that is cut off counts apart, whatever its side hands on. -/
theorem doTallyFrame_truncated (hcut : f.truncated = true) : doTallyFrame n f s = (s.tallyParsed n f).tallyCount n 3 := by
  unfold doTallyFrame
  rw [if_neg (by simp [hrun, hcut])]
  exact if_pos hcut

variable (hcut : f.truncated = false) (hin : s.tallyInput n = true)
include hcut hin

theorem doTallyFrame_badLength (hlen : f.bytes.length < 64 ∨ 16383 < f.bytes.length) :
    doTallyFrame n f s = (s.tallyParsed n f).tallyCount n 5 := by
  unfold doTallyFrame
  rw [if_neg (by simp [hrun, hin])]
  exact (if_neg (by simp [hcut])).trans (if_pos hlen)

variable (hlo : 64 ≤ f.bytes.length) (hhi : f.bytes.length ≤ 16383)
include hlo hhi

/-- A whole frame of good length: what is left to judge are its errors and its FCS. -/
theorem doTallyFrame_goodLength :
    doTallyFrame n f s =
      let t := s.tallyParsed n f
      let tpl := s.get n TALLY.STATUS_TEMPLATE_ACTIVE
      if (f.errors.getD []).any (fun i => (keyBytes tpl f.bytes).contains i) then t.tallyCount n 3
      else if f.errors.isSome || !fcsGood f.bytes then t.frameFcs n tpl (frameKey tpl f.bytes)
      else
        match frameKey tpl f.bytes with
        | none => t.tallyCount n 4
        | some k => t.frameGood n tpl k f.bytes.length := by
  unfold doTallyFrame
  rw [if_neg (by simp [hrun, hin])]
  exact (if_neg (by simp [hcut])).trans ((if_neg (by omega)).trans (by rfl))

/-- A frame with symbol errors counts them where they spoil its key, and a bad FCS elsewhere. -/
theorem doTallyFrame_errors {errors : List Nat} (herr : f.errors = some errors) :
    doTallyFrame n f s =
      let t := s.tallyParsed n f
      let tpl := s.get n TALLY.STATUS_TEMPLATE_ACTIVE
      if ∃ i ∈ errors, i ∈ keyBytes tpl f.bytes then t.tallyCount n 3 else t.frameFcs n tpl (frameKey tpl f.bytes) := by
  rw [doTallyFrame_goodLength hrun hcut hin hlo hhi]
  simp only [herr, Option.getD_some, Option.isSome_some, Bool.true_or, if_true, List.any_eq_true, List.contains_iff_mem]

/-- A frame without symbol errors is judged by its FCS. -/
theorem doTallyFrame_clean (herr : f.errors = none) :
    doTallyFrame n f s =
      let t := s.tallyParsed n f
      let tpl := s.get n TALLY.STATUS_TEMPLATE_ACTIVE
      if crc32 0xFFFFFFFF (f.bytes.take (f.bytes.length - 4)) = leNat (f.bytes.drop (f.bytes.length - 4)) then
        match frameKey tpl f.bytes with
        | none => t.tallyCount n 4
        | some key => t.frameGood n tpl key f.bytes.length
      else t.frameFcs n tpl (frameKey tpl f.bytes) := by
  rw [doTallyFrame_goodLength hrun hcut hin hlo hhi]
  unfold fcsGood
  simp only [herr, Option.getD_none, List.any_nil, Bool.false_eq_true, if_false, Option.isSome_none, Bool.false_or,
    Bool.not_eq_true', beq_eq_false_iff_ne, ite_not]

end

theorem doTallyFrame_ignored {s : State} {n : Ch} {f : TallyFrame}
    (h : s.tallyState n ≠ 3 ∨ s.tallyInput n = false ∧ f.truncated = false) : doTallyFrame n f s = s := if_pos h

/-! ## Sweeps and flushes (R371, R378) -/

section
variable {s : State} {n : Ch}

theorem doSweepDone_done (hsweep : s.is n TALLY.STATUS_SWEEPING = true) (hstate : s.tallyState n ≠ 4) :
    doSweepDone n s = ((s.sweepTo n 131072).set n TALLY.STATUS_SWEEPING 0).irq n TALLY.IRQ_SWEEP_DONE :=
  if_neg (not_or.mpr ⟨by simp [hsweep], hstate⟩)

theorem doFlushDone_last (hflush : s.is n TALLY.STATUS_FLUSHING = true)
    (hlast : 131072 ≤ ((s.flushRun n 131072).chan n).tally.flushIdx) :
    doFlushDone n s =
      ((((s.flushRun n 131072).set n TALLY.STATUS_FLUSHING 0).set n TALLY.BUSY_LONG_OP 0).irq n
        TALLY.IRQ_FLUSH_DONE).levels n :=
  (if_neg (by simp [hflush])).trans (if_neg (not_lt.mpr hlast))

theorem doFlushDone_more (hflush : s.is n TALLY.STATUS_FLUSHING = true)
    (hmore : ((s.flushRun n 131072).chan n).tally.flushIdx < 131072) : doFlushDone n s = s.flushRun n 131072 :=
  (if_neg (by simp [hflush])).trans (if_pos hmore)

end

/-- Settles O49: each row of a frame's judgement, the guards of sweeps, scans and flushes, CMD and SPILL_RD at their targets on
each side of their conditions. -/
theorem tallyCountsSweepsSpillsAndAnswers : Obligations.TallyCountsSweepsSpillsAndAnswers := by
  unfold Obligations.TallyCountsSweepsSpillsAndAnswers
  have hflush : wsField TALLY.CMD_FLUSH = true := by decide +kernel
  have hsnap : wsField TALLY.CMD_SNAP = true := by decide +kernel
  have hquery : wsField TALLY.CMD_QUERY = true := by decide +kernel
  have hinit : wsField TALLY.CMD_INIT = true := by decide +kernel
  have hclr : wsField TALLY.CMD_CLR_CNT = true := by decide +kernel
  exact ⟨fun f => Event.of_exec (fun _ _ => rfl) fun s n hno => doTallyFrame_ignored hno,
    fun f => Event.of_exec (fun _ _ => rfl) fun s n ⟨hrun, hcut⟩ => doTallyFrame_truncated hrun hcut,
    fun f hcut hlen => Event.of_exec (fun _ _ => rfl) fun s n ⟨hrun, hin⟩ => doTallyFrame_badLength hrun hcut hin hlen,
    fun f errors hcut hlo hhi herr => Event.of_exec (fun _ _ => rfl) fun s n ⟨hrun, hin⟩ =>
      doTallyFrame_errors hrun hcut hin hlo hhi herr,
    fun f hcut hlo hhi herr => Event.of_exec (fun _ _ => rfl) fun s n ⟨hrun, hin⟩ =>
      doTallyFrame_clean hrun hcut hin hlo hhi herr,
    Event.of_exec (fun _ _ => rfl) fun s n hrun => if_neg (not_not.mpr hrun),
    Event.of_exec (fun _ _ => rfl) fun s n ⟨hsweep, hstate⟩ => doSweepDone_done hsweep hstate,
    Event.of_exec (fun _ _ => rfl) fun s n hno => if_pos hno,
    Event.of_exec (fun _ _ => rfl) fun s n hno => if_pos hno,
    Event.of_exec (fun _ _ => rfl) fun s n hno => if_pos hno,
    Event.of_exec (fun _ _ => rfl) fun s n hrun => if_neg (not_not.mpr hrun),
    fun rd n => Put.of_regStore (fun _ => rfl) (.inl (spillRd_w1cMask n)) fun t hbad =>
      (State.regStore_spillRd t n rd reqHost).trans (congrArg (Prod.mk codeOk) (State.writeSpillRd_bad rd hbad)),
    fun rd n => Put.of_regStore (fun _ => rfl) (.inl (spillRd_w1cMask n)) fun t hgood =>
      (State.regStore_spillRd t n rd reqHost).trans (congrArg (Prod.mk codeOk) (State.writeSpillRd_consumes rd hgood)),
    RequestWhen.of_wsAct (fun _ _ => rfl) hflush fun t n hmay => (State.wsAct_tallyFlush t n).trans (if_neg (tallyMay_not hmay)),
    Event.of_exec (fun _ _ => rfl) fun s n ⟨hflushing, hlast⟩ => doFlushDone_last hflushing hlast,
    Event.of_exec (fun _ _ => rfl) fun s n ⟨hflushing, hmore⟩ => doFlushDone_more hflushing hmore,
    Event.of_exec (fun _ _ => rfl) fun s n hidle => if_pos hidle,
    RequestWhen.of_wsAct (fun _ _ => rfl) hflush fun t n hno => (State.wsAct_tallyFlush t n).trans (if_pos (not_tallyMay hno)),
    RequestWhen.of_wsAct (fun _ _ => rfl) hsnap fun t n hmay => (State.wsAct_tallySnap t n).trans (if_neg (tallyMay_not hmay)),
    RequestWhen.of_wsAct (fun _ _ => rfl) hsnap fun t n hno => (State.wsAct_tallySnap t n).trans (if_pos (not_tallyMay hno)),
    RequestWhen.of_wsAct (fun _ _ => rfl) hquery fun t n _ => State.wsAct_tallyQuery t n,
    RequestWhen.of_wsAct (fun _ _ => rfl) hquery fun t n hno => (State.wsAct_tallyQuery t n).trans (if_pos (not_tallyMay hno)),
    RequestWhen.of_wsAct (fun _ _ => rfl) hinit fun t n hmay => (State.wsAct_tallyInit t n).trans (if_pos hmay),
    RequestWhen.of_wsAct (fun _ _ => rfl) hinit fun t n hno =>
      (State.wsAct_tallyInit t n).trans (if_neg (ne_true_of_eq_false hno)),
    fun s n => ⟨State.tallyMayInit_iff s n, State.tallyMay_iff s n⟩, by decide,
    Event.of_exec (fun _ _ => rfl) fun s n hother => if_pos hother,
    Event.of_exec (fun _ _ => rfl) fun s n hinit => if_neg (not_not.mpr hinit),
    Request.of_wsAct (fun _ _ => rfl) hclr State.wsAct_tallyClear,
    Event.of_exec (fun _ _ => rfl) fun s n _ => rfl⟩

end Sys2Proof.Machine
end

section
/-! PROOFS. The statements of 16_counters_time_hopper.md about the counters and about device time (R393, R395, R396, R399, R401 to
R404, R413). -/

namespace Sys2Proof.Machine

-- One theorem at a time: those that wait for a kernel evaluation would each keep a thread and its stack.
set_option Elab.async false

/-! ## Reads that latch (R393, R401) -/

/-- An open read of a LO word latches the words that follow it, and is otherwise only counted. -/
theorem State.actGet_latch {s : State} {a req : Nat} (hfree : (req == reqHost && s.busyPin) = false)
    (hreach : s.regReach a = codeOk) (harmed : s.pageArmed a 4 = false) (hspan : latchSpan a ≠ 0) (hbox : boxAt a = none)
    (hlog : pageCode a ≠ 0x08) (hpat : pageCode a ≠ 0x35) :
    s.actGet a req =
      let t := s.countBus (addrCh? a) 0x10 req (regLoc a)
      t.latchRead req a (t.latchWords a).1 (t.latchWords a).2 := by
  have hport : ¬ (req = reqHost ∧ s.busyPin = true) := by
    rintro ⟨rfl, hbusy⟩
    simp [hbusy] at hfree
  have hfetch : ∀ t : State, t.regFetch a req =
      ((codeOk, t.regView a req), t.latchRead req a (t.latchWords a).1 (t.latchWords a).2) := fun t => by
    unfold State.regFetch State.readReady State.readEffect
    rw [if_neg (fun h => hlog h.1), hbox, if_neg (fun h => Bool.false_ne_true h.1), if_neg (fun h => hpat h.1)]
    exact congrArg (Prod.mk _) (if_pos hspan)
  unfold State.actGet State.busGet State.regRead State.accessTrap
  simp only [if_neg hport, hreach, regReach_inPage hreach, harmed, hfetch, Bool.not_true, Bool.false_eq_true, if_false, ne_eq,
    not_true_eq_false, if_true]

/-! ## Selectors and presets at their targets (R395, R396, R399) -/

section
variable (t : State) (n : Ch) (data : Word) (req : Nat)

/-- A register of a channel's counter bank at its target, by its offset. -/
theorem State.regStore_bank {f : Field} (hplain : plainAt f = true) (hpage : pageCode (f.addr 0) = 0x30) :
    t.regStore (f.addr n) data req =
      (codeOk,
        if 0x100 ≤ f.off ∧ f.off < 0x200 then t.writeSelector (.ch n) ((f.off - 0x100) / 4) false data
        else if 0x200 ≤ f.off ∧ f.off < 0x300 then t.writeSelector (.ch n) ((f.off - 0x200) / 4) true data
        else if 0x400 ≤ f.off ∧ f.off < 0x800 ∧ f.off % 16 < 8 then
          t.presetCounter (.ch n) ((f.off - 0x400) / 16) (f.off % 16 == 4) data
        else t.codedWrite (f.addr n) data) := by
  have hfield : chField f = true := by
    unfold plainAt at hplain
    simp only [Bool.and_eq_true] at hplain
    exact hplain.1.1.1.1
  have hpage' : pageCode (f.addr n) = 0x30 := (chField_addr hfield n).1.trans hpage
  rw [regStore_chan t hplain n, if_neg (by omega)]
  unfold State.writeRest
  simp only [hpage', off_addr hfield n]
  split_ifs <;> rfl

/-- A register of the device's counter bank at its target, by its offset. -/
theorem State.regStore_devBank {o : Nat} (hlo : 0x100 ≤ o) (hhi : o < 0x1000) :
    t.regStore (0xC000 + o) data req =
      (codeOk,
        if o < 0x140 then t.writeSelector .dev ((o - 0x100) / 4) false data
        else if 0x200 ≤ o ∧ o < 0x240 then t.writeSelector .dev ((o - 0x200) / 4) true data
        else if 0x400 ≤ o ∧ o < 0x500 ∧ o % 16 < 8 then t.presetCounter .dev ((o - 0x400) / 16) (o % 16 == 4) data
        else t.codedWrite (0xC000 + o) data) := by
  have hpage : (0xC000 + o) / 0x1000 = 0xC := by omega
  have hoff : (0xC000 + o) % 0x1000 = o := by omega
  have hbox : boxAt (0xC000 + o) = none := by
    have hcode : pageCode (0xC000 + o) = 0xC := (if_pos (by omega)).trans hpage
    unfold boxAt
    simp [hcode]
  unfold State.regStore State.writeDev
  simp only [hbox, hpage, hoff, hlo, true_and]
  rw [if_neg (by omega), if_neg (by omega), if_neg (by omega), if_pos (by omega)]
  split_ifs <;> rfl

end

/-! ## Selectors (R395, R399) -/

section
variable (t : State) (n : Ch) (c : Fin 64) (data : Word) (req : Nat)

/-- A selector of a channel: SELc, or RANGEc. -/
theorem selector_plainAt (range : Bool) (c : Fin 64) : plainAt (if range = true then CNT.RANGE c else CNT.SEL c) = true ∧
    chField (if range = true then CNT.RANGE c else CNT.SEL c) = true ∧
    pageCode ((if range = true then CNT.RANGE c else CNT.SEL c).addr 0) = 0x30 ∧
    (if range = true then CNT.RANGE c else CNT.SEL c).off = (if range = true then 0x200 else 0x100) + 4 * c.val := by
  revert range c
  decide

theorem State.regStore_selector (range : Bool) :
    t.regStore ((if range = true then CNT.RANGE c else CNT.SEL c).addr n) data req =
      (codeOk, t.writeSelector (.ch n) c range data) := by
  have hc := c.isLt
  obtain ⟨hplain, -, hpage, hoff⟩ := selector_plainAt range c
  rw [State.regStore_bank t n data req hplain hpage, hoff]
  cases range
  case false =>
    simp only [Bool.false_eq_true, if_false]
    rw [if_pos (by omega), show (0x100 + 4 * c.val - 0x100) / 4 = c.val by omega]
  case true =>
    simp only [if_true]
    rw [if_neg (by omega), if_pos (by omega), show (0x200 + 4 * c.val - 0x200) / 4 = c.val by omega]

/-- A selector's offset is none that counting writes. -/
theorem not_cntWritten_selector (range : Bool) :
    ¬ cntWritten ((if range = true then CNT.RANGE c else CNT.SEL c).addr n % 0x1000) := by
  have hc := c.isLt
  obtain ⟨-, hfield, -, hoff⟩ := selector_plainAt range c
  rw [off_addr hfield n, hoff]
  unfold cntWritten
  cases range <;> simp only [Bool.false_eq_true, if_false, if_true] <;> omega

end

/-! ## Presets (R396) -/

section
variable (t : State) (n : Ch) (c : Fin 64) (data : Word) (req : Nat)

/-- A half of a channel's counter: CNTc_HI, or CNTc_LO. -/
theorem counter_plainAt (hi : Bool) (c : Fin 64) : plainAt (if hi = true then CNT.CNT_HI c else CNT.CNT_LO c) = true ∧
    chField (if hi = true then CNT.CNT_HI c else CNT.CNT_LO c) = true ∧
    pageCode ((if hi = true then CNT.CNT_HI c else CNT.CNT_LO c).addr 0) = 0x30 ∧
    (if hi = true then CNT.CNT_HI c else CNT.CNT_LO c).off = (if hi = true then 0x404 else 0x400) + 16 * c.val := by
  revert hi c
  decide

/-- No counter has w1c bits. -/
theorem w1cMask_counter (hi : Bool) : w1cMask ((if hi = true then CNT.CNT_HI c else CNT.CNT_LO c).addr n) = 0 := by
  have hzero : ∀ (hi : Bool) (c : Fin 64), w1cMask ((if hi = true then CNT.CNT_HI c else CNT.CNT_LO c).addr 0) = 0 := by
    decide +kernel
  obtain ⟨-, hfield, -, -⟩ := counter_plainAt hi c
  exact (w1cMask_addr hfield n).trans (hzero hi c)

theorem State.presetCounter_eq (x : Scope) (c : Nat) (hi : Bool) :
    t.presetCounter x c hi data =
      if t.get (scopeCh x) (cntF x CNT.SEL_CLASS c) = 0 then
        t.set (scopeCh x) (cntF x (if hi then CNT.CNT_HI else CNT.CNT_LO) c) data.toNat
      else t := ite_not ..

theorem State.regStore_counter (hi : Bool) :
    t.regStore ((if hi = true then CNT.CNT_HI c else CNT.CNT_LO c).addr n) data req =
      (codeOk, t.presetCounter (.ch n) c hi data) := by
  have hc := c.isLt
  obtain ⟨hplain, -, hpage, hoff⟩ := counter_plainAt hi c
  rw [State.regStore_bank t n data req hplain hpage, hoff]
  cases hi
  case false =>
    simp only [Bool.false_eq_true, if_false]
    rw [if_neg (by omega), if_neg (by omega), if_pos (by omega), show (0x400 + 16 * c.val - 0x400) / 16 = c.val by omega,
      show (0x400 + 16 * c.val) % 16 = 0 by omega]
    rfl
  case true =>
    simp only [if_true]
    rw [if_neg (by omega), if_neg (by omega), if_pos (by omega), show (0x404 + 16 * c.val - 0x400) / 16 = c.val by omega,
      show (0x404 + 16 * c.val) % 16 = 4 by omega]
    rfl

end

/-! ## The device's bank (R399) -/

section
variable (t : State) (c : Fin 16) (data : Word) (req : Nat)

theorem State.regStore_devSel :
    t.regStore (0xC100 + 4 * c.val) data req = (codeOk, t.writeSelector .dev c false data) := by
  have hc := c.isLt
  rw [show 0xC100 + 4 * c.val = 0xC000 + (0x100 + 4 * c.val) by omega, State.regStore_devBank t data req (by omega) (by omega),
    if_pos (by omega), show (0x100 + 4 * c.val - 0x100) / 4 = c.val by omega]

theorem State.regStore_devRange :
    t.regStore (0xC200 + 4 * c.val) data req = (codeOk, t.writeSelector .dev c true data) := by
  have hc := c.isLt
  rw [show 0xC200 + 4 * c.val = 0xC000 + (0x200 + 4 * c.val) by omega, State.regStore_devBank t data req (by omega) (by omega),
    if_neg (by omega), if_pos (by omega), show (0x200 + 4 * c.val - 0x200) / 4 = c.val by omega]

theorem State.regStore_devLo :
    t.regStore (0xC400 + 16 * c.val) data req = (codeOk, t.presetCounter .dev c false data) := by
  have hc := c.isLt
  rw [show 0xC400 + 16 * c.val = 0xC000 + (0x400 + 16 * c.val) by omega,
    State.regStore_devBank t data req (by omega) (by omega), if_neg (by omega), if_neg (by omega), if_pos (by omega),
    show (0x400 + 16 * c.val - 0x400) / 16 = c.val by omega, show (0x400 + 16 * c.val) % 16 = 0 by omega]
  rfl

theorem State.regStore_devHi :
    t.regStore (0xC404 + 16 * c.val) data req = (codeOk, t.presetCounter .dev c true data) := by
  have hc := c.isLt
  rw [show 0xC404 + 16 * c.val = 0xC000 + (0x404 + 16 * c.val) by omega,
    State.regStore_devBank t data req (by omega) (by omega), if_neg (by omega), if_neg (by omega), if_pos (by omega),
    show (0x404 + 16 * c.val - 0x400) / 16 = c.val by omega, show (0x404 + 16 * c.val) % 16 = 4 by omega]
  rfl

/-- Where the device's selectors and counters lie. -/
theorem devBank_addr :
    (cntF .dev CNT.SEL c).addr 0 = 0xC100 + 4 * c.val ∧ (cntF .dev CNT.RANGE c).addr 0 = 0xC200 + 4 * c.val ∧
      (cntF .dev CNT.CNT_LO c).addr 0 = 0xC400 + 16 * c.val ∧ (cntF .dev CNT.CNT_HI c).addr 0 = 0xC404 + 16 * c.val := by
  revert c
  decide

/-- No counter of the device has w1c bits. -/
theorem w1cMask_devCounter : w1cMask (0xC400 + 16 * c.val) = 0 ∧ w1cMask (0xC404 + 16 * c.val) = 0 := by
  revert c
  decide +kernel

end

/-! ## Reads of counters (R393) -/

theorem exec_counterLoRead {s : State} {n : Ch} {c : Fin 64} {req : Nat} (hfree : (req == reqHost && s.busyPin) = false)
    (hreach : s.regReach ((CNT.CNT_LO c).addr n) = codeOk) (harmed : s.pageArmed ((CNT.CNT_LO c).addr n) 4 = false) :
    exec (.counterLoRead (.ch n) c req) s = .next
      (let t := s.countBus (some n) 0x10 req (regLoc ((CNT.CNT_LO c).addr n))
       t.latchRead req ((CNT.CNT_LO c).addr n) (t.word ((CNT.CNT_HI c).addr n))
         (BitVec.ofNat 32 (t.get n (wrapBit cntPage c)))) := by
  have hc := c.isLt
  have hn := n.isLt
  have hplace : ∀ c : Fin 64, chField (CNT.CNT_LO c) = true ∧ pageCode ((CNT.CNT_LO c).addr 0) = 0x30 ∧
      (CNT.CNT_LO c).off = 0x400 + 16 * c.val := by decide
  obtain ⟨hfield, hpage0, hoff0⟩ := hplace c
  obtain ⟨hpage, -, hch⟩ := chField_addr hfield n
  rw [hpage0] at hpage
  have hoff : (CNT.CNT_LO c).addr n % 0x1000 = 0x400 + 16 * c.val := (off_addr hfield n).trans hoff0
  have haddr : (CNT.CNT_LO c).addr n = 0x110000 + n.val * 0x20000 + (0x400 + 16 * c.val) := rfl
  have hnext : (CNT.CNT_LO c).addr n + 4 = (CNT.CNT_HI c).addr n := by
    have hhi : (CNT.CNT_HI c).addr n = 0x110000 + n.val * 0x20000 + (0x404 + 16 * c.val) := rfl
    omega
  have hhigh : 0x100000 ≤ (CNT.CNT_LO c).addr n := by omega
  have hspan : latchSpan ((CNT.CNT_LO c).addr n) = 2 := by
    unfold latchSpan
    simp only [hpage, hoff]
    exact if_pos (by omega)
  have hbox : boxAt ((CNT.CNT_LO c).addr n) = none := by
    unfold boxAt
    simp [hpage]
  have hbank : addrCh? ((CNT.CNT_LO c).addr n) = some n := (if_neg (by omega)).trans (congrArg some hch)
  have hscope : Fin.ofNat 8 (((CNT.CNT_LO c).addr n - 0x100000) / 0x20000) = n := (if_neg (by omega)).symm.trans hch
  have hwords : ∀ t : State, t.latchWords ((CNT.CNT_LO c).addr n) =
      (t.word ((CNT.CNT_HI c).addr n), BitVec.ofNat 32 (t.get n (wrapBit cntPage c))) := fun t => by
    unfold State.latchWords
    rw [if_neg (by omega), if_pos hspan]
    simp only [hhigh, decide_true, if_true, hscope, hoff, show (0x400 + 16 * c.val - 0x400) / 16 = c.val by omega, hnext]
  have hread := State.actGet_latch hfree hreach harmed (by omega) hbox (by omega) (by omega)
  rw [hbank] at hread
  simp only [hwords] at hread
  exact congrArg Host.Outcome.next hread

/-! ## The statement -/

/-- Settles O50: selectors and presets at their targets in both banks, the low word's read as a latch, and the fault of a selector. -/
theorem selectorsPresetsAndReadsOfCountersObeyTheirRules : Obligations.SelectorsPresetsAndReadsOfCountersObeyTheirRules := by
  unfold Obligations.SelectorsPresetsAndReadsOfCountersObeyTheirRules
  refine ⟨fun n c range data req => ?selector, fun c data req => ?devSel, fun c data req => ?devRange, fun n c hi data => ?preset,
    fun c data => ?devLo, fun c data => ?devHi, fun s n c req hfree hreach harmed => exec_counterLoRead hfree hreach harmed,
    fun n c => When.of_exec (fun _ => rfl) fun s _ => if_pos c.isLt, fun c => When.of_exec (fun _ => rfl) fun s _ => if_pos c.isLt⟩
  case selector =>
    refine Put.of_regStore (data := data) (fun s => ?_) (.inr (not_cntWritten_selector n c range)) fun t _ =>
      (State.regStore_selector t n c data req range).trans ?_
    · cases range <;> rfl
    · cases range <;> rfl
  case devSel =>
    refine Put.of_regStore (data := data) (fun s => ?_) (.inr ?_) fun t _ => (State.regStore_devSel t c data req).trans ?_
    · exact congrArg (fun a => Host.Outcome.next (s.actPut a data req)) (devBank_addr c).1
    · unfold cntWritten; omega
    · rfl
  case devRange =>
    refine Put.of_regStore (data := data) (fun s => ?_) (.inr ?_) fun t _ => (State.regStore_devRange t c data req).trans ?_
    · exact congrArg (fun a => Host.Outcome.next (s.actPut a data req)) (devBank_addr c).2.1
    · unfold cntWritten; omega
    · rfl
  case preset =>
    refine Put.of_regStore (data := data) (fun s => ?_) (.inl (w1cMask_counter n c hi)) fun t _ =>
      (State.regStore_counter t n c data reqHost hi).trans (congrArg (Prod.mk codeOk) ?_)
    · cases hi <;> rfl
    · rw [State.presetCounter_eq]
      cases hi <;> rfl
  case devLo =>
    exact Put.of_regStore (fun s => congrArg (fun a => Host.Outcome.next (s.actPut a data reqHost)) (devBank_addr c).2.2.1)
      (.inl (w1cMask_devCounter c).1) fun t _ =>
      (State.regStore_devLo t c data reqHost).trans (congrArg (Prod.mk codeOk) (State.presetCounter_eq t data .dev c false))
  case devHi =>
    exact Put.of_regStore (fun s => congrArg (fun a => Host.Outcome.next (s.actPut a data reqHost)) (devBank_addr c).2.2.2)
      (.inl (w1cMask_devCounter c).2) fun t _ =>
      (State.regStore_devHi t c data reqHost).trans (congrArg (Prod.mk codeOk) (State.presetCounter_eq t data .dev c true))

/-! ## Device time: NOW, SET and ADJUST (R401) -/

theorem exec_timeNowRead {s : State} {req : Nat} (hfree : (req == reqHost && s.busyPin) = false)
    (harmed : s.pageArmed 0x9040 4 = false) :
    exec (.timeNowRead req) s = .next
      (let t := s.countBus none 0x10 req (regLoc 0x9040)
       t.latchRead req 0x9040 t.dev.time.word1 t.dev.time.word2) := by
  have hreach : s.regReach 0x9040 = codeOk := by
    have hdecoded : decoded 0x9040 = true := by decide +kernel
    unfold State.regReach
    rw [hdecoded]
    rfl
  exact congrArg Host.Outcome.next (State.actGet_latch hfree hreach harmed (by decide) (by decide) (by decide) (by decide))

section
variable {s : State}

theorem State.timeSet_stopped (h : s.dev.timeRunning = false) : s.timeSet = s := if_pos (by simp [h])

theorem State.timeAdjust_stopped (h : s.dev.timeRunning = false) : s.timeAdjust = s := if_pos (by simp [h])

theorem State.timeSet_running (h : s.dev.timeRunning = true) :
    s.timeSet =
      let v := TimeVal.ofWords (s.word (TIME.SET0.addr 0)) (s.word (TIME.SET1.addr 0)) (s.word (TIME.SET2.addr 0))
      ((s.modDev fun d => { d with time := { v with ns := min v.ns 999999999 } }).dset TIME.STATUS_VALID 1).timeStepped :=
  if_neg (by simp [h])

/-- The time in nanoseconds that ADJUST asks for. -/
def State.adjusted (s : State) : Int := ((s.dev.time.sec * 1000000000 + s.dev.time.ns : Nat) : Int) + s.getI 0 TIME.ADJ

variable (hrun : s.dev.timeRunning = true)
include hrun

theorem State.timeAdjust_below (h : s.adjusted < 0) :
    s.timeAdjust = ((s.modDev fun d => { d with time := {}, timeAcc := 0 }).dset TIME.STATUS_VALID 0).timeStepped :=
  (if_neg (by simp [hrun])).trans (congrArg State.timeStepped (if_pos h))

theorem State.timeAdjust_above (h : 2 ^ 48 * 1000000000 ≤ s.adjusted) :
    s.timeAdjust = ((s.modDev fun d => { d with time := { sec := 2 ^ 48 - 1, ns := 999999999, frac := 0xFFFF }, timeAcc := 0 }).dset
      TIME.STATUS_VALID 0).timeStepped :=
  (if_neg (by simp [hrun])).trans (congrArg State.timeStepped ((if_neg (show ¬ s.adjusted < 0 by omega)).trans (if_pos h)))

theorem State.timeAdjust_within (hlo : 0 ≤ s.adjusted) (hhi : s.adjusted < 2 ^ 48 * 1000000000) :
    s.timeAdjust = (s.modDev fun d => { d with time :=
      { sec := (s.adjusted / 1000000000).toNat, ns := (s.adjusted % 1000000000).toNat, frac := s.dev.time.frac } }).timeStepped :=
  (if_neg (by simp [hrun])).trans (congrArg State.timeStepped
    ((if_neg (show ¬ s.adjusted < 0 by omega)).trans (if_neg (show ¬ 2 ^ 48 * 1000000000 ≤ s.adjusted by omega))))

end

/-- A write of CMD of DEV.TIME that names one command, taken at once, runs it and then brings NEXT_ARMED and PPS_OUT up to date. -/
theorem Put.of_timeCmd {c : Instr} {b : Nat} {data : Word} (hexec : ∀ s, exec c s = .next (s.actPut 0x905C data reqHost)) (hb : b < 32)
    (hd : ∀ i, i < 32 → (wsData 0x905C data &&& wsMask 0x905C).getLsbD i = decide (i = b)) :
    Put c 0x905C reqHost (fun s => s.longOp 0x905C = false ∧ s.pageHeld 0x905C = false) fun s =>
      let t := (s.plainWrite 0x905C data).wsAct 0x905C b
      let u := t.dset TIME.STATUS_NEXT_ARMED (t.dget TIME.NEXT_SEC_HI_ARM)
      if u.is 0 TIME.CTRL_PPS_OUT_EN = true then u else u.modDev fun d => { d with ppsOut := false } := by
  have hw1c : w1cMask 0x905C = 0 := by decide +kernel
  refine Put.of_regStore hexec (.inl hw1c) fun t ⟨hlong, hheld⟩ => ?_
  have hstore : t.regStore 0x905C data reqHost = (codeOk, t.writeTime 0x905C data) := rfl
  rw [hstore]
  unfold State.writeTime
  rw [State.codedWrite_device t (by decide) (by decide) hb hd hlong hheld]

/-! ## PPS (R402, R403) -/

section
variable {s : State} {after : Nat}

theorem doPpsEdge_stopped (h : (s.elapse after).dev.timeRunning = false) : doPpsEdge after s = s.elapse after :=
  if_pos (by simp [h])

variable (hrun : (s.elapse after).dev.timeRunning = true)
include hrun

theorem doPpsEdge_glitch (hseen : (s.elapse after).dev.ppsSeen = true) (hsoon : (s.elapse after).dev.ppsTicks < 312500000) :
    doPpsEdge after s = ((s.elapse after).sat 0 TIME.PPS_COUNTS_GLITCH).dirq TIME.IRQ_PPS_GLITCH :=
  (if_neg (by simp [hrun])).trans (if_pos (by simp [hseen, hsoon]))

end

theorem doPpsLoss_tracking {s : State} (h : s.dget TIME.STATUS_PPS_STATE = 1) :
    doPpsLoss s =
      ((((s.draise TIME.FLT_PPS_LOSS).dirq TIME.IRQ_PPS_LOSS).sat 0 TIME.PPS_COUNTS_LOSS_COUNT).dset TIME.STATUS_PPS_STATE 2).modDev
        fun d => { d with ppsTicks := max d.ppsTicks 937500000 } := if_neg (not_not.mpr h)

theorem State.ppsAlign_plain {s : State} (err : Int) (h : s.is 0 TIME.NEXT_SEC_HI_ARM = false) :
    s.ppsAlign err = s.modDev fun d =>
      { d with time := { sec := if err < 0 then (s.dev.time.sec + 1) % 2 ^ 48 else s.dev.time.sec, ns := 0, frac := 0 },
               ppsOut := d.ppsOut || (s.is 0 TIME.CTRL_PPS_OUT_EN && decide (500000000 ≤ s.dev.time.ns)) } := by
  unfold State.ppsAlign
  simp only [h, Bool.false_eq_true, if_false]

theorem State.ppsAlign_armed {s : State} (err : Int) (h : s.is 0 TIME.NEXT_SEC_HI_ARM = true) :
    s.ppsAlign err = (((s.modDev fun d =>
      { d with time := { sec := s.dget TIME.NEXT_SEC_LO + 2 ^ 32 * s.dget TIME.NEXT_SEC_HI_SEC, ns := 0, frac := 0 },
               ppsOut := d.ppsOut || (s.is 0 TIME.CTRL_PPS_OUT_EN && decide (500000000 ≤ s.dev.time.ns)) }).dset
      TIME.NEXT_SEC_HI_ARM 0).dset TIME.STATUS_NEXT_ARMED 0).dset TIME.STATUS_VALID 1 := by
  unfold State.ppsAlign
  simp only [h, if_true]

/-- Settles O51: the latch of NOW0, both commands of DEV.TIME at their target, ADJUST and an edge by their cases. -/
theorem deviceTimeIsSetAdjustedAndAligned : Obligations.DeviceTimeIsSetAdjustedAndAligned := by
  unfold Obligations.DeviceTimeIsSetAdjustedAndAligned
  exact ⟨fun s req hfree harmed => exec_timeNowRead hfree harmed,
    fun s hstop => ⟨State.timeSet_stopped hstop, State.timeAdjust_stopped hstop⟩,
    fun s hrun => State.timeSet_running hrun,
    Put.of_timeCmd (b := 0) (fun _ => rfl) (by decide) (by decide +kernel),
    fun s hrun hlo hhi => State.timeAdjust_within hrun hlo hhi,
    fun s hrun hlo => State.timeAdjust_below hrun hlo,
    fun s hrun hhi => State.timeAdjust_above hrun hhi,
    Put.of_timeCmd (b := 1) (fun _ => rfl) (by decide) (by decide +kernel),
    fun after => When.of_exec (fun _ => rfl) fun s hstop => doPpsEdge_stopped hstop,
    fun after => When.of_exec (fun _ => rfl) fun s ⟨hrun, hseen, hsoon⟩ => doPpsEdge_glitch hrun hseen hsoon,
    fun after => When.of_exec (fun _ => rfl) fun s ⟨hrun, hfar⟩ =>
      (if_neg (by simp [hrun])).trans (if_neg (by rcases hfar with h | h <;> simp [h])),
    fun s err hplain => State.ppsAlign_plain err hplain,
    fun s err harmed => State.ppsAlign_armed err harmed,
    When.of_exec (fun _ => rfl) fun s htrack => doPpsLoss_tracking htrack,
    When.of_exec (fun _ => rfl) fun s hother => if_pos hother,
    When.of_exec (fun _ => rfl) fun s _ => rfl,
    When.of_exec (fun _ => rfl) fun s _ => rfl,
    When.of_exec (fun _ => rfl) fun s _ => rfl⟩

end Sys2Proof.Machine
end

section
/-! PROOFS. The statement of 16_counters_time_hopper.md about the Hopper's records (R405 to R407, R409 to R411, R413). -/

namespace Sys2Proof.Machine

-- One theorem at a time: those that wait for a kernel evaluation would each keep a thread and its stack.
set_option Elab.async false

/-! ## Triggers (R405, R411) -/

section
variable {s : State} {n : Ch}

theorem State.hopTrigger_idle (bit : Nat) (h : s.is n HOP.STATUS_SUSPENDED = true ∨ (s.chan n).hop.stopped = true) :
    s.hopTrigger n bit = s := if_pos (by rcases h with h | h <;> simp [h])

theorem State.hopTrigger_waits (bit : Nat) (hsusp : s.is n HOP.STATUS_SUSPENDED = false) (hstop : (s.chan n).hop.stopped = false) :
    s.hopTrigger n bit = s.modHop n fun x => { x with trig := x.trig ||| bit } := if_neg (by simp [hsusp, hstop])

variable (hon : s.chState n ≠ 0) (hen : s.is n HOP.CTRL_EN = true) (hperiod : s.get n HOP.CFG_PERIOD_MS ≠ 0)
include hon hen hperiod

/-- A boundary of a Hopper that runs: a trigger, or one more missed. -/
theorem doHopperBoundary_runs :
    doHopperBoundary n s =
      if (s.chan n).hop.stopped || s.is n HOP.STATUS_SUSPENDED then
        (s.sat n HOP.COUNTS_MISSED).modHop n fun x => { x with missed := min 65535 (x.missed + 1) }
      else s.hopTrigger n 1 := if_neg (by simp [hon, hen, hperiod])

theorem doHopperBoundary_missed (h : s.is n HOP.STATUS_SUSPENDED = true ∨ (s.chan n).hop.stopped = true) :
    doHopperBoundary n s = (s.sat n HOP.COUNTS_MISSED).modHop n fun x => { x with missed := min 65535 (x.missed + 1) } :=
  (doHopperBoundary_runs hon hen hperiod).trans (if_pos (by rcases h with h | h <;> simp [h]))

theorem doHopperBoundary_triggers (hsusp : s.is n HOP.STATUS_SUSPENDED = false) (hstop : (s.chan n).hop.stopped = false) :
    doHopperBoundary n s = s.modHop n fun x => { x with trig := x.trig ||| 1 } :=
  (doHopperBoundary_runs hon hen hperiod).trans
    ((if_neg (by simp [hsusp, hstop])).trans (State.hopTrigger_waits 1 hsusp hstop))

end

theorem State.wsAct_hopTrigger (t : State) (n : Ch) : t.wsAct (HOP.CMD_DUMP.addr n) HOP.CMD_DUMP.lo = t.hopTrigger n 2 := by
  obtain ⟨hpage, hoff, hch⟩ := chField_place (f := HOP.CMD_DUMP) (by decide) n (p := 0x31) (o := 0x44) (by decide) (by decide)
  unfold State.wsAct
  rw [hpage, hoff, hch]
  rfl

/-! ## RD_IDX (R410) -/

/-- RD_IDX at its target. -/
theorem State.regStore_hopRd (t : State) (n : Ch) (idx : Byte) (req : Nat) :
    t.regStore (HOP.RD_IDX.addr n) (idx.setWidth 32) req = (codeOk, t.writeHopRd n idx.toNat) := by
  obtain ⟨hpage, hoff, -⟩ := chField_place (f := HOP.RD_IDX) (by decide) n (p := 0x31) (o := 0x4C) (by decide) (by decide)
  have hdata : (idx.setWidth 32).toNat % 256 = idx.toNat := by
    rw [BitVec.toNat_setWidth]
    omega
  rw [regStore_chan t (f := HOP.RD_IDX) (by decide) n, if_neg (by omega)]
  unfold State.writeRest
  simp only [hpage, hoff, hdata]
  rw [if_neg (by decide), if_pos trivial]

theorem State.writeHopRd_eq (s : State) (n : Ch) (idx : Byte) :
    s.writeHopRd n idx.toNat =
      let c := (s.get n HOP.WR_IDX_IDX + 256 - idx.toNat) % 256
      if s.get n HOP.FILL_COUNT < c then s.irq n HOP.IRQ_RD_BAD
      else (s.set n HOP.RD_IDX_IDX idx.toNat).set n HOP.FILL_COUNT c := by
  have hlow : idx.toNat % 256 = idx.toNat := Nat.mod_eq_of_lt idx.isLt
  unfold State.writeHopRd
  rw [hlow]

/-! ## The record (R406, R407, R409) -/

section
variable {s : State} {n : Ch}

/-- A latch edge that takes a record. -/
theorem hopperLatch_guard (htrig : (s.chan n).hop.trig ≠ 0) (hstop : (s.chan n).hop.stopped = false)
    (hwriting : s.is n HOP.STATUS_WRITING = false) (hsusp : s.is n HOP.STATUS_SUSPENDED = false) (hon : s.chState n ≠ 0) :
    ¬ ((s.chan n).hop.trig = 0 ∨ (s.chan n).hop.stopped = true ∨ s.is n HOP.STATUS_WRITING = true ∨
      s.is n HOP.STATUS_SUSPENDED = true ∨ s.chState n = 0) := by
  simp [htrig, hstop, hwriting, hsusp, hon]

/-- The end of a record's writes, where one is being written. -/
theorem hopperWriteDone_guard (hwriting : s.is n HOP.STATUS_WRITING = true) (hon : s.memOn n = true) :
    ¬ (s.is n HOP.STATUS_WRITING = false ∨ s.memOn n = false) := by
  simp [hwriting, hon]

end

/-- Settles O52: a boundary by the Hopper's state, DUMP and RD_IDX at their targets, the record's latch and its end. -/
theorem theHopperDumpsItsRecords : Obligations.TheHopperDumpsItsRecords := by
  unfold Obligations.TheHopperDumpsItsRecords
  have hdump : wsField HOP.CMD_DUMP = true := by decide +kernel
  have hmask : w1cMask (HOP.RD_IDX.addr 0) = 0 := by decide +kernel
  exact ⟨Event.of_exec (fun _ _ => rfl) fun s n hidle => if_pos hidle,
    Event.of_exec (fun _ _ => rfl) fun s n ⟨hon, hen, hperiod, hno⟩ => doHopperBoundary_missed hon hen hperiod hno,
    Event.of_exec (fun _ _ => rfl) fun s n ⟨hon, hen, hperiod, hsusp, hstop⟩ =>
      doHopperBoundary_triggers hon hen hperiod hsusp hstop,
    RequestWhen.of_wsAct (fun _ _ => rfl) hdump fun t n ⟨hsusp, hstop⟩ =>
      (State.wsAct_hopTrigger t n).trans (State.hopTrigger_waits 2 hsusp hstop),
    RequestWhen.of_wsAct (fun _ _ => rfl) hdump fun t n hno => (State.wsAct_hopTrigger t n).trans (State.hopTrigger_idle 2 hno),
    Event.of_exec (fun _ _ => rfl) fun s n ⟨htrig, hstop, hwriting, hsusp, hon⟩ =>
      if_neg (hopperLatch_guard htrig hstop hwriting hsusp hon),
    Event.of_exec (fun _ _ => rfl) fun s n hno => if_pos hno,
    Event.of_exec (fun _ _ => rfl) fun s n ⟨hwriting, hon⟩ => if_neg (hopperWriteDone_guard hwriting hon),
    Event.of_exec (fun _ _ => rfl) fun s n hno => if_pos hno,
    fun idx n => Put.of_regStore (fun _ => rfl) (.inl ((w1cMask_addr (by decide) n).trans hmask)) fun t _ =>
      (State.regStore_hopRd t n idx reqHost).trans (congrArg (Prod.mk codeOk) (State.writeHopRd_eq t n idx)),
    Event.of_exec (fun _ _ => rfl) fun s n _ => rfl⟩

end Sys2Proof.Machine
end

section
/-! PROOFS. The statements of 17_memories_and_ecc.md about the scrubber, the write-backs and the leak of a bucket (R424, R425, R430)
and about the March test (R432, R435, R436, R439, R537). -/

namespace Sys2Proof.Machine

-- One theorem at a time: those that wait for a kernel evaluation would each keep a thread and its stack.
set_option Elab.async false

/-! ## SCRUB_CMD and MARCH_CMD of a channel -/

theorem State.wsAct_scrubGo (t : State) (n : Ch) :
    t.wsAct (MEM.SCRUB_CMD_GO.addr n) MEM.SCRUB_CMD_GO.lo = t.scrubGo (.ch n) := by
  obtain ⟨hpage, hoff, hch⟩ :=
    chField_place (f := MEM.SCRUB_CMD_GO) (by decide) n (p := 0x32) (o := 0x4C) (by decide) (by decide)
  unfold State.wsAct
  rw [hpage, hoff, hch]
  rfl

theorem State.wsAct_scrubStop (t : State) (n : Ch) :
    t.wsAct (MEM.SCRUB_CMD_STOP.addr n) MEM.SCRUB_CMD_STOP.lo = t.scrubStop (.ch n) := by
  obtain ⟨hpage, hoff, hch⟩ :=
    chField_place (f := MEM.SCRUB_CMD_STOP) (by decide) n (p := 0x32) (o := 0x4C) (by decide) (by decide)
  unfold State.wsAct
  rw [hpage, hoff, hch]
  rfl

theorem State.wsAct_marchGo (t : State) (n : Ch) :
    t.wsAct (MEM.MARCH_CMD_GO.addr n) MEM.MARCH_CMD_GO.lo = t.marchGo (.ch n) := by
  obtain ⟨hpage, hoff, hch⟩ :=
    chField_place (f := MEM.MARCH_CMD_GO) (by decide) n (p := 0x32) (o := 0x78) (by decide) (by decide)
  unfold State.wsAct
  rw [hpage, hoff, hch]
  rfl

/-! ## The scrubber (R430) -/

section
variable {s : State} {x : Scope} {m : Nat}

/-- GO over a MEM code that names no memory of its page. -/
theorem State.scrubGo_noMem (h : scrubMem x (s.xget x MEM.SCRUB_CFG_MEM) = none) :
    s.scrubGo x = s.xirq x MEM.IRQ_SCRUB_REFUSED := by
  unfold State.scrubGo
  simp only [h]

/-- GO over a memory of its page: what refuses it, and the pass that it starts elsewhere. -/
theorem State.scrubGo_mem (h : scrubMem x (s.xget x MEM.SCRUB_CFG_MEM) = some m) :
    s.scrubGo x =
      if (s.scrubSt x).active = true ∨ s.xget x MEM.SCRUB_START_OFFSET % 8 ≠ 0 ∨ s.xget x MEM.SCRUB_LEN_BYTES % 8 ≠ 0 ∨
          s.xget x MEM.SCRUB_LEN_BYTES = 0 ∨
          8 * memWords m < s.xget x MEM.SCRUB_START_OFFSET + s.xget x MEM.SCRUB_LEN_BYTES ∨
          s.xget x MEM.STATUS_SCRUB_STOPPED = 1 then s.xirq x MEM.IRQ_SCRUB_REFUSED
      else ((s.xset x MEM.STATUS_SCRUB_BUSY 1).xset x MEM.STATUS_SCRUB_CONT (s.xget x MEM.SCRUB_CFG_CONT)).modScrub x
        fun _ => { active := true, mem := m, start := s.xget x MEM.SCRUB_START_OFFSET / 8,
                   len := s.xget x MEM.SCRUB_LEN_BYTES / 8 } := by
  unfold State.scrubGo
  simp only [h, Bool.or_eq_true, bne_iff_ne, beq_iff_eq, decide_eq_true_eq, or_assoc]

theorem State.scrubGo_refused (h : scrubMem x (s.xget x MEM.SCRUB_CFG_MEM) = none ∨ (s.scrubSt x).active = true ∨
    s.xget x MEM.SCRUB_START_OFFSET % 8 ≠ 0 ∨ s.xget x MEM.SCRUB_LEN_BYTES % 8 ≠ 0 ∨ s.xget x MEM.SCRUB_LEN_BYTES = 0 ∨
    s.xget x MEM.STATUS_SCRUB_STOPPED = 1) : s.scrubGo x = s.xirq x MEM.IRQ_SCRUB_REFUSED := by
  cases hm : scrubMem x (s.xget x MEM.SCRUB_CFG_MEM) with
  | none => exact State.scrubGo_noMem hm
  | some m =>
    rw [State.scrubGo_mem hm]
    refine if_pos ?_
    rcases h with h | h | h | h | h | h
    · exact absurd (h.symm.trans hm) nofun
    all_goals simp [h]

theorem State.scrubStop_runs (hactive : (s.scrubSt x).active = true) (hcont : s.xget x MEM.STATUS_SCRUB_CONT = 1) :
    s.scrubStop x = s.modScrub x fun y => { y with stopAfter := true } := if_pos (by simp [hactive, hcont])

theorem State.scrubStop_idle (h : (s.scrubSt x).active = false ∨ s.xget x MEM.STATUS_SCRUB_CONT ≠ 1) : s.scrubStop x = s :=
  if_neg (by rcases h with h | h <;> simp [h])

end

/-! ## Write-backs (R424) -/

section
variable {s : State} {x : Scope} {k : Nat} {e : WbEntry}

theorem doEccWriteback_none (h : (s.wbList (scopePad x)).length ≤ k) : doEccWriteback x k s = s := by
  unfold doEccWriteback
  simp only [List.getElem?_eq_none h]

/-- A write-back waits behind an older one of its bank, and while the write-backs are stopped. -/
theorem doEccWriteback_some (h : (s.wbList (scopePad x))[k]? = some e) :
    doEccWriteback x k s =
      if (∃ f ∈ (s.wbList (scopePad x)).take k, f.mem = e.mem ∧ memBank f.mem f.word = memBank e.mem e.word) ∨
          s.xget x MEM.STATUS_WB_STOPPED = 1 then s
      else s.memWrite e.mem e.word (s.memData e.mem e.word) := by
  unfold doEccWriteback
  simp only [h, Bool.or_eq_true, List.any_eq_true, Bool.and_eq_true, beq_iff_eq]

theorem doEccWriteback_stopped (h : s.xget x MEM.STATUS_WB_STOPPED = 1) : doEccWriteback x k s = s := by
  cases he : (s.wbList (scopePad x))[k]? with
  | none => exact doEccWriteback_none (List.getElem?_eq_none_iff.mp he)
  | some e => exact (doEccWriteback_some he).trans (if_pos (.inr h))

end

/-- Settles O53: GO by what refuses it, STOP, the pass's end and a write-back by their conditions. -/
theorem memoriesAreScrubbedAndWrittenBack : Obligations.MemoriesAreScrubbedAndWrittenBack := by
  unfold Obligations.MemoriesAreScrubbedAndWrittenBack
  have hgo : wsField MEM.SCRUB_CMD_GO = true := by decide +kernel
  have hstop : wsField MEM.SCRUB_CMD_STOP = true := by decide +kernel
  have hcoded : codedReg 0xA04C = true := by decide +kernel
  have hw1c : w1cMask 0xA04C = 0 := by decide +kernel
  exact ⟨Request.of_wsAct (fun _ _ => rfl) hgo State.wsAct_scrubGo,
    Put.of_deviceWs (b := 0) (fun _ => rfl) hcoded hw1c (by decide) (by decide) (by decide) (by decide +kernel),
    fun s x m hm hidle hstart hlen hsome hfits hrun =>
      (State.scrubGo_mem hm).trans (if_neg (by simp [hidle, hstart, hlen, hsome, hfits, hrun])),
    fun s x hno => State.scrubGo_refused hno,
    fun s x m hm hlong => (State.scrubGo_mem hm).trans (if_pos (by simp [hlong])),
    RequestWhen.of_wsAct (fun _ _ => rfl) hstop fun t n ⟨hactive, hcont⟩ =>
      (State.wsAct_scrubStop t n).trans (State.scrubStop_runs hactive hcont),
    RequestWhen.of_wsAct (fun _ _ => rfl) hstop fun t n hno => (State.wsAct_scrubStop t n).trans (State.scrubStop_idle hno),
    Put.of_deviceWs (b := 1) (fun _ => rfl) hcoded hw1c (by decide) (by decide) (by decide) (by decide +kernel),
    fun x us => When.of_exec (fun _ => rfl) fun s hactive => if_neg (by simp [hactive]),
    fun x us => When.of_exec (fun _ => rfl) fun s hidle => if_pos (by simp [hidle]),
    fun x k e => When.of_exec (fun _ => rfl) fun s ⟨he, hrun, hfirst⟩ => (doEccWriteback_some he).trans
      (if_neg (not_or.mpr ⟨fun ⟨f, hf, hmem, hbank⟩ => (hfirst f hf).elim (· hmem) (· hbank), hrun⟩)),
    fun x k => When.of_exec (fun _ => rfl) fun s hnone => doEccWriteback_none hnone,
    fun x k e f => When.of_exec (fun _ => rfl) fun s ⟨he, hf, hsame⟩ =>
      (doEccWriteback_some he).trans (if_pos (.inl ⟨f, hf, hsame⟩)),
    fun x k => When.of_exec (fun _ => rfl) fun s hstopped => doEccWriteback_stopped hstopped,
    fun x i => When.of_exec (fun _ => rfl) fun s _ => rfl⟩

/-! ## The March test (R435, R436, R537) -/

/-- GO over a range that its scratchpad holds. -/
theorem State.marchGo_range {s : State} {x : Scope} (hstart : s.xget x MEM.MARCH_START_OFFSET % 8 = 0)
    (hlen : s.xget x MEM.MARCH_LEN_BYTES % 8 = 0) (hsome : s.xget x MEM.MARCH_LEN_BYTES ≠ 0)
    (hfits : s.xget x MEM.MARCH_START_OFFSET + s.xget x MEM.MARCH_LEN_BYTES ≤ 8 * memWords (scopePad x)) :
    s.marchGo x =
      if s.pinned x (s.xget x MEM.MARCH_START_OFFSET) (s.xget x MEM.MARCH_LEN_BYTES) = true then
        (s.xset x MEM.MARCH_RESULT (4 * 2 ^ 29)).xirq x MEM.IRQ_MARCH_DONE
      else if s.xget x MEM.STATUS_MARCH_STOPPED = 1 then (s.xset x MEM.MARCH_RESULT (6 * 2 ^ 29)).xirq x MEM.IRQ_MARCH_DONE
      else ((s.xset x MEM.STATUS_MARCH_BUSY 1).xset x MEM.BUSY_LONG_OP 1).modMarch x fun _ =>
        { active := true, start := s.xget x MEM.MARCH_START_OFFSET / 8, len := s.xget x MEM.MARCH_LEN_BYTES / 8 } :=
  if_neg (by simp [hstart, hlen, hsome, hfits])

/-- Settles O54: GO by what refuses it, the slice's end by its failing words, and a parity error by the engine that it hits. -/
theorem aMarchTestsWhatIsNotPinned : Obligations.AMarchTestsWhatIsNotPinned := by
  unfold Obligations.AMarchTestsWhatIsNotPinned
  have hgo : wsField MEM.MARCH_CMD_GO = true := by decide +kernel
  have hcoded : codedReg 0xA078 = true := by decide +kernel
  have hw1c : w1cMask 0xA078 = 0 := by decide +kernel
  exact ⟨Request.of_wsAct (fun _ _ => rfl) hgo State.wsAct_marchGo,
    Put.of_deviceWs (b := 0) (fun _ => rfl) hcoded hw1c (by decide) (by decide) (by decide) (by decide +kernel),
    fun s x hbad => if_pos hbad,
    fun s x hstart hlen hsome hfits => State.marchGo_range hstart hlen hsome hfits,
    fun x l => When.of_exec (fun _ => rfl) fun s hactive => if_neg (by simp [hactive]),
    fun x l => When.of_exec (fun _ => rfl) fun s hidle => if_pos (by simp [hidle]),
    fun x => When.of_exec (fun _ => rfl) fun s _ => rfl,
    fun x => When.of_exec (fun _ => rfl) fun s _ => rfl,
    fun x => When.of_exec (fun _ => rfl) fun s _ => rfl,
    fun x w c => When.of_exec (fun _ => rfl) fun s _ => rfl⟩

end Sys2Proof.Machine
end

section
/-! PROOFS. The statement of 18_sluice_faults.md: faults collected, logged, cleared and masked (R449, R453, R455, R458 to R460). -/

namespace Sys2Proof.Machine

/-! ## FLT_RAW and FLT_EN (R453, R455) -/

section
variable (t : State) (page : Nat) (data : Word) (req : Nat)

/-- No mailbox reaches the header registers of a page. -/
theorem boxAt_header {o : Nat} (h : o < 0x100) : boxAt (page / 0x1000 * 0x1000 + o) = none := by
  have hoff : (page / 0x1000 * 0x1000 + o) % 0x1000 = o := by omega
  unfold boxAt
  simp only [hoff]
  rw [if_neg (by omega), if_neg (by omega), if_neg (by omega), if_neg (by omega)]

/-- FLT_RAW at its target. -/
theorem State.regStore_fltRaw :
    t.regStore (page / 0x1000 * 0x1000 + 0x18) data req = (codeOk, t.writeFltRaw (page / 0x1000 * 0x1000 + 0x18) data) := by
  unfold State.regStore
  simp only [boxAt_header page (o := 0x18) (by omega)]
  exact if_pos (by omega)

/-- FLT_EN at its target. -/
theorem State.regStore_fltEn :
    t.regStore (page / 0x1000 * 0x1000 + 0x1C) data req = (codeOk, t.writeFltEn (page / 0x1000 * 0x1000 + 0x1C) data) := by
  unfold State.regStore
  simp only [boxAt_header page (o := 0x1C) (by omega)]
  exact (if_neg (by omega)).trans (if_pos (by omega))

/-- FLT_EN of a page that the register table lists. -/
theorem State.writeFltEn_listed {a : Nat} {r : RegDef} (h : regDef a = some r) :
    t.writeFltEn a data = t.enBits a (BitVec.ofNat 32 r.rw) data 16 := by
  unfold State.writeFltEn
  simp only [h]

end

theorem not_cntWritten_header (page : Nat) {o : Nat} (hlo : 0x10 ≤ o) (hhi : o < 0x100) :
    ¬ cntWritten ((page / 0x1000 * 0x1000 + o) % 0x1000) := by
  unfold cntWritten
  omega

/-! ## Clearing one fault (R453) -/

section
variable {s : State} {n : Ch} {f : Field} {page : Nat}

theorem State.clearFault_clear (h : s.is n f = false) : s.clearFault n f page = s := if_pos (by simp [h])

/-- The state in which a set fault's condition is judged again: its bit is 0 and its waiting entry gone. -/
def State.faultZeroed (s : State) (n : Ch) (f : Field) : State :=
  (s.set n f 0).modCh n fun c => { c with trial := { c.trial with
    pend := c.trial.pend.filter fun r => !(r.src == f.source n && r.bit == f.lo) } }

variable (hset : s.is n f = true)
include hset

/-- A clear of a fault whose condition has gone. -/
theorem State.clearFault_gone (h : (s.faultZeroed n f).relatch n f page = none) :
    s.clearFault n f page = ((s.faultZeroed n f).withdraw n f).afterClear n f := by
  refine (if_neg (by simp [hset])).trans ?_
  change (match (s.faultZeroed n f).relatch n f page with | some note => _ | none => _) = _
  rw [h]
  rfl

/-- A clear of a fault whose condition still holds. -/
theorem State.clearFault_again {note : FaultNote} (h : (s.faultZeroed n f).relatch n f page = some note) :
    s.clearFault n f page = ((s.faultZeroed n f).modDev fun d =>
      { d with forwarded := d.forwarded.filter fun e => !(e.src == f.source n && e.bit == f.lo) }).raise n f note := by
  refine (if_neg (by simp [hset])).trans ?_
  change (match (s.faultZeroed n f).relatch n f page with | some note => _ | none => _) = _
  rw [h]
  rfl

end

/-! ## Collection and the log (R449, R460) -/

section
variable {s : State} {r : LogRec} {l : List LogRec}

theorem doFaultCollect_empty (h : s.dev.collect = []) : doFaultCollect s = s := by
  unfold doFaultCollect
  simp only [h]

theorem doFaultCollect_off (h : s.dev.state = .reset ∨ s.dev.state = .off) : doFaultCollect s = s := by
  unfold doFaultCollect
  cases hc : s.dev.collect with
  | nil => rfl
  | cons r l => exact if_pos h

theorem doFaultCollect_cons (h : s.dev.collect = r :: l) (hreset : s.dev.state ≠ .reset) (hoff : s.dev.state ≠ .off) :
    doFaultCollect s = ((s.modDev fun d => { d with collect := l }).logPush r).classReact r.cls r.src := by
  unfold doFaultCollect
  simp only [h]
  exact if_neg (not_or.mpr ⟨hreset, hoff⟩)

theorem doLogEntryWrite_empty (h : s.dev.logQueue = []) : doLogEntryWrite s = s := by
  unfold doLogEntryWrite
  simp only [h]

theorem doLogEntryWrite_protected (h : s.dev.logQueue = r :: l) (hprot : s.logProtected = true) :
    doLogEntryWrite s = ((s.modDev fun d => { d with logQueue := l }).sat 0 FLOG.COUNTS_DROPPED).dirq FLOG.IRQ_DROPPED := by
  unfold doLogEntryWrite
  simp only [h]
  exact if_pos hprot

/-- The oldest queued entry in its slot, WR_IDX and SEQ moved on. -/
def State.logWritten (s : State) (r : LogRec) (l : List LogRec) : State :=
  ((((s.modDev fun d => { d with logQueue := l }).memWrites (devMem 3) (4 * s.dget FLOG.WR_IDX_IDX)
    (r.words (s.dget FLOG.SEQ_NEXT))).dset FLOG.WR_IDX_IDX (s.dget FLOG.WR_IDX_IDX + 1)).dset FLOG.SEQ_NEXT
    (s.dget FLOG.SEQ_NEXT + 1)).dirq FLOG.IRQ_ENTRY

theorem doLogEntryWrite_written (h : s.dev.logQueue = r :: l) (hprot : s.logProtected = false) :
    doLogEntryWrite s =
      (if s.dget FLOG.FILL_COUNT = 256 then
        ((((s.logWritten r l).dset FLOG.RD_IDX_IDX ((s.logWritten r l).dget FLOG.RD_IDX_IDX + 1)).dset FLOG.FILL_LAPPED 1).dirq
          FLOG.IRQ_LAPPED).sat 0 FLOG.COUNTS_LAPPED
      else ((s.logWritten r l).dset FLOG.FILL_COUNT (s.dget FLOG.FILL_COUNT + 1)).logLevel (s.dget FLOG.FILL_COUNT)).logStatus := by
  unfold doLogEntryWrite
  simp only [h]
  exact if_neg (ne_true_of_eq_false hprot)

/-- Only a full log is protected. -/
theorem State.logProtected_of_room (h : s.dget FLOG.FILL_COUNT ≠ 256) : s.logProtected = false := by
  unfold State.logProtected
  simp [h]

end

/-- RD_IDX of the log at its target. -/
theorem State.regStore_logRd (t : State) (idx : Byte) (req : Nat) :
    t.regStore 0x8048 (idx.setWidth 32) req =
      (codeOk,
        let c := (t.dget FLOG.WR_IDX_IDX + 256 - idx.toNat) % 256
        if t.dget FLOG.FILL_COUNT < c then t.dirq FLOG.IRQ_RD_BAD
        else ((t.dset FLOG.RD_IDX_IDX idx.toNat).dset FLOG.FILL_COUNT c).logStatus) := by
  have hstore : t.regStore 0x8048 (idx.setWidth 32) req = (codeOk, t.writeLogRd (idx.setWidth 32).toNat) := rfl
  have hdata : (idx.setWidth 32).toNat = idx.toNat := by
    rw [BitVec.toNat_setWidth]
    omega
  rw [hstore, hdata]
  unfold State.writeLogRd
  rw [Nat.mod_eq_of_lt idx.isLt]

/-- Settles O55: collection by the queue and the device's state, the classes, clears and enables at their targets, and the log by
its room and its protection. -/
theorem faultsAreCollectedLoggedClearedAndMasked : Obligations.FaultsAreCollectedLoggedClearedAndMasked := by
  unfold Obligations.FaultsAreCollectedLoggedClearedAndMasked
  refine ⟨⟨fun r l => When.of_exec (fun _ => rfl) fun s ⟨hc, hreset, hoff⟩ => doFaultCollect_cons hc hreset hoff,
    When.of_exec (fun _ => rfl) fun s hc => doFaultCollect_empty hc, fun s r => rfl,
    When.of_exec (fun _ => rfl) fun s hoff => doFaultCollect_off hoff,
    fun s src => rfl, fun s src => rfl, fun s src => rfl, fun s src => rfl,
    fun page data => Put.of_regStore (fun _ => rfl) (.inr (not_cntWritten_header page (by decide) (by decide))) fun t _ =>
      State.regStore_fltRaw t page data reqHost,
    fun s n f page hclear => State.clearFault_clear hclear,
    fun s n f page hset => ⟨fun hgone => State.clearFault_gone hset hgone, fun note hagain => State.clearFault_again hset hagain⟩,
    fun page data r hlisted => Put.of_regStore (fun _ => rfl) (.inr (not_cntWritten_header page (by decide) (by decide)))
      fun t _ => (State.regStore_fltEn t page data reqHost).trans
        (congrArg (Prod.mk codeOk) (State.writeFltEn_listed t data hlisted)),
    fun x reg => When.of_exec (fun _ => rfl) fun s _ => rfl, fun s x reg note => ?selfFault⟩,
    When.of_exec (fun _ => rfl) fun s hempty => doLogEntryWrite_empty hempty,
    fun r l => When.of_exec (fun _ => rfl) fun s ⟨hq, hprot⟩ => doLogEntryWrite_protected hq hprot,
    fun r l => When.of_exec (fun _ => rfl) fun s ⟨hq, hprot, hfull⟩ =>
      (doLogEntryWrite_written hq hprot).trans (congrArg State.logStatus (if_pos hfull)),
    fun r l => When.of_exec (fun _ => rfl) fun s ⟨hq, hroom⟩ =>
      (doLogEntryWrite_written hq (State.logProtected_of_room hroom)).trans (congrArg State.logStatus (if_neg hroom)),
    fun idx => Put.of_regStore (fun _ => rfl) (.inr (by unfold cntWritten; omega)) fun t _ => State.regStore_logRd t idx reqHost⟩
  case selfFault =>
    unfold State.selfFault
    rfl

end Sys2Proof.Machine
end

section
/-! PROOFS. The statement of 19_trial_and_patterns.md about Trial and the pins that JTAG takes (R468 to R471, R473, R474, R476, R483 to
R485). -/

namespace Sys2Proof.Machine

-- One theorem at a time: those that wait for a kernel evaluation would each keep a thread and its stack.
set_option Elab.async false

/-! ## GO of a channel (R470, R471) -/

theorem State.wsAct_trialGo (t : State) (n : Ch) : t.wsAct (TRIAL.CMD_GO.addr n) TRIAL.CMD_GO.lo = t.trialGo n := by
  obtain ⟨hpage, hoff, hch⟩ := chField_place (f := TRIAL.CMD_GO) (by decide) n (p := 0x34) (o := 0x44) (by decide) (by decide)
  unfold State.wsAct
  rw [hpage, hoff, hch]
  rfl

/-- The slices start where the Trial waits, LTX is off and the channel's group has its turn. -/
theorem doTrialSlicesStart_starts {s : State} {n : Ch} (htrial : (s.allBegin n).inTrial n = true)
    (hwait : (s.allBegin n).trialState n = 1) (hoff : (s.allBegin n).ltxState n = 0)
    (hturn : (s.allBegin n).trialAll = false ∨ (s.allBegin n).groupTurn n = true) :
    doTrialSlicesStart n s =
      (((((s.allBegin n).toStandby n).set n MBXW.WRIGHT_STATUS_STATE 4).modWright n fun x => { x with holding := false }).wrightCut
        n).trialNext n :=
  if_neg (by rcases hturn with h | h <;> simp [htrial, hwait, hoff, h])

/-! ## Slices of a channel (R468, R469, R471) -/

section
variable {s : State} {n : Ch} {k : Nat} {l : List Nat} (pass : Bool) (fails : BitVec 7) (ms : Nat)

theorem State.sliceEnd_march (early : Bool) :
    s.sliceEnd n 6 early pass fails = (s.marchClose n fails).sliceResult n 6 (if fails ≠ 0 then 2 else if early then 3 else 1) :=
  if_pos rfl

/-- A slice that its budget ends. -/
theorem State.sliceEnd_early (hscan : k ≠ 6) : s.sliceEnd n k true pass fails = s.sliceResult n k 3 :=
  (if_neg hscan).trans (if_pos rfl)

theorem State.sliceEnd_judged (hscan : k ≠ 6) (hsig : hasSig (s.trialSt n).count = true) :
    s.sliceEnd n k false pass fails = s.sliceResult n k (if pass = true then 1 else 2) :=
  (if_neg hscan).trans ((if_neg Bool.false_ne_true).trans (if_pos hsig))

/-- A slice without a signature in ROM for its count. -/
theorem State.sliceEnd_noSig (hscan : k ≠ 6) (hsig : hasSig (s.trialSt n).count = false) :
    s.sliceEnd n k false pass fails = (s.set n (TRIAL.RESULT_NO_SIG.bit k) 1).sliceResult n k 3 :=
  (if_neg hscan).trans ((if_neg Bool.false_ne_true).trans (if_neg (ne_true_of_eq_false hsig)))

/-- No slice runs. -/
theorem doTrialSliceEnd_idle (h : (s.trialState n ≠ 2 ∧ s.trialState n ≠ 3) ∨ (s.trialSt n).slices = []) :
    doTrialSliceEnd (.ch n) pass fails ms s = s := by
  unfold doTrialSliceEnd
  rcases h with h | h
  · exact if_neg (not_or.mpr h)
  · simp only [h, ite_self]

theorem doTrialBudgetExpiry_idle (h : (s.trialState n ≠ 2 ∧ s.trialState n ≠ 3) ∨ (s.trialSt n).slices = []) :
    doTrialBudgetExpiry (.ch n) fails ms s = s := by
  unfold doTrialBudgetExpiry
  rcases h with h | h
  · exact if_neg (not_or.mpr h)
  · simp only [h, ite_self]

variable (hrun : s.trialState n = 2 ∨ s.trialState n = 3) (hslice : (s.trialSt n).slices = k :: l)
include hrun hslice

/-- The running slice ends, and the next begins. -/
theorem doTrialSliceEnd_runs :
    doTrialSliceEnd (.ch n) pass fails ms s = (s.sliceEnd n k false pass fails).trialNext n := by
  unfold doTrialSliceEnd
  simp only [hslice]
  exact if_pos hrun

theorem doTrialBudgetExpiry_runs :
    doTrialBudgetExpiry (.ch n) fails ms s = (s.sliceEnd n k true false fails).trialNext n := by
  unfold doTrialBudgetExpiry
  simp only [hslice]
  exact if_pos hrun

end

/-! ## The device slices (R476, R485) -/

section
variable {s : State} {k : Nat} {l : List Nat} (pass early : Bool) (ms : Nat)

theorem State.devSliceEnd_idle (h : s.dev.trialSlices = []) : s.devSliceEnd pass early ms = s := by
  unfold State.devSliceEnd
  simp only [h]

theorem State.devSliceEnd_runs : s.dev.trialSlices = k :: l →
    s.devSliceEnd pass early ms =
      let sig := k == 2 || hasSig s.devCount
      let r := if early = true ∨ sig = false then 3 else if pass = true then 1 else 2
      let t := (if r = 2 then s.draise DTRIAL.FLT_DEV_TRIAL_FAIL else s).dset { DTRIAL.RESULT_SLICES with lo := 2 * k, w := 2 } r
      let u := (if sig = true then t else t.dset (DTRIAL.RESULT_NO_SIG.bit k) 1).modDev fun d => { d with trialSlices := l }
      match l with
      | [] => u.devTrialDone ms
      | j :: _ => u.dset DTRIAL.STATUS_CUR j := by
  intro h
  unfold State.devSliceEnd
  cases l <;> simp only [h, Bool.or_eq_true, Bool.not_eq_true']

/-- GO in HOLDING begins with the lowest slice of MASK. -/
theorem State.devTrialGo_starts (hhold : s.dev.state = .holding) (hall : s.trialAll = false)
    (hmask : (List.range 3).filter (s.dget DTRIAL.CMD_MASK).testBit = k :: l) :
    s.devTrialGo =
      (((((s.dset DTRIAL.RESULT_SLICES 0).dset DTRIAL.RESULT_NO_SIG 0).dset DTRIAL.STATUS_RUNNING 1).dset DTRIAL.BUSY_LONG_OP 1).dset
        DTRIAL.STATUS_CUR k).modDev fun d => { d with trialSlices := k :: l } := by
  unfold State.devTrialGo
  rw [if_neg (by simp [hhold, hall])]
  simp only [hmask]

end

/-- GO's data name the one ws bit of CMD, whatever MASK is. -/
theorem devTrialGo_bits (mask : BitVec 3) (i : Nat) (hi : i < 32) :
    (wsData 0xB044 (BitVec.ofNat 32 (mask.toNat * 256 + 1)) &&& wsMask 0xB044).getLsbD i = decide (i = 0) := by
  have hall : ∀ m : Fin 8, ∀ i, i < 32 →
      (wsData 0xB044 (BitVec.ofNat 32 (m.val * 256 + 1)) &&& wsMask 0xB044).getLsbD i = decide (i = 0) := by decide +kernel
  exact hall mask.toFin i hi

/-- Settles O56: GO on both sides of its refusal, slices by what their end or their budget's end gives them, the device's slices,
and the pins by the instruction. -/
theorem trialRunsItsSlicesUnderTheirBudgets : Obligations.TrialRunsItsSlicesUnderTheirBudgets := by
  unfold Obligations.TrialRunsItsSlicesUnderTheirBudgets
  have hgo : wsField TRIAL.CMD_GO = true := by decide +kernel
  have hcoded : codedReg 0xB044 = true := by decide +kernel
  have hw1c : w1cMask 0xB044 = 0 := by decide +kernel
  exact ⟨RequestWhen.of_wsAct (fun _ _ => rfl) hgo fun t n hmay => (State.wsAct_trialGo t n).trans (if_pos hmay),
    RequestWhen.of_wsAct (fun _ _ => rfl) hgo fun t n hno => (State.wsAct_trialGo t n).trans (if_neg hno),
    Event.of_exec (fun _ _ => rfl) fun s n ⟨htrial, hwait, hoff, hturn⟩ => doTrialSlicesStart_starts htrial hwait hoff hturn,
    Event.of_exec (fun _ _ => rfl) fun s n hno => if_pos hno,
    fun k l pass fails ms => Event.of_exec (fun _ _ => rfl) fun s n ⟨hrun, hslice, hscan, hsig⟩ =>
      (doTrialSliceEnd_runs pass fails ms hrun hslice).trans
        (congrArg (State.trialNext · n) (State.sliceEnd_noSig pass fails hscan hsig)),
    fun pass fails ms => Event.of_exec (fun _ _ => rfl) fun s n hidle => doTrialSliceEnd_idle pass fails ms hidle,
    fun fails ms => Event.of_exec (fun _ _ => rfl) fun s n hidle => doTrialBudgetExpiry_idle fails ms hidle,
    fun l fails ms => Event.of_exec (fun _ _ => rfl) fun s n ⟨hrun, hslice⟩ =>
      (doTrialBudgetExpiry_runs fails ms hrun hslice).trans (congrArg (State.trialNext · n) (State.sliceEnd_march false fails true)),
    fun k l pass fails ms => Event.of_exec (fun _ _ => rfl) fun s n ⟨hrun, hslice, hscan, hsig⟩ =>
      (doTrialSliceEnd_runs pass fails ms hrun hslice).trans
        (congrArg (State.trialNext · n) (State.sliceEnd_judged pass fails hscan hsig)),
    fun l pass fails ms => Event.of_exec (fun _ _ => rfl) fun s n ⟨hrun, hslice⟩ =>
      (doTrialSliceEnd_runs pass fails ms hrun hslice).trans
        (congrArg (State.trialNext · n) (State.sliceEnd_march pass fails false)),
    fun k l fails ms => Event.of_exec (fun _ _ => rfl) fun s n ⟨hrun, hslice, hscan⟩ =>
      (doTrialBudgetExpiry_runs fails ms hrun hslice).trans
        (congrArg (State.trialNext · n) (State.sliceEnd_early false fails hscan)),
    fun us => Event.of_exec (fun _ _ => rfl) fun s n hno => if_pos hno,
    fun us => Event.of_exec (fun _ _ => rfl) fun s n ⟨htrial, hrestore, hwright⟩ => if_neg (by simp [htrial, hrestore, hwright]),
    fun mask => Put.of_deviceWs (b := 0) (fun _ => rfl) hcoded hw1c (by decide) (by decide) (by decide) (devTrialGo_bits mask),
    fun s hno => if_pos hno,
    fun s hnone pass early ms => State.devSliceEnd_idle pass early ms hnone,
    fun s k l pass early ms hslice => State.devSliceEnd_runs pass early ms hslice,
    fun s k l hhold hall hmask => State.devTrialGo_starts hhold hall hmask,
    fun pass fails ms => When.of_exec (fun _ => rfl) fun s _ => rfl,
    fun fails ms => When.of_exec (fun _ => rfl) fun s _ => rfl,
    Event.of_exec (fun _ _ => rfl) fun s n _ => rfl,
    fun i => When.of_exec (fun _ => rfl) fun s _ => rfl,
    When.of_exec (fun _ => rfl) fun s _ => rfl⟩

end Sys2Proof.Machine
end

section
/-! PROOFS. The statement of 19_trial_and_patterns.md about the pattern checkers, their gates and their registers (R480 to R482,
R485). -/

namespace Sys2Proof.Machine

-- One theorem at a time: those that wait for a kernel evaluation would each keep a thread and its stack.
set_option Elab.async false

/-! ## CMD of checkers and generators (R481, R482) -/

section
variable (t : State) (n : Ch) {f : Field} (hf : chField f = true) (hpage : pageCode (f.addr 0) = 0x35)
include hf hpage

/-- A ws bit of a checker's CMD, found by the offset. -/
theorem State.wsAct_checker {c : Nat} (hgen : idxAt 3 PAT.G_CMD f.off = none) (hchk : idxAt 3 PAT.C_CMD f.off = some c) (b : Nat) :
    t.wsAct (f.addr n) b = if b = 0 then t.gateGo n c else if b = 1 then t.gateStop n c else t.patClear n c := by
  obtain ⟨hcode, -, hch⟩ := chField_addr hf n
  have hoff : f.addr n % 0x1000 = f.off := off_addr hf n
  unfold State.wsAct
  rw [hcode, hpage, hoff, hch]
  change (match idxAt 3 PAT.G_CMD f.off, idxAt 3 PAT.C_CMD f.off with
    | some u, _ => t.errInj n u
    | none, some c => if b = 0 then t.gateGo n c else if b = 1 then t.gateStop n c else t.patClear n c
    | none, none => t) = _
  rw [hgen, hchk]

/-- The ws bit of a generator's CMD. -/
theorem State.wsAct_generator {u : Nat} (hgen : idxAt 3 PAT.G_CMD f.off = some u) (b : Nat) :
    t.wsAct (f.addr n) b = t.errInj n u := by
  obtain ⟨hcode, -, hch⟩ := chField_addr hf n
  have hoff : f.addr n % 0x1000 = f.off := off_addr hf n
  unfold State.wsAct
  rw [hcode, hpage, hoff, hch]
  change (match idxAt 3 PAT.G_CMD f.off, idxAt 3 PAT.C_CMD f.off with
    | some u, _ => t.errInj n u
    | none, some c => if b = 0 then t.gateGo n c else if b = 1 then t.gateStop n c else t.patClear n c
    | none, none => t) = _
  rw [hgen]

end

/-- Where the CMD register of a checker lies, and that of a generator. -/
theorem checkerCmd_place : ∀ c : Fin 3, chField (PAT.C_CMD c) = true ∧ pageCode ((PAT.C_CMD c).addr 0) = 0x35 ∧
    idxAt 3 PAT.G_CMD (PAT.C_CMD c).off = none ∧ idxAt 3 PAT.C_CMD (PAT.C_CMD c).off = some c.val := by decide

theorem generatorCmd_place : ∀ u : Fin 3, chField (PAT.G_CMD u) = true ∧ pageCode ((PAT.G_CMD u).addr 0) = 0x35 ∧
    idxAt 3 PAT.G_CMD (PAT.G_CMD u).off = some u.val := by decide

section
variable (t : State) (n : Ch) (c : Fin 3)

/-- A write of a ws bit of a checker's CMD. -/
theorem State.wsAct_checkerCmd (b : Nat) :
    t.wsAct ((PAT.C_CMD c).addr n) b =
      if b = 0 then t.gateGo n c else if b = 1 then t.gateStop n c else t.patClear n c := by
  obtain ⟨hfield, hpage, hgen, hchk⟩ := checkerCmd_place c
  exact State.wsAct_checker t n hfield hpage hgen hchk b

theorem State.wsAct_gateGo : t.wsAct ((PAT.C_CMD c).addr n) 0 = t.gateGo n c :=
  (State.wsAct_checkerCmd t n c 0).trans (if_pos rfl)

theorem State.wsAct_gateStop : t.wsAct ((PAT.C_CMD c).addr n) 1 = t.gateStop n c :=
  (State.wsAct_checkerCmd t n c 1).trans ((if_neg Nat.one_ne_zero).trans (if_pos rfl))

theorem State.wsAct_patClear : t.wsAct ((PAT.C_CMD c).addr n) 2 = t.patClear n c :=
  (State.wsAct_checkerCmd t n c 2).trans ((if_neg (by decide)).trans (if_neg (by decide)))

end

theorem State.wsAct_errInj (t : State) (n : Ch) (u : Fin 3) (b : Nat) : t.wsAct ((PAT.G_CMD u).addr n) b = t.errInj n u := by
  obtain ⟨hfield, hpage, hgen⟩ := generatorCmd_place u
  exact State.wsAct_generator t n hfield hpage hgen b

/-! ## CFG (R478, R482) -/

/-- A unit's CFG at its target. -/
theorem State.regStore_patCfg (t : State) (n : Ch) (u : Fin 6) (data : Word) (req : Nat) :
    t.regStore ((PAT.U_CFG u).addr n) data req = (codeOk, t.writePatCfg n u data) := by
  have hplace : ∀ u : Fin 6, plainAt (PAT.U_CFG u) = true ∧ chField (PAT.U_CFG u) = true ∧
      pageCode ((PAT.U_CFG u).addr 0) = 0x35 ∧ idxAt 6 PAT.U_CFG (PAT.U_CFG u).off = some u.val := by decide
  obtain ⟨hplain, hfield, hpage, hidx⟩ := hplace u
  have hcode : pageCode ((PAT.U_CFG u).addr n) = 0x35 := (chField_addr hfield n).1.trans hpage
  rw [regStore_chan t hplain n, if_neg (by omega)]
  unfold State.writeRest
  simp only [hcode, off_addr hfield n, hidx]

theorem w1cMask_patCfg (n : Ch) (u : Fin 6) : w1cMask ((PAT.U_CFG u).addr n) = 0 := by
  have hzero : ∀ u : Fin 6, chField (PAT.U_CFG u) = true ∧ w1cMask ((PAT.U_CFG u).addr 0) = 0 := by decide +kernel
  obtain ⟨hfield, hmask⟩ := hzero u
  exact (w1cMask_addr hfield n).trans hmask

/-- A generator's CFG: nothing happens where it does not change. -/
theorem State.writePatCfg_generator (t : State) (n : Ch) (u : Fin 3) (data : Word) :
    t.writePatCfg n u data =
      if data &&& 0xFF00000F#32 = t.word ((PAT.U_CFG u).addr n) then t
      else (t.set n (PAT.U_CFG u) (data &&& 0xFF00000F#32).toNat).levels n := by
  have hu := u.isLt
  unfold State.writePatCfg
  simp only [if_neg (show ¬ 3 ≤ u.val by omega)]

/-- A checker's CFG: an open gate's counts are drawn, and a change sends a checker that is on back to HUNT. -/
theorem State.writePatCfg_checker (s : State) (n : Ch) (c : Fin 3) (data : Word) :
    s.writePatCfg n (c.val + 3) data =
      let t := s.patDraw n c
      if data &&& 0xFF00000F#32 = t.word ((PAT.U_CFG (c.val + 3)).addr n) then t
      else
        let u := (t.set n (PAT.U_CFG (c.val + 3)) (data &&& 0xFF00000F#32).toNat).set n (PAT.C_STATE_UNSUPPORTED c)
          (if getBits (data &&& 0xFF00000F#32) 0 4 = 9 then 1 else 0)
        (if u.patLock n c = 0 then u else u.patSet n c 1).levels n := by
  unfold State.writePatCfg
  simp only [if_pos (show 3 ≤ c.val + 3 by omega), Nat.add_sub_cancel]

/-- The host's write of a checker's CFG. -/
theorem Put.of_checkerCfg (c : Fin 3) (data : Word) (n : Ch) :
    Put (.patCfgWrite n (c.natAdd 3) data) ((PAT.U_CFG (c.val + 3)).addr n) reqHost (fun _ => True) fun s =>
      let t := s.patDraw n c
      if data &&& 0xFF00000F#32 = t.word ((PAT.U_CFG (c.val + 3)).addr n) then t
      else
        let u := (t.set n (PAT.U_CFG (c.val + 3)) (data &&& 0xFF00000F#32).toNat).set n (PAT.C_STATE_UNSUPPORTED c)
          (if getBits (data &&& 0xFF00000F#32) 0 4 = 9 then 1 else 0)
        (if u.patLock n c = 0 then u else u.patSet n c 1).levels n := by
  have hunit : 3 + c.val = c.val + 3 := Nat.add_comm ..
  have hmask : w1cMask ((PAT.U_CFG (3 + c.val)).addr n) = 0 := w1cMask_patCfg n (c.natAdd 3)
  have hstore : ∀ t : State, t.regStore ((PAT.U_CFG (3 + c.val)).addr n) data reqHost = (codeOk, t.writePatCfg n (3 + c.val) data) :=
    fun t => State.regStore_patCfg t n (c.natAdd 3) data reqHost
  have hexec : ∀ s : State, exec (.patCfgWrite n (c.natAdd 3) data) s = .next (s.actPut ((PAT.U_CFG (3 + c.val)).addr n) data reqHost) :=
    fun _ => rfl
  rw [hunit] at hmask hstore hexec
  exact Put.of_regStore hexec (.inl hmask) fun t _ =>
    (hstore t).trans (congrArg (Prod.mk codeOk) (State.writePatCfg_checker t n c data))

/-! ## Gates (R481) -/

section
variable {s : State} {n : Ch} {c : Fin 3}

theorem State.gateStop_waiting (h : s.patGate n c = 1) : s.gateStop n c = s.gateClose n c :=
  (if_neg (by omega)).trans (if_pos h)

theorem State.gateStop_open (h : s.patGate n c = 2) : s.gateStop n c = (s.patDraw n c).gateClose n c := if_pos h

theorem State.gateStop_closed (hwait : s.patGate n c ≠ 1) (hopen : s.patGate n c ≠ 2) : s.gateStop n c = s :=
  (if_neg hopen).trans (if_neg hwait)

/-- A checker in HUNT that is not in LOCK: reaching LOCK loses no count. -/
theorem State.patSet_lock (h : s.patLock n c = 1) :
    s.patSet n c 2 = (s.set n (PAT.C_STATE_LOCK_STATE c) 2).set n (PAT.STATUS_LOCK.bit c.val) 1 := by
  unfold State.patSet
  rw [if_neg (by omega)]
  rfl

end

/-- Settles O57: each event by the state of its checker and gate, CMD and CFG at their targets. -/
theorem checkersLockAndGatesCount : Obligations.CheckersLockAndGatesCount := by
  unfold Obligations.CheckersLockAndGatesCount
  have hcmd : ∀ c : Fin 3, wsField (PAT.C_CMD_GATE_GO c) = true ∧ wsField (PAT.C_CMD_GATE_STOP c) = true ∧
      wsField (PAT.C_CMD_CLR c) = true ∧ wsField (PAT.G_CMD_ERR_INJ c) = true := by decide +kernel
  exact ⟨fun c => Event.of_exec (fun _ _ => rfl) fun s n hmay =>
      (if_pos hmay).trans (congrArg (State.irq · n (PAT.IRQ_LOCK.bit c.val)) (State.patSet_lock hmay.1)),
    fun c => Event.of_exec (fun _ _ => rfl) fun s n hno =>
      if_neg (fun ⟨hhunt, hsup⟩ => hno.elim (· hhunt) fun h => Bool.false_ne_true (hsup.symm.trans h)),
    fun c bits errs => Event.of_exec (fun _ _ => rfl) fun s n hlock => if_pos hlock,
    fun c bits errs => Event.of_exec (fun _ _ => rfl) fun s n hno => if_neg hno,
    fun s n c bits errs hopen hlock => if_pos ⟨hopen, hlock⟩,
    fun s n c bits errs hno => if_neg fun ⟨hopen, hlock⟩ => hno.elim (· hopen) (· hlock),
    fun c => Event.of_exec (fun _ _ => rfl) fun s n hno => if_neg fun ⟨hwait, hlock⟩ => hno.elim (· hwait) (· hlock),
    fun c bits errs => Event.of_exec (fun _ _ => rfl) fun s n hno => if_neg fun ⟨hopen, hus⟩ => hno.elim (· hopen) hus,
    fun c => Event.of_exec (fun _ _ => rfl) fun s n hmay => if_pos hmay,
    fun c bits errs => Event.of_exec (fun _ _ => rfl) fun s n hmay => if_pos hmay,
    fun c => Request.of_wsAct (fun _ _ => rfl) (hcmd c).1 fun t n => State.wsAct_gateGo t n c,
    fun c => Request.of_wsAct (fun _ _ => rfl) (hcmd c).2.1 fun t n => State.wsAct_gateStop t n c,
    fun s n c hwait => State.gateStop_waiting hwait, fun s n c hopen => State.gateStop_open hopen,
    fun s n c hwait hopen => State.gateStop_closed hwait hopen,
    fun c => Request.of_wsAct (fun _ _ => rfl) (hcmd c).2.2.1 fun t n => State.wsAct_patClear t n c,
    fun u => Request.of_wsAct (fun _ _ => rfl) (hcmd u).2.2.2 fun t n => State.wsAct_errInj t n u 0,
    fun u data n => Put.of_regStore (fun _ => rfl) (.inl (w1cMask_patCfg n (u.castLE (by decide)))) fun t _ =>
      (State.regStore_patCfg t n (u.castLE (by decide)) data reqHost).trans
        (congrArg (Prod.mk codeOk) (State.writePatCfg_generator t n u data)),
    Put.of_checkerCfg,
    Event.of_exec (fun _ _ => rfl) fun s n _ => rfl⟩

end Sys2Proof.Machine
end

section
/-! PROOFS. The statements of 20_power_states.md about power paths (R491, R494, R497, R498, R504, R505) and about wakes and Watch
(R499, R501 to R503). -/

namespace Sys2Proof.Machine

-- One theorem at a time: those that wait for a kernel evaluation would each keep a thread and its stack.
set_option Elab.async false

/-! ## TARGET and CMD (R491, R499, R506) -/

/-- TARGET of a channel at its target. -/
theorem State.regStore_chTarget (t : State) (n : Ch) (target : BitVec 3) (req : Nat) :
    t.regStore (PWR.TARGET.addr n) (target.setWidth 32) req =
      (codeOk, if targetReq (some n) req = true then t.pwrRequest (.ch n) target.toNat else t) := by
  obtain ⟨hpage, hoff, -⟩ := chField_place (f := PWR.TARGET) (by decide) n (p := 0x36) (o := 0x40) (by decide) (by decide)
  have hdata : (target.setWidth 32).toNat % 8 = target.toNat := by
    rw [BitVec.toNat_setWidth]
    omega
  rw [regStore_chan t (f := PWR.TARGET) (by decide) n, if_neg (by omega)]
  unfold State.writeRest
  simp only [hpage, hoff, hdata]
  exact if_pos trivial

/-- TARGET of the device at its target. -/
theorem State.regStore_devTarget (t : State) (target : BitVec 4) (req : Nat) :
    t.regStore 0x4040 (target.setWidth 32) req =
      (codeOk, if targetReq none req = true then t.pwrRequest .dev target.toNat else t) := by
  have hdata : (target.setWidth 32).toNat % 16 = target.toNat := by
    rw [BitVec.toNat_setWidth]
    omega
  have hstore : t.regStore 0x4040 (target.setWidth 32) req =
      (codeOk, if targetReq none req = true then t.pwrRequest .dev ((target.setWidth 32).toNat % 16) else t) := rfl
  rw [hstore, hdata]

theorem not_cntWritten_chTarget (n : Ch) : ¬ cntWritten (PWR.TARGET.addr n % 0x1000) := by
  rw [off_addr (f := PWR.TARGET) (by decide) n]
  unfold cntWritten
  decide

/-- CMD of CHn.PWR written with one bit: no long operation holds it. -/
theorem State.regStore_pwrCmd (t : State) (n : Ch) {b : Nat} {data : Word} (req : Nat) (hb : b < 32)
    (hd : ∀ i, i < 32 → (data &&& wsMask (PWR.CMD.addr 0)).getLsbD i = decide (i = b)) :
    t.regStore (PWR.CMD.addr n) data req = (codeOk, (t.plainWrite (PWR.CMD.addr n) data).wsAct (PWR.CMD.addr n) b) := by
  have hfield : chField PWR.CMD = true := by decide
  have hcoded : codedReg (PWR.CMD.addr 0) = true := by decide +kernel
  obtain ⟨hpage, hoff, -⟩ := chField_place hfield n (p := 0x36) (o := 0x44) (by decide) (by decide)
  have hdata : wsData (PWR.CMD.addr n) data = data := if_neg fun h => by omega
  have hfree : wsFree (PWR.CMD.addr n) b = true := by
    unfold wsFree
    rw [hpage, hoff]
    rfl
  have hbits : ∀ i, i < 32 → (wsData (PWR.CMD.addr n) data &&& wsMask (PWR.CMD.addr n)).getLsbD i = decide (i = b) := by
    rwa [hdata, wsMask_addr hfield n]
  rw [regStore_coded t data req ((codedReg_addr hfield n).trans hcoded), codedWrite_one t hb hbits (.inl hfree)]
  exact congrArg (Prod.mk codeOk) (if_pos (.inr (by omega)))

theorem w1cMask_pwrCmd (n : Ch) : w1cMask (PWR.CMD.addr n) = 0 := by
  have hzero : w1cMask (PWR.CMD.addr 0) = 0 := by decide +kernel
  exact (w1cMask_addr (by decide) n).trans hzero

theorem State.wsAct_pwrClear (t : State) (n : Ch) : t.wsAct (PWR.CMD.addr n) 1 = t.pwrClear (.ch n) := by
  obtain ⟨hpage, hoff, hch⟩ := chField_place (f := PWR.CMD) (by decide) n (p := 0x36) (o := 0x44) (by decide) (by decide)
  unfold State.wsAct
  rw [hpage, hoff, hch]
  rfl

theorem State.wsAct_chWake (t : State) (n : Ch) : t.wsAct (PWR.CMD.addr n) 0 = t.chWake n 2 := by
  obtain ⟨hpage, hoff, hch⟩ := chField_place (f := PWR.CMD) (by decide) n (p := 0x36) (o := 0x44) (by decide) (by decide)
  unfold State.wsAct
  rw [hpage, hoff, hch]
  rfl

/-- CMD of DEV.PWR with CLR_STATS. -/
theorem State.regStore_devClrStats (t : State) (req : Nat) :
    t.regStore 0x4044 2 req = (codeOk, (t.plainWrite 0x4044 2).pwrClear .dev) := by
  have hcoded : codedReg 0x4044 = true := by decide +kernel
  have hbits : ∀ i, i < 32 → (wsData 0x4044 2 &&& wsMask 0x4044).getLsbD i = decide (i = 1) := by decide +kernel
  rw [regStore_coded t 2 req hcoded, codedWrite_one t (by decide) hbits (.inl rfl)]
  rfl

/-! ## Requests (R491, R497, R498) -/

section
variable {s : State} {x : Scope} {target : Nat}

theorem State.pwrRequest_refused {c : Nat} {l : List Nat} (h : s.refusers x target = c :: l) :
    s.pwrRequest x target = (s.pwrRefuse x c (refuserMask (c :: l)) target).pwrTell x c := by
  unfold State.pwrRequest
  simp only [h]

theorem State.pwrRequest_ch {n : Ch} (h : s.refusers (.ch n) target = []) :
    s.pwrRequest (.ch n) target =
      let t := s.set n PWR.TARGET_STATE target
      if t.chState n = target then t.irq n PWR.IRQ_DONE else t.pathStart (.ch n) target false false := by
  unfold State.pwrRequest
  simp only [h]
  rfl

theorem State.pwrRequest_dev (h : s.refusers .dev target = []) :
    s.pwrRequest .dev target =
      let t := s.dset { DPWR.TARGET with lo := 0, w := 4 } target
      if t.dev.state.code = target then t.pirq .dev PWR.IRQ_DONE else t.pathStart .dev target false false := by
  unfold State.pwrRequest
  simp only [h]
  rfl

end

/-! ## WAIT (R494, R497) -/

section
variable {s : State} {n : Ch}

section
variable (harmed : s.phase (.ch n) = 2) (hdeaf : (s.path (.ch n)).deaf = false) (hrun : s.get n MBXW.WRIGHT_STATUS_STATE = 2)
  (hhold : (s.chan n).wright.holding = false) (hreset : (s.chan n).wright.inReset = false)
include harmed hdeaf hrun hhold hreset

/-- A WAIT of a wright that runs, in ARMED, enters the state where nothing refuses the entry any more. -/
theorem doControllerWait_ch (hnone : s.entryRefusers (.ch n) = []) :
    doControllerWait (.ch n) s =
      (((s.setWright n 3).setPhase (.ch n) 3).modPath (.ch n) fun p => { p with waitAt := s.dev.ticks }).levels n := by
  unfold doControllerWait
  refine (if_neg (by simp [harmed, hdeaf, hrun, hhold, hreset])).trans ?_
  simp only [hnone]
  rfl

theorem doControllerWait_chRefused {c : Nat} {l : List Nat} (hrefused : s.entryRefusers (.ch n) = c :: l) :
    doControllerWait (.ch n) s = s.pathAbort (.ch n) c (refuserMask (c :: l)) := by
  have hall : s.entryRefusers (.ch n) ++ (if (Scope.ch n == .dev && s.channelActive 6) = true then [0xA] else []) = c :: l :=
    (List.append_nil _).trans hrefused
  unfold doControllerWait
  refine (if_neg (by simp [harmed, hdeaf, hrun, hhold, hreset])).trans ?_
  simp only [hall]

end

/-- A WAIT of a wright that does not run. -/
theorem doControllerWait_chIdle (h : s.get n MBXW.WRIGHT_STATUS_STATE ≠ 2 ∨ (s.chan n).wright.holding = true ∨
    (s.chan n).wright.inReset = true) : doControllerWait (.ch n) s = s := by
  unfold doControllerWait
  exact if_pos (.inr (.inr (by rcases h with h | h | h <;> simp [h])))

variable (harmed : s.phase .dev = 2) (hdeaf : (s.path .dev).deaf = false) (hrun : s.dget MILLER.STATUS_CORE = 1)
  (hbox : s.millerBoxFull = false)
include harmed hdeaf hrun hbox

theorem doControllerWait_dev (hidle : s.channelActive 6 = false) :
    doControllerWait .dev s =
      ((s.millerSleep.setPhase .dev 3).modPath .dev fun p => { p with waitAt := s.dev.ticks }).levelsAll allCh := by
  have hnone : s.entryRefusers .dev = [] := if_neg (ne_true_of_eq_false hbox)
  unfold doControllerWait
  refine (if_neg (by simp [harmed, hdeaf, hrun])).trans ?_
  simp only [hnone, hidle, Bool.and_false, Bool.false_eq_true, if_false, List.append_nil]
  rfl

theorem doControllerWait_devRefused (hactive : s.channelActive 6 = true) :
    doControllerWait .dev s = s.pathAbort .dev 0xA (refuserMask [0xA]) := by
  have hnone : s.entryRefusers .dev = [] := if_neg (ne_true_of_eq_false hbox)
  unfold doControllerWait
  refine (if_neg (by simp [harmed, hdeaf, hrun])).trans ?_
  simp only [hnone, hactive, Bool.and_true, List.nil_append]
  rfl

end

/-! ## The end of a leg (R491, R494, R504) -/

section
variable {s : State} {x : Scope} (us w : Nat) {st next : Nat} {l : List Nat}

/-- Nothing completes where no leg runs, or its condition does not hold yet. -/
theorem doLegComplete_idle (h : s.phase x = 0 ∨ s.phase x = 2 ∨ (s.path x).legs = [] ∨
    ∃ st, (s.path x).legs.head? = some st ∧ s.legMay x st = false) : doLegComplete x us w s = s := by
  unfold doLegComplete
  cases hlegs : (s.path x).legs with
  | nil => rfl
  | cons st rest =>
    refine if_pos ?_
    rcases h with h | h | h | ⟨st', hst, hmay⟩
    · exact .inl h
    · exact .inr (.inl h)
    · exact absurd (hlegs.symm.trans h) nofun
    · rw [hlegs] at hst
      obtain rfl : st = st' := Option.some.inj hst
      exact .inr (.inr hmay)

/-- The leg in progress can complete. -/
theorem legComplete_guard (hmove : s.phase x ≠ 0) (harmed : s.phase x ≠ 2) (hmay : s.legMay x st = true) :
    ¬ (s.phase x = 0 ∨ s.phase x = 2 ∨ s.legMay x st = false) := by
  simp [hmove, harmed, hmay]

theorem doLegComplete_last (hlegs : (s.path x).legs = [st]) (hmove : s.phase x ≠ 0) (harmed : s.phase x ≠ 2)
    (hmay : s.legMay x st = true) :
    doLegComplete x us w s =
      let t := if s.phase x = 3 then s.incr (scopeCh x) (pwrF x PWR.ENTRIES) else s
      (((t.pwrReach x st).modPath x fun p => { p with legs := [] }).pathDone x us w).pwrLevels x := by
  unfold doLegComplete
  simp only [hlegs]
  exact if_neg (legComplete_guard hmove harmed hmay)

/-- The state that a leg reaches, with the legs that are left. -/
def State.legReached (s : State) (x : Scope) (st : Nat) (rest : List Nat) : State :=
  (s.pwrReach x st).modPath x fun p => { p with legs := rest }

/-- What follows a leg that is not the last: the Sluice and an entry's refusers judge the next one. -/
def State.legNext (t : State) (x : Scope) (next : Nat) : State :=
  if t.dev.shut then (t.pathEnd x).pwrLevels x
  else
    let l := if isEntry x next then t.entryRefusers x else []
    match l with
    | c :: _ => t.pathAbort x c (refuserMask l)
    | [] => (t.legStart x next).pwrLevels x

theorem State.legNext_starts {t : State} (hopen : t.dev.shut = false) (h : isEntry x next = false ∨ t.entryRefusers x = []) :
    t.legNext x next = (t.legStart x next).pwrLevels x := by
  have hnone : (if isEntry x next = true then t.entryRefusers x else []) = [] := by
    rcases h with h | h <;> simp [h]
  refine (if_neg (ne_true_of_eq_false hopen)).trans ?_
  simp only [hnone]

theorem State.legNext_refused {t : State} {c : Nat} {r : List Nat} (hopen : t.dev.shut = false) (hentry : isEntry x next = true)
    (h : t.entryRefusers x = c :: r) : t.legNext x next = t.pathAbort x c (refuserMask (c :: r)) := by
  refine (if_neg (ne_true_of_eq_false hopen)).trans ?_
  simp only [hentry, if_true, h]

theorem doLegComplete_more (hlegs : (s.path x).legs = st :: next :: l) (hmove : s.phase x ≠ 0) (harmed : s.phase x ≠ 2)
    (hentry : s.phase x ≠ 3) (hmay : s.legMay x st = true) :
    doLegComplete x us w s = (s.legReached x st (next :: l)).legNext x next := by
  unfold doLegComplete
  simp only [hlegs]
  refine (if_neg (legComplete_guard hmove harmed hmay)).trans ?_
  rw [if_neg hentry]
  rfl

end

/-- Settles O58: TARGET by who writes it, a request by its refusers, WAIT and a leg's end by their conditions, and CLR_STATS at
its target. -/
theorem powerStatesAreReachedLegByLeg : Obligations.PowerStatesAreReachedLegByLeg := by
  unfold Obligations.PowerStatesAreReachedLegByLeg
  exact ⟨fun target req n hmay => Put.of_regStore (fun _ => rfl) (.inr (not_cntWritten_chTarget n)) fun t _ =>
      (State.regStore_chTarget t n target req).trans (congrArg (Prod.mk codeOk) (if_pos hmay)),
    fun target req n hno => Put.of_regStore (fun _ => rfl) (.inr (not_cntWritten_chTarget n)) fun t _ =>
      (State.regStore_chTarget t n target req).trans (congrArg (Prod.mk codeOk) (if_neg (ne_true_of_eq_false hno))),
    fun target req hmay => Put.of_regStore (fun _ => rfl) (.inr (by unfold cntWritten; decide)) fun t _ =>
      (State.regStore_devTarget t target req).trans (congrArg (Prod.mk codeOk) (if_pos hmay)),
    fun target req hno => Put.of_regStore (fun _ => rfl) (.inr (by unfold cntWritten; decide)) fun t _ =>
      (State.regStore_devTarget t target req).trans (congrArg (Prod.mk codeOk) (if_neg (ne_true_of_eq_false hno))),
    fun s x target c l hrefused => State.pwrRequest_refused hrefused,
    fun s n target hnone => State.pwrRequest_ch hnone,
    fun s target hnone => State.pwrRequest_dev hnone,
    fun n => When.of_exec (fun _ => rfl) fun s ⟨harmed, hdeaf, hrun, hhold, hreset, hnone⟩ =>
      doControllerWait_ch harmed hdeaf hrun hhold hreset hnone,
    fun n c l => When.of_exec (fun _ => rfl) fun s ⟨harmed, hdeaf, hrun, hhold, hreset, hrefused⟩ =>
      doControllerWait_chRefused harmed hdeaf hrun hhold hreset hrefused,
    When.of_exec (fun _ => rfl) fun s ⟨harmed, hdeaf, hrun, hbox, hidle⟩ => doControllerWait_dev harmed hdeaf hrun hbox hidle,
    When.of_exec (fun _ => rfl) fun s ⟨harmed, hdeaf, hrun, hbox, hactive⟩ =>
      doControllerWait_devRefused harmed hdeaf hrun hbox hactive,
    fun x => When.of_exec (fun _ => rfl) fun s hno => if_pos (hno.elim .inl fun h => .inr (.inl h)),
    fun n => When.of_exec (fun _ => rfl) fun s hno => doControllerWait_chIdle hno,
    When.of_exec (fun _ => rfl) fun s hno => if_pos (.inr (.inr (beq_eq_false_iff_ne.mpr hno))),
    fun x => When.of_exec (fun _ => rfl) fun s harmed => if_pos harmed,
    fun x => When.of_exec (fun _ => rfl) fun s hno => if_neg hno,
    fun x us w st => When.of_exec (fun _ => rfl) fun s ⟨hlegs, hmove, harmed, hmay⟩ =>
      doLegComplete_last us w hlegs hmove harmed hmay,
    fun x us w st next l => When.of_exec (fun _ => rfl) fun s ⟨hlegs, hmove, harmed, hentry, hmay, hnone, hopen⟩ =>
      (doLegComplete_more us w hlegs hmove harmed hentry hmay).trans (State.legNext_starts hopen hnone),
    fun x us w st next l => When.of_exec (fun _ => rfl) fun s ⟨hlegs, hmove, harmed, hentry, hmay, hshut⟩ =>
      (doLegComplete_more us w hlegs hmove harmed hentry hmay).trans (if_pos hshut),
    fun x us w st next l c r => When.of_exec (fun _ => rfl) fun s ⟨hlegs, hmove, harmed, hentry, hmay, hnext, hrefused, hopen⟩ =>
      (doLegComplete_more us w hlegs hmove harmed hentry hmay).trans (State.legNext_refused hopen hnext hrefused),
    fun x us w => When.of_exec (fun _ => rfl) fun s hno => doLegComplete_idle us w hno,
    Event.of_exec (fun _ _ => rfl) fun s n hpath => if_neg hpath,
    Event.of_exec (fun _ _ => rfl) fun s n ⟨hidle, hnone⟩ => (if_pos hidle).trans (if_pos hnone),
    When.of_exec (fun _ => rfl) fun s _ => rfl,
    Put.of_regStore (fun _ => rfl) (.inr (by unfold cntWritten; decide)) fun t _ => State.regStore_devClrStats t reqHost,
    fun n => Put.of_regStore (fun _ => rfl) (.inl (w1cMask_pwrCmd n)) fun t _ =>
      (State.regStore_pwrCmd t n (b := 1) reqHost (by decide) (by decide +kernel)).trans
        (congrArg (Prod.mk codeOk) (State.wsAct_pwrClear _ n))⟩

/-! ## Wakes (R499, R501) -/

section
variable {s : State} {x : Scope} {src : Nat}

/-- Whether a wake source acts at all: its enable, and HOST of the device always (R499). -/
theorem wake_enabled (h : bitOf (s.pget x PWR.WAKE_EN) src = true ∨ (x = .dev ∧ src = 2)) :
    (bitOf (s.pget x PWR.WAKE_EN) src || (x == .dev && src == 2)) = true := by
  rcases h with h | ⟨rfl, rfl⟩
  · rw [h, Bool.true_or]
  · exact Bool.or_true _

theorem State.wakeScope_shut (h : s.dev.shut = true) : s.wakeScope x src = s :=
  if_pos (by rw [h, Bool.or_true])

theorem State.wakeScope_disabled (hen : bitOf (s.pget x PWR.WAKE_EN) src = false) (hhost : ¬ (x = .dev ∧ src = 2)) :
    s.wakeScope x src = s := by
  have hother : (x == .dev && src == 2) = false := by simpa using hhost
  exact if_pos (by rw [hen, hother]; rfl)

variable (hen : (bitOf (s.pget x PWR.WAKE_EN) src || (x == .dev && src == 2)) = true) (hopen : s.dev.shut = false)
include hen hopen

/-- An enabled wake is not ignored while the Sluice is open. -/
theorem wake_guard : ¬ (!(bitOf (s.pget x PWR.WAKE_EN) src || (x == .dev && src == 2)) || s.dev.shut) = true := by
  rw [hen, hopen]
  decide

theorem State.wakeScope_rests (hidle : s.phase x = 0) (hnone : (s.path x).latched = 0) :
    s.wakeScope x src =
      if wakeActs x src (s.pwrState x) = true then (s.pset x PWR.WAKE_SRC (2 ^ src)).pathStart x (pwrHub x) true false else s :=
  (if_neg (wake_guard hen hopen)).trans (if_pos ⟨hidle, hnone⟩)

variable (hmove : s.phase x ≠ 0)
include hmove

theorem State.wakeScope_joins (hwake : (s.path x).byWake = true) :
    s.wakeScope x src =
      if wakeActs x src (s.pwrState x) = true then s.pset x PWR.WAKE_SRC (s.pget x PWR.WAKE_SRC ||| 2 ^ src) else s :=
  (if_neg (wake_guard hen hopen)).trans ((if_neg fun h => hmove h.1).trans (if_pos hwake))

theorem State.wakeScope_latches (hother : (s.path x).byWake = false) (hentry : isEntry x (s.path x).target = true)
    (hacts : wakeActs x src (s.path x).target = true) :
    s.wakeScope x src = (s.pset x PWR.STATUS_WAKE_LATCHED 1).modPath x fun q => { q with latched := q.latched ||| 2 ^ src } := by
  refine (if_neg (wake_guard hen hopen)).trans ((if_neg fun h => hmove h.1).trans ((if_neg (ne_true_of_eq_false hother)).trans ?_))
  simp only [if_neg hmove, hentry, hacts, Bool.and_true, if_true]

end

section
variable {s : State}

/-- A latched wake is replayed where its path has ended and the Sluice is open. -/
theorem wakeReplay_guard {x : Scope} (hidle : s.phase x = 0) (hlatched : (s.path x).latched ≠ 0) (hopen : s.dev.shut = false) :
    ¬ (s.phase x ≠ 0 ∨ (s.path x).latched = 0 ∨ s.dev.shut = true) := by
  simp [hidle, hlatched, hopen]

/-- WAKE of CMD at its target. -/
theorem State.regStore_chWakeCmd (t : State) (n : Ch) (req : Nat) :
    t.regStore (PWR.CMD_WAKE.addr n) (oneBit PWR.CMD_WAKE) req = (codeOk, (t.plainWrite (PWR.CMD.addr n) 1).chWake n 2) :=
  (State.regStore_pwrCmd t n (b := 0) (data := 1) req (by decide) (by decide +kernel)).trans
    (congrArg (Prod.mk codeOk) (State.wsAct_chWake _ n))

end

/-! ## Watch (R502, R503) -/

section
variable {s : State} {n : Ch} {v : BitVec 16}

theorem doWatchSampleResult_idle (h : s.is n PWR.STATUS_SAMPLING = false ∨ s.streamDue n 1 = false ∨
    s.is n GAUGE.FLT_GAUGE_FSM_PAR = true) : doWatchSampleResult n v s = s :=
  if_pos (by rcases h with h | h | h <;> simp [h])

theorem doWatchSampleResult_judged (hsampling : s.is n PWR.STATUS_SAMPLING = true) (hdue : s.streamDue n 1 = true)
    (hgood : s.is n GAUGE.FLT_GAUGE_FSM_PAR = false) :
    doWatchSampleResult n v s =
      let t := ((s.streamWrite n 1 v.toNat).streamTake n 1).incr n PWR.SAMPLES
      let run := t.get n PWR.WATCH_LAST_RUN
      let u := ((t.set n PWR.WATCH_LAST_VALUE v.toNat).set n PWR.WATCH_LAST_VALID 1).set n PWR.WATCH_LAST_RUN
        (if t.watchHit n v.toNat = true then min 15 (run + 1) else 0)
      if t.watchHit n v.toNat = true ∧ run + 1 = max 1 (s.get n PWR.WATCH_CFG_HITS) then
        ((u.irq n PWR.IRQ_WATCH_HIT).sat n PWR.WATCH_COUNTS_HITS).chWake n 0
      else u :=
  if_neg (by simp [hsampling, hdue, hgood])

end

/-- Settles O59: a wake by its enable, the Sluice and the path that it meets, the timer, the replay, and Watch samples by what
REFCLK and the Gauge allow. -/
theorem wakesEndTheSleepThatTheyMeet : Obligations.WakesEndTheSleepThatTheyMeet := by
  unfold Obligations.WakesEndTheSleepThatTheyMeet
  exact ⟨fun n => Put.of_regStore (fun _ => rfl) (.inl (w1cMask_pwrCmd n)) fun t _ => State.regStore_chWakeCmd t n reqHost,
    fun s x src hen hopen hidle hnone => State.wakeScope_rests (wake_enabled hen) hopen hidle hnone,
    fun s x src hshut => State.wakeScope_shut hshut,
    fun s x src hno hhost => State.wakeScope_disabled hno hhost,
    fun s x src hen hopen hmove hwake => State.wakeScope_joins (wake_enabled (.inl hen)) hopen hmove hwake,
    fun s x src hen hopen hmove hother hentry hacts =>
      State.wakeScope_latches (wake_enabled (.inl hen)) hopen hmove hother hentry hacts,
    fun n => When.of_exec (fun _ => rfl) fun s htimer => if_neg htimer,
    When.of_exec (fun _ => rfl) fun s htimer => if_neg htimer,
    fun x => When.of_exec (fun _ => rfl) fun s hzero => if_pos hzero,
    When.of_exec (fun _ => rfl) fun s ⟨hidle, hlatched, hopen⟩ => if_neg (wakeReplay_guard hidle hlatched hopen),
    fun n => When.of_exec (fun _ => rfl) fun s ⟨hidle, hlatched, hopen⟩ => if_neg (wakeReplay_guard hidle hlatched hopen),
    fun x => When.of_exec (fun _ => rfl) fun s hno => if_pos hno,
    Event.of_refclk (fun _ _ => rfl) fun s n hmay => if_pos hmay,
    Event.of_no_refclk (fun _ _ => rfl) fun s n hno =>
      if_neg fun ⟨hwatch, hidle, hfree⟩ => hno.elim (· hwatch) fun h => h.elim (· hidle) (ne_true_of_eq_false hfree),
    fun v => Event.of_no_refclk (fun _ _ => rfl) fun s n hno => doWatchSampleResult_idle hno,
    fun v => Event.of_refclk (fun _ _ => rfl) fun s n ⟨hsampling, hdue, hgood⟩ => doWatchSampleResult_judged hsampling hdue hgood,
    Event.of_exec (fun _ _ => rfl) fun s n hsampling => if_neg (ne_false_of_eq_true hsampling),
    Event.of_exec (fun _ _ => rfl) fun s n hno => if_pos hno⟩

end Sys2Proof.Machine
end
